-- ==== Sys2Proof/Word.lean ====
section
/-! DEFINITION. The word types of the NUA-256 model and their plainest arithmetic: bytes, 16-bit words,
bit fields, and the half-away-from-zero rounding of R426. -/

namespace Sys2Proof

/-- A register or table word (R7, R53). -/
abbrev Word := BitVec 16

/-- A byte of the swath buffer, the NVM or a byte format. -/
abbrev Byte := BitVec 8

/-- The field `[hi:lo]` of a number read as bits (R7 notation). -/
def bits (x hi lo : Nat) : Nat := (x >>> lo) % 2 ^ (hi + 1 - lo)

/-- Bit `i` of a number. -/
def bit (x i : Nat) : Bool := x.testBit i

/-- A Boolean as 0 or 1, placed at bit `i`. -/
def atBit (b : Bool) (i : Nat) : Nat := if b then 2 ^ i else 0

/-- A number read as a two's complement value of `w` bits. -/
def signed (w x : Nat) : Int :=
  let y := x % 2 ^ w
  if y < 2 ^ (w - 1) then (y : Int) else (y : Int) - 2 ^ w

/-- An integer as its `w`-bit two's complement image. -/
def unsigned (w : Nat) (x : Int) : Nat := (x % (2 ^ w : Int)).toNat

/-- Quotient rounded to nearest, halves away from zero (R426); `den` is positive. -/
def roundDiv (num : Int) (den : Nat) : Int :=
  if 0 ≤ num then (2 * num + den) / (2 * den) else -((2 * (-num) + den) / (2 * den))

/-- Quotient rounded to nearest, halves toward zero (the halfway rule of R148 and R164). -/
def roundDivTowardZero (num : Int) (den : Nat) : Int :=
  if 0 ≤ num then (2 * num + den - 1) / (2 * den) else -((2 * (-num) + den - 1) / (2 * den))

/-- Quotient rounded up, on naturals. -/
def ceilDiv (a b : Nat) : Nat := if b = 0 then 0 else (a + b - 1) / b

/-- `x` limited to the interval from `lo` to `hi`. -/
def clampInt (x lo hi : Int) : Int := if x < lo then lo else if hi < x then hi else x

/-- `x` limited to the interval from `lo` to `hi`, on naturals. -/
def clampNat (x lo hi : Nat) : Nat := if x < lo then lo else if hi < x then hi else x

/-- Saturation of a 16-bit count (R79, R116 and every counter of the spec). -/
def sat16 (n : Nat) : Nat := if 0xFFFF < n then 0xFFFF else n

/-- The low `16` bits of a number as a word. -/
def word (n : Nat) : Word := BitVec.ofNat 16 n

/-- A number's 16-bit word number `i`, least significant word first (R7). -/
def wordAt (n i : Nat) : Word := BitVec.ofNat 16 (n >>> (16 * i))

/-- Sum of a list of words modulo 2^16, the sum every CHECK word of the tables is taken over. -/
def sumWords (ws : List Word) : Word := ws.foldl (· + ·) 0

end Sys2Proof
end

