-- ==== Sys2Proof/Syntax.lean ====
section
/-! DEFINITION. The commands of the block: one constructor of `Instr` for each row of
spec/opcode_table.json, with the operands the rule of that row gives it. The table gives the rows no
fields; the operand lists are read from the rules (log entry 2). -/

namespace Sys2Proof

/-- The fields of a TXN_CTL write other than OP (R49). -/
structure TxnCtl where
  tag : Byte
  bcast : Bool
  view : Bool
  kind : BitVec 3
  deriving DecidableEq, Repr

/-- The addressing fields of a received Vine packet (R84). -/
structure Hdr where
  dst : BitVec 6
  src : BitVec 6
  seq : Byte
  deriving DecidableEq, Repr

/-- The named boundary carried by PREPARE and COMMIT_AT (R42, R86). -/
structure Named where
  layer : BitVec 32
  swath : Word
  next : Bool
  deriving DecidableEq, Repr

/-- The payload of a DISC_ACK (R86). -/
structure DiscAck where
  uid : BitVec 64
  root : Bool
  node : BitVec 6
  port : BitVec 2
  epoch : Byte
  rootUid : BitVec 64
  deriving DecidableEq, Repr

/-- The payload of a GRID token (R154). -/
structure Token where
  stamp : BitVec 9
  sus : Bool
  mism : Bool
  epoch : BitVec 2
  pos : BitVec 19
  vel : Word
  deriving DecidableEq, Repr

/-- Why a port's receiver has lost its link: the fourth invalid code group of a window of 16, 64 TK of lost signal
(R83), or a neighbour whose transmitter has gone to electrical idle in DOZE, CORK or HUSH (R105, log entry 151). -/
inductive DownCause where
  | codes | signal | idle
  deriving DecidableEq, Repr

/-- The loss of a port's link, with its cause (R83, R105). -/
structure LinkLoss where
  port : Fin 3
  cause : DownCause
  deriving DecidableEq, Repr

/-- The present sample of a channel's Z input (R121, R129). -/
structure ZSample where
  ch : Fin 8
  level : Bool
  deriving DecidableEq, Repr

/-- Where a sample of a valve's position sensor comes from (R285): the pin of a channel, which shows a level, or a
valve-position input of the sense converters, which gives a code. -/
inductive PosInput where
  | pin (ch : Fin 16)
  | ain (input : Fin 8)
  deriving DecidableEq, Repr

/-- One block of print data, as a SWATH_DATA packet or a Harvest block carries it (R188, R189). -/
structure DataBlock where
  slot : BitVec 3
  last : Bool
  swath : Word
  offset : BitVec 32
  data : List Word
  deriving DecidableEq, Repr

/-- A cartridge's AUTH or DEC reply (R225). -/
structure CartReply where
  cid : BitVec 64
  remain : BitVec 32
  mac : List Byte
  deriving DecidableEq, Repr

/-- The calibration items of R371, in the order of the VALID bits of R380. -/
inductive CalItem where
  | trims | sense | current | scanner | headTemp | samplers | wdacs
  deriving DecidableEq, Repr

/-- The commands, in the order of spec/opcode_table.json. -/
inductive Instr where
  /-- VAON_POWER_ON (R326). -/
  | vaonPowerOn (hsel refsel seqSelf : List Bool)
  /-- REFCLK_CHECK (R410). -/
  | refclkCheck (kHz : Word)
  /-- PLL_LOCK (R326). -/
  | pllLock
  /-- BOOT_SLOT_CHECK (R334). -/
  | bootSlotCheck
  /-- STARTUP_COMPLETE (R326). -/
  | startupComplete
  /-- STARTUP_CAL_TIMEOUT (R378). -/
  | startupCalTimeout
  /-- CLOCK_LOSS (R329). -/
  | clockLoss
  /-- NRESET_LOW (R330). -/
  | nresetLow
  /-- NRESET_RELEASE (R330). -/
  | nresetRelease
  /-- TESTEN_RISE (R424). -/
  | testenRise
  /-- TESTEN_FALL (R424). -/
  | testenFall
  /-- SOFT_RESET (R343). -/
  | softReset
  /-- RST_CAUSE_CLEAR (R343). -/
  | rstCauseClear (mask : Byte)
  /-- WDG_WINDOW_OPEN (R345). -/
  | wdgWindowOpen
  /-- WDG_EXPIRY (R347). -/
  | wdgExpiry
  /-- WDG_ANSWER (R346). -/
  | wdgAnswer (a : Word)
  /-- WDG_PERIOD_WRITE (R348). -/
  | wdgPeriodWrite (data : Word)
  /-- ATT_NONE (R353). -/
  | attNone (v3en : Bool)
  /-- QUOTE (R340). -/
  | quote (v3en : Bool)
  /-- QUOTE_DONE (R341). -/
  | quoteDone
  /-- V3_EXTEND (R338). -/
  | v3Extend
  /-- PARTIAL_FRAME (R62). -/
  | partialFrame (edges : BitVec 5) (fast : Bool)
  /-- REGISTER_WRITE (R58). -/
  | registerWrite (frame : BitVec 32) (fast : Bool)
  /-- ROUTED_FRAME_EXECUTE (R65). -/
  | routedFrameExecute
  /-- REMOTE_TIMEOUT (R68). -/
  | remoteTimeout
  /-- HST_STAT_READ (R77). -/
  | hstStatRead
  /-- IRQ_CLR_WRITE (R72). -/
  | irqClrWrite (mask coincident : Word)
  /-- ERR_FIRST_WRITE (R77). -/
  | errFirstWrite (data : Word)
  /-- TBL_SEL_WRITE (R70). -/
  | tblSelWrite (data : Word)
  /-- TBL_DATA_READ (R69). -/
  | tblDataRead (inc : Bool)
  /-- TBL_DATA_WRITE (R69). -/
  | tblDataWrite (inc : Bool) (data : Word)
  /-- LAYER_HI_WRITE (R13). -/
  | layerHiWrite (data : Word)
  /-- LAYER_LO_WRITE (R13). -/
  | layerLoWrite (data : Word)
  /-- IDLE_BOUNDARY (R16). -/
  | idleBoundary
  /-- SWATH_END (R207). -/
  | swathEnd
  /-- TXN_NONE (R49). -/
  | txnNone (c : TxnCtl)
  /-- TXN_BEGIN (R24). -/
  | txnBegin (c : TxnCtl)
  /-- TXN_COMMIT (R28). -/
  | txnCommit (c : TxnCtl)
  /-- TXN_ROLLBACK (R33). -/
  | txnRollback (c : TxnCtl)
  /-- TXN_ABORT (R41). -/
  | txnAbort (c : TxnCtl)
  /-- VALIDATION_COMPLETE (R30). -/
  | validationComplete
  /-- LEASE_EXPIRY (R34). -/
  | leaseExpiry
  /-- MEMBER_LEASE_EXPIRY (R41). -/
  | memberLeaseExpiry
  /-- VOTE_TIMEOUT (R44). -/
  | voteTimeout
  /-- BEGIN (R40). -/
  | pktBegin (h : Hdr) (tag : Byte) (lease : Word) (mask : BitVec 64)
  /-- PREPARE (R44). -/
  | pktPrepare (h : Hdr) (tag : Byte) (kind : BitVec 3) (named : Named) (mask : BitVec 64)
  /-- READY (R44). -/
  | pktReady (h : Hdr) (tag : Byte)
  /-- REFUSE (R45). -/
  | pktRefuse (h : Hdr) (tag : Byte) (table reason : Byte) (addr : Word)
  /-- COMMIT_AT (R44). -/
  | pktCommitAt (h : Hdr) (tag : Byte) (kind : BitVec 3) (late : Bool) (named : Named) (mask : BitVec 64)
  /-- ABORT (R41). -/
  | pktAbort (h : Hdr) (tag : Byte) (mask : BitVec 64)
  /-- EVENT_STRANDED (R47). -/
  | eventStranded (node : BitVec 6) (tag : Byte)
  /-- EVENT_STRANDING_RESOLVED (R47). -/
  | eventStrandingResolved (node : BitVec 6) (tag : Byte) (value : Word)
  /-- PORT_UP (R83). -/
  | portUp (port : Fin 3) (nbr : BitVec 6)
  /-- PORT_DOWN (R83). -/
  | portDown (loss : LinkLoss)
  /-- FAB_NONE (R114). -/
  | fabNone (portEn : BitVec 3)
  /-- FAB_DISCOVER (R94). -/
  | fabDiscover (portEn : BitVec 3)
  /-- RESET_NODE (R113). -/
  | resetNode (portEn : BitVec 3)
  /-- RETREE (R103). -/
  | retree (portEn : BitVec 3)
  /-- DISCOVERY_PROBE_TIMEOUT (R94). -/
  | discoveryProbeTimeout
  /-- DISCOVER (R86). -/
  | pktDiscover (port : Fin 3) (h : Hdr) (epoch : Byte) (fwd : Bool) (onPort : BitVec 2) (rootUid : BitVec 64)
  /-- DISC_ACK (R94). -/
  | pktDiscAck (port : Fin 3) (h : Hdr) (a : DiscAck)
  /-- ASSIGN (R86). -/
  | pktAssign (port : Fin 3) (h : Hdr) (node : BitVec 6) (fwd : Bool) (onPort : BitVec 2) (uid rootUid : BitVec 64)
  /-- ROUTE (R100). -/
  | pktRoute (port : Fin 3) (h : Hdr) (words : List Word)
  /-- PACKET_FORWARD (R101). -/
  | packetForward (port : Fin 3) (bytes : List Byte)
  /-- CREDIT (R89). -/
  | pktCredit (port : Fin 3) (cls : BitVec 2) (init : Bool) (count : Byte)
  /-- REG_WR (R111). -/
  | pktRegWr (port : Fin 3) (h : Hdr) (inc view : Bool) (addr : BitVec 6) (data : Word) (mask : Option (BitVec 64))
  /-- REG_RD (R111). -/
  | pktRegRd (port : Fin 3) (h : Hdr) (inc view : Bool) (addr : BitVec 6)
  /-- REG_RSP (R111). -/
  | pktRegRsp (h : Hdr) (status data : Word)
  /-- RESET (R113). -/
  | pktReset (h : Hdr)
  /-- EVENT_PORT_DOWN (R103). -/
  | eventPortDown (node : BitVec 6) (port : BitVec 2)
  /-- EVENT_PORT_UP (R96). -/
  | eventPortUp (node : BitVec 6) (port : BitVec 2) (nbr : BitVec 6)
  /-- TICK_SEND (R106). -/
  | tickSend
  /-- TICK (R108). -/
  | pktTick (port : Fin 3) (h : Hdr) (origin : BitVec 48) (corr : BitVec 32) (rxFrac : BitVec 6)
  /-- SYNC_TIMEOUT (R108). -/
  | syncTimeout
  /-- ECHO_SEND (R107). -/
  | echoSend
  /-- ECHO_REQ (R107). -/
  | pktEchoReq (port : Fin 3) (num : Byte) (sport : BitVec 2) (t1 : BitVec 32) (rxFrac : BitVec 6)
  /-- ECHO_RSP (R107). -/
  | pktEchoRsp (port : Fin 3) (num : Byte) (aport sport : BitVec 2) (t1 t2 t3 : BitVec 32) (rxFrac : BitVec 6)
  /-- GRID_TOKEN_SEND (R154). -/
  | gridTokenSend
  /-- GRID (R155). -/
  | pktGrid (h : Hdr) (token : Token)
  /-- RELAY_TIMEOUT (R157). -/
  | relayTimeout
  /-- RELAY_MAX_EXPIRY (R157). -/
  | relayMaxExpiry
  /-- ENC_ENABLE (R118). -/
  | encEnable (ch : Fin 8)
  /-- ENC_DISABLE (R120). -/
  | encDisable (ch : Fin 8)
  /-- REHOME (R128). -/
  | rehome (ch : Fin 8)
  /-- ENC_LEVEL_KNOWN (R122). -/
  | encLevelKnown (ch : Fin 8) (pin : Fin 3) (level : Bool)
  /-- QUAD_EDGE (R123). -/
  | quadEdge (ch : Fin 8) (a b : Bool)
  /-- ENC_VEL_TIMEOUT (R125). -/
  | encVelTimeout (ch : Fin 8)
  /-- INDEX_EVENT (R129). -/
  | indexEvent (z : ZSample)
  /-- HALL_CODE_CHANGE (R130). -/
  | hallCodeChange (ch : Fin 8) (code : BitVec 3)
  /-- SSI_FRAME_START (R132). -/
  | ssiFrameStart (ch : Fin 8) (dataHigh : Bool)
  /-- SSI_FRAME_END (R133): the levels of the data line since the frame started, as runs of TK, and its level since. -/
  | ssiFrameEnd (ch : Fin 8) (line : List (Nat × Bool)) (rest : Bool)
  /-- COUNT_WRITE (R128). -/
  | countWrite (ch : Fin 8) (hi : Word)
  /-- GRID_CFG_WRITE (R140). -/
  | gridCfgWrite (addr : Fin 5) (data : Word)
  /-- GRID_COUNT (R142). -/
  | gridCount
  /-- COUNT_LATE (R147). -/
  | countLate
  /-- UNIT_FIRE (R163). -/
  | unitFire (trig : Fin 256)
  /-- SIGNATURE_BURST (R240). -/
  | signatureBurst (g : Fin 32) (slots : List (List Byte))
  /-- JET_NONE (R186). -/
  | jetNone (target : BitVec 5)
  /-- ENABLE_GROUP (R182). -/
  | enableGroup (target : BitVec 5)
  /-- DISABLE_GROUP (R183). -/
  | disableGroup (target : BitVec 5)
  /-- DISABLE_ALL (R183). -/
  | disableAll (target : BitVec 5)
  /-- WDAC_ON (R176). -/
  | wdacOn (target : BitVec 5)
  /-- WDAC_OFF (R176). -/
  | wdacOff (target : BitVec 5)
  /-- WDAC_GLIDE_COMPLETE (R176). -/
  | wdacGlideComplete (w : Fin 8)
  /-- ENERGY_INPUT_STALE (R180). -/
  | energyInputStale (g : Fin 32)
  /-- HARVEST_BLOCK (R193): HV_D at successive HV_CLK rising edges, none where HV_VALID is 0. -/
  | harvestBlock (words : List (Option Word))
  /-- SWATH_DATA (R197). -/
  | pktSwathData (port : Fin 3) (h : Hdr) (blk : DataBlock)
  /-- HELD_BLOCK_RELEASE (R198). -/
  | heldBlockRelease
  /-- DESCRIPTOR_WRITE (R196). -/
  | descriptorWrite (addr : Fin 128) (data : Word)
  /-- INGEST_NONE (R214). -/
  | ingestNone (slot : BitVec 3)
  /-- ARM (R199). -/
  | arm (slot : BitVec 3)
  /-- CANCEL (R207). -/
  | cancel (slot : BitVec 3)
  /-- HV_ON (R191). -/
  | hvOn (slot : BitVec 3)
  /-- HV_OFF (R191). -/
  | hvOff (slot : BitVec 3)
  /-- ADMISSION (R206). -/
  | admission
  /-- ADMIT_READY_SEND (R209). -/
  | admitReadySend
  /-- ADMIT_READY (R209). -/
  | eventAdmitReady (node : BitVec 6) (sw : Byte) (value floor : Word)
  /-- ADMIT (R209). -/
  | eventAdmit (value : Word)
  /-- STARVED (R208). -/
  | starved
  /-- HC_CONFIG_WRITE (R215). -/
  | hcConfigWrite (table : Byte) (addr : BitVec 24) (data : Word)
  /-- OPEN (R216). -/
  | gateOpen (target : BitVec 6)
  /-- CLOSE (R216). -/
  | gateClose (target : BitVec 6)
  /-- JAM_REARM (R235). -/
  | jamRearm (target : BitVec 6)
  /-- HM_READ (R219). -/
  | hmRead (target : BitVec 6)
  /-- HM_READ_COMPLETE (R221). -/
  | hmReadComplete (head : Fin 32) (bytes : List Byte)
  /-- HM_READ_RETRY (R219). -/
  | hmReadRetry (head : Fin 32)
  /-- HMB_BUS_FAULT (R217). -/
  | hmbBusFault (bus : Fin 5)
  /-- CONS_AUTH (R226). -/
  | consAuth (target : BitVec 6)
  /-- CONS_AUTH_REPLY (R226). -/
  | consAuthReply (slot : Fin 8) (r : CartReply)
  /-- CONS_SYNC (R229). -/
  | consSync (target : BitVec 6)
  /-- CONS_WRITEBACK_REPLY (R229). -/
  | consWritebackReply (slot : Fin 8) (r : CartReply)
  /-- CONS_WRITEBACK_RETRY (R230). -/
  | consWritebackRetry (slot : Fin 8)
  /-- NZ_RESET (R242). -/
  | nzReset (target : BitVec 6)
  /-- TPL_LEARN (R245). -/
  | tplLearn (target : BitVec 6)
  /-- TPL_LEARN_END (R245). -/
  | tplLearnEnd
  /-- HEAD_TEMP_SAMPLE (R233). -/
  | headTempSample (g : Fin 32) (code : BitVec 12)
  /-- GATE_INPUT_LOW (R235). -/
  | gateInputLow (inp : Fin 3)
  /-- GATE_DWELL_EXPIRY (R235). -/
  | gateDwellExpiry (inp : Fin 3)
  /-- MOT_NONE (R252). -/
  | motNone
  /-- ENABLE (R268). -/
  | axisEnable
  /-- DISABLE (R268). -/
  | axisDisable
  /-- GO (R254). -/
  | axisGo
  /-- STOP (R255). -/
  | axisStop
  /-- QSTOP (R255). -/
  | axisQstop
  /-- HOME (R263). -/
  | axisHome
  /-- SET_POS (R263). -/
  | axisSetPos
  /-- CAM_ENGAGE (R264). -/
  | camEngage
  /-- CAM_DISENGAGE (R264). -/
  | camDisengage
  /-- BRAKE_RELEASE (R268). -/
  | brakeRelease
  /-- BRAKE_ENGAGE (R268). -/
  | brakeEngage
  /-- CLEAR_FAULT (R269). -/
  | axisClearFault
  /-- PLAN_START (R254). -/
  | planStart (ax : Fin 8)
  /-- PLAN_END (R254). -/
  | planEnd (ax : Fin 8)
  /-- PERMIT_TAKE (R266). -/
  | permitTake
  /-- BRK_DELAY_EXPIRY (R268). -/
  | brkDelayExpiry (ax : Fin 8)
  /-- BRIDGE_PWM_PERIOD (R257). -/
  | bridgePwmPeriod
  /-- HOLD_ENTRY (R261). -/
  | holdEntry (ax : Fin 8)
  /-- VLIMIT_STOP (R262). -/
  | vlimitStop (ax : Fin 8)
  /-- REF_EDGE (R263). -/
  | refEdge (ax : Fin 8) (level : Bool)
  /-- CAM_END (R264). -/
  | camEnd (ax : Fin 8)
  /-- CAM_OVERSPEED (R264). -/
  | camOverspeed (ax : Fin 8)
  /-- MOT_SUPPLY_FAULT (R269). -/
  | motSupplyFault (ax : Fin 8)
  /-- VLV_NONE (R294). -/
  | vlvNone (chan : BitVec 4)
  /-- VLV_OPEN (R294). -/
  | vlvOpen (profile chan : BitVec 4)
  /-- VLV_CLOSE (R289). -/
  | vlvClose (chan : BitVec 4)
  /-- VLV_OFF (R294). -/
  | vlvOff (chan : BitVec 4)
  /-- OFF_ALL (R294). -/
  | vlvOffAll (chan : BitVec 4)
  /-- VALVE_PERIOD (R277). -/
  | valvePeriod (ch : Fin 16) (code partner : BitVec 10)
  /-- PULL_WINDOW_EXPIRY (R286). -/
  | pullWindowExpiry (ch : Fin 16)
  /-- SWITCHOFF_TIMEOUT (R284). -/
  | switchoffTimeout (ch : Fin 16)
  /-- RAIL_SCAN_END (R300). -/
  | railScanEnd (codes : List (BitVec 12))
  /-- RAMP_TIMEOUT (R306). -/
  | rampTimeout (r : Fin 10)
  /-- OFF_TIMEOUT (R309). -/
  | offTimeout (r : Fin 10)
  /-- PFW_HOLD_EXPIRY (R310). -/
  | pfwHoldExpiry
  /-- MARGIN_STEP (R315). -/
  | marginStep
  /-- COMPARATOR_TRIP (R311): RMON11 stands at `uv` µV; at 0 where no level is given. -/
  | comparatorTrip (uv : BitVec 21 := 0)
  /-- COMPARATOR_RECOVER (R311): RMON11 stands at `uv` µV; at the top of the range where no level is given. -/
  | comparatorRecover (uv : BitVec 21 := 0x1FFFFF)
  /-- RAIL_NONE (R305). -/
  | railNone (mask : BitVec 10)
  /-- RAIL_ON (R305). -/
  | railOn (mask : BitVec 10)
  /-- RAIL_OFF (R305). -/
  | railOff (mask : BitVec 10)
  /-- RAIL_CLEAR (R305). -/
  | railClear (mask : BitVec 10)
  /-- ALLOFF (R305). -/
  | railAllOff (mask : BitVec 10)
  /-- PFW_CLEAR (R312). -/
  | pfwClear
  /-- RAIL_CONFIG_WRITE (R319). -/
  | railConfigWrite (table : Byte) (addr : BitVec 24) (data : Word)
  /-- RAIL_COUNTER_CLEAR (R317). -/
  | railCounterClear (addr : Fin 96)
  /-- SELF_SEQ_RETRY (R321). -/
  | selfSeqRetry
  /-- PWR_REQ (R358). -/
  | pwrReq (target : BitVec 3)
  /-- POWER_STATE_ENTRY (R359). -/
  | powerStateEntry
  /-- WAKE_TIMER_EXPIRY (R361). -/
  | wakeTimerExpiry
  /-- WAKE_SQUELCH (R360). -/
  | wakeSquelch (port : Fin 3)
  /-- WAKE_NCS (R360). -/
  | wakeNcs
  /-- WAKE_PIN (R360). -/
  | wakePin (pin : Fin 2)
  /-- WAKE_EXIT (R356). -/
  | wakeExit
  /-- DIE_TEMP_SAMPLE (R375). -/
  | dieTempSample (t : Word)
  /-- CAL_NONE (R393). -/
  | calNone (maxDefer : BitVec 5) (delta : Byte)
  /-- CAL_RUN (R374). -/
  | calRun (maxDefer : BitVec 5) (delta : Byte)
  /-- CAL_DISCARD (R377). -/
  | calDiscard (maxDefer : BitVec 5) (delta : Byte)
  /-- CAL_ITEM_DONE (R371). -/
  | calItemDone (item : CalItem) (result : List Byte)
  /-- CAL_ITEM_SKIP (R371). -/
  | calItemSkip (item : CalItem)
  /-- CAL_STORE_DONE (R382). -/
  | calStoreDone (verified : Bool)
  /-- CAL_MAXDEFER_EXPIRY (R379). -/
  | calMaxdeferExpiry
  /-- FORCED_GAP_TIMEOUT (R379). -/
  | forcedGapTimeout
  /-- NVM_ERASE (R385). -/
  | nvmErase
  /-- NVM_PROGRAM (R385). -/
  | nvmProgram
  /-- NVM_READ (R385). -/
  | nvmRead
  /-- KEY_WRITE (R385). -/
  | keyWrite (ksel : BitVec 3)
  /-- DEFAULTS_WRITE (R385). -/
  | defaultsWrite
  /-- LOCK (R385). -/
  | nvmLock
  /-- NVM_COMMAND_DONE (R386). -/
  | nvmCommandDone (verified : Bool)
  /-- LEES_RECORD_WRITE (R388). -/
  | leesRecordWrite
  /-- SUPPLIES_GOOD (R326). -/
  | suppliesGood
  /-- CARTRIDGE_POLL_TIMEOUT (R225). -/
  | cartridgePollTimeout (slot : Fin 8)
  /-- HARVEST_HUNT_DISCARD (R193). -/
  | harvestHuntDiscard (w : Word)
  /-- REF_LEVEL_KNOWN (R263). -/
  | refLevelKnown (ax : Fin 8) (level : Bool)
  /-- VALVE_POSITION_SENSE (R285): the level of a pin, or the code of an input of the converters. -/
  | valvePositionSense (src : PosInput) (level : Bool) (code : BitVec 12)
  /-- VIO_BANK_DETECT (R425). -/
  | vioBankDetect (banks : Byte)
  /-- BOUNDARY_SCAN_ACCESS (R422). -/
  | boundaryScanAccess (tms tdi ntrst : Bool)
  /-- TXN_RESERVED_OP (R50). -/
  | txnReservedOp (op : BitVec 3) (c : TxnCtl)
  /-- ATT_RESERVED_OP (R353). -/
  | attReservedOp (op : BitVec 3) (v3en : Bool)
  /-- FAB_RESERVED_OP (R114). -/
  | fabReservedOp (op : BitVec 3) (portEn : BitVec 3)
  /-- JET_RESERVED_OP (R183). -/
  | jetReservedOp (op : BitVec 3) (target : BitVec 5)
  /-- MOT_RESERVED_OP (R252). -/
  | motReservedOp (op : BitVec 4)
  /-- VLV_RESERVED_OP (R294). -/
  | vlvReservedOp (op profile chan : BitVec 4)
  /-- RAIL_RESERVED_OP (R305). -/
  | railReservedOp (op : BitVec 3) (mask : BitVec 10)
  /-- CAL_RESERVED_OP (R393). -/
  | calReservedOp (op : BitVec 3) (maxDefer : BitVec 5) (delta : Byte)
  /-- HC_RESERVED_OP (R216). -/
  | hcReservedOp (op : BitVec 4) (target : BitVec 6)
  /-- INGEST_RESERVED_OP (R214). -/
  | ingestReservedOp (op slot : BitVec 3)
  /-- NVM_RESERVED_OP (R386). -/
  | nvmReservedOp (op : BitVec 4) (ksel : BitVec 3)
  /-- RST_CAUSE_INVALID_WRITE (R343). -/
  | rstCauseInvalidWrite (data : Word)
  /-- PFW_CTL_WRITE (R312). -/
  | pfwCtlWrite (data : Word)
  /-- IRQ_MASK_WRITE (R72). -/
  | irqMaskWrite (data : Word)
  /-- BROADCAST_READ (R64). -/
  | broadcastRead (addr : BitVec 6)
  /-- RESERVED_ADDRESS_ACCESS (R76). -/
  | reservedAddressAccess (addr : BitVec 6) (rnw : Bool)
  deriving DecidableEq, Repr

end Sys2Proof
end

