-- ==== Sys2Proof/Decode.lean ====
section
/-! DEFINITION. The command a word spells by the bits of spec/opcode_table.json. The table gives no row any bits,
so there is none: the host port's frames and the Vine's packets are read by `Machine.Operands`. -/

namespace Sys2Proof

/-- The command of a word by the table's bits: no row of the table has bits. -/
def decodeTableWord (_nbits _w : Nat) : Option Instr := none

end Sys2Proof
end

