-- ==== Sys2Proof/Config.lean ====
section
/-! DEFINITION. What an implementation fixes, and the free values: constants without a body, for the
values the spec leaves open. Nothing can be proved about the value of any of them. -/

namespace Sys2Proof.Config

/-- The device's 64-bit UID, fixed at manufacture (R116). Log entry 10. -/
opaque uid : BitVec 64

/-- The `n`-th value drawn from the on-chip random source (R225, R346). Log entry 11. -/
opaque random : Nat → BitVec 128

/-- What the device's private attestation key is drawn from, at manufacture (R341). Log entry 12. -/
opaque attestKey : Nat

/-- What the secret number of the `n`-th signature is drawn from (R341). Log entry 12. -/
opaque attestNonce : Nat → Nat

/-- The bytes of the X.509 certificate of a public key, in DER form (R341). Log entry 12. -/
opaque certificate : Nat × Nat → List Byte

/-- Whether a quotient whose rounding the spec does not state is rounded up: the site names the rule,
then the numerator and the denominator. Log entry 13. -/
opaque roundUp : Nat → Int → Nat → Bool

/-- A value that the spec leaves open at a named site, drawn at the `n`-th use. Log entry 14. -/
opaque openValue : Nat → Nat → Nat

/-- The calibrated code of a converter's raw code, from the offsets and gains that apply to it, as their words stand in
a calibration set (R380): the spec gives their units and not the formula. Log entry 158. -/
opaque calibrated : List (Nat × Nat) → Nat → Nat

/-- The part is the NUA-256-B1E (R1); its thermal shutdown threshold differs (R331). Log entry 15. -/
opaque isB1E : Bool

end Sys2Proof.Config

namespace Sys2Proof

/-- A quotient whose rounding the spec leaves open: exact where it divides, else one of the two
neighbouring integers. -/
def divOpen (site : Nat) (num : Int) (den : Nat) : Int :=
  if den = 0 then 0
  else if num % (den : Int) = 0 then num / den
  else if Config.roundUp site num den then num / den + 1 else num / den

end Sys2Proof
end

