-- ==== Sys2Proof/Machine/State.lean ====
section
/-! DEFINITION. The state of the block as plain data: every register, table, buffer, queue, timer and
pin level the spec gives the device, and the queue of waiting commands. The defaults of the fields are
the values after VAON power-on; where the spec gives none, the log entry named beside it does. -/

namespace Sys2Proof.Machine

/-- Why a step can stop with a fault. -/
inductive Fault where
  /-- An operand list breaks `WellFormed` (a strap list, a bit list, a record of the wrong length, a
  reserved-code row with a code that is not reserved): no event of the device has that form. Raised
  by the meanings that take such an operand. Safe: the device never meets such a term. -/
  | malformedOperand
  deriving DecidableEq, Repr

/-- Why a command has no meaning. -/
inductive Refusal where
  /-- No meaning has been written for the command of this mnemonic. Raised by the arms of exec only.
  Safe. -/
  | notModelled (mnemonic : String)
  deriving DecidableEq, Repr

/-- Table space and other sparse words by address: strictly rising addresses, no default value listed. -/
abbrev Cells := List (Nat × Word)

/-- Where start-up stands (R326, R335): step 2, step 3, step 5, steps 6-7, the whole map answering, ROM
recovery, or the core held in reset. -/
inductive Phase where
  | supplies | pll | rom | firmware | up | recovery | held
  deriving DecidableEq, Repr

/-- The phases of a transaction (R51). -/
inductive TxnPhase where
  | none | opened | validating | prepared | pending | stranded | resolving
  deriving DecidableEq, Repr

/-- Whether the node holds a local transaction, coordinates a fabric-wide one, or is a member (R27, R40). -/
inductive Scope where
  | localScope | root | member
  deriving DecidableEq, Repr

/-- A vote of a fabric node (R44, R45). -/
inductive Vote where
  | ready | refuse (table reason : Nat) (addr : Nat)
  deriving DecidableEq, Repr

/-- The shadow bank of an open transaction (R24, R28): the words of every cask-able table, and the
entries (table, entry number) that were written. -/
structure Cask where
  mem : Cells := []
  touched : List (Nat × Nat) := []
  deriving DecidableEq, Repr

/-- The read results of R61: delivered in order, each ready or still waiting; `id` ties it to a routed frame. -/
structure ReadItem where
  id : Nat
  ready : Bool
  data : Word
  deriving DecidableEq, Repr

/-- A routed frame, or a TXN_CTL barrier (R67), in the routing queue. -/
structure Routed where
  id : Nat
  rnw : Bool
  inc : Bool
  view : Bool
  addr : Nat
  data : Word
  dst : Nat
  barrier : Bool := false
  inFlight : Bool := false
  failed : Bool := false
  deadline : Nat := 0
  waitMask : Nat := 0
  seq : Nat := 0
  deriving DecidableEq, Repr

/-- A write that waits for the exit from a lower power state: a command of a block that the entry has checked (R359):
the operation of a position channel (0 EN set, 1 EN clear, 2 REHOME), of JET_CTL, of MOT_CMD on an axis, of VLV_CMD,
of table 0x45, of RAIL_CTL; or any write that ends REST (R362), of a register or of a table word. -/
inductive Held where
  | enc (op c : Nat)
  | jet (op t : Nat)
  | mot (op n : Nat)
  | vlv (op p n : Nat)
  | ing (op sl : Nat)
  | rail (op mask : Nat)
  | reg (a : Nat) (inc : Bool) (d : Word)
  | tbl (t a : Nat) (d : Word)
  deriving DecidableEq, Repr

/-- The host port and the registers of its chapter (R60, R64-R79); `irqSame` holds the sources that had an event in the
TK `irqAt`, the last with one (R72); `held` lists the writes that wait for the exit from a lower power state (R359,
R362), oldest first. -/
structure HostPort where
  crce : Bool := false
  lost : Bool := false
  lastSdo : BitVec 32 := 0
  results : List ReadItem := []
  queue : List Routed := []
  nextId : Nat := 0
  crcerr : Nat := 0
  hstFlags : Byte := 0
  irqPend : Word := 0
  irqMask : Word := 0
  irqAt : Nat := 0
  irqSame : Word := 0
  tblSel : Byte := 0
  tblAddr : BitVec 24 := 0
  errFirst : Word := 0
  errCount : Nat := 0
  errHist : List (Word × BitVec 48) := []
  errTotal : Nat := 0
  scratch : Word := 0
  timeLatch : BitVec 32 := 0
  held : List Held := []
  deriving DecidableEq, Repr

/-- Layers, swath number and boundaries (R13-R18, R49). -/
structure Bnd where
  layer : BitVec 32 := 0
  layerHi : Word := 0
  held : Option (BitVec 32) := none
  lrepl : Bool := false
  swath : Word := 0
  idleMin : Nat := 0x32
  last : Nat := 0
  inGap : Bool := true
  lastEnd : Option (BitVec 32 × Word) := none
  idle : Bool := false
  gapFrom : Nat := 0
  deriving DecidableEq, Repr

/-- The transaction of R23-R52. -/
structure Txn where
  phase : TxnPhase := .none
  scope : Scope := .localScope
  tag : Nat := 0
  bcast : Bool := false
  view : Bool := false
  kindWritten : Nat := 0
  kind : Nat := 0
  expired : Bool := false
  nested : Bool := false
  busy : Bool := false
  refused : Bool := false
  tagerr : Bool := false
  fault : Nat := 0
  faultAt : Nat := 0
  reason : Nat := 0
  peer : Nat := 0
  lease : Nat := 0x01F4
  leaseEnd : Nat := 0
  leaseLeft : Option Nat := none
  carriedLease : Nat := 0
  lastFromRoot : Nat := 0
  cask : Option Cask := none
  validUntil : Nat := 0
  group : Nat := 0
  votes : List (Nat × Vote) := []
  voteEnd : Nat := 0
  collecting : Bool := false
  target : BitVec 32 := 0
  named : Named := { layer := 0, swath := 0xFFFF, next := false }
  present : Bool := false
  stage : Nat := 0
  late : Option (Nat × BitVec 32) := none
  decLayer : BitVec 32 := 0
  decSwath : Word := 0
  decInfo : Word := 0
  strandedMask : Nat := 0
  deriving DecidableEq, Repr

/-- A Vine packet as this node sends it: header fields of R84 and payload words. `owe` names the buffer that a
forwarded packet still occupies (R89); `rx` is the receipt of a relayed TICK, in 1/64 TK (R106). -/
structure Packet where
  dst : Nat
  src : Nat
  type : Nat
  cls : Nat
  seq : Nat
  words : List Word
  owe : Option Nat := none
  rx : Option Nat := none
  deriving DecidableEq, Repr

/-- A receive buffer that a forwarded packet occupies until the last of its copies has been sent (R89). -/
structure Owed where
  id : Nat
  port : Nat
  cls : Nat
  units : Nat
  copies : Nat := 1
  deriving DecidableEq, Repr

/-- One Vine port (R80-R91, R107). `idle` says that the neighbour's end is in electrical idle, `burst` since when K28.5
is sent to wake it (R105). -/
structure Port where
  up : Bool := false
  idle : Bool := false
  burst : Option Nat := none
  neighbour : Nat := 0
  credit0 : Nat := 0
  credit1 : Nat := 0
  credit2 : Nat := 0
  used2 : Nat := 0
  txq : List Packet := []
  sent : List Packet := []
  latencies : List Nat := []
  echoLeft : Nat := 0
  echoNext : Nat := 0
  deriving DecidableEq, Repr

/-- A node of the root's directory (R94, R116). -/
structure DirEntry where
  node : Nat
  uid : BitVec 64
  parent : Nat := 0
  parentPort : Nat := 0
  depth : Nat := 0
  reach : Nat := 1
  deriving DecidableEq, Repr

/-- A link the root has found: both ends, whether it is the standby link of a ring, and whether it is up. -/
structure Link where
  nodeA : Nat
  portA : Nat
  nodeB : Nat
  portB : Nat
  standby : Bool := false
  up : Bool := true
  deriving DecidableEq, Repr

/-- The root's walk of R94: the ports still to be probed, innermost node first, and the probe in progress;
`known` says that only UIDs of the directory are numbered (R96). -/
structure Disc where
  stack : List (Nat × Nat) := []
  probe : Option (Nat × Nat) := none
  deadline : Nat := 0
  restarted : Bool := false
  known : Bool := false
  deriving DecidableEq, Repr

/-- The Vine forwarder and fabric registers (R80-R116). `found` lists the nodes reached in the present discovery run;
`waiting` the ports with an unaddressed neighbour that came up during a run (R96); `learned` holds the routes used
before the first ROUTE (log entry 71); `inLat` is the incoming latency as table 0x15 shows it. -/
structure Vine where
  nodeId : Nat := 0
  portEn : Nat := 7
  ports : List Port := [{}, {}, {}]
  ready : Bool := false
  sync : Bool := false
  overflow : Bool := false
  dualroot : Bool := false
  split : Bool := false
  failover : Bool := false
  newlink : Bool := false
  linkerr : Bool := false
  operr : Bool := false
  fabDst : Nat := 0
  fabGroup : Nat := 0
  rootUid : BitVec 64 := 0
  arrivalPort : Nat := 0
  depth : Nat := 0
  routes : List Nat := List.replicate 64 0
  treePorts : Nat := 0
  parentPort : Nat := 0
  seqTx : List (Nat × Nat) := []
  seqRx : List (Nat × Nat) := []
  dir : List DirEntry := []
  links : List Link := []
  disc : Option Disc := none
  found : List Nat := []
  waiting : List (Nat × Nat) := []
  epoch : Nat := 0
  echoNum : Nat := 0
  learned : List (Nat × Nat) := []
  owed : List Owed := []
  nextOwe : Nat := 0
  good : Nat := 0
  bad : Nat := 0
  lastTickPkt : Nat := 0
  lastCorr : Nat := 0
  lag : Int := 0
  lastErr : Int := 0
  inLat : Nat := 0
  deriving DecidableEq, Repr

/-- The sampling of one filtered input (R121): its last sixteen samples, the newest in bit 0, and how many have been
taken since the input state began, counted to sixteen. -/
structure Sampler where
  w : Word := 0
  n : Nat := 0
  deriving DecidableEq, Repr

/-- One position channel (R117-R137). `idxOn` says that the index condition of R129 held at the last look; `velHeld` is
the estimate that a change of MODE carries over (R119); `ssiGood` lists the last good positions, newest first, each with
the readout period it ended, in µs. -/
structure Enc where
  en : Bool := false
  smpA : Sampler := {}
  smpB : Sampler := {}
  smpZ : Sampler := {}
  idxOn : Bool := false
  velHeld : Option Int := none
  rehomeArmed : Bool := false
  levelA : Option Bool := none
  levelB : Option Bool := none
  levelZ : Option Bool := none
  held : Bool := false
  uncertain : Bool := false
  inferred : Bool := false
  idx : Bool := false
  overspeed : Bool := false
  hallbad : Bool := false
  hallskip : Bool := false
  stale : Bool := false
  ssicrc : Bool := false
  ssierr : Bool := false
  ssimono : Bool := false
  down : Bool := false
  count : Int := 0
  stageLo : Word := 0
  latchHi : Word := 0
  lastCount : Nat := 0
  lastEdge : Option Nat := none
  intervals : List Nat := []
  counted : Bool := false
  velZero : Bool := true
  velFrozen : Int := 0
  lastRev : Int := 0
  prevIndex : Option Int := none
  broken : Bool := false
  rawpos : Int := 0
  ssiOffset : Int := 0
  hallLast : Option Nat := none
  ssiNext : Nat := 0
  ssiFrom : Nat := 0
  ssiBusy : Bool := false
  ssiGood : List (Int × Nat) := []
  deriving DecidableEq, Repr

/-- A suspect region of the grid (R147-R157): its number, where it started, whether the relay loss opened it, the swaths
of which a target fell due inside it (R150), and those that issued or held a fire there (R151). -/
structure Region where
  id : Nat
  start : Int
  relay : Bool
  swaths : List Nat
  firedIn : List Nat := []
  deriving DecidableEq, Repr

/-- A swath result (R152, R159) with the suspicion bookkeeping of R151. -/
structure SwathRec where
  serial : Nat
  layer : BitVec 32
  swath : Word
  pass : Nat
  state : Nat := 0
  gated : Bool := false
  relay : Bool := false
  reset : Bool := false
  disc : Int := 0
  skipped : Nat := 0
  doubts : List Nat := []
  lasting : Bool := false
  deriving DecidableEq, Repr

/-- One entry of the skip log (R150, R159). -/
structure SkipEntry where
  channel : Nat
  column : Nat
  swath : Word
  pass : Nat
  layer : BitVec 32
  deriving DecidableEq, Repr

/-- The firing grid (R138-R159). Positions are in 1/65,536 grid unit (R141). `dirDown` is the direction of the track,
against which counts are classed (R147), `lastDown` that of the last count (R142). -/
structure Grid where
  base : Int := 0
  tb : Nat := 0
  intervals : List Nat := []
  dirDown : Bool := false
  lastDown : Bool := false
  lastStamp : Option Nat := none
  lastG : Int := 0
  lock : Bool := false
  ofs : Int := 0
  pHeld : Int := 0
  openRegion : Option Region := none
  regions : List Region := []
  nextRegion : Nat := 1
  fired : List Nat := []
  posAtIndex : Int := 0
  gateShut : Bool := false
  gatePolicy : Bool := false
  relaylost : Bool := false
  cfgbusy : Bool := false
  cfgerr : Bool := false
  verdictEpoch : Nat := 0
  verdictMism : Bool := false
  rxEpoch : Option Nat := none
  rxMism : Bool := false
  tokenTs : Option Nat := none
  tokenVel : Int := 0
  lost : Bool := false
  lostOut : Bool := false
  lossStart : Int := 0
  lastToken : Nat := 0
  results : List SwathRec := []
  resultTotal : Nat := 0
  skips : List SkipEntry := []
  skipTotal : Nat := 0
  skipOver : Nat := 0
  serial : Nat := 0
  deriving DecidableEq, Repr

/-- A segment of a WDAC waveform as a fire plays it: the level it goes to, its duration, and whether it slopes (R175). -/
structure WaveSeg where
  level : Nat
  dur : Nat
  slope : Bool
  deriving DecidableEq, Repr

/-- One common-drive DAC (R176, R179): where its glide goes, and the waveform that the last fire started, as it plays.
`used` says that it has been switched on since the core reset (R184). -/
structure Wdac where
  on : Bool := false
  ready : Bool := false
  glideUp : Bool := false
  glideEnd : Option Nat := none
  code : Nat := 0x2000
  scale : Option Nat := none
  glideTo : Nat := 0x2000
  playFrom : Option Nat := none
  playBase : Nat := 0
  playSegs : List WaveSeg := []
  used : Bool := false
  deriving DecidableEq, Repr

/-- What a channel was driven with at its last fire: the column it presented, the TK and the tap its own edges
count from (R165), the codes of its nozzles, the levels and durations its output plays (R163-R179), and the TK at which
pulses of it will be cut at the end of an address period (R169). -/
structure ChanFire where
  channel : Nat
  column : Int
  from_ : Nat
  tap : Nat
  codes : List Nat
  segs : List (Nat × Nat)
  cuts : List Nat := []
  cutAt : Option Nat := none
  deriving DecidableEq, Repr

/-- The last fire of a unit: its trigger channel, its column, the TK and the tap of its strobes (R165), the groups
it was issued for, when the refire guard and the fire itself end, and the parts of that end: of the strobes and the
waveform, which nothing cuts, and of each group's addresses and pulses, which a cut ends (R183). -/
structure Fire where
  trig : Nat
  column : Int
  start : Nat
  tap : Nat
  groups : List Nat
  guardEnd : Nat
  fireEnd : Nat
  keepEnd : Nat := 0
  ends : List (Nat × Nat) := []
  chans : List ChanFire
  deriving DecidableEq, Repr

/-- The data lanes of a head group (R166, R167): the trigger column whose bits they sent last, if any, the TK at which
those bits started (or the lanes began to idle), and the TK from which the next column's may start. -/
structure Lane where
  group : Nat
  col : Option Int := none
  from_ : Nat := 0
  next : Nat := 0
  deriving DecidableEq, Repr

/-- The jet channels (R160-R187). -/
structure Jet where
  en : BitVec 32 := 0
  refire : Bool := false
  trunc : Bool := false
  wclamp : Bool := false
  operr : Bool := false
  stalein : Bool := false
  curvebad : Bool := false
  lastGrp : Nat := 0
  wdacs : List Wdac := List.replicate 8 {}
  fires : List Fire := []
  lanes : List Lane := []
  staleAt : List (Nat × Nat) := []
  deriving DecidableEq, Repr

/-- The states of a swath slot (R196). -/
inductive SlotState where
  | empty | filling | armed | active | done
  deriving DecidableEq, Repr

/-- One swath slot (R196, R214). -/
structure Slot where
  st : SlotState := .empty
  gap : Bool := false
  fill : Nat := 0
  vplan : Nat := 0
  deriving DecidableEq, Repr

/-- The swath in flight: its slot, its record, the next column of each unit and the channels that have
run out of data (R207, R210), and the TK of its admission (R167). -/
structure Active where
  slot : Nat
  rcd : SwathRec
  next : List (Nat × Int)
  starvedChans : List Nat
  from_ : Nat := 0
  gone : List (Nat × Nat) := []
  deriving DecidableEq, Repr

/-- Ingest, slots and admission (R188-R214): `hvBuf` is the block being received, empty while the port hunts
for SYNC; `fifo` holds the complete blocks with their NODE, `vineHeld` those in the bulk buffers of each
port; `hvSkip` counts the words still to come of a block whose NWORDS is too large; `rdy` is HV_RDY, `rdyEdges` its level
at the last rising edges of HV_CLK (R191, R192); `lowTk` counts the TK HV_RDY was low. -/
structure Ingest where
  hvOn : Bool := false
  throttled : Bool := false
  overrun : Bool := false
  hvbad : Bool := false
  gap : Bool := false
  clamped : Bool := false
  starved : Bool := false
  underrun : Bool := false
  decerr : Bool := false
  seqerr : Bool := false
  cmderr : Bool := false
  hvBuf : List Word := []
  slots : List Slot := List.replicate 8 {}
  armq : List Nat := []
  fifo : List (Nat × DataBlock) := []
  vineHeld : List (Nat × DataBlock) := []
  hvSkip : Nat := 0
  rdy : Bool := false
  rdyEdges : List Bool := []
  rdyLowFrom : Option Nat := none
  lowTk : Nat := 0
  waitFrom : Option Nat := none
  starveDone : Bool := false
  seqSeen : Option (Nat × BitVec 32) := none
  admitValue : Option Nat := none
  reports : List (Nat × Nat × Nat × Nat) := []
  lastReport : Option (Nat × Nat) := none
  active : Option Active := none
  deriving DecidableEq, Repr

/-- One gating input (R235). `lowAt` is when its last low sample was seen, or the TK before its first sample; `lowRun`
counts the low samples in a row up to it. -/
structure GateInput where
  closed : Bool := true
  known : Bool := false
  low : Bool := true
  lowAt : Nat := 0
  lowRun : Nat := 0
  deriving DecidableEq, Repr

/-- A head group's temperature state (R233). -/
inductive TempState where
  | normal | over | under | fault
  deriving DecidableEq, Repr

/-- Temperature supervision of one group (R232, R233): the latest sample with its TK, and the one in force before that
TK (R179). -/
structure HeadTemp where
  st : TempState := .normal
  t : Int := 0
  tOld : Int := 0
  raw : Nat := 0
  valid : Bool := false
  at_ : Nat := 0
  overRun : Nat := 0
  underRun : Nat := 0
  faultRun : Nat := 0
  bandRun : Nat := 0
  bandFrom : Nat := 0
  scanAt : Option Nat := none
  deriving DecidableEq, Repr

/-- A head's record read (R219), and the last bytes written to the head, its offset first (R238). -/
structure HeadRead where
  busy : Bool := false
  active : Bool := false
  tries : Nat := 0
  retryAt : Option Nat := none
  sent : List Byte := []
  deriving DecidableEq, Repr

/-- One consumable slot (R223-R231). PENDING is kept in 0.1 pL; `sent` is the last message written to the cartridge
(R225). -/
structure Cons where
  auth : Bool := false
  exhausted : Bool := false
  low : Bool := false
  unsynced : Bool := false
  unsyncedClosed : Bool := false
  cid : BitVec 64 := 0
  seen : Bool := false
  remain : Nat := 0
  pending10 : Nat := 0
  lastSync : Nat := 0
  syncReq : Bool := false
  authBusy : Bool := false
  byCommand : Bool := false
  wbBusy : Bool := false
  wbDec : Nat := 0
  wbTries : Nat := 0
  wbRetryAt : Option Nat := none
  atEntry : Bool := false
  nonce : BitVec 128 := 0
  sent : List Byte := []
  pollFrom : Nat := 0
  deriving DecidableEq, Repr

/-- The judgement history of one nozzle, newest first, its wait count and its fires since the last
judgement (R238-R244). -/
structure Nozzle where
  channel : Nat
  nozzle : Nat
  wait : Nat := 0
  history : List Bool := []
  fires : Nat := 0
  deriving DecidableEq, Repr

/-- A prepared substitution entry (R241). -/
structure Prepared where
  channel : Nat
  nozzle : Nat
  delta : Int
  dp : Nat
  nocover : Bool
  deriving DecidableEq, Repr

/-- A sense burst of a head group (R237-R239): when it starts and ends, the sampler that takes it, and for
each row its sense nozzle, the waveform played and the code. -/
structure Burst where
  group : Nat
  start : Nat
  stop : Nat
  sampler : Option Nat := none
  rows : List (Option (Nat × Nat × Nat))
  deriving DecidableEq, Repr

/-- Template learning (R245): the waveform, when it ends, and per code the sums and the slots taken. -/
structure Learn where
  wf : Nat
  until_ : Nat
  sums : List (List Nat) := [[], [], []]
  counts : List Nat := [0, 0, 0]
  deriving DecidableEq, Repr

/-- Head care (R215-R248). -/
structure HeadCare where
  cfgbusy : Bool := false
  cfgerr : Bool := false
  cmderr : Bool := false
  busFault : Nat := 0
  inputs : List GateInput := [{}, {}, {}]
  jamWait : Bool := false
  tempClosed : BitVec 32 := BitVec.allOnes 32
  headidClosed : BitVec 32 := BitVec.allOnes 32
  consClosed : BitVec 32 := 0
  railClosed : BitVec 32 := 0
  hostClosed : BitVec 32 := BitVec.allOnes 32
  wdgClosed : BitVec 32 := 0
  txnClosed : Bool := false
  gridClosed : Bool := true
  temps : List HeadTemp := List.replicate 32 {}
  reads : List HeadRead := List.replicate 32 {}
  cons : List Cons := List.replicate 8 {}
  nozzles : List Nozzle := []
  prepared : List Prepared := []
  again : List Prepared := []
  bursts : List Burst := []
  learn : Option Learn := none
  deriving DecidableEq, Repr

/-- One piece of a profile: constant jerk for a duration (R254). Quantities are in microsteps, with time
in TK; `v`, `a` and `j` are scaled as `Motion` says. -/
structure Seg where
  dur : Nat
  x : Int
  v : Int
  a : Int
  j : Int
  deriving DecidableEq, Repr

/-- A plan: when it starts, its pieces and where it ends (R254); the mode and target it serves, a swath permit's clamp
(R266), and whether a GO asked for it. -/
structure Plan where
  t0 : Nat
  segs : List Seg
  endX : Int
  endV : Int
  qstop : Bool := false
  mode : Nat := 0
  target : Int := 0
  cap : Option Nat := none
  byGo : Bool := false
  deriving DecidableEq, Repr

/-- What a GO asks for: mode, swath move, target (R252, R253). -/
structure Move where
  mode : Nat
  swath : Bool
  target : Int
  deriving DecidableEq, Repr

/-- What the axis drive is doing (R268). -/
inductive DriveStep where
  | off | enabling (at_ : Nat) | on | disabling | brakeWait (at_ : Nat)
  deriving DecidableEq, Repr

/-- An engaged cam (R264). -/
structure Cam where
  table : Nat
  encoder : Bool
  unit : Nat
  morigin : Int
  sorigin : Int
  deriving DecidableEq, Repr

/-- The step generator of a step axis (R259): the level of AXn_DIR and the TK it last changed, the integer
position already turned into steps, the steps still owed with their direction and the TK they fell due, and
the TK the last pulse started. -/
structure StepGen where
  dir : Bool := false
  dirAt : Option Nat := none
  pos : Int := 0
  owed : List (Bool × Nat) := []
  stepAt : Option Nat := none
  deriving DecidableEq, Repr

/-- One axis (R249-R273). Position is in 2^-32 microstep. -/
structure Axis where
  en : Bool := false
  drive : DriveStep := .off
  braked : Bool := true
  fault : Bool := false
  attgt : Bool := false
  hold : Bool := false
  waitTurn : Bool := false
  refused : Bool := false
  limit : Bool := false
  latched : Bool := false
  clamped : Bool := false
  sat : Bool := false
  camerr : Bool := false
  mode : Nat := 0
  target : Int := 0
  x : Int := 0
  v : Int := 0
  plan : Option Plan := none
  next : Option Plan := none
  heldGo : Option Move := none
  goWait : Option Move := none
  restFrom : Nat := 0
  xofs : Int := 0
  latch : Int := 0
  posLatch : Word := 0
  homeArmed : Bool := false
  refLevel : Option Bool := none
  smpRef : Sampler := {}
  past : List Int := []
  cam : Option Cam := none
  heldCam : Option Cam := none
  planVmax : Nat := 0
  dutyA : Int := 0
  dutyB : Int := 0
  dutyBOld : Int := 0
  step : StepGen := {}
  configured : Bool := false
  deriving DecidableEq, Repr

/-- The motion block (R249-R273). -/
structure Motion where
  sel : Nat := 0
  axes : List Axis := List.replicate 8 {}
  permits : List Nat := []
  pwmAt : Option Nat := none
  deriving DecidableEq, Repr

/-- The gate state of a valve channel (R275). -/
inductive GateDrive where
  | drive | slow | off
  deriving DecidableEq, Repr

/-- The samples of a valve period (R276, R279): its TK 0, the two codes, and the state of the sensor then. -/
structure VlvSample where
  at_ : Nat
  code : Nat
  partner : Nat
  known : Bool
  act : Bool
  deriving DecidableEq, Repr

/-- One valve channel (R274-R295). `acc` is in 1/65,536 TK; `kept` holds the words a running channel runs on where a decant
has replaced them (R290). -/
structure Valve where
  running : Bool := false
  faultBr : Bool := false
  relBr : Bool := false
  offing : Bool := false
  profile : Nat := 0
  phase : Nat := 0
  phaseFrom : Nat := 0
  rampFrom : Nat := 0
  posact : Bool := false
  posknown : Bool := false
  stuck : Bool := false
  tmo : Bool := false
  overcur : Bool := false
  share : Bool := false
  refused : Bool := false
  i : Int := 0
  r : Int := 0
  acc : Int := 0
  d : Nat := 0
  dPartner : Nat := 0
  dutyAt : Nat := 0
  gates : GateDrive := .off
  sample : Option VlvSample := none
  smpPos : Sampler := {}
  posAt : Option Nat := none
  kept : Option Cells := none
  closePend : Bool := false
  ocRun : Nat := 0
  shareRun : Nat := 0
  curRun : Nat := 0
  idleRun : Nat := 0
  checkEnd : Option Nat := none
  seenInactive : Bool := false
  offFrom : Nat := 0
  heldOpen : Option Nat := none
  deriving DecidableEq, Repr

/-- The states of a rail (R303). -/
inductive RailState where
  | off | wait | ramp | good | drain | fail
  deriving DecidableEq, Repr

/-- One rail (R296-R325). -/
structure RailCh where
  st : RailState := .off
  uv : Bool := false
  ov : Bool := false
  forced : Bool := false
  target : Bool := false
  pending : Bool := false
  caused : Bool := false
  v : Nat := 0
  vOld : Nat := 0
  code : Nat := 0
  vAt : Option Nat := none
  s : Int := 0
  ren : Bool := false
  everOn : Bool := false
  renAt : Nat := 0
  goodRun : Nat := 0
  lowRun : Nat := 0
  highRun : Nat := 0
  winRun : Nat := 0
  offRun : Nat := 0
  wasOff : Bool := false
  leaving : Bool := false
  rmgBy : Option Nat := none
  deriving DecidableEq, Repr

/-- Self-sequencing (R320, R321). -/
inductive SelfSeq where
  | inactive | starting | draining | retryWait (at_ : Nat) | retrying | failed | good | redraining | parked
  deriving DecidableEq, Repr

/-- The rail block, in VAON (R296-R325). -/
structure Rail where
  rails : List RailCh := List.replicate 12 {}
  pfw : Bool := false
  cmptrip : Bool := false
  faultev : Bool := false
  startfail : Bool := false
  forcedoff : Bool := false
  done : Bool := false
  cmderr : Bool := false
  cfgbusy : Bool := false
  cfgerr : Bool := false
  selfretry : Bool := false
  lastRail : Nat := 0
  holdEnd : Option Nat := none
  cmpen : Bool := false
  force : Bool := false
  hold : Nat := 0x32
  selfSeq : SelfSeq := .inactive
  selfFault : Bool := false
  selfRail : Nat := 0
  selfDrain : Bool := false
  selfErr : Bool := false
  barred : Bool := false
  lastScan : Nat := 0
  marginAt : Nat := 0
  cmpAbove : Option Nat := none
  allGood : Bool := false
  deriving DecidableEq, Repr

/-- Start-up, trust and the watchdog (R326-R354). `bootCount` and the V registers follow R337, R339. -/
structure Boot where
  phase : Phase := .supplies
  hsel : Bool := false
  refsel : Bool := false
  seqSelf : Bool := false
  refclkOk : Bool := false
  lastRefcheck : Option Nat := none
  bankAt : Option Nat := none
  pinLow : Bool := false
  testen : Bool := false
  hot : Bool := false
  clockLost : Bool := false
  cause : Byte := 1
  sub : Byte := 0
  causeAt : Nat := 0
  because : Byte := 1
  slotB : Bool := false
  fallback : Bool := false
  romFrom : Nat := 0
  fwFrom : Nat := 0
  wdgQ : Word := 0
  serves : Nat := 0
  period : Nat := 12
  periodNext : Nat := 12
  wdgFrom : Nat := 0
  wdgSeen : Bool := false
  prefused : Bool := false
  v3en : Bool := false
  busy : Bool := false
  done : Bool := false
  qerr : Bool := false
  v : List (List Byte) := List.replicate 4 (List.replicate 32 0)
  v3Count : Nat := 0
  v3Pending : Option (List Byte) := none
  fwMajor : Nat := 3
  fwMinor : Nat := 1
  resetSwath : Option SwathRec := none
  deriving DecidableEq, Repr

/-- The power ladder, in VAON (R355-R370). -/
structure Power where
  state : Nat := 0
  last : Nat := 0
  refused : Bool := false
  aborted : Bool := false
  reason : Nat := 0
  wakeSrc : Word := 0
  entering : Option Nat := none
  step3Done : Bool := false
  wbFailed : Bool := false
  wakeSeen : Bool := false
  waking : Bool := false
  since : Nat := 0
  wakeAt : Option Nat := none
  slept : Nat := 0
  imageDirty : Bool := false
  deriving DecidableEq, Repr

/-- A calibration run (R371-R379): when it started, the items still to be measured and the results. -/
structure CalRun where
  from_ : Nat
  startUp : Bool
  todo : List CalItem
  results : List (CalItem × List Byte)
  deriving DecidableEq, Repr

/-- Calibration (R371-R382, R393). -/
structure Cal where
  run : Option CalRun := none
  forced : Bool := false
  forceFail : Bool := false
  forcing : Bool := false
  forceTestAt : Option Nat := none
  noset : Bool := false
  copybad : Bool := false
  storefail : Bool := false
  refused : Bool := false
  skipped : Bool := false
  cfgbad : Bool := false
  lastTrig : Nat := 0
  maxDefer : Nat := 0x14
  delta : Nat := 8
  tempDie : Word := 0
  dieAt : Option Nat := none
  samples : List Int := []
  tref : Int := 0
  trefSet : Bool := false
  staged : List CalItem := []
  stagedFrom : Nat := 0
  forceDue : Bool := false
  newest : Option Bool := none
  storing : Option Bool := none
  deriving DecidableEq, Repr

/-- A lees record waiting to be programmed (R389). -/
structure LeesRec where
  time : Nat
  boot : Nat
  block : Nat
  code : Nat
  data : List Nat
  deriving DecidableEq, Repr

/-- A command of table 0x84 in progress, with the operands it was accepted with (R385). -/
structure NvmOp where
  op : Nat
  addr : Nat
  len : Nat
  ksel : Nat
  data : List Byte
  deriving DecidableEq, Repr

/-- The NVM engine, the flash array and the lees log (R383-R394). -/
structure Nvm where
  mem : List Host.Cell := []
  keys : List (Nat × List Byte) := []
  locked : Bool := false
  defaults : List (Nat × Word) := []
  bootCount : Nat := 0
  busy : Option NvmOp := none
  cut : Bool := false
  done : Bool := false
  err : Bool := false
  refused : Bool := false
  reason : Nat := 0
  leesQ : List LeesRec := []
  barredQ : List LeesRec := []
  preQ : List LeesRec := []
  leesNext : Nat := 0
  leesSeq : Nat := 0
  leesNewest : Option Nat := none
  leesOldest : Nat := 0
  abandoned : Nat := 0
  deriving DecidableEq, Repr

/-- The states of the IEEE 1149.1 TAP controller (R422). -/
inductive TapState where
  | reset | idle | selDr | capDr | shDr | ex1Dr | pauDr | ex2Dr | updDr
  | selIr | capIr | shIr | ex1Ir | pauIr | ex2Ir | updIr
  deriving DecidableEq, Repr

/-- Boundary scan (R422-R424): instruction, shift registers, and the boundary register's 745 latched cells of
two bits each, the cell nearest TDI last (log entry 81). -/
structure Tap where
  st : TapState := .reset
  ir : BitVec 6 := 0x01
  irShift : BitVec 6 := 0
  drShift : List Bool := []
  cells : List Bool := List.replicate 1490 false
  tdo : Option Bool := none
  deriving DecidableEq, Repr

/-- The whole device. `tk` counts the TK since VAON power-on and `free` the free values drawn; both are
the model's own fields (log entries 3 and 11). -/
structure State where
  tk : Nat := 0
  tick : BitVec 48 := 0
  free : Nat := 0
  tbl : Cells := []
  swathRam : List Host.Cell := []
  host : HostPort := {}
  bnd : Bnd := {}
  txn : Txn := {}
  vine : Vine := {}
  enc : List Enc := List.replicate 8 {}
  grid : Grid := {}
  jet : Jet := {}
  ing : Ingest := {}
  hc : HeadCare := {}
  mot : Motion := {}
  vlv : List Valve := List.replicate 16 {}
  vlvSel : Nat := 0
  rail : Rail := {}
  boot : Boot := {}
  pwr : Power := {}
  cal : Cal := {}
  nvm : Nvm := {}
  tap : Tap := {}
  pending : List Instr := []
  deriving DecidableEq, Repr

/-- The device right after VAON power-on with its straps read low and nothing powered yet (R326 step 1,
R332, R342): every field at the reset value the spec gives it; the other values are those of log
entries 4 to 9. -/
def State.reset : State := {}

/-- What every meaning answers. -/
abbrev Out := Host.Outcome State Fault Refusal

end Sys2Proof.Machine
end

