-- ==== Sys2Proof/Machine/Ops.lean ====
section
/-! DEFINITION. The operations every family shares: sparse memories in canonical form, table words and
counters, interrupts, errors, lees records, gate sources, and the questions about the node's condition
that many rules ask. -/

namespace Sys2Proof.Machine

/-! ### Sparse memory -/

/-- The value at key `k`: the listed one, or the default. -/
def cellGet {α : Type} (d : Nat → α) : List (Nat × α) → Nat → α
  | [], k => d k
  | (a, v) :: m, k => if a = k then v else if k < a then d k else cellGet d m k

/-- The memory with `v` at key `k`, keys rising and no default listed. -/
def cellSet {α : Type} [DecidableEq α] (d : Nat → α) (k : Nat) (v : α) : List (Nat × α) → List (Nat × α)
  | [] => if v = d k then [] else [(k, v)]
  | (a, w) :: m =>
    if k < a then (if v = d k then (a, w) :: m else (k, v) :: (a, w) :: m)
    else if a = k then (if v = d k then m else (k, v) :: m)
    else (a, w) :: cellSet d k v m

/-- The canonical form of a sparse memory: keys strictly rising from `lo`, no default listed. -/
def cellsWf {α : Type} [DecidableEq α] (d : Nat → α) (lo : Nat) : List (Nat × α) → Bool
  | [] => true
  | (a, v) :: m => decide (lo ≤ a) && decide (v ≠ d a) && cellsWf d (a + 1) m

/-- Writes a run of values at rising keys. -/
def cellSetRun {α : Type} [DecidableEq α] (d : Nat → α) (k : Nat) : List α → List (Nat × α) → List (Nat × α)
  | [], m => m
  | v :: vs, m => cellSetRun d (k + 1) vs (cellSet d k v m)

/-- `n` values from key `k` on. -/
def cellRun {α : Type} (d : Nat → α) (m : List (Nat × α)) (k n : Nat) : List α :=
  (List.range n).map (fun i => cellGet d m (k + i))

/-! ### Table space -/

/-- The key of word `a` of table `t` (R69). -/
def tkey (t a : Nat) : Nat := t * 2 ^ 24 + a

/-- The table of a key. -/
def keyTable (k : Nat) : Nat := k / 2 ^ 24

/-- The word address of a key. -/
def keyAddr (k : Nat) : Nat := k % 2 ^ 24

/-- Table 0x7D as shipped (R322). -/
def shippedDefaults (a : Nat) : Nat :=
  match a with
  | 1 => 1200 | 2 => 800 | 3 => 784 | 4 => 776 | 5 => 824 | 6 => 80 | 7 => 5 | 8 => 20 | 9 => 2
  | 16 => 1 | 17 => 3600 | 18 => 3300 | 19 => 3170 | 20 => 3135 | 21 => 3465 | 22 => 330
  | 23 => 5 | 24 => 20 | 25 => 2
  | 32 => 1 | 33 => 1200 | 34 => 1000 | 35 => 970 | 36 => 960 | 37 => 1050 | 38 => 100
  | 39 => 5 | 40 => 20 | 41 => 2
  | 49 => 0x0032
  | _ => 0

/-- What a table word reads while nothing has written it: 0 (R332), but for the grid configuration
(R159) and the shipped defaults of table 0x7D (R322). -/
def tblDefault (k : Nat) : Word :=
  if k = tkey 0xA6 1 then 0x1C08
  else if k = tkey 0xA6 2 then 0x0002
  else if k = tkey 0xA6 3 then 0x1000
  else if keyTable k = 0x7D then word (shippedDefaults (keyAddr k))
  else 0

/-- A stored table word. -/
def tget (s : State) (t a : Nat) : Word := cellGet tblDefault s.tbl (tkey t a)

/-- A stored table word as a number. -/
def tnat (s : State) (t a : Nat) : Nat := (tget s t a).toNat

/-- Two words, least significant first (R7). -/
def tnat32 (s : State) (t a : Nat) : Nat := tnat s t a + tnat s t (a + 1) * 2 ^ 16

/-- Two words read as a signed 32-bit value. -/
def tint32 (s : State) (t a : Nat) : Int := signed 32 (tnat32 s t a)

/-- Stores a table word. -/
def tset (t a : Nat) (v : Word) (s : State) : State :=
  { s with tbl := cellSet tblDefault (tkey t a) v s.tbl }

/-- Stores a run of table words. -/
def tsetRun (t a : Nat) (vs : List Word) (s : State) : State :=
  { s with tbl := cellSetRun tblDefault (tkey t a) vs s.tbl }

/-- Increments a 16-bit counter word, saturating at 0xFFFF. -/
def bump (t a : Nat) (s : State) : State := tset t a (word (sat16 (tnat s t a + 1))) s

/-- Increments a 16-bit counter word `n` times, saturating. -/
def bumpBy (t a n : Nat) (s : State) : State := tset t a (word (sat16 (tnat s t a + n))) s

/-- Increments a 32-bit counter of two words, which wraps (R79, R116, R248). -/
def bump32 (t a : Nat) (s : State) : State :=
  let n := tnat32 s t a + 1
  tset t (a + 1) (wordAt n 1) (tset t a (wordAt n 0) s)

/-- Table words `a` to `a + n - 1` of table `t`. -/
def twords (s : State) (t a n : Nat) : List Word :=
  (List.range n).map (fun i => tget s t (a + i))

/-- A byte of a table that holds a byte format, high byte of a word first. -/
def tbyte (s : State) (t i : Nat) : Nat :=
  if i % 2 = 0 then tnat s t (i / 2) / 256 else tnat s t (i / 2) % 256

/-! ### Bytes -/

/-- The big-endian bytes of a number, `n` of them. -/
def bytesBE : Nat → Nat → List Byte
  | 0, _ => []
  | n + 1, x => BitVec.ofNat 8 (x >>> (8 * n)) :: bytesBE n x

/-- The number a list of big-endian bytes spells. -/
def natBE (bs : List Byte) : Nat := bs.foldl (fun n b => n * 256 + b.toNat) 0

/-- The number a list of little-endian bytes spells. -/
def natLE (bs : List Byte) : Nat := natBE bs.reverse

/-- Bytes packed into words, high byte first. -/
def packWords : List Byte → List Word
  | [] => []
  | [b] => [word (b.toNat * 256)]
  | b :: c :: bs => word (b.toNat * 256 + c.toNat) :: packWords bs

/-- Words unpacked into bytes, high byte first. -/
def unpackWords (ws : List Word) : List Byte :=
  ws.flatMap (fun w => [BitVec.ofNat 8 (w.toNat / 256), BitVec.ofNat 8 w.toNat])

/-! ### Lists of like things -/

/-- Element `i`, or the default. -/
def nth {α : Type} [Inhabited α] (l : List α) (i : Nat) : α := l.getD i default

/-- The list with element `i` changed by `f`. -/
def modifyNth {α : Type} (f : α → α) : List α → Nat → List α
  | [], _ => []
  | x :: xs, 0 => f x :: xs
  | x :: xs, i + 1 => x :: modifyNth f xs i

/-- The value an association list gives `k`, or `d`. -/
def lookupD {β : Type} (d : β) : List (Nat × β) → Nat → β
  | [], _ => d
  | (a, v) :: m, k => if a = k then v else lookupD d m k

/-- The association list with `v` at `k`. -/
def assocSet {β : Type} (k : Nat) (v : β) (l : List (Nat × β)) : List (Nat × β) :=
  (k, v) :: l.filter (fun p => p.1 != k)

/-! ### Sampled inputs (R121, R122) -/

/-- The present TK's sample of an input is `b`. -/
def smpPut (b : Bool) (x : Sampler) : Sampler :=
  { w := (x.w &&& 0xFFFE) ||| (if b then 1 else 0), n := max 1 x.n }

/-- A TK passes and the input holds its level: one more sample. -/
def smpTick (x : Sampler) : Sampler :=
  { w := (x.w <<< 1) ||| (x.w &&& 1), n := if x.n < 16 then x.n + 1 else 16 }

/-- The input state begins anew with the present sample (R122). -/
def smpNew (x : Sampler) : Sampler := { x with n := 1 }

/-- The level that the input has held for `k` samples. -/
def smpHeld (k : Nat) (x : Sampler) : Option Bool :=
  let low := x.w.toNat % 2 ^ k
  if x.n < k then none else if low = 0 then some false else if low = 2 ^ k - 1 then some true else none

/-- The filtered level after the present sample (R121): it changes once the raw input has held a new level for `filt` + 1
samples. -/
def smpLevel (filt : Nat) (old : Option Bool) (x : Sampler) : Option Bool :=
  match smpHeld (filt + 1) x with
  | some b => some b
  | none => old

/-- The level that an input not yet known is known to have (R122): held for the larger of `filt` + 1 and 4 samples. -/
def smpFirst (filt : Nat) (x : Sampler) : Option Bool := smpHeld (max (filt + 1) 4) x

/-! ### The node's condition -/

/-- The core is out of reset (R326 step 4 on). -/
def coreRuns (s : State) : Bool :=
  match s.boot.phase with
  | .rom | .firmware | .up | .recovery => true
  | _ => false

/-- The whole register map answers (R328). -/
def isUp (s : State) : Bool := s.boot.phase == .up

/-- Core logic is clocked by TK: powered states RUN and REST (R355). -/
def clocked (s : State) : Bool := isUp s && decide (s.pwr.state ≤ 1)

/-- The host port decodes frames (R328, R362). -/
def portDecodes (s : State) : Bool := coreRuns s && decide (s.pwr.state ≤ 1)

/-- A swath is active, which is the same as admitted (R15). -/
def swathActive (s : State) : Bool := s.ing.active.isSome

/-- This node is the root (R93). -/
def isRoot (s : State) : Bool := s.boot.hsel

/-- The number of TK in `n` milliseconds. -/
def msTk (n : Nat) : Nat := n * 250000

/-- The number of TK in `n` microseconds. -/
def usTk (n : Nat) : Nat := n * 250

/-- While entry into a lower power state runs, the commands of the blocks it has checked are held (R359). -/
def entryHolds (s : State) : Bool := s.pwr.entering.isSome

/-- Holds a command until the exit (R359, log entry 34). -/
def holdCmd (h : Held) (s : State) : State := { s with host.held := s.host.held ++ [h] }

/-- The node is in REST, and no entry into another state is under way. -/
def inRest (s : State) : Bool := s.pwr.state == 1 && s.pwr.entering.isNone

/-- A routed write on this node: in REST it ends that state and waits through the exit (R362); else it acts. -/
def routedOp (h : Held) (f : State → State) (s : State) : State :=
  if inRest s then { holdCmd h s with pwr.waking := true } else f s

/-! ### Interrupts, errors and lees records -/

/-- The interrupt sources that have had an event in the present TK (R72). -/
def irqNow (s : State) : Word := if s.host.irqAt = s.tk then s.host.irqSame else 0

/-- An event of source `n` (R72, R73): it sets bit `n` of IRQ_PEND. -/
def raise (n : Nat) (s : State) : State :=
  { s with
    host.irqPend := s.host.irqPend ||| word (2 ^ n)
    host.irqSame := irqNow s ||| word (2 ^ n), host.irqAt := s.tk }

/-- The nozzle-event queue is not empty: RD of table 0x5A differs from WR (R243). -/
def nozzleQueued (s : State) : Bool := tget s 0x5A 256 != tget s 0x5A 257

/-- IRQ_PEND as it reads: NOZZLE is active while its queue is not empty (R243). -/
def irqActive (s : State) : Word := s.host.irqPend ||| (if nozzleQueued s then 0x0080 else 0)

/-- nIRQ is driven low (R72, R360): a pending source is unmasked and the core runs outside recovery, awake. -/
def nIrqLow (s : State) : Bool :=
  decide (irqActive s &&& s.host.irqMask ≠ 0) && portDecodes s && s.boot.phase != .recovery

/-- Interrupt source numbers (R73). -/
def irqHost : Nat := 0
def irqTxn : Nat := 1
def irqFab : Nat := 2
def irqBound : Nat := 3
def irqGate : Nat := 4
def irqGrid : Nat := 5
def irqIngest : Nat := 6
def irqNozzle : Nat := 7
def irqHead : Nat := 8
def irqMot : Nat := 9
def irqVlv : Nat := 10
def irqRail : Nat := 11
def irqWdg : Nat := 12
def irqCal : Nat := 13
def irqPwr : Nat := 14
def irqErr : Nat := 15

/-- The host port with an error code recorded (R63, R77-R79): ERR_FIRST if it is the first since clear, ERR_COUNT, the
error history, and the ERR interrupt where ERR_COUNT has incremented, not where it is saturated. -/
def errNoted (block code : Nat) (s : State) : HostPort :=
  { (if s.host.errCount < 0xFFFF then (raise irqErr s).host else s.host) with
    errFirst := if s.host.errCount = 0 then word (block * 256 + code) else s.host.errFirst
    errCount := sat16 (s.host.errCount + 1)
    errHist := (word (block * 256 + code), s.tick) :: s.host.errHist.take 31
    errTotal := s.host.errTotal + 1 }

/-- Records an error code. Nothing is recorded while the core is in reset. -/
def recErr (block code : Nat) (s : State) : State :=
  if coreRuns s then { s with host := errNoted block code s } else s

/-- Queues a lees record (R388, R389). Before the core runs it is kept in VAON (R317); while NVM
writing is barred up to 16 are held in all, and those beyond are dropped and counted (R314); beyond the queue's 32 it is
dropped and counted. -/
def lees (block code : Nat) (data : List Nat) (s : State) : State :=
  let r : LeesRec := { time := s.tick.toNat / 2 ^ 16, boot := s.nvm.bootCount % 256, block := block,
                       code := code, data := data }
  if s.rail.barred && decide (16 ≤ s.nvm.barredQ.length + s.nvm.preQ.length) then bump 0x7B 48 s
  else if !coreRuns s then { s with nvm.preQ := s.nvm.preQ ++ [r] }
  else if s.rail.barred then { s with nvm.barredQ := s.nvm.barredQ ++ [r] }
  else if s.nvm.leesQ.length < 32 then { s with nvm.leesQ := s.nvm.leesQ ++ [r] }
  else recErr 0x0E 0x0A (bump 0x89 4 s)

/-- An error that also writes a lees record of the same block and code. -/
def recErrLees (block code : Nat) (data : List Nat) (s : State) : State :=
  lees block code data (recErr block code s)

/-- Sets flag bit `i` of HST_STAT[7:0]; each such event raises HOST (R73, R77). -/
def hstFlag (i : Nat) (s : State) : State :=
  raise irqHost { s with host.hstFlags := s.host.hstFlags ||| BitVec.ofNat 8 (2 ^ i) }

/-- Draws the next value from the on-chip random source (log entry 11). -/
def drawRandom (s : State) : BitVec 128 × State :=
  (Config.random s.free, { s with free := s.free + 1 })

/-! ### Timed events and calibrated codes -/

/-- An event of a period of `p` TK is due: it has not occurred yet, or a period has passed since it was due last. -/
def periodDue (last : Option Nat) (p : Nat) (s : State) : Bool :=
  match last with
  | some t => decide (t + p ≤ s.tk)
  | none => true

/-- The TK at which an event of a period of `p` TK that occurs now was due: the next one follows a period after it. -/
def periodNow (last : Option Nat) (p : Nat) (s : State) : Nat :=
  match last with
  | some t => t + (s.tk - t) / p * p
  | none => s.tk

/-- Word `a` of the calibration set in force, or `d` where the VALID bit `b` of its item is 0 (R380). -/
def calWord (s : State) (b a d : Nat) : Nat := if bit (tnat s 0x80 3) b then tnat s 0x80 a else d

/-- The offsets and gains in force of the sense converters: no rule says which of the two serves an input (R380, log
entry 158). -/
def senseCal (s : State) : List (Nat × Nat) :=
  [(calWord s 1 160 0, calWord s 1 161 0x8000), (calWord s 1 162 0, calWord s 1 163 0x8000)]

/-- The calibrated code of a raw code, under the offsets and gains of `l` (R380): the code itself where they are 0 and
1.0, else a value the spec does not give (log entry 158). -/
def calibratedCode (l : List (Nat × Nat)) (raw : Nat) : Nat :=
  if l.all (fun p => p.1 == 0 && p.2 == 0x8000) then raw else Config.calibrated l raw

/-! ### Gates -/

/-- Bit `g` of a group map. -/
def grp (m : BitVec 32) (g : Nat) : Bool := m.getLsbD g

/-- The map with bit `g` set to `b`. -/
def setGrp (m : BitVec 32) (g : Nat) (b : Bool) : BitVec 32 :=
  if b then m ||| BitVec.ofNat 32 (2 ^ g) else m &&& ~~~(BitVec.ofNat 32 (2 ^ g))

/-- The map of the groups for which `p` holds. -/
def grpMap (p : Nat → Bool) : BitVec 32 :=
  (List.range 32).foldl (fun m g => if p g then m ||| BitVec.ofNat 32 (2 ^ g) else m) 0

/-- A fire whose addresses and pulses of the groups in `m` are cut at TK `now` (R183): it ends with what is left of it. -/
def cutFire (m : BitVec 32) (now : Nat) (f : Fire) : Fire :=
  let ends := f.ends.map (fun e => if grp m e.1 then (e.1, min e.2 now) else e)
  { f with
    ends := ends, fireEnd := ends.foldl (fun a e => max a e.2) f.keepEnd
    chans := f.chans.map (fun c =>
      if grp m (c.channel / 8) && c.cutAt.isNone then { c with cutAt := some now, cuts := [] } else c) }

/-- Cuts the running pulses of the groups in `m` (R183): what a channel of them still plays ends now. A
WDAC waveform plays to its end, and it is no segment of a channel. -/
def cutGroups (m : BitVec 32) (s : State) : State :=
  { s with jet.fires := s.jet.fires.map (fun f => if s.tk < f.fireEnd then cutFire m s.tk f else f) }

/-- A gate source closes for the groups of `new`: where it was clear for one of them, GATE is raised and
the running pulses are cut (R183, R234). -/
def raiseIfNew (old new : BitVec 32) (s : State) : State :=
  if new &&& ~~~old = 0 then s else raise irqGate (cutGroups (new &&& ~~~old) s)

/-- Closes or opens a source of the whole node. -/
def raiseIfShut (was now : Bool) (s : State) : State :=
  if now && !was then raise irqGate (cutGroups (BitVec.allOnes 32) s) else s

/-- Sets the HEADID source of the groups in `m`. -/
def setHeadid (new : BitVec 32) (s : State) : State :=
  let s1 := raiseIfNew s.hc.headidClosed new s
  if s.hc.headidClosed = new then s1 else raise irqHead { s1 with hc.headidClosed := new }

/-- Sets the TEMP source. -/
def setTemp (new : BitVec 32) (s : State) : State :=
  let s1 := raiseIfNew s.hc.tempClosed new s
  { s1 with hc.tempClosed := new }

/-- Sets the CONS source. -/
def setCons (new : BitVec 32) (s : State) : State :=
  let s1 := raiseIfNew s.hc.consClosed new s
  { s1 with hc.consClosed := new }

/-- Rail `r`. -/
def railOf (s : State) (r : Nat) : RailCh := s.rail.rails.getD r {}

/-- The rail is good: in GOOD with neither flag (R303). -/
def railGood (s : State) (r : Nat) : Bool :=
  let h := railOf s r
  h.st == .good && !h.uv && !h.ov

/-- The groups that the RAIL source is closed for (R313, R318). -/
def railGateMap (s : State) : BitVec 32 :=
  grpMap (fun g => s.rail.selfFault || (List.range 12).any (fun r => bit (tnat s 0x7A g) r && !railGood s r))

/-- Sets the RAIL source. -/
def setRailGate (new : BitVec 32) (s : State) : State :=
  let s1 := raiseIfNew s.hc.railClosed new s
  { s1 with hc.railClosed := new }

/-- Sets the HOST source. -/
def setHostGate (new : BitVec 32) (s : State) : State :=
  let s1 := raiseIfNew s.hc.hostClosed new s
  { s1 with hc.hostClosed := new }

/-- Sets the TXN source, for every group of the node. -/
def setTxnGate (b : Bool) (s : State) : State :=
  let s1 := raiseIfShut s.hc.txnClosed b s
  { s1 with hc.txnClosed := b }

/-- A gating input closes firing: known low, not known, or JAM waiting for its re-arm (R235). -/
def inputClosed (s : State) (i : Nat) : Bool :=
  (match s.hc.inputs[i]? with | some g => g.closed | none => true)

/-- The closed sources of group `g`, laid out as GATE_STAT[11:0] (R247, R248). -/
def gateBits (s : State) (g : Nat) : Nat :=
  atBit (inputClosed s 0) 0 + atBit (inputClosed s 1) 1 + atBit (inputClosed s 2) 2
    + atBit (grp s.hc.tempClosed g) 3 + atBit (grp s.hc.headidClosed g) 4
    + atBit (grp s.hc.consClosed g) 5 + atBit s.hc.txnClosed 6 + atBit (grp s.hc.wdgClosed g) 7
    + atBit (grp s.hc.railClosed g) 8 + atBit s.hc.gridClosed 9 + atBit (grp s.hc.hostClosed g) 10

/-- Group `g`'s gate is open: no source is closed (R234). -/
def groupGateOpen (s : State) (g : Nat) : Bool := gateBits s g == 0

/-! ### What a prepared node holds (R43) -/

/-- The node is prepared for the present gap, for an idle state or for NOW, and so holds admission and the starts of
R43. For KIND IDLE it holds from the moment no swath end is awaited any more (log entry 50). -/
def prepHolds (s : State) : Bool :=
  s.txn.phase == .prepared && (s.txn.present || (s.txn.kind == 2 && decide (2 ≤ s.txn.stage)))

/-- Some entry the cask touches satisfies `p`. -/
def caskTouches (s : State) (p : Nat → Nat → Bool) : Bool :=
  match s.txn.cask with
  | some k => k.touched.any (fun x => p x.1 x.2)
  | none => false

/-- The start of a profile of axis `n` is held (R43): its entry of table 0x60 is touched, or the cam its staging word
names. -/
def axisHeld (s : State) (n : Nat) : Bool :=
  prepHolds s && caskTouches s (fun t e => (t == 0x60 && (e == n || decide (8 ≤ e)))
    || ((t == 0x62 || t == 0x63) && e == bits (tnat s 0x61 (32 * n)) 1 0))

/-- The engagement of cam `t` is held (R43). -/
def camHeld (s : State) (t : Nat) : Bool :=
  prepHolds s && caskTouches s (fun u e => (u == 0x62 || u == 0x63) && e == t)

/-- The start of profile `p` on valve channel `n` is held (R43). -/
def valveHeld (s : State) (n p : Nat) : Bool :=
  prepHolds s && caskTouches s (fun t e =>
    (t == 0x70 && (e / 2 == n / 2 || decide (16 ≤ e))) || (t == 0x71 && e == p))

/-! ### Wake sources and power entry (R358-R360) -/

/-- The power state whose row of R360 applies: the one the node is in, or is entering. -/
def wakeRow (s : State) : Nat :=
  match s.pwr.entering with
  | some t => t
  | none => s.pwr.state

/-- Wake source `bit` acts in power state `row` (R360); `en` is its WAKE_EN bit. -/
def wakeActs (row bit_ : Nat) (en : Bool) : Bool :=
  match bit_ with
  | 0 => decide (2 ≤ row) && row != 5
  | 1 => decide (2 ≤ row) && decide (row ≤ 4)
  | 2 => decide (2 ≤ row) && decide (row ≤ 4)
  | 3 => en && decide (2 ≤ row) && decide (row ≤ 4)
  | 4 => en && decide (1 ≤ row) && decide (row ≤ 5)
  | 5 => en && decide (1 ≤ row)
  | 6 => en && decide (1 ≤ row)
  | 7 => en && decide (1 ≤ row) && decide (row ≤ 4)
  | 8 => decide (1 ≤ row) && decide (row ≤ 4)
  | 9 => en && row == 2
  | 10 => decide (1 ≤ row)
  | _ => false

/-- An event of wake source `bit` (R360): ignored where it does not act; else its WAKE_SRC bit is set, PWR
is raised, and the node wakes, or abandons the entry it is in. -/
def wake (bit_ : Nat) (s : State) : State :=
  if wakeActs (wakeRow s) bit_ (bit (tnat s 0x08 0) bit_) then
    let s1 := raise irqPwr { s with pwr.wakeSrc := s.pwr.wakeSrc ||| word (2 ^ bit_) }
    if s.pwr.entering.isSome then { s1 with pwr.wakeSeen := true }
    else if s.pwr.waking then s1
    else { s1 with pwr.waking := true, pwr.wakeAt := some s.tk }
  else s

/-- Entry refused or aborted with a reason (R358, R359). -/
def refusePower (reason : Nat) (s : State) : State :=
  raise irqPwr (recErr 0x0D 1 { s with
    pwr.refused := true, pwr.reason := reason, pwr.entering := none, pwr.wbFailed := false })

/-! ### Swath marks (R149-R152) -/

/-- Marks the swath in flight BAD, with the position of the discrepancy in grid units; a swath already
BAD keeps its first position (log entry 30). -/
def markBad (disc : Int) (s : State) : State :=
  match s.ing.active with
  | some a =>
    if a.rcd.state = 3 then s
    else { s with ing.active := some { a with rcd := { a.rcd with state := 3, disc := disc } } }
  | none => s

/-- The low bits of a signed value kept in `n` words, least significant first. -/
def intWord (x : Int) (i : Nat) : Word := wordAt (unsigned 64 x) i

end Sys2Proof.Machine
end

