-- ==== Sys2Proof/Machine/Crypto.lean ====
section
/-! DEFINITION. The check, digest and signature algorithms the spec names: CRC-8 (R57), CRC-32 (R84), SHA-256
(FIPS 180-4), HMAC-SHA-256 (FIPS 198-1) and ECDSA over P-256 (FIPS 186-5), on lists of bytes. -/

namespace Sys2Proof.Machine

/-- One bit step of the CRC-8 of R57. -/
def crc8Step (c : Nat) : Nat :=
  if c.testBit 7 then (c * 2) % 256 ^^^ 0x07 else (c * 2) % 256

/-- The CRC-8 of R57: polynomial 0x07, initial value 0. -/
def crc8 (bs : List Nat) : Nat :=
  bs.foldl (fun c b => crc8Step (crc8Step (crc8Step (crc8Step (crc8Step (crc8Step (crc8Step
    (crc8Step (c ^^^ b))))))))) 0

/-- One bit step of the reflected CRC-32 of R84. -/
def crc32Step (c : Nat) : Nat :=
  if c % 2 = 1 then c / 2 ^^^ 0xEDB88320 else c / 2

/-- Eight bit steps. -/
def crc32Byte (c b : Nat) : Nat :=
  (List.range 8).foldl (fun c _ => crc32Step c) (c ^^^ b)

/-- The IEEE 802.3 CRC-32 of R84. -/
def crc32 (bs : List Byte) : Nat :=
  bs.foldl (fun c b => crc32Byte c b.toNat) 0xFFFFFFFF ^^^ 0xFFFFFFFF

/-- The bytes a CRC-32 is appended as, least significant first (R84). -/
def crc32Bytes (bs : List Byte) : List Byte := (bytesBE 4 (crc32 bs)).reverse

/-- The round constants of SHA-256 (FIPS 180-4). -/
def sha256K : List (BitVec 32) :=
  [0x428A2F98, 0x71374491, 0xB5C0FBCF, 0xE9B5DBA5, 0x3956C25B, 0x59F111F1, 0x923F82A4, 0xAB1C5ED5] ++
  [0xD807AA98, 0x12835B01, 0x243185BE, 0x550C7DC3, 0x72BE5D74, 0x80DEB1FE, 0x9BDC06A7, 0xC19BF174] ++
  [0xE49B69C1, 0xEFBE4786, 0x0FC19DC6, 0x240CA1CC, 0x2DE92C6F, 0x4A7484AA, 0x5CB0A9DC, 0x76F988DA] ++
  [0x983E5152, 0xA831C66D, 0xB00327C8, 0xBF597FC7, 0xC6E00BF3, 0xD5A79147, 0x06CA6351, 0x14292967] ++
  [0x27B70A85, 0x2E1B2138, 0x4D2C6DFC, 0x53380D13, 0x650A7354, 0x766A0ABB, 0x81C2C92E, 0x92722C85] ++
  [0xA2BFE8A1, 0xA81A664B, 0xC24B8B70, 0xC76C51A3, 0xD192E819, 0xD6990624, 0xF40E3585, 0x106AA070] ++
  [0x19A4C116, 0x1E376C08, 0x2748774C, 0x34B0BCB5, 0x391C0CB3, 0x4ED8AA4A, 0x5B9CCA4F, 0x682E6FF3] ++
  [0x748F82EE, 0x78A5636F, 0x84C87814, 0x8CC70208, 0x90BEFFFA, 0xA4506CEB, 0xBEF9A3F7, 0xC67178F2]

/-- The initial hash value of SHA-256. -/
def sha256H : List (BitVec 32) :=
  [0x6A09E667, 0xBB67AE85, 0x3C6EF372, 0xA54FF53A, 0x510E527F, 0x9B05688C, 0x1F83D9AB, 0x5BE0CD19]

/-- Message padding of SHA-256. -/
def sha256Pad (bs : List Byte) : List Byte :=
  bs ++ [0x80] ++ List.replicate ((55 + 64 - bs.length % 64) % 64) 0 ++ bytesBE 8 (8 * bs.length)

/-- Big-endian 32-bit words of a byte list. -/
def sha256Words : List Byte → List (BitVec 32)
  | a :: b :: c :: d :: bs => (a ++ b ++ c ++ d) :: sha256Words bs
  | _ => []

/-- The next message-schedule word from the last sixteen, newest first. -/
def sha256Next (w : List (BitVec 32)) : BitVec 32 :=
  let w2 := w.getD 1 0
  let w7 := w.getD 6 0
  let w15 := w.getD 14 0
  let w16 := w.getD 15 0
  let s0 := w15.rotateRight 7 ^^^ w15.rotateRight 18 ^^^ (w15 >>> 3)
  let s1 := w2.rotateRight 17 ^^^ w2.rotateRight 19 ^^^ (w2 >>> 10)
  w16 + s0 + w7 + s1

/-- The message schedule of one block: 64 words, newest first. -/
def sha256Schedule (block : List (BitVec 32)) : List (BitVec 32) :=
  (List.range 48).foldl (fun w _ => sha256Next w :: w) block.reverse

/-- One round on the eight working variables. -/
def sha256Round (st : List (BitVec 32)) (kw : BitVec 32) : List (BitVec 32) :=
  match st with
  | [a, b, c, d, e, f, g, h] =>
    let s1 := e.rotateRight 6 ^^^ e.rotateRight 11 ^^^ e.rotateRight 25
    let ch := (e &&& f) ^^^ (~~~e &&& g)
    let t1 := h + s1 + ch + kw
    let s0 := a.rotateRight 2 ^^^ a.rotateRight 13 ^^^ a.rotateRight 22
    let maj := (a &&& b) ^^^ (a &&& c) ^^^ (b &&& c)
    [t1 + s0 + maj, a, b, c, d + t1, e, f, g]
  | other => other

/-- The hash value after one block. -/
def sha256Block (h : List (BitVec 32)) (block : List (BitVec 32)) : List (BitVec 32) :=
  let kws := List.zipWith (· + ·) sha256K (sha256Schedule block).reverse
  List.zipWith (· + ·) h (kws.foldl sha256Round h)

/-- The hash value after every block of a word list; `n` bounds the number of blocks. -/
def sha256Blocks : Nat → List (BitVec 32) → List (BitVec 32) → List (BitVec 32)
  | 0, h, _ => h
  | n + 1, h, ws => sha256Blocks n (sha256Block h (ws.take 16)) (ws.drop 16)

/-- SHA-256 (FIPS 180-4). -/
def sha256 (bs : List Byte) : List Byte :=
  let ws := sha256Words (sha256Pad bs)
  (sha256Blocks (ws.length / 16) sha256H ws).flatMap (fun w => bytesBE 4 w.toNat)

/-- HMAC-SHA-256 (FIPS 198-1) with a key of at most 64 bytes. -/
def hmac (key msg : List Byte) : List Byte :=
  let k := key ++ List.replicate (64 - key.length) 0
  sha256 (k.map (· ^^^ 0x5C) ++ sha256 (k.map (· ^^^ 0x36) ++ msg))

/-! ### P-256 (FIPS 186-5) -/

/-- The prime of P-256. -/
def p256P : Nat := 0xFFFFFFFF00000001000000000000000000000000FFFFFFFFFFFFFFFFFFFFFFFF

/-- The order of the base point. -/
def p256N : Nat := 0xFFFFFFFF00000000FFFFFFFFFFFFFFFFBCE6FAADA7179E84F3B9CAC2FC632551

/-- The base point. -/
def p256G : Nat × Nat :=
  (0x6B17D1F2E12C4247F8BCE6E563A440F277037D812DEB33A0F4A13945D898C296,
   0x4FE342E2FE1A7F9B8EE7EB4A7C0F9E162BCE33576B315ECECBB6406837BF51F5)

/-- `a` to the power of the low `f` bits of `e`, modulo `m`. -/
def powMod (m a : Nat) : Nat → Nat → Nat
  | 0, _ => 1
  | f + 1, e =>
    let h := powMod m a f (e / 2)
    if e % 2 = 1 then h * h % m * a % m else h * h % m

/-- The inverse of `a` modulo the prime `m` of 256 bits. -/
def invMod (m a : Nat) : Nat := powMod m (a % m) 256 (m - 2)

/-- The sum of two points of P-256; none is the point at infinity. -/
def p256Add (p q : Option (Nat × Nat)) : Option (Nat × Nat) :=
  match p, q with
  | none, q => q
  | p, none => p
  | some (x1, y1), some (x2, y2) =>
    if x1 = x2 ∧ (y1 + y2) % p256P = 0 then none
    else
      let l := if x1 = x2 then (3 * x1 * x1 + p256P - 3) * invMod p256P (2 * y1) % p256P
        else (y2 + p256P - y1) * invMod p256P (x2 + p256P - x1) % p256P
      let x3 := (l * l + 2 * p256P - x1 - x2) % p256P
      some (x3, (l * (x1 + p256P - x3) + p256P - y1) % p256P)

/-- The multiple of a point by the low `f` bits of `k`. -/
def p256Mul (p : Option (Nat × Nat)) : Nat → Nat → Option (Nat × Nat)
  | 0, _ => none
  | f + 1, k =>
    let h := p256Mul p f (k / 2)
    if k % 2 = 1 then p256Add (p256Add h h) p else p256Add h h

/-- A multiple of the base point. -/
def p256Base (k : Nat) : Nat × Nat := (p256Mul (some p256G) 256 k).getD (0, 0)

/-- The ECDSA signature over SHA-256 of `msg` by private key `d` with secret number `k`, as r and s of 32 bytes each. -/
def ecdsaSign (d k : Nat) (msg : List Byte) : List Byte :=
  let r := (p256Base k).1 % p256N
  let s := invMod p256N k * (natBE (sha256 msg) + r * d) % p256N
  bytesBE 32 r ++ bytesBE 32 s

end Sys2Proof.Machine
end

