-- ==== Sys2Proof/Machine/Operands.lean ====
section
/-! DEFINITION. The operand forms of the block: the SPI frames of the host port (R56-R60), the Vine
packet on the wire (R84-R86), and the fields of the command registers. -/

namespace Sys2Proof.Machine

/-! ### SPI frames -/

/-- RNW of an SDI frame (R56). -/
def frameRead (f : BitVec 32) : Bool := f.getLsbD 31

/-- INC of an SDI frame. -/
def frameInc (f : BitVec 32) : Bool := f.getLsbD 30

/-- ADDR of an SDI frame. -/
def frameAddr (f : BitVec 32) : Nat := bits f.toNat 29 24

/-- DATA of an SDI frame. -/
def frameData (f : BitVec 32) : Word := word (bits f.toNat 23 8)

/-- The CRC-8 that bits [31:8] of a frame call for (R57). -/
def frameCrc (f : Nat) : Nat := crc8 [bits f 31 24, bits f 23 16, bits f 15 8]

/-- The frame's CRC matches. -/
def frameCrcOk (f : BitVec 32) : Bool := frameCrc f.toNat == bits f.toNat 7 0

/-- An SDO frame: status bits, data and CRC (R60). -/
def sdoFrame (crce lost rdv pend irq win recov : Bool) (data : Word) : BitVec 32 :=
  let hi := atBit crce 31 + atBit lost 30 + atBit rdv 29 + atBit pend 28 + atBit irq 27 + atBit win 26
    + atBit recov 25 + 2 ^ 24 + data.toNat * 256
  BitVec.ofNat 32 (hi + frameCrc hi)

/-! ### Register fields -/

/-- The fields of a TXN_CTL write (R49). -/
def txnCtlOf (d : Word) : TxnCtl :=
  { tag := BitVec.ofNat 8 (bits d.toNat 15 8), bcast := d.getLsbD 7, view := d.getLsbD 6,
    kind := BitVec.ofNat 3 (bits d.toNat 5 3) }

/-- The accessed register is an anchor register (R64). -/
def isAnchor (a : Nat) : Bool :=
  decide (a ≤ 0x0B) || (decide (0x10 ≤ a) && decide (a ≤ 0x13)) || (decide (0x18 ≤ a) && decide (a ≤ 0x1B))

/-- The address is listed in R76. -/
def isListed (a : Nat) : Bool :=
  decide (a ≤ 0x16) || (decide (0x18 ≤ a) && decide (a ≤ 0x26)) || (decide (0x28 ≤ a) && decide (a ≤ 0x2A))
    || a == 0x2C || a == 0x2D || (decide (0x30 ≤ a) && decide (a ≤ 0x32)) || a == 0x34 || a == 0x35
    || a == 0x38 || a == 0x39 || a == 0x3F

/-- The register answers before ATT_STAT.UP sets: the anchors, ATT_STAT and SCRATCH (R328). -/
def answersEarly (a : Nat) : Bool := isAnchor a || a == 0x35 || a == 0x3F

/-- The register answers in ROM recovery mode: the anchors and SCRATCH (R335), and the table window
that the NVM programming tables are reached through (log entry 31). -/
def answersInRecovery (a : Nat) : Bool :=
  isAnchor a || a == 0x3F || (decide (0x0C ≤ a) && decide (a ≤ 0x0F))

/-- The register behaves as listed in the present phase. -/
def answers (s : State) (a : Nat) : Bool :=
  isListed a &&
    (match s.boot.phase with
     | .up => true
     | .recovery => answersInRecovery a
     | _ => answersEarly a)

/-! ### Vine packets -/

/-- The packet header of R84 as a 64-bit number. -/
def packetHeader (p : Packet) : Nat :=
  p.dst * 2 ^ 58 + p.src * 2 ^ 52 + p.type * 2 ^ 47 + p.cls * 2 ^ 45 + p.seq * 2 ^ 37
    + p.words.length * 2 ^ 27

/-- Header and payload bytes in the order sent. -/
def packetBody (p : Packet) : List Byte := bytesBE 8 (packetHeader p) ++ unpackWords p.words

/-- The packet's bytes on the wire, after the comma and the start group (R84). -/
def packetBytes (p : Packet) : List Byte := packetBody p ++ crc32Bytes (packetBody p)

/-- The packet's header fields, read back. -/
def packetOf (bs : List Byte) : Packet :=
  let h := natBE (bs.take 8)
  { dst := bits h 63 58, src := bits h 57 52, type := bits h 51 47, cls := bits h 46 45,
    seq := bits h 44 37, words := (packWords ((bs.drop 8).take (2 * bits h 36 27))) }

/-- The byte list has the length its LEN field calls for, and its CRC matches. -/
def packetCrcOk (bs : List Byte) : Bool :=
  let n := 8 + 2 * bits (natBE (bs.take 8)) 36 27
  decide (bs.length = n + 4) && (bs.drop n == crc32Bytes (bs.take n))

/-- The class each TYPE travels in (R85); none for a reserved TYPE. -/
def typeClass (t : Nat) : Option Nat :=
  if 0x01 ≤ t ∧ t ≤ 0x0B then some 0
  else if 0x10 ≤ t ∧ t ≤ 0x13 then some 1
  else if t = 0x18 then some 2
  else none

/-- LEN fits TYPE and variant (R85, R86). `w0` is the first payload word. -/
def lenOk (t n w0 : Nat) : Bool :=
  match t with
  | 0x01 => n == 5 | 0x02 => n == 10 | 0x03 => n == 9 | 0x04 => n == 11
  | 0x05 => n == 2 || n == 6 | 0x06 => n == 1 | 0x07 => n == 2
  | 0x08 =>
    (match bits w0 15 12 with
     | 1 => n == 6 | 2 => n == 9 | 3 => n == 1 | 4 => n == 3 | 5 => n == 9 | 6 => n == 5 | _ => false)
  | 0x09 => if bits w0 15 8 = 0x40 then n == 3 else n == 2
  | 0x0A => n == 1 | 0x0B => n == 0 | 0x10 => n == 5 | 0x11 => n == 4 | 0x12 => n == 8 | 0x13 => n == 3
  | 0x18 => decide (4 ≤ n) && decide (n ≤ 512)
  | _ => false

/-- A packet that the receiving port may take in: known TYPE, its class, its length; a REG_WR has a group mask where it
is a broadcast, and only there (R85, R86). -/
def packetFormOk (p : Packet) : Bool :=
  (typeClass p.type == some p.cls) && lenOk p.type p.words.length (nth p.words 0).toNat
    && (p.type != 0x05 || ((p.words.length == 6) == (p.dst == 63)))

/-- `n` words, most significant first (R84). -/
def wordsBE : Nat → Nat → List Word
  | 0, _ => []
  | n + 1, x => wordAt x n :: wordsBE n x

/-- The number that words spell, most significant first. -/
def natOfWords (ws : List Word) : Nat := ws.foldl (fun n w => n * 65536 + w.toNat) 0

/-- A field of payload words `i` to `i + n - 1`, most significant word first. -/
def field (ws : List Word) (i n : Nat) : Nat := natOfWords ((ws.drop i).take n)

/-- The number of 512-byte units a bulk packet uses (R89). -/
def bulkUnits (p : Packet) : Nat := ceilDiv (12 + 2 * p.words.length) 512

/-! ### Sending -/

/-- Counts a link event of port `p` in table 0x13; offsets 0 to 7 are errors and set LINKERR (R114). -/
def linkCount (p off : Nat) (s : State) : State :=
  { bump 0x13 (16 * p + off) s with vine.linkerr := true }

/-- A port of the node. -/
def portOf (s : State) (p : Nat) : Port := nth' s.vine.ports p
where
  /-- Port `p`, or a port that is down. -/
  nth' (l : List Port) (p : Nat) : Port := l.getD p {}

/-- Changes a port. -/
def setPort (p : Nat) (f : Port → Port) (s : State) : State :=
  { s with vine.ports := modifyNth f s.vine.ports p }

/-- Takes packets off a queue while `credit` covers their cost: the packets sent, those left, the
credit left. -/
def takeCredit (cost : Packet → Nat) : List Packet → Nat → List Packet × List Packet × Nat
  | [], c => ([], [], c)
  | p :: ps, c =>
    if cost p ≤ c then
      let r := takeCredit cost ps (c - cost p)
      (p :: r.1, r.2.1, r.2.2)
    else ([], p :: ps, c)

/-- Sends what a port's credits allow, in the order of R91: class 1, CREDIT, class 0, class 2; `stamp` puts in what
describes the packet at its transmission (R86). -/
def drainPort (stamp : Packet → Packet) (pt : Port) : Port :=
  if pt.up && !pt.idle then
    let r1 := takeCredit (fun _ => 1) (pt.txq.filter (fun p => p.cls == 1)) pt.credit1
    let cr := pt.txq.filter (fun p => p.type == 0x0A)
    let r0 := takeCredit (fun _ => 1) (pt.txq.filter (fun p => p.cls == 0 && p.type != 0x0A)) pt.credit0
    let r2 := takeCredit bulkUnits (pt.txq.filter (fun p => p.cls == 2)) pt.credit2
    { pt with
      sent := pt.sent ++ (r1.1 ++ cr ++ r0.1 ++ r2.1).map stamp
      txq := r1.2.1 ++ r0.2.1 ++ r2.2.1
      credit1 := r1.2.2, credit0 := r0.2.2, credit2 := r2.2.2 }
  else pt

/-- How many 1/64 TK after the present TK the K27.7 of a packet leaves on port `p`: open, but for the 420 TK that a
packet waits at a hop at most (R92, log entry 14). -/
def txDelay (s : State) (p : Nat) : Nat := Config.openValue 106 (4 * s.tk + p) % (420 * 64 + 1)

/-- The packet as it goes out on port `p`: the forwarder puts in the timestamps that describe it (R86), T1 of an
ECHO_REQ, T3 of an ECHO_RSP and ORIGIN of the root's TICK, and adds the residence time of a relayed TICK to its CORR
(R106). -/
def stampSent (s : State) (p : Nat) (pkt : Packet) : Packet :=
  let at_ := s.tick.toNat * 64 + txDelay s p
  let t := wordsBE 2 at_
  match pkt.type with
  | 0x10 =>
    (match pkt.rx with
     | none => { pkt with words := wordsBE 3 (at_ / 64) ++ pkt.words.drop 3 }
     | some r =>
       let corr := natOfWords (pkt.words.drop 3) + (s.tk * 64 + txDelay s p - r)
       { pkt with words := pkt.words.take 3 ++ wordsBE 2 corr })
  | 0x11 => { pkt with words := pkt.words.take 1 ++ t ++ pkt.words.drop 3 }
  | 0x12 => { pkt with words := pkt.words.take 5 ++ t ++ pkt.words.drop 7 }
  | _ => pkt

/-- Counts `n` packets sent by port `p` (table 0x13 offsets 10-11). -/
def countSent (p n : Nat) (s : State) : State :=
  let m := tnat32 s 0x13 (16 * p + 10) + n
  tset 0x13 (16 * p + 11) (wordAt m 1) (tset 0x13 (16 * p + 10) (wordAt m 0) s)

/-- The next SEQ for a destination and class, and the counter advanced (R87). -/
def nextSeq (dst cls : Nat) (s : State) : Nat × State :=
  let k := dst * 4 + cls
  let n := lookupD 0 s.vine.seqTx k
  (n, { s with vine.seqTx := assocSet k ((n + 1) % 256) s.vine.seqTx })

/-- A class 0 packet waits for an idle link: K28.5 goes out for at least 250 TK first, and wakes the neighbour
(R105). -/
def queueIdle (pkt : Packet) (tk : Nat) (q : Port) : Port :=
  { q with txq := q.txq ++ [pkt], burst := some (q.burst.getD tk) }

/-- A CREDIT packet goes out on port `p` at once: it needs no credit (R86, R91). On an idle link it waits as any other
class 0 packet does (R105). -/
def sendCredit (p cls : Nat) (init : Bool) (n : Nat) (s : State) : State :=
  if (portOf s p).up then
    let q := nextSeq 0 0 s
    let pkt : Packet := { dst := 0, src := s.vine.nodeId, type := 0x0A, cls := 0, seq := q.1
                          words := [word (cls * 2 ^ 14 + atBit init 8 + n)] }
    if (portOf s p).idle then setPort p (queueIdle pkt s.tk) q.2
    else countSent p 1 (setPort p (fun x => { x with sent := x.sent ++ [pkt] }) q.2)
  else s

/-- Returns the buffer of a consumed packet to the sender with a CREDIT packet (R89). -/
def creditBack (p cls n : Nat) (s : State) : State := sendCredit p cls false n s

/-- A copy of a forwarded packet has left, or was discarded: with the last one the buffer it came in is freed (R89). -/
def settleCopy (s : State) (pkt : Packet) : State :=
  match pkt.owe with
  | none => s
  | some i =>
    match s.vine.owed.find? (fun o => o.id == i) with
    | none => s
    | some o =>
      let left := s.vine.owed.filter (fun x => x.id != i)
      let s1 := { s with vine.owed := left }
      if 1 < o.copies then { s with vine.owed := { o with copies := o.copies - 1 } :: left } else
      creditBack o.port o.cls o.units
        (if o.cls = 2 then setPort o.port (fun q => { q with used2 := q.used2 - o.units }) s1 else s1)

/-- Sends what port `p` can send. -/
def drain (p : Nat) (s : State) : State :=
  let s1 := setPort p (drainPort (stampSent s p)) s
  let new := (portOf s1 p).sent.drop (portOf s p).sent.length
  new.foldl settleCopy (countSent p new.length s1)

/-- Hands a packet to port `p`: queued and sent while the port is up; discarded and counted while it is
down (R83). Into an idle link time and bulk packets are dropped uncounted, and a class 0 packet waits for the link to
come back (R105). -/
def sendOn (p : Nat) (pkt : Packet) (s : State) : State :=
  let q := portOf s p
  if (q.idle || decide (2 ≤ s.pwr.state)) && pkt.cls != 0 then settleCopy s pkt
  else if q.up && q.idle then setPort p (queueIdle pkt s.tk) s
  else if q.up then drain p (setPort p (fun q => { q with txq := q.txq ++ [pkt] }) s)
  else settleCopy (linkCount p 7 s) pkt

/-- The port toward a node, 1 to 3, or 0 when it is local or absent (R99). Before the first ROUTE the routes
learned from ASSIGN packets serve (log entry 71). -/
def routeOf (s : State) (dst : Nat) : Nat :=
  let r := s.vine.routes.getD dst 0
  if r = 0 then lookupD 0 s.vine.learned dst else r

/-- A packet can be routed to node `dst` (R99). -/
def routable (s : State) (dst : Nat) : Bool := decide (1 ≤ routeOf s dst)

/-- Sends a packet of this node to `dst` by its routing table; a packet to an absent node is refused at
its source (R99). -/
def sendTo (dst type cls : Nat) (words : List Word) (s : State) : State :=
  let r := routeOf s dst
  if r = 0 then s
  else
    let q := nextSeq dst cls s
    sendOn (r - 1) { dst := dst, src := s.vine.nodeId, type := type, cls := cls, seq := q.1,
                     words := words } q.2

/-- The SEQ that the next packet to `dst` in class `cls` will carry (R87). -/
def seqOf (dst cls : Nat) (s : State) : Nat := lookupD 0 s.vine.seqTx (dst * 4 + cls)

/-- Sends the REG_RSP that answers a request: it returns the request's SEQ (R87, R111). -/
def respondTo (dst seq : Nat) (words : List Word) (s : State) : State :=
  let r := routeOf s dst
  if r = 0 then s
  else sendOn (r - 1) { dst := dst, src := s.vine.nodeId, type := 0x07, cls := 0, seq := seq, words := words } s

/-- Bit `p` of the tree ports. -/
def onTree (s : State) (p : Nat) : Bool := s.vine.treePorts.testBit p

/-- Sends a packet on every tree port but `except`. -/
def sendTree (except : Option Nat) (pkt : Packet) (s : State) : State :=
  [0, 1, 2].foldl (fun st p => if onTree s p && decide (some p ≠ except) then sendOn p pkt st else st) s

/-- Broadcasts a packet of this node over the tree (R101). -/
def broadcast (type cls : Nat) (words : List Word) (s : State) : State :=
  let q := nextSeq 63 cls s
  sendTree none { dst := 63, src := s.vine.nodeId, type := type, cls := cls, seq := q.1, words := words } q.2

/-- Sends an EVENT to the root (R86). -/
def sendEvent (code arg : Nat) (rest : List Word) (s : State) : State :=
  sendTo 1 0x09 0 (word (code * 256 + arg) :: rest) s

/-- Mask `g` of table 0x12; mask 0 holds every addressed node (R116). -/
def groupMask (s : State) (g : Nat) : Nat :=
  if g = 0 then
    (if isRoot s then s.vine.dir.foldl (fun m e => m ||| 2 ^ e.node) 2
     else (List.range 63).foldl (fun m n => if routeOf s n ≠ 0 ∨ n = s.vine.nodeId ∧ n ≠ 0 then m ||| 2 ^ n else m) 0)
  else (tnat32 s 0x12 (4 * g) + tnat32 s 0x12 (4 * g + 2) * 2 ^ 32) &&& (2 ^ 63 - 2)

/-- A packet that the root originated has arrived (R41). -/
def heardFrom (src : Nat) (s : State) : State := if src = 1 then { s with txn.lastFromRoot := s.tk } else s

/-- A packet of class 0 or 1 has been taken in from port `p`: it is counted and its credit returned (R89,
R116). -/
def portArrived (p cls src : Nat) (s : State) : State :=
  heardFrom src (creditBack p cls 1 (bump32 0x13 (16 * p + 8) s))

/-- A packet from node `src` to `dst` has been taken in, on the port toward that node. The count and the credit of a
broadcast are its PACKET_FORWARD's, since its buffer may be owed to copies (R89, log entry 72). -/
def arrived (dst cls src : Nat) (s : State) : State :=
  if dst = 63 ∨ routeOf s src = 0 then heardFrom src s else portArrived (routeOf s src - 1) cls src s

/-- The forwarder runs: VLNK is powered and clocked, and the node is in RUN or REST (R95, R105). -/
def vineOn (s : State) : Bool := decide (s.pwr.state ≤ 1) && s.boot.phase != .supplies && s.boot.phase != .pll

/-- This node is the one that a destination names. -/
def isNode (s : State) (dst : Nat) : Bool := s.vine.nodeId != 0 && dst == s.vine.nodeId

/-- A unicast packet of class 0 from node `src` for this node is taken in; `f` is what a clocked core does with it. -/
def takeUnicast (dst src : Nat) (f : State → State) (s : State) : State :=
  if vineOn s && isNode s dst then
    let s1 := arrived dst 0 src s
    if clocked s then f s1 else s1
  else s

/-- A packet of class 0 for the root. -/
def takeAtRoot (src : Nat) (f : State → State) (s : State) : State :=
  if isRoot s then takeUnicast 1 src f s else s

end Sys2Proof.Machine
end

