-- ==== Sys2Proof/Machine/Position.lean ====
section
/-! DEFINITION. The eight position channels (R117-R137): quadrature, Hall and SSI decoding, soft limits,
velocity, rehome and the index check's comparison. -/

namespace Sys2Proof.Machine

/-- Channel `c`. -/
def encOf (s : State) (c : Nat) : Enc := s.enc.getD c {}

/-- Changes channel `c`. -/
def setEnc (c : Nat) (f : Enc → Enc) (s : State) : State := { s with enc := modifyNth f s.enc c }

/-- ENC_CFG of channel `c`. -/
def encCfg (s : State) (c : Nat) : Nat := tnat s 0xA0 (16 * c)
/-- MODE: 0 quadrature, 1 Hall, 2 SSI. -/
def encMode (s : State) (c : Nat) : Nat := bits (encCfg s c) 15 14
/-- REV. -/
def encRev (s : State) (c : Nat) : Bool := bit (encCfg s c) 12
/-- FILT, in TK. -/
def encFilt (s : State) (c : Nat) : Nat := bits (encCfg s c) 7 4

/-- Every input the mode uses has a known level (R122): A, B and Z; of an SSI channel only B. -/
def encKnown (s : State) (c : Nat) : Bool :=
  let e := encOf s c
  if encMode s c = 2 then e.levelB.isSome
  else e.levelA.isSome && e.levelB.isSome && e.levelZ.isSome

/-- ENC_STAT.ACTIVE. -/
def encActive (s : State) (c : Nat) : Bool := (encOf s c).en && encKnown s c

/-- Records error `code` of channel `c` (R136). -/
def encErr (c code : Nat) (s : State) : State := recErr 0x04 (c * 32 + code) s

/-- The soft limits in force: the 32-bit limits when both words are 0 (R127). -/
def softLimits (s : State) (c : Nat) : Int × Int :=
  let lo := tint32 s 0xA0 (16 * c + 4)
  let hi := tint32 s 0xA0 (16 * c + 6)
  if lo = 0 ∧ hi = 0 then (-2147483648, 2147483647) else (lo, hi)

/-- Stores the count `m` where `n` was asked for; a saturation sets HELD, and is recorded when HELD sets
(R127, R136). -/
def putCount (c : Nat) (n m : Int) (s : State) : State :=
  if m = n then setEnc c (fun e => { e with count := m }) s
  else
    let s1 := setEnc c (fun e => { e with count := m, held := true, broken := true }) s
    if (encOf s c).held then s1 else encErr c 9 s1

/-- Loads a count, saturated at the soft limits (R127, R128). -/
def loadCount (c : Nat) (n : Int) (s : State) : State :=
  putCount c n (clampInt n (softLimits s c).1 (softLimits s c).2) s

/-- A step of `d`: it stops at the limit it would pass; a count beyond a limit that a decant has moved counts back
freely (R127). -/
def stepCount (c : Nat) (d : Int) (s : State) : State :=
  let n := (encOf s c).count + d
  putCount c n (if 0 < d then min n (softLimits s c).2 else max n (softLimits s c).1) s

/-- ENC_VEL in counts per second (R125). SSI: the change over the good frames kept, divided by the readout periods
between them. After a decant that changes MODE to or from SSI the estimate of before stands (R119) until the new mode
has one. The rounding of the quotient is open (log entry 13). -/
def encVel (s : State) (c : Nat) : Int :=
  let e := encOf s c
  let el := s.tk - e.lastCount
  if !e.en then e.velFrozen
  else if e.velHeld.isSome then (if 16777216 < el ∨ e.velZero then 0 else e.velHeld.getD 0)
  else if encMode s c = 2 then
    let n := e.ssiGood.length - 1
    divOpen 1251 (((e.ssiGood.getD 0 (0, 0)).1 - (e.ssiGood.getD n (0, 0)).1) * 1000000)
      ((e.ssiGood.take n).foldl (fun a x => a + x.2) 0)
  else
    let k := e.intervals.length
    let t := e.intervals.foldl (· + ·) 0
    if k = 0 ∨ 16777216 < el ∨ e.velZero then 0
    else
      let q : Int := k * 250000000
      divOpen 125 (if e.down then -q else q) (max t (k * el))

/-- An edge is accepted; one less than 10 TK after the last sets OVERSPEED (R124). -/
def edgeNoted (c : Nat) (s : State) : State :=
  let s1 := setEnc c (fun e => { e with lastEdge := some s.tk }) s
  if (encOf s c).lastEdge.any (fun t => decide (s.tk - t < 10)) then
    encErr c 3 (bump 0xA3 (8 * c + 3) (setEnc c (fun e => { e with overspeed := true }) s1))
  else s1

/-- The channel counts by `d` (R123, R125-R127, R130): direction, interval list, saturation. -/
def countBy (c : Nat) (d : Int) (s : State) : State :=
  let e := encOf s c
  let down := decide (d < 0)
  let reversed := e.counted && (e.down != down)
  let iv := s.tk - e.lastCount
  let ivs := if !e.counted || reversed then [] else (iv :: e.intervals).take 4
  stepCount c d (setEnc c (fun e => { e with
    down := down, counted := true, velZero := false, lastCount := s.tk, intervals := ivs,
    velHeld := if ivs.isEmpty then e.velHeld else none, broken := e.broken || reversed }) s)

/-- The sign of a step under ENC_CFG.REV. -/
def revSign (s : State) (c : Nat) (up : Bool) : Int := if up != encRev s c then 1 else -1

/-- A filtered A or B edge (R123), or both lines at once (R126). -/
def quadStep (c : Nat) (a b : Bool) (s : State) : State :=
  let e := encOf s c
  let ca := e.levelA != some a
  let cb := e.levelB != some b
  let s0 := if ca || cb then edgeNoted c s else s
  let s1 := setEnc c (fun e => { e with levelA := some a, levelB := some b }) s0
  if ca && cb then
    let v := encVel s c
    let s2 := encErr c 2 (bump 0xA3 (8 * c + 1) s1)
    if bit (encCfg s c) 13 && decide (v ≠ 0) && decide (tnat s 0xA0 (16 * c + 8) * 1000 ≤ v.natAbs) then
      countBy c (if v < 0 then -2 else 2)
        (bump 0xA3 (8 * c + 2) (setEnc c (fun e => { e with inferred := true }) s2))
    else setEnc c (fun e => { e with uncertain := true }) s2
  else if ca then countBy c (revSign s c (a != b)) s1
  else if cb then countBy c (revSign s c (a == b)) s1
  else s1

/-- The A/B condition of ENC_CFG.ZGATE holds (R129). -/
def zgateHolds (s : State) (c : Nat) : Bool :=
  let e := encOf s c
  match bits (encCfg s c) 9 8 with
  | 0 => true
  | 1 => e.levelA == some true && e.levelB == some true
  | 2 => e.levelA == some false && e.levelB == some false
  | _ => false

/-- Filtered Z is at its active level and the A/B condition holds (R129). -/
def indexOn (s : State) (c : Nat) : Bool :=
  (encOf s c).levelZ == some (!bit (encCfg s c) 10) && zgateHolds s c

/-- The samples of A and B of the present TK: a line whose level has been held long enough changes its filtered level,
and the decoder sees it (R121, R123, R126). An index condition that no longer holds ends. -/
def quadSample (c : Nat) (a b : Bool) (s : State) : State :=
  let e := encOf s c
  let s1 := setEnc c (fun e => { e with smpA := smpPut a e.smpA, smpB := smpPut b e.smpB }) s
  let fa := smpLevel (encFilt s c) e.levelA (smpPut a e.smpA)
  let fb := smpLevel (encFilt s c) e.levelB (smpPut b e.smpB)
  let s2 := quadStep c (fa.getD false) (fb.getD false) s1
  setEnc c (fun e => { e with idxOn := e.idxOn && indexOn s2 c }) s2

/-- The forward sequence of Hall codes (R130); 6 for an illegal code. -/
def hallPlace (code : Nat) : Nat :=
  match code with
  | 4 => 0 | 6 => 1 | 2 => 2 | 3 => 3 | 1 => 4 | 5 => 5 | _ => 6

/-- An illegal Hall code (R131). -/
def hallIllegal (c : Nat) (s : State) : State :=
  encErr c 4 (bump 0xA3 (8 * c + 4) (setEnc c (fun e => { e with hallbad := true }) s))

/-- A change of the Hall code (R130, R131). The legal code that follows an illegal one is a skip unless it is adjacent to
the last legal code, so also where it is that code itself. -/
def hallStep (c : Nat) (code : BitVec 3) (s : State) : State :=
  let e := encOf s c
  let n := code.toNat
  let s1 := setEnc c (fun e => { e with
    rawpos := n, levelA := some (code.getLsbD 2), levelB := some (code.getLsbD 1), levelZ := some (code.getLsbD 0) }) s
  if e.rawpos = n then s1
  else if hallPlace n = 6 then hallIllegal c s1
  else
    let s2 := setEnc c (fun e => { e with hallLast := some n }) s1
    match e.hallLast with
    | none => s2
    | some l =>
      let d := (hallPlace n + 6 - hallPlace l) % 6
      if d = 1 then countBy c (revSign s c true) s2
      else if d = 5 then countBy c (revSign s c false) s2
      else encErr c 5 (bump 0xA3 (8 * c + 1)
        (setEnc c (fun e => { e with hallskip := true, uncertain := true }) s2))

/-- The samples of U, V and W of the present TK: the filtered code, and the step it makes (R121, R130). -/
def hallSample (c : Nat) (code : BitVec 3) (s : State) : State :=
  let e := encOf s c
  let f := encFilt s c
  let a := smpPut (code.getLsbD 2) e.smpA
  let b := smpPut (code.getLsbD 1) e.smpB
  let z := smpPut (code.getLsbD 0) e.smpZ
  let n := atBit (smpLevel f e.levelA a == some true) 2 + atBit (smpLevel f e.levelB b == some true) 1
    + atBit (smpLevel f e.levelZ z == some true) 0
  hallStep c (BitVec.ofNat 3 n) (setEnc c (fun e => { e with smpA := a, smpB := b, smpZ := z }) s)

/-- The readout period of an SSI channel, in TK. -/
def ssiPeriodTk (s : State) (c : Nat) : Nat := usTk (tnat s 0xA2 (16 * c + 9))

/-- The channel has become active (R122): the first known levels set the decoder state and count nothing; a first Hall
code may be illegal (R131); an index condition that holds already is no event; an SSI channel's first frame starts one
period later (R132). -/
def encStarts (c : Nat) (s : State) : State :=
  let e := encOf s c
  let code := atBit (e.levelA == some true) 2 + atBit (e.levelB == some true) 1 + atBit (e.levelZ == some true) 0
  let s1 := setEnc c (fun e => { e with
    hallLast := if encMode s c = 1 ∧ hallPlace code ≠ 6 then some code else e.hallLast
    rawpos := if encMode s c = 1 then (code : Int) else e.rawpos
    idxOn := indexOn s c, ssiNext := s.tk + ssiPeriodTk s c }) s
  if encMode s c = 1 ∧ hallPlace code = 6 then hallIllegal c s1 else s1

/-- The present TK's sample of an input whose level is not yet known: its level is known once it has held one for the
larger of FILT + 1 and 4 samples (R122). A known level changes by an edge only. -/
def levelKnown (c pin : Nat) (level : Bool) (s : State) : State :=
  let first (known : Option Bool) (x : Sampler) : Option Bool :=
    match known with
    | some b => some b
    | none => smpFirst (encFilt s c) x
  let s1 := setEnc c (fun e =>
    if pin = 0 then { e with smpA := smpPut level e.smpA, levelA := first e.levelA (smpPut level e.smpA) }
    else if pin = 1 then { e with smpB := smpPut level e.smpB, levelB := first e.levelB (smpPut level e.smpB) }
    else { e with smpZ := smpPut level e.smpZ, levelZ := first e.levelZ (smpPut level e.smpZ) }) s
  if !encActive s c && encActive s1 c then encStarts c s1 else s1

/-- One TK's samples of the inputs of every enabled channel (R121). -/
def sampleEnc (s : State) : State :=
  { s with enc := s.enc.map (fun e =>
      if e.en then { e with smpA := smpTick e.smpA, smpB := smpTick e.smpB, smpZ := smpTick e.smpZ } else e) }

/-- Channel `c` is the source of the grid (R138). -/
def isGridSource (s : State) (c : Nat) : Bool :=
  bits (tnat s 0xA6 0) 15 14 == 1 && bits (tnat s 0xA6 0) 13 11 == c

/-- The grid loses LOCK (R142): acquisition starts again with an empty list, and a region that only
counts could close ends with it (log entry 36). -/
def gridUnlock (s : State) : State :=
  { s with grid.lock := false, grid.intervals := [],
           grid.openRegion := match s.grid.openRegion with
             | some r => if r.relay then some r else none
             | none => none }

/-- Channel `c` is no longer active: a grid it feeds loses LOCK (R139, R142). -/
def gridInactive (c : Nat) (s : State) : State :=
  if isGridSource s c then gridUnlock { s with grid.lastStamp := none } else s

/-- The input state restarts: on enable and on a decant that changes MODE or FILT (R122). -/
def encRestart (c : Nat) (s : State) : State :=
  gridInactive c (setEnc c (fun e => { e with
    levelA := none, levelB := none, levelZ := none, hallLast := none, ssiBusy := false, lastEdge := none
    idxOn := false, smpA := smpNew e.smpA, smpB := smpNew e.smpB, smpZ := smpNew e.smpZ }) s)

/-- A decant has changed MODE or FILT (R119, R122): the input state restarts. Where SSI begins or ends, the estimate `v`
of before stands until the new mode has one of its own. -/
def encModeDecant (old : State) (c : Nat) (s : State) : State :=
  let e := encOf s c
  let ssi := e.en && (encMode old c == 2) != (encMode s c == 2)
  encRestart c (if ssi then setEnc c (fun e => { e with
    velHeld := some (encVel old c), velZero := false, lastCount := s.tk, counted := false, intervals := [], ssiGood := [] }) s
    else s)

/-- ENC_CTL.EN is set (R118, R122, R125). -/
def encEnableOp (c : Nat) (s : State) : State :=
  if (encOf s c).en then s
  else encRestart c (setEnc c (fun e => { e with
    en := true, counted := false, intervals := [], ssiGood := [], stale := true, velHeld := none
    prevIndex := none, broken := false }) s)

/-- ENC_CTL.EN is cleared (R120): count, velocity and flags keep their values. -/
def encDisableOp (c : Nat) (s : State) : State :=
  if (encOf s c).en then
    let v := encVel s c
    gridInactive c (setEnc c (fun e => { e with en := false, velFrozen := v, ssiBusy := false }) s)
  else s

/-- A count write or rehome of the grid's source sets GRID_OFS to 0 (R148); it is no count. -/
def clearGridOfs (c : Nat) (s : State) : State :=
  if isGridSource s c then { s with grid.ofs := 0, grid.lastG := (encOf s c).count } else s

/-- A write to word 3 of table 0xA1 loads the staged low half and this upper half (R128, R133). -/
def countWriteOp (c : Nat) (hi : Word) (s : State) : State :=
  let n := signed 32 (hi.toNat * 65536 + (encOf s c).stageLo.toNat)
  let s1 := setEnc c (fun e => { e with held := false, broken := true }) s
  let s2 := if encMode s c = 2 then
      setEnc c (fun e => { e with ssiOffset := n - e.rawpos }) s1 else s1
  clearGridOfs c (loadCount c n s2)

/-- The index check of channel `c` is on: IDXCHK with ENC_LINES not 0 (R129). -/
def indexChecked (s : State) (c : Nat) : Bool := bit (encCfg s c) 11 && decide (tnat32 s 0xA0 (16 * c + 2) ≠ 0)

/-- The comparison of R129 at an index event: none where it is not made, else whether it mismatched. -/
def indexVerdict (s : State) (c : Nat) : Option Bool :=
  let e := encOf s c
  let lines := tnat32 s 0xA0 (16 * c + 2)
  match e.prevIndex with
  | none => none
  | some p =>
    if indexChecked s c && !e.broken then
      let d := (e.count - p).natAbs
      let miss := if d ≤ 4 * lines then 4 * lines - d else d - 4 * lines
      some (decide (tnat s 0xA0 (16 * c + 1) < miss))
    else none

/-- The channel's side of an index event (R128, R129): LASTREV and the comparison in the coordinates before a
rehome, then the rehome (log entry 32). -/
def indexStep (c : Nat) (s : State) : State :=
  let e := encOf s c
  let s1 := match e.prevIndex with
    | none => s
    | some p => if indexChecked s c then setEnc c (fun e => { e with lastRev := e.count - p }) s else s
  let s2 := if indexVerdict s c = some true then
      encErr c 1 (bump 0xA3 (8 * c) (setEnc c (fun e => { e with idx := true }) s1)) else s1
  let s3 := if e.rehomeArmed then
      clearGridOfs c (loadCount c (tint32 s 0xA0 (16 * c + 9))
        (setEnc c (fun e => { e with rehomeArmed := false, held := false, uncertain := false }) s2))
    else s2
  setEnc c (fun e => { e with prevIndex := some e.count, broken := false }) s3

/-! ### SSI -/

/-- A fault of an SSI frame: its flag, its counter, its error; the frame is discarded and the channel is
STALE (R132 step 6). -/
def ssiFault (c : Nat) (crc err mono : Bool) (s : State) : State :=
  let s1 := setEnc c (fun e => { e with
    stale := true, ssicrc := e.ssicrc || crc, ssierr := e.ssierr || err, ssimono := e.ssimono || mono, ssiBusy := false }) s
  let s2 := if crc then encErr c 6 (bump 0xA3 (8 * c + 5) s1) else s1
  let s3 := if err then encErr c 7 (bump 0xA3 (8 * c + 6) s2) else s2
  if mono then encErr c 8 (bump 0xA3 (8 * c + 7) s3) else s3

/-- The number that bits `i` to `i + n - 1` of a frame spell, first bit most significant. -/
def frameField (fr : List Bool) (i n : Nat) : Nat :=
  ((fr.drop i).take n).foldl (fun x b => x * 2 + (if b then 1 else 0)) 0

/-- Gray code to binary. -/
def grayDecode (n : Nat) : Nat :=
  (List.range 6).foldl (fun x i => x ^^^ (x >>> 2 ^ i)) n

/-- The CRC over every bit before the CRC field, as the pseudocode of R133 has it: the polynomial is not masked. -/
def ssiCrc (poly init len : Nat) (fr : List Bool) : Nat :=
  fr.foldl (fun c b =>
    let fb := b != c.testBit (len - 1)
    let c2 := (c * 2) % 2 ^ len
    if fb then c2 ^^^ poly else c2) (init % 2 ^ len)

/-- The CRC of a frame does not match (R133). -/
def ssiCrcBad (s : State) (c : Nat) (fr : List Bool) : Bool :=
  let f := tnat s 0xA2 (16 * c)
  let w := tnat s 0xA2 (16 * c + 3)
  let len := bits w 12 8
  let msb := bits w 5 0
  let r := frameField fr msb len
  let r2 := if bit f 4 then 2 ^ len - 1 - r else r
  bit f 5 && decide (r2 ≠ ssiCrc (tnat s 0xA2 (16 * c + 4)) (tnat s 0xA2 (16 * c + 5)) len (fr.take msb))

/-- The error bit of a frame is asserted (R133). -/
def ssiErrBad (s : State) (c : Nat) (fr : List Bool) : Bool :=
  let f := tnat s 0xA2 (16 * c)
  bit f 7 && (fr.getD (bits (tnat s 0xA2 (16 * c + 2)) 5 0) false == bit f 6)

/-- The position a frame carries (R133). -/
def ssiPosition (s : State) (c : Nat) (fr : List Bool) : Int :=
  let f := tnat s 0xA2 (16 * c)
  let w := tnat s 0xA2 (16 * c + 1)
  let n := bits w 5 0
  let raw := frameField fr (bits w 13 8) n
  let p := if bit f 9 then grayDecode raw else raw
  if bit f 8 then signed n p else (p : Int)

/-- A readout period elapses (R132 steps 1 and 2). -/
def ssiStart (c : Nat) (dataHigh : Bool) (s : State) : State :=
  let s1 := setEnc c (fun e => { e with ssiFrom := e.ssiNext, ssiNext := e.ssiNext + ssiPeriodTk s c }) s
  if dataHigh then setEnc c (fun e => { e with ssiBusy := true }) s1
  else ssiFault c false false true s1

/-- LEN of an SSI channel. -/
def ssiLen (s : State) (c : Nat) : Nat := bits (tnat s 0xA2 (16 * c)) 15 10

/-- The clock period of an SSI channel, in TK. -/
def ssiClkper (s : State) (c : Nat) : Nat := tnat s 0xA2 (16 * c + 6)

/-- The level of ENCn_B `x` TK into a frame, where `line` lists its runs from the start of the frame on; it keeps the
last run's level. -/
def lineAt : List (Nat × Bool) → Nat → Bool
  | [], _ => false
  | [(_, b)], _ => b
  | (d, b) :: l, x => if x < d then b else lineAt l (x - d)

/-- The bits of a frame (R132 step 3): bit i is sampled SSI_SDELAY TK after falling edge i + 2. -/
def ssiBits (s : State) (c : Nat) (line : List (Nat × Bool)) : List Bool :=
  (List.range (ssiLen s c)).map (fun i => lineAt line ((i + 1) * ssiClkper s c + tnat s 0xA2 (16 * c + 7)))

/-- The last rising edge of the clock, in TK from the start of a frame (R132 step 2). -/
def ssiLastRise (s : State) (c : Nat) : Nat := ssiLen s c * ssiClkper s c + (ssiClkper s c + 1) / 2

/-- The first TK from `x` on at which a line is high, `x` itself counted; none where it never is. -/
def lineHigh : List (Nat × Bool) → Nat → Option Nat
  | [], _ => none
  | [(_, b)], x => if b then some x else none
  | (d, b) :: l, x =>
    if x < d then (if b then some x else (lineHigh l 0).map (fun y => d + y))
    else (lineHigh l (x - d)).map (fun y => d + y)

/-- The TK of the frame at which the monoflop check ends, and whether it has passed (R132 step 4): ENCn_B is low at the
first sample after the last rising edge, and high within SSI_MONO µs of it. -/
def ssiMonoflop (s : State) (c : Nat) (line : List (Nat × Bool)) : Nat × Bool :=
  let r := ssiLastRise s c
  let limit := r + usTk (tnat s 0xA2 (16 * c + 8))
  if lineAt line (r + 1) then (r + 1, false)
  else match lineHigh line (r + 1) with
    | some x => if x ≤ limit then (x, true) else (limit, false)
    | none => (limit, false)

/-- The TK at which step 4 of a frame is complete and its last bit sampled (R132). -/
def ssiEndTk (s : State) (c : Nat) (line : List (Nat × Bool)) : Nat :=
  (encOf s c).ssiFrom + max (ssiMonoflop s c line).1 (ssiLen s c * ssiClkper s c + tnat s 0xA2 (16 * c + 7))

/-- A frame has been received (R132 steps 5 and 6, R133). -/
def ssiEnd (c : Nat) (fr : List Bool) (monoOk : Bool) (s : State) : State :=
  let crc := ssiCrcBad s c fr
  let err := ssiErrBad s c fr
  if crc || err || !monoOk then ssiFault c crc err (!monoOk) s
  else
    let p := ssiPosition s c fr
    let e := encOf s c
    let n := p + e.ssiOffset
    loadCount c n (setEnc c (fun e => { e with
      stale := false, ssiBusy := false, rawpos := p, lastCount := s.tk
      ssiGood := ((p, tnat s 0xA2 (16 * c + 9)) :: e.ssiGood).take 5
      velHeld := if e.ssiGood.isEmpty then e.velHeld else none
      down := if n = e.count then e.down else decide (n < e.count) }) s)

/-! ### ENC_CTL -/

/-- An operation of ENC_CTL: EN set, EN clear, REHOME set, REHOME clear (R118, R120, R128). -/
def encOp (op c : Nat) (s : State) : State :=
  match op with
  | 0 => encEnableOp c s
  | 1 => encDisableOp c s
  | 2 => setEnc c (fun e => { e with rehomeArmed := true }) s
  | _ => setEnc c (fun e => { e with rehomeArmed := false }) s

/-- The operation as written, which a power entry holds (R359). -/
def encWrite (op c : Nat) (s : State) : State := if entryHolds s then holdCmd (.enc op c) s else encOp op c s

/-! ### Meanings -/

/-- ENC_ENABLE (R118): a write to ENC_CTL that sets EN. -/
def execEncEnable (ch : Fin 8) (s : State) : Out :=
  .next (if clocked s then routedOp (.enc 0 ch.val) (encWrite 0 ch.val) s else s)

/-- ENC_DISABLE (R120). -/
def execEncDisable (ch : Fin 8) (s : State) : Out :=
  .next (if clocked s then routedOp (.enc 1 ch.val) (encWrite 1 ch.val) s else s)

/-- REHOME (R128): arms the load at the next index event. -/
def execRehome (ch : Fin 8) (s : State) : Out :=
  .next (if clocked s then routedOp (.enc 2 ch.val) (encWrite 2 ch.val) s else s)

/-- ENC_LEVEL_KNOWN (R122): the present sample of an input (log entry 152). -/
def execEncLevelKnown (ch : Fin 8) (pin : Fin 3) (level : Bool) (s : State) : Out :=
  .next (if clocked s && (encOf s ch.val).en then levelKnown ch.val pin.val level s else s)

/-- QUAD_EDGE (R121, R123, R126): the present samples of A and B; no edge is reported before the levels are known
(R122). -/
def execQuadEdge (ch : Fin 8) (a b : Bool) (s : State) : Out :=
  .next (if clocked s && encActive s ch.val && encMode s ch.val == 0 then quadSample ch.val a b s else s)

/-- ENC_VEL_TIMEOUT (R125): the estimate is 0 until the next count. -/
def execEncVelTimeout (ch : Fin 8) (s : State) : Out :=
  .next (if clocked s && (encOf s ch.val).en && decide (16777216 < s.tk - (encOf s ch.val).lastCount) then
    setEnc ch.val (fun e => { e with velZero := true }) s else s)

/-- HALL_CODE_CHANGE (R121, R130, R131): the present samples of U, V and W. -/
def execHallCodeChange (ch : Fin 8) (code : BitVec 3) (s : State) : Out :=
  .next (if clocked s && encActive s ch.val && encMode s ch.val == 1 then hallSample ch.val code s else s)

/-- SSI_FRAME_START (R132). -/
def execSsiFrameStart (ch : Fin 8) (dataHigh : Bool) (s : State) : Out :=
  .next (if clocked s && encActive s ch.val && encMode s ch.val == 2
      && decide ((encOf s ch.val).ssiNext ≤ s.tk) then ssiStart ch.val dataHigh s else s)

/-- SSI_FRAME_END (R132, R133): the levels that ENCn_B has shown since the frame started, as runs of TK,
and the one it has shown since them; it comes no
earlier than step 4 completes. -/
def execSsiFrameEnd (ch : Fin 8) (line : List (Nat × Bool)) (rest : Bool) (s : State) : Out :=
  let l := line ++ [(0, rest)]
  .next (if clocked s && (encOf s ch.val).ssiBusy && encMode s ch.val == 2 && decide (ssiEndTk s ch.val l ≤ s.tk) then
    ssiEnd ch.val (ssiBits s ch.val l) (ssiMonoflop s ch.val l).2 s else s)

/-- COUNT_WRITE (R128). -/
def execCountWrite (ch : Fin 8) (hi : Word) (s : State) : Out :=
  .next (if clocked s then routedOp (.tbl 0xA1 (16 * ch.val + 3) hi) (countWriteOp ch.val hi) s else s)

end Sys2Proof.Machine
end

