-- ==== Sys2Proof/Machine/Motion.lean ====
section
/-! DEFINITION. Motion profiles and axis drive (R249-R273): planning, position in flight, cams, the print
axis and its permits, brakes, supply faults and the bridge duties. Positions are in 2^-32 microstep,
velocities in 2^-32 microstep/s, times inside a plan in 2^-16 TK. -/

namespace Sys2Proof.Machine

/-- Axis `n`. -/
def axisOf (s : State) (n : Nat) : Axis := s.mot.axes.getD n {}

/-- Changes axis `n`. -/
def setAxis (n : Nat) (f : Axis → Axis) (s : State) : State :=
  { s with mot.axes := modifyNth f s.mot.axes n }

/-- A word of table 0x60 of axis `n`. -/
def axW (s : State) (n off : Nat) : Nat := tnat s 0x60 (32 * n + off)
/-- A 32-bit value of table 0x60 of axis `n`. -/
def axW32 (s : State) (n off : Nat) : Nat := tnat32 s 0x60 (32 * n + off)
/-- BRKAUTO. -/
def brkAuto (s : State) (n : Nat) : Bool := bit (axW s n 0) 14

/-- A fraction unit of position and velocity. -/
def fx : Int := 4294967296
/-- Plan time units per second: 250,000,000 TK of 65,536 units. -/
def fTime : Nat := 250000000 * 65536

/-- Records error `code` of the motion block and raises MOT (R252, R271). -/
def motErr (code : Nat) (s : State) : State := raise irqMot (recErr 0x09 code s)

/-- A refused command (R252). -/
def motRefuse (n code : Nat) (s : State) : State :=
  motErr code (setAxis n (fun a => { a with refused := true }) s)

/-! ### Position in flight -/

/-- A state of motion: position, velocity, acceleration, each in 2^-32 of its unit. -/
structure Kin where
  x : Int
  v : Int
  a : Int
  deriving DecidableEq, Repr

/-- The state `t` plan time units into a piece of constant jerk; how the last bit of each is rounded is
open (log entry 13). -/
def segAt (g : Seg) (t : Nat) : Kin :=
  { x := g.x + divOpen 2501 (6 * g.v * fTime ^ 2 * t + 3 * g.a * fTime * t ^ 2 + g.j * t ^ 3) (6 * fTime ^ 3)
    v := g.v + divOpen 2502 (2 * g.a * fTime * t + g.j * t ^ 2) (2 * fTime ^ 2)
    a := g.a + divOpen 2503 (g.j * t) fTime }

/-- The length of a plan in plan time units. -/
def segsDur (gs : List Seg) : Nat := gs.foldl (fun n g => n + g.dur) 0

/-- The state `t` plan time units into a list of pieces; after the last one the end velocity is held. -/
def segsAt (endX endV : Int) : List Seg → Nat → Kin
  | [], t => { x := endX + divOpen 2501 (endV * t) fTime, v := endV, a := 0 }
  | g :: gs, t => if t < g.dur then segAt g t else segsAt endX endV gs (t - g.dur)

/-- The state of a plan at TK `tk`. -/
def planAt (p : Plan) (tk : Nat) : Kin := segsAt p.endX p.endV p.segs ((tk - p.t0) * 65536)

/-- Point `i` of cam table `t` (R273). -/
def camPoint (s : State) (t i : Nat) : Int := tint32 s 0x62 (2048 * t + 2 * i)

/-- MSPAN of cam `t`. -/
def camSpan (s : State) (t : Nat) : Int := tint32 s 0x63 (4 * t + 1)

/-- The slave position of a cam whose master stands at `mx` (R264). -/
def camX (s : State) (c : Cam) (mx : Int) : Int :=
  let span := camSpan s c.table * fx
  let m := mx - c.morigin
  let cyclic := bit (tnat s 0x63 (4 * c.table)) 15
  let turns := if cyclic && decide (0 < span) then m / span else 0
  let ph := if cyclic then m - turns * span else clampInt m 0 span
  let so := c.sorigin + turns * (camPoint s c.table 1023 - camPoint s c.table 0) * fx
  let i := min ((ph * 1023 / span).toNat) 1022
  let p0 := camPoint s c.table i
  let p1 := camPoint s c.table (i + 1)
  so + p0 * fx + divOpen 2641 ((p1 - p0) * (ph * 1023 - i * span) * fx) span.toNat

/-- The motion of an engaged slave: its position, and the master's motion times the slope of the cam where it
stands; outside the span of a non-cyclic cam it rests (R264). -/
def camKin (s : State) (c : Cam) (mk : Kin) : Kin :=
  let span := camSpan s c.table * fx
  let m := mk.x - c.morigin
  let cyclic := bit (tnat s 0x63 (4 * c.table)) 15
  let ph := if cyclic && decide (0 < span) then m % span else m
  let i := min ((ph * 1023 / span).toNat) 1022
  let slope (r : Int) : Int :=
    divOpen 2642 ((camPoint s c.table (i + 1) - camPoint s c.table i) * 1023 * r) (camSpan s c.table).toNat
  if 0 ≤ ph ∧ ph < span then { x := camX s c mk.x, v := slope mk.v, a := slope mk.a }
  else { x := camX s c mk.x, v := 0, a := 0 }

/-- The commanded position never wraps: it is clamped at the ends of 32 bits (R250). -/
def clampPos (k : Kin) : Kin := { k with x := clampInt k.x (-2147483648 * fx) (2147483647 * fx) }

/-- The commanded state of axis `n` at TK `tk`, through at most `f` cams one behind the other; the motion of an
encoder master is its count and ENC_VEL (R264). -/
def axisKinVia (s : State) : Nat → Nat → Nat → Kin
  | 0, n, _ => { x := (axisOf s n).x, v := (axisOf s n).v, a := 0 }
  | f + 1, n, tk =>
    let a := axisOf s n
    match a.cam with
    | some c =>
      clampPos (camKin s c (if c.encoder then { x := (encOf s c.unit).count * fx, v := encVel s c.unit * fx, a := 0 }
        else axisKinVia s f c.unit tk))
    | none =>
      match a.plan with
      | some p => clampPos (planAt p tk)
      | none => { x := a.x, v := a.v, a := 0 }

/-- The commanded state of axis `n` at TK `tk`; eight axes make no longer chain of cams (log entry 129). -/
def axisKin (s : State) (n tk : Nat) : Kin := axisKinVia s 8 n tk

/-- The master position of a cam, in 2^-32 master unit (R264). -/
def masterPos (s : State) (c : Cam) (tk : Nat) : Int :=
  if c.encoder then (encOf s c.unit).count * fx else (axisKinVia s 7 c.unit tk).x

/-- The commanded position of axis `n` now, in 2^-32 microstep. -/
def axisX (s : State) (n : Nat) : Int := (axisKin s n s.tk).x

/-- MOVING: a plan is executing or a cam is engaged (R272). -/
def axMoving (s : State) (n : Nat) : Bool := (axisOf s n).plan.isSome || (axisOf s n).cam.isSome

/-! ### Planning (R254) -/

/-- The square root of a quotient in whole units; exact, or one of its two neighbours (log entry 13). -/
def sqrtOpen (site n : Nat) : Nat :=
  let r := n.sqrt
  if r * r = n then r else if Config.roundUp site n 1 then r + 1 else r

/-- The limits a plan is made with: VMAX, AMAX, DMAX and 1,000 × JMAX. -/
structure Limits where
  vmax : Nat
  amax : Nat
  dmax : Nat
  jerk : Nat
  deriving DecidableEq, Repr

/-- The acceleration limit of ramp(va → vb): AMAX when it speeds up in one direction, else DMAX. -/
def rampA (l : Limits) (va vb : Int) : Nat :=
  if va.natAbs < vb.natAbs ∧ (0 ≤ va ∧ 0 ≤ vb ∨ va ≤ 0 ∧ vb ≤ 0) then l.amax else l.dmax

/-- ramp(va → vb): the jerk-phase time and the constant-acceleration time, in plan time units. -/
def rampTimes (l : Limits) (va vb : Int) : Nat × Nat :=
  let a := rampA l va vb
  let dv := (vb - va).natAbs
  if a * a * 4294967296 ≤ dv * l.jerk then
    let tj := (divOpen 2541 (a * fTime) l.jerk).toNat
    (tj, (divOpen 2542 (dv * fTime) (a * 4294967296)).toNat - tj)
  else (sqrtOpen 2543 (dv * fTime * fTime / (4294967296 * l.jerk)), 0)

/-- The duration of ramp(va → vb). -/
def rampDur (l : Limits) (va vb : Int) : Nat := 2 * (rampTimes l va vb).1 + (rampTimes l va vb).2

/-- The distance of ramp(va → vb), signed, in 2^-32 microstep. -/
def rampDist (l : Limits) (va vb : Int) : Int :=
  divOpen 2544 ((va + vb) * rampDur l va vb) (2 * fTime)

/-- The pieces of ramp(va → vb) from position `x`. -/
def rampSegs (l : Limits) (x va vb : Int) : List Seg :=
  let ts := rampTimes l va vb
  let j : Int := (if va ≤ vb then (l.jerk : Int) else -(l.jerk : Int)) * fx
  let g1 : Seg := { dur := ts.1, x := x, v := va, a := 0, j := j }
  let k1 := segAt g1 ts.1
  let g2 : Seg := { dur := ts.2, x := k1.x, v := k1.v, a := k1.a, j := 0 }
  let k2 := segAt g2 ts.2
  let g3 : Seg := { dur := ts.1, x := k2.x, v := k2.v, a := k2.a, j := -j }
  if va = vb then [] else [g1, g2, g3]

/-- The largest `n` below `lo + 2^fuel` with `ok n`, by bisection; `lo` is known to do. -/
def bisect (ok : Nat → Bool) : Nat → Nat → Nat
  | 0, lo => lo
  | f + 1, lo => if ok (lo + 2 ^ f) then bisect ok f (lo + 2 ^ f) else bisect ok f lo

/-- The largest velocity up to `vmax` that does. What does lies below some velocity, and, of an axis that moves at `v`,
also between some velocity and `v` and above it: so `vmax` is asked first, then the velocities from `v` on, then those
from 0 on. -/
def largestV (ok : Nat → Bool) (vmax v : Nat) : Nat :=
  if ok vmax then vmax
  else if ok (v + 1) then bisect ok 23 (v + 1)
  else if ok v then v
  else bisect ok 23 0

/-- A move from `x1` at `v1` to target `x` (both in 2^-32), when the axis can stop before it. -/
def directMove (l : Limits) (x1 v1 x : Int) : List Seg :=
  let d := x - x1
  let sg : Int := if d < 0 then -1 else 1
  let fits (n : Nat) : Bool := decide (n ≤ l.vmax) &&
    decide ((rampDist l v1 (sg * n * fx)).natAbs + (rampDist l (sg * n * fx) 0).natAbs ≤ d.natAbs)
  let vp := sg * largestV fits l.vmax (v1.natAbs / 4294967296) * fx
  let d1 := rampDist l v1 vp
  let d2 := rampDist l vp 0
  let rest := (d - d1 - d2).natAbs
  let cruise : List Seg := if vp = 0 then [] else
    [{ dur := (divOpen 2545 (rest * fTime) vp.natAbs).toNat, x := x1 + d1, v := vp, a := 0, j := 0 }]
  rampSegs l x1 v1 vp ++ cruise ++ rampSegs l (x - d2) vp 0

/-- The plan to a position (R254): directly, or by a stop and a move from the stop point. -/
def positionSegs (l : Limits) (x1 v1 x : Int) : List Seg :=
  let d := x - x1
  if d ≠ 0 ∧ (v1 = 0 ∨ (0 < d ↔ 0 < v1)) ∧ (rampDist l v1 0).natAbs ≤ d.natAbs then directMove l x1 v1 x
  else
    let stop := x1 + rampDist l v1 0
    rampSegs l x1 v1 0 ++ (if stop = x then [] else directMove l stop 0 x)

/-- The plan to a velocity (R254). -/
def velocitySegs (l : Limits) (x1 v1 v : Int) : List Seg :=
  if v1 ≠ 0 ∧ ¬(0 < v ↔ 0 < v1) then
    rampSegs l x1 v1 0 ++ rampSegs l (x1 + rampDist l v1 0) 0 v
  else rampSegs l x1 v1 v

/-- The settling piece that brings the acceleration to 0, and the state after it. -/
def settle (l : Limits) (k : Kin) : List Seg × Kin :=
  if k.a = 0 then ([], k)
  else
    let j : Int := (if 0 < k.a then -(l.jerk : Int) else l.jerk) * fx
    let t := (divOpen 2546 ((k.a.natAbs : Int) * fTime) (l.jerk * 4294967296)).toNat
    let g : Seg := { dur := t, x := k.x, v := k.v, a := k.a, j := j }
    ([g], { segAt g t with a := 0 })

/-- Where a list of pieces ends. -/
def segsEndX (x : Int) (gs : List Seg) : Int :=
  match gs.getLast? with
  | some g => (segAt g g.dur).x
  | none => x

/-- The limits of axis `n`, with VMAX clamped to `vmax`. -/
def axLimits (s : State) (n vmax : Nat) : Limits :=
  { vmax := min vmax (axW32 s n 1), amax := axW32 s n 3, dmax := axW32 s n 5, jerk := 1000 * axW32 s n 7 }

/-- VMAX for a plan of axis `n` under a swath permit's clamp, if it has one (R266). -/
def capV (s : State) (n : Nat) (cap : Option Nat) : Nat := min (cap.getD (axW32 s n 1)) (axW32 s n 1)

/-- A plan of axis `n` for a mode and target, taking over at `t0` from the motion in force. -/
def makePlan (s : State) (n mode : Nat) (target : Int) (cap : Option Nat) (t0 : Nat) : Plan :=
  let l := axLimits s n (capV s n cap)
  let st := settle l (axisKin s n t0)
  let k := st.2
  if mode = 2 then
    let v := clampInt target (-(l.vmax : Int)) l.vmax * fx
    let gs := st.1 ++ velocitySegs l k.x k.v v
    { t0 := t0, segs := gs, endX := segsEndX k.x gs, endV := v, mode := mode, target := target, cap := cap }
  else
    { t0 := t0, segs := st.1 ++ positionSegs l k.x k.v (target * fx), endX := target * fx, endV := 0,
      mode := mode, target := target, cap := cap }

/-- The stopping plan of STOP and DISABLE (R255). -/
def stopPlan (s : State) (n t0 : Nat) : Plan :=
  let l := axLimits s n (axW32 s n 1)
  let st := settle l (axisKin s n t0)
  let k := st.2
  let x := k.x + rampDist l k.v 0
  { t0 := t0, segs := st.1 ++ rampSegs l k.x k.v 0, endX := x, endV := 0, target := x / fx }

/-- The braking plan of QSTOP: EDMAX in one step, no jerk limit (R255). -/
def qstopPlan (s : State) (n : Nat) : Plan :=
  let k := axisKin s n s.tk
  let ed := axW32 s n 9
  let t := (divOpen 2551 ((k.v.natAbs : Int) * fTime) (ed * 4294967296)).toNat
  let g : Seg := { dur := t, x := k.x, v := k.v, a := (if 0 < k.v then -(ed : Int) else ed) * fx, j := 0 }
  let x := if k.v = 0 then k.x else (segAt g t).x
  { t0 := s.tk, segs := if k.v = 0 then [] else [g], endX := x, endV := 0, qstop := true, target := x / fx }

/-- The delay from a command to its t0, longer out of hold (R254, R261). -/
def planDelay (a : Axis) : Nat := if a.hold then 5120 else 2500

/-- Virtual limits of an axis, if it has any (R262). -/
def vlimits (s : State) (n : Nat) : Option (Int × Int) :=
  let lo := tint32 s 0x60 (32 * n + 11)
  let hi := tint32 s 0x60 (32 * n + 13)
  if lo = 0 ∧ hi = 0 then none else some (lo, hi)

/-- A position target limited by the virtual limits (R262): to the nearer limit; an axis at rest beyond a limit is not
moved further out. -/
def limitTarget (s : State) (n : Nat) (x : Int) : Int :=
  match vlimits s n with
  | none => clampInt x (-2147483648) 2147483647
  | some (lo, hi) =>
    let p := axisX s n / fx
    if axMoving s n then clampInt x lo hi
    else if hi < p ∧ p < x then p
    else if p < lo ∧ x < p then p
    else clampInt x lo hi

/-- Stores the plan of axis `n` for a mode and target, with LIMIT and error 3 where the target was clamped (R254,
R262). -/
def setPlan (n mode : Nat) (target : Int) (cap : Option Nat) (byGo : Bool) (t0 : Nat) (s : State) : State :=
  let t := if mode = 2 then target else limitTarget s n target
  let p := { makePlan s n mode t cap t0 with byGo := byGo }
  let s1 := setAxis n (fun a => { a with mode := mode, target := t, next := some p, planVmax := capV s n cap }) s
  if t ≠ target then motErr 3 (setAxis n (fun a => { a with limit := true }) s1) else s1

/-- Starts the plan of a GO, with VMAX clamped by a permit to `cap` (R254, R262, R266). -/
def startMove (n : Nat) (m : Move) (cap : Option Nat) (s : State) : State :=
  setPlan n m.mode m.target cap true (s.tk + planDelay (axisOf s n))
    (setAxis n (fun a => { a with hold := false, goWait := none, heldGo := none, heldCam := none, waitTurn := false }) s)

/-- A GO that has to wait, for a permit, for the end of the present plan or for a prepared transaction: a later GO
replaces it, hold ends with it (R261; the standstill is counted anew, log entry 161), and the plan of a GO before its t0
is discarded (R254). -/
def keepGo (n : Nat) (m : Move) (turn : Bool) (s : State) : State :=
  setAxis n (fun a => { a with
    goWait := if turn then some m else none, heldGo := if turn then none else some m, heldCam := none, waitTurn := turn
    next := if a.next.any (·.byGo) then none else a.next
    hold := false, restFrom := if a.hold then s.tk else a.restFrom }) s

/-- Axis `n` is the print axis (R265). -/
def isPrintAxis (s : State) (n : Nat) : Bool :=
  bit (tnat s 0x60 256) 15 && bits (tnat s 0x60 256) 2 0 == n

/-- A waiting swath GO takes the first permit (R266 steps 3 and 4). -/
def takePermit (n : Nat) (m : Move) (s : State) : State :=
  match s.mot.permits with
  | [] => keepGo n m true s
  | vplan :: rest =>
    let cl := vplan * 1000 * tnat32 s 0x60 257 / (64 * 65536)
    let s1 := startMove n m (some cl) { s with mot.permits := rest }
    if cl < axW32 s n 1 then
      raise irqMot (setAxis n (fun a => { a with clamped := true }) s1)
    else s1

/-- A swath GO at rest takes a permit or waits for one; any other GO plans at once (R266). A prepared
node holds the start of a profile of a touched axis (R43). -/
def runMove (n : Nat) (m : Move) (s : State) : State :=
  if axisHeld s n || (m.swath && axMoving s n) then keepGo n m false s
  else if m.swath then takePermit n m s
  else startMove n m none s

/-- Adds a swath permit; at most eight queue (R265). -/
def addPermit (vplan : Nat) (s : State) : State :=
  if s.mot.permits.length < 8 then { s with mot.permits := s.mot.permits ++ [vplan] }
  else recErr 0x09 9 s

/-! ### Commands of MOT_CMD (R252) -/

/-- The selected axis. -/
def selAxis (s : State) : Nat := s.mot.sel

/-- A supply fault condition of a bridge axis (R269). -/
def supplyBad (s : State) (n : Nat) : Bool :=
  let r := s.rail.rails.getD (bits (axW s n 0) 3 0) {}
  decide (n < 4) && (decide (r.v < axW s n 21) ||
    (match r.vAt with | some t => decide (t + 250000 ≤ s.tk) | none => true))

/-- ENABLE (R268). The duties of a bridge axis are 0 until its first PWM period (log entry 161). -/
def enableOp (n : Nat) (s : State) : State :=
  let a := axisOf s n
  if a.en || a.fault then motRefuse n 1 s
  else setAxis n (fun a => { a with
    en := true, restFrom := s.tk, hold := false, dutyA := 0, dutyB := 0, dutyBOld := 0
    drive := if brkAuto s n then .enabling (s.tk + msTk (axW s n 24)) else .on }) s

/-- At rest, DISABLE engages the brake and waits BRK_DELAY (R268); without BRKAUTO the drive goes off at once
(log entry 33). -/
def disableAtRest (n : Nat) (s : State) : State :=
  setAxis n (fun a => { a with
    braked := true
    en := brkAuto s n
    hold := a.hold && brkAuto s n
    drive := if brkAuto s n then .brakeWait (s.tk + msTk (axW s n 24)) else .off }) s

/-- STOP's effect (R255). It discards a GO that is held or waits for a permit (log entry 130). -/
def stopOp (n : Nat) (s : State) : State :=
  let p := stopPlan s n (s.tk + planDelay (axisOf s n))
  setAxis n (fun a => { a with
    mode := 0, target := p.target, next := some p, hold := false, goWait := none, heldGo := none, heldCam := none,
    waitTurn := false }) s

/-- QSTOP's effect (R255): the present motion is replaced at once. -/
def qstopOp (n : Nat) (s : State) : State :=
  let p := qstopPlan s n
  setAxis n (fun a => { a with
    mode := 0, target := p.target, plan := some p, next := none, cam := none, goWait := none,
    heldGo := none, heldCam := none, waitTurn := false, attgt := false }) s

/-- The slave leaves its cam in POSITION mode at its present position (R264), at rest. -/
def leaveCam (n : Nat) (s : State) : State :=
  let x := axisX s n
  setAxis n (fun a => { a with cam := none, x := x, v := 0, mode := 0, target := x / fx, restFrom := s.tk }) s

/-- The slave leaves its cam with the velocity the cam gave it, for a stop to take over (R264). -/
def releaseCam (n : Nat) (s : State) : State :=
  let k := axisKin s n s.tk
  let s1 := leaveCam n s
  if k.v = 0 then s1
  else setAxis n (fun a => { a with plan := some { t0 := s.tk, segs := [], endX := k.x, endV := k.v }, attgt := false }) s1

/-- A DISABLE is under way (R268). -/
def disableRuns (a : Axis) : Bool :=
  match a.drive with
  | .disabling => a.plan.isSome || a.next.isSome
  | .brakeWait _ => true
  | _ => false

/-- DISABLE (R268); one that is under way goes on. -/
def disableOp (n : Nat) (s : State) : State :=
  let a := axisOf s n
  if !a.en || disableRuns a then s
  else if a.plan.isSome || a.cam.isSome then
    setAxis n (fun a => { a with drive := .disabling }) (stopOp n (if a.cam.isSome then releaseCam n s else s))
  else disableAtRest n (setAxis n (fun a => { a with next := none, heldGo := none, heldCam := none, goWait := none,
                                                     waitTurn := false }) s)

/-- The staged move of axis `n` (R253, R273). -/
def stagedMove (s : State) (n : Nat) : Move :=
  let w := tnat s 0x61 (32 * n)
  { mode := bits w 15 14, swath := bit w 13, target := tint32 s 0x61 (32 * n + 1) }

/-- A GO is refused (R252, R256). -/
def goRefused (s : State) (n : Nat) : Bool :=
  let a := axisOf s n
  let m := stagedMove s n
  !a.en || a.fault || (a.braked && !brkAuto s n) || a.cam.isSome || m.mode == 3
    || (m.swath && (m.mode != 0 || !isPrintAxis s n))

/-- GO (R252-R256, R266, R268). -/
def goOp (n : Nat) (s : State) : State :=
  let a := axisOf s n
  let m := stagedMove s n
  if goRefused s n then motRefuse n 1 s
  else if m.mode = 1 ∧ axMoving s n then motRefuse n 2 s
  else match a.drive with
    | .enabling _ => keepGo n m false s
    | _ => runMove n m s

/-- A plan that has not started is computed anew, for t0 at `t0`, from the motion and under the limits in force now. -/
def renewPlan (n : Nat) (p : Plan) (t0 : Nat) (s : State) : State :=
  if p.byGo then setPlan n p.mode p.target p.cap true t0 s
  else setAxis n (fun a => { a with next := some (stopPlan s n t0) }) s

/-- SET_POS (R263): a bridge axis keeps its electrical angle. A plan before its t0 is then computed from the new
position, as it is to take over from the state the axis reaches at t0 (R254). -/
def setPosOp (n : Nat) (s : State) : State :=
  if axMoving s n then motRefuse n 1 s
  else
    let x := tint32 s 0x61 (32 * n + 13) * fx
    let s1 := setAxis n (fun a => { a with
      x := x, xofs := if n < 4 then a.xofs + (a.x - x) else a.xofs, step := { a.step with pos := x / fx } }) s
    match (axisOf s n).next with
    | some p => renewPlan n p p.t0 s1
    | none => s1

/-- The check word of cam `t` and its span are good (R273). -/
def camValid (s : State) (t : Nat) : Bool :=
  sumWords (twords s 0x62 (2048 * t) 2048 ++ twords s 0x63 (4 * t) 4) == 0xFFFF
    && decide (1 ≤ camSpan s t)

/-- The cam and master that axis `n`'s staging words name, the origins still to be recorded (R264, R273). -/
def stagedCam (s : State) (n : Nat) : Cam :=
  let w := tnat s 0x61 (32 * n + 3)
  { table := bits (tnat s 0x61 (32 * n)) 1 0, encoder := bit w 15, unit := bits w 2 0, morigin := 0, sorigin := 0 }

/-- A CAM_ENGAGE of cam `c` is refused (R252, R264). -/
def camRefused (s : State) (n : Nat) (c : Cam) : Bool :=
  !(axisOf s n).en || axMoving s n || !camValid s c.table || (!c.encoder && c.unit == n)

/-- Engages axis `n` (R264), or holds the engagement while a prepared transaction touches the axis or the cam (R43). It
discards a GO that waits, as a GO does (log entry 130). -/
def camEngage (n : Nat) (c : Cam) (s : State) : State :=
  if camRefused s n c then motRefuse n 1 s
  else
    let held := axisHeld s n || camHeld s c.table
    setAxis n (fun a => { a with
      hold := false, next := none, heldGo := none, goWait := none, waitTurn := false
      heldCam := if held then some c else none, restFrom := if held && a.hold then s.tk else a.restFrom
      cam := if held then none
        else some { c with morigin := masterPos s c s.tk, sorigin := a.x - camPoint s c.table 0 * fx } }) s

/-- CAM_ENGAGE (R264). -/
def camEngageOp (n : Nat) (s : State) : State := camEngage n (stagedCam s n) s

/-- CAM_DISENGAGE (R264): POSITION mode at the present position, with a STOP. -/
def camDisengageOp (n : Nat) (s : State) : State :=
  if (axisOf s n).cam.isNone then motRefuse n 1 s else stopOp n (releaseCam n s)

/-- CLEAR_FAULT (R269). -/
def clearFaultOp (n : Nat) (s : State) : State :=
  if supplyBad s n && (axisOf s n).en then motRefuse n 1 s
  else if (axisOf s n).fault && (axisOf s n).en && !disableRuns (axisOf s n) then
    setAxis n (fun a => { a with
      fault := false, restFrom := s.tk, hold := false, dutyA := 0, dutyB := 0, dutyBOld := 0
      drive := if brkAuto s n then .enabling (s.tk + msTk (axW s n 24)) else .on }) s
  else setAxis n (fun a => { a with fault := false }) s

/-- BRAKE_RELEASE (R268). -/
def brakeReleaseOp (n : Nat) (s : State) : State :=
  if !(axisOf s n).en then motRefuse n 1 s else setAxis n (fun a => { a with braked := false }) s

/-- BRAKE_ENGAGE (R268). -/
def brakeEngageOp (n : Nat) (s : State) : State :=
  if axMoving s n then motRefuse n 1 s else setAxis n (fun a => { a with braked := true }) s

/-- HOME (R263). -/
def homeOp (n : Nat) (s : State) : State :=
  if !(axisOf s n).en then motRefuse n 1 s else setAxis n (fun a => { a with homeArmed := true }) s

/-- STOP with its refusal (R252); a slave leaves its cam. -/
def stopCmd (n : Nat) (s : State) : State :=
  if !(axisOf s n).en then motRefuse n 1 s
  else if (axisOf s n).cam.isSome then stopOp n (releaseCam n s) else stopOp n s

/-- QSTOP with its refusal (R252). -/
def qstopCmd (n : Nat) (s : State) : State :=
  if !(axisOf s n).en then motRefuse n 1 s else qstopOp n s

/-- An operation of MOT_CMD on axis `n` (R252). -/
def motOp (op n : Nat) (s : State) : State :=
  match op with
  | 0 => s
  | 1 => enableOp n s
  | 2 => disableOp n s
  | 3 => goOp n s
  | 4 => stopCmd n s
  | 5 => qstopCmd n s
  | 6 => homeOp n s
  | 7 => setPosOp n s
  | 8 => camEngageOp n s
  | 9 => camDisengageOp n s
  | 10 => brakeReleaseOp n s
  | 11 => brakeEngageOp n s
  | 12 => clearFaultOp n s
  | _ => motRefuse n 1 s

/-- One MOT_CMD write (R252), for the axis selected; a power entry holds it (R359). -/
def motCmd (op : Nat) (s : State) : State :=
  if entryHolds s && op != 0 then holdCmd (.mot op (selAxis s)) s else motOp op (selAxis s) s

/-! ### Events -/

/-- At t0 the new plan takes over (R254); the start of a profile of an axis at rest waits while a prepared transaction
holds it (R43). -/
def planStartOp (n : Nat) (s : State) : State :=
  match (axisOf s n).next with
  | some p =>
    if p.t0 ≤ s.tk && (axMoving s n || !axisHeld s n) then
      setAxis n (fun a => { a with plan := some p, next := none, attgt := false }) s
    else s
  | none => s

/-- A plan ends (R254, R266, R268): ATTGT and MOT; at rest a DISABLE goes on and a held GO proceeds. -/
def planEndOp (n : Nat) (s : State) : State :=
  let a := axisOf s n
  match a.plan with
  | none => s
  | some p =>
    if a.attgt || (p.segs.isEmpty && a.next.isSome) || decide ((s.tk - p.t0) * 65536 < segsDur p.segs) then s
    else
      let s1 := raise irqMot (setAxis n (fun a => { a with attgt := true }) s)
      if p.endV ≠ 0 then s1
      else
        let s2 := setAxis n (fun a => { a with
          plan := none, x := (clampPos { x := p.endX, v := 0, a := 0 }).x, v := 0, restFrom := s.tk }) s1
        match a.drive with
        | .disabling => disableAtRest n s2
        | _ =>
          match a.heldGo with
          | some m => runMove n m (setAxis n (fun a => { a with heldGo := none }) s2)
          | none => s2

/-- The first axis at rest with a swath GO waiting for a permit. -/
def waitingAxis (s : State) : Option (Nat × Move) :=
  (List.range 8).findSome? (fun n => if axMoving s n then none else (axisOf s n).goWait.map (fun m => (n, m)))

/-- BRK_DELAY has elapsed (R268). -/
def brkDelayOp (n : Nat) (s : State) : State :=
  let a := axisOf s n
  match a.drive with
  | .enabling t =>
    if t ≤ s.tk then
      let s1 := setAxis n (fun a => { a with drive := .on, braked := false }) s
      match a.heldGo with
      | some m => runMove n m (setAxis n (fun a => { a with heldGo := none }) s1)
      | none => s1
    else s
  | .brakeWait t =>
    if t ≤ s.tk then setAxis n (fun a => { a with drive := .off, en := false, hold := false }) s else s
  | _ => s

/-- Standstill (R261). -/
def holdOp (n : Nat) (s : State) : State :=
  let a := axisOf s n
  let ms := if axW s n 15 = 0 then 200 else axW s n 15
  if a.en && !a.fault && !a.hold && a.plan.isNone && a.next.isNone && a.cam.isNone && decide (a.v = 0)
      && decide (a.restFrom + msTk ms ≤ s.tk) then
    setAxis n (fun a => { a with hold := true }) s
  else s

/-- The stopping point of ramp(v → 0) from the present state, in 2^-32 microstep. -/
def stopPoint (s : State) (n : Nat) : Int :=
  let l := axLimits s n (axW32 s n 1)
  let k := axisKin s n s.tk
  k.x + rampDist l k.v 0

/-- The direction the axis moves in, or is about to: the sign of its velocity, else of the velocity its plan goes
to (R262). -/
def heading (s : State) (n : Nat) : Int :=
  let v := (axisKin s n s.tk).v
  if v ≠ 0 then v.sign
  else match (axisOf s n).plan with
    | some p => p.endV.sign
    | none => 0

/-- The limits a moving axis meets: its virtual limits, else the ends of 32 bits (R250, R262). -/
def endLimits (s : State) (n : Nat) : Int × Int := (vlimits s n).getD (-2147483648, 2147483647)

/-- The virtual limit ahead of a moving axis, where the stopping point has reached it (R262). -/
def limitReached (s : State) (n : Nat) : Option Int :=
  let h := heading s n
  let e := endLimits s n
  if 0 < h ∧ e.2 * fx ≤ stopPoint s n then some e.2
  else if h < 0 ∧ stopPoint s n ≤ e.1 * fx then some e.1
  else none

/-- The axis can stop at the limit `lim` within DMAX and JMAX: having settled, its ramp to rest does not pass the
limit by a whole microstep (R262, log entry 131). -/
def canStopAt (s : State) (n : Nat) (lim : Int) : Bool :=
  let l := axLimits s n (axW32 s n 1)
  let k := axisKin s n s.tk
  let st := (settle l k).2
  let past := (st.x + rampDist l st.v 0 - lim * fx) * heading s n
  decide (past < fx)

/-- A virtual-limit stop (R262), in VELOCITY mode or as a cam slave. -/
def vlimitOp (n : Nat) (s : State) : State :=
  let a := axisOf s n
  if a.cam.isSome || (a.mode == 2 && a.plan.isSome) then
    match limitReached s n with
    | none => s
    | some lim =>
      let s1 := raise irqMot (bump 0x61 (32 * n + 21)
        (setAxis n (fun a => { a with limit := true }) (if a.cam.isSome then releaseCam n s else s)))
      if canStopAt s n lim then
        let p := makePlan s1 n 0 lim none s.tk
        setAxis n (fun a => { a with mode := 0, target := lim, plan := some p, next := none,
                                     attgt := false }) s1
      else recErrLees 0x09 4 [n] (qstopOp n s1)
  else s

/-- REFFILT of axis `n`. -/
def refFilt (s : State) (n : Nat) : Nat := bits (axW s n 0) 7 4

/-- The position that axis `n` held `d` TK ago, from 1 on (R263). -/
def pastX (s : State) (n d : Nat) : Int := (axisOf s n).past.getD (d - 1) 0

/-- A filtered edge of REFn, to `level` (R263): the first one of the kind REFEDGE selects latches the position that stood
at the pin edge. -/
def refEdgeOp (n : Nat) (level : Bool) (s : State) : State :=
  let a := axisOf s n
  let k := bits (axW s n 0) 10 9
  let s1 := setAxis n (fun a => { a with refLevel := some level }) s
  if a.homeArmed && (k == 2 || (k == 0 && level) || (k == 1 && !level)) then
    let s2 := raise irqMot (setAxis n (fun a => { a with
      latch := pastX s n (refFilt s n + 3) / fx, latched := true, homeArmed := false }) s1)
    if bit (axW s n 0) 8 then stopCmd n s2 else s2
  else s1

/-- The present TK's sample of REFn, whose level is known: an edge where the filtered level changes (R121, R263). -/
def refSample (n : Nat) (b : Bool) (s : State) : State :=
  let a := axisOf s n
  let x := smpPut b a.smpRef
  let s1 := setAxis n (fun a => { a with smpRef := x }) s
  match smpLevel (refFilt s n) a.refLevel x with
  | some l => if a.refLevel == some l then s1 else refEdgeOp n l s1
  | none => s1

/-- The present TK's sample of REFn, whose level is not yet known (R122, R263). -/
def refKnown (n : Nat) (b : Bool) (s : State) : State :=
  setAxis n (fun a => { a with
    smpRef := smpPut b a.smpRef
    refLevel := match a.refLevel with
      | some l => some l
      | none => smpFirst (refFilt s n) (smpPut b a.smpRef) }) s

/-- One TK of the axes: the positions of the last eighteen TK are kept (R263), and REFn is sampled (R121). -/
def axisTick (n : Nat) (s : State) : State :=
  setAxis n (fun a => { a with past := (axisX s n :: a.past).take 18, smpRef := smpTick a.smpRef }) s

/-- One TK of all axes. -/
def axisTicks (s : State) : State :=
  if clocked s then (List.range 8).foldl (fun st n => axisTick n st) s else s

/-- A non-cyclic cam has reached MSPAN (R264). -/
def camEndOp (n : Nat) (s : State) : State :=
  match (axisOf s n).cam with
  | none => s
  | some c =>
    if !bit (tnat s 0x63 (4 * c.table)) 15
        && decide (camSpan s c.table * fx ≤ masterPos s c s.tk - c.morigin) then leaveCam n s
    else s

/-- The velocity of X exceeds VMAX (R264). -/
def camOverspeedOp (n : Nat) (s : State) : State :=
  if (axisOf s n).cam.isSome && decide ((axW32 s n 1 : Int) * fx < (axisKin s n s.tk).v.natAbs) then
    motErr 7 (setAxis n (fun a => { a with camerr := true }) (qstopOp n (releaseCam n s)))
  else s

/-- A supply fault cuts an enabled bridge axis (R269). -/
def supplyFaultOp (n : Nat) (s : State) : State :=
  let a := axisOf s n
  if a.en && !a.fault && supplyBad s n then
    raise irqMot (recErrLees 0x09 5 [n] (setAxis n (fun a => { a with
      x := axisX s n, v := 0, fault := true, braked := true, plan := none, next := none, cam := none,
      heldGo := none, heldCam := none, goWait := none, waitTurn := false, hold := false
      drive := match a.drive with
        | .disabling => .brakeWait (s.tk + msTk (axW s n 24))
        | .brakeWait t => .brakeWait t
        | _ => .on }) s))
  else s

/-- A decant that changed the limits of an axis with a profile executing replans it from the decant TK (R251), or the plan
that is to take over from it; the clamp of a swath permit lasts until the plan ends (R266). -/
def replanAxis (n : Nat) (s : State) : State :=
  let a := axisOf s n
  match a.plan, a.next with
  | some _, some q => setPlan n q.mode q.target q.cap q.byGo (s.tk + 2500) s
  | some p, none => setPlan n p.mode p.target p.cap false (s.tk + 2500) s
  | none, _ => s

/-- What a decant of table 0x60 does to axis `n`: AXn_EN is driven (R260), a new REFFILT makes the level of REFn
unknown (R122, R263), and new limits, VMAX to VLIM_HI, replan (R251). -/
def axisAfterCask (old : State) (touched : Bool) (n : Nat) (s : State) : State :=
  let s1 := if touched then setAxis n (fun a => { a with configured := true }) s else s
  let s2 := if refFilt old n = refFilt s n then s1
    else setAxis n (fun a => { a with refLevel := none, smpRef := smpNew a.smpRef }) s1
  if twords old 0x60 (32 * n + 1) 14 = twords s 0x60 (32 * n + 1) 14 then s2 else replanAxis n s2

/-- A start of axis `n` that a prepared transaction held goes ahead, where nothing holds it any more (R43); `old` is the
state before the transaction ended. A plan that waited at its t0 starts now. -/
def resumeAxis (old : State) (n : Nat) (s : State) : State :=
  let a := axisOf s n
  let s1 := match a.next with
    | some p => if axisHeld old n && !axMoving s n && decide (p.t0 ≤ s.tk) then renewPlan n p s.tk s else s
    | none => s
  if axisHeld s n then s1
  else match a.heldGo, a.heldCam with
    | some m, _ =>
      if a.drive != .on || (m.swath && axMoving s n) then s1
      else runMove n m (setAxis n (fun a => { a with heldGo := none }) s1)
    | none, some c => if camHeld s c.table then s1 else camEngage n c (setAxis n (fun a => { a with heldCam := none }) s1)
    | none, none => s1

/-! ### Bridge duties (R257) -/

/-- 2π in 2^-60. -/
def twoPi60 : Int := 7244019458077122842

/-- One Taylor term to the next: `t · x² / (n (n+1))`, all in 2^-60. -/
def taylorNext (x2 t n : Int) : Int := t * x2 / (1152921504606846976 * n * (n + 1))

/-- The Taylor sum from term `t`, with alternating signs. -/
def taylor (x2 : Int) : Nat → Int → Int → Int
  | 0, t, _ => t
  | f + 1, t, n => t - taylor x2 f (taylorNext x2 t n) (n + 2)

/-- cos and sin of a fraction of a turn, in 2^-60; the argument is in 2^-42 turn (log entry 35). -/
def cosSin (turn : Int) : Int × Int :=
  let f := turn % 4398046511104
  let q := f / 1099511627776
  let x := (f % 1099511627776) * twoPi60 / 4398046511104
  let x2 := x * x / 1152921504606846976
  let c := taylor x2 16 1152921504606846976 1
  let sn := taylor x2 16 x 2
  if q = 0 then (c, sn) else if q = 1 then (-sn, c) else if q = 2 then (-c, -sn) else (sn, -c)

/-- The duty of one phase from the two trigonometric factors of R257. -/
def phaseDuty (i256 rph lph ke v32 vsup c sn : Int) : Int :=
  let t1 := i256 * rph * c * 1000 * 4398046511104 * 1152921504606846976
  let t2 := (i256 * lph + 256000 * ke) * twoPi60 * v32 * sn
  let den : Int := 256000 * 1152921504606846976 * 4398046511104 * 1152921504606846976 * 1000 * vsup * 1000
  roundDiv (5120 * (t1 - t2)) den.toNat

/-- The duties of one bridge axis for the period that starts now (R257); REV turns the sense of position round
(R273, log entry 132). With VSUP at 0 R257 states no duty: it is a free value (log entry 164). -/
def bridgeDuty (n : Nat) (s : State) : State :=
  let a := axisOf s n
  let k := axisKin s n s.tk
  let hs := if axW s n 16 % 256 = 0 then 128 else axW s n 16 % 256
  let i256 : Int := if a.hold then axW s n 17 * hs else axW s n 17 * 256
  let sense : Int := if bit (axW s n 0) 15 then -1 else 1
  let cs := cosSin (sense * (k.x + a.xofs))
  let vs : Int := (s.rail.rails.getD (bits (axW s n 0) 3 0) {}).v
  let lim : Int := 5120 - 2 * (axW s n 22 % 256 : Nat)
  let duty (j : Nat) (c sn : Int) : Int :=
    if vs = 0 then (Config.openValue 257 (16 * s.tk + 2 * n + j) : Int) - 5120
    else phaseDuty i256 (axW s n 18) (axW s n 19) (axW s n 20) (sense * k.v) vs c sn
  let dA := duty 0 cs.1 cs.2
  let dB := duty 1 cs.2 (-cs.1)
  let s1 := setAxis n (fun a => { a with
    dutyA := clampInt dA (-lim) lim, dutyB := clampInt dB (-lim) lim, dutyBOld := a.dutyB }) s
  if clampInt dA (-lim) lim ≠ dA ∨ clampInt dB (-lim) lim ≠ dB then
    motErr 6 (bump 0x61 (32 * n + 19) (setAxis n (fun a => { a with sat := true }) s1))
  else s1

/-! ### STEP pulses (R259) -/

/-- Some steps of one direction, all due now. -/
def stepsDue (x : Int) (tk : Nat) : List (Bool × Nat) := List.replicate x.natAbs (decide (0 < x), tk)

/-- The level of AXn_DIR for a direction: high for a rising position, turned round by DIRPOL and by REV (R259, R273,
log entry 132). -/
def dirLevel (s : State) (n : Nat) (up : Bool) : Bool := (up != bit (axW s n 0) 11) != bit (axW s n 0) 15

/-- A TK lies at least `d` TK back. -/
def longSince (t : Option Nat) (d tk : Nat) : Bool := match t with | some x => decide (x + d ≤ tk) | none => true

/-- One TK of a step generator: changes of the integer part are owed as steps; a change of direction waits for STEP
low; a step waits DSETUP after it and 2 × STEPW after the step before; a delayed step counts with error 0x08
(R259). -/
def stepTick (n : Nat) (s : State) : State :=
  let g := (axisOf s n).step
  let p := axisX s n / fx
  let stepw := bits (axW s n 23) 12 8
  let owed := g.owed ++ stepsDue (p - g.pos) s.tk
  let put (h : StepGen) (st : State) : State := setAxis n (fun a => { a with step := h }) st
  match owed with
  | [] => s
  | (up, due) :: rest =>
    let want := dirLevel s n up
    if g.dir ≠ want then
      put (if longSince g.stepAt stepw s.tk then { g with pos := p, owed := owed, dir := want, dirAt := some s.tk }
           else { g with pos := p, owed := owed }) s
    else if longSince g.dirAt (axW s n 23 % 256) s.tk && longSince g.stepAt (2 * stepw) s.tk then
      let s1 := put { g with pos := p, owed := rest, stepAt := some s.tk } s
      if due < s.tk then recErr 0x09 8 (bump 0x61 (32 * n + 20) s1) else s1
    else put { g with pos := p, owed := owed } s

/-- One TK of the step axes AX4 to AX7 (R259). -/
def stepTicks (s : State) : State :=
  if clocked s then [4, 5, 6, 7].foldl (fun st n => stepTick n st) s else s

/-! ### Meanings -/

/-- A MOT_CMD write reaches the block only when its register answers and the core is clocked (R328). -/
def motReg (op : Nat) (s : State) : State := if clocked s then routedOp (.mot op (selAxis s)) (motCmd op) s else s

/-- MOT_NONE (R252). -/
def execMotNone (s : State) : Out := .next (motReg 0 s)
/-- ENABLE (R268). -/
def execAxisEnable (s : State) : Out := .next (motReg 1 s)
/-- DISABLE (R268). -/
def execAxisDisable (s : State) : Out := .next (motReg 2 s)
/-- GO (R254). -/
def execAxisGo (s : State) : Out := .next (motReg 3 s)
/-- STOP (R255). -/
def execAxisStop (s : State) : Out := .next (motReg 4 s)
/-- QSTOP (R255). -/
def execAxisQstop (s : State) : Out := .next (motReg 5 s)
/-- HOME (R263). -/
def execAxisHome (s : State) : Out := .next (motReg 6 s)
/-- SET_POS (R263). -/
def execAxisSetPos (s : State) : Out := .next (motReg 7 s)
/-- CAM_ENGAGE (R264). -/
def execCamEngage (s : State) : Out := .next (motReg 8 s)
/-- CAM_DISENGAGE (R264). -/
def execCamDisengage (s : State) : Out := .next (motReg 9 s)
/-- BRAKE_RELEASE (R268). -/
def execBrakeRelease (s : State) : Out := .next (motReg 10 s)
/-- BRAKE_ENGAGE (R268). -/
def execBrakeEngage (s : State) : Out := .next (motReg 11 s)
/-- CLEAR_FAULT (R269). -/
def execAxisClearFault (s : State) : Out := .next (motReg 12 s)
/-- MOT_RESERVED_OP (R252): codes 13 to 15. -/
def execMotReservedOp (op : BitVec 4) (s : State) : Out :=
  if op.toNat < 13 then .fault .malformedOperand else .next (motReg op.toNat s)

/-- PLAN_START (R254). -/
def execPlanStart (ax : Fin 8) (s : State) : Out := .next (if clocked s then planStartOp ax.val s else s)
/-- PLAN_END (R254). -/
def execPlanEnd (ax : Fin 8) (s : State) : Out := .next (if clocked s then planEndOp ax.val s else s)
/-- PERMIT_TAKE (R266). -/
def execPermitTake (s : State) : Out :=
  .next (if clocked s && !s.mot.permits.isEmpty then
    (match waitingAxis s with
     | some (n, m) => if axisHeld s n then s else takePermit n m s
     | none => s) else s)
/-- BRK_DELAY_EXPIRY (R268). -/
def execBrkDelayExpiry (ax : Fin 8) (s : State) : Out := .next (if clocked s then brkDelayOp ax.val s else s)
/-- BRIDGE_PWM_PERIOD (R257): every enabled bridge axis without a supply fault, once every 5,120 TK. -/
def execBridgePwmPeriod (s : State) : Out :=
  .next (if clocked s && periodDue s.mot.pwmAt 5120 s then
    [0, 1, 2, 3].foldl (fun st n => if (axisOf s n).en && !(axisOf s n).fault then bridgeDuty n st else st)
      { s with mot.pwmAt := some (periodNow s.mot.pwmAt 5120 s) }
  else s)
/-- HOLD_ENTRY (R261). -/
def execHoldEntry (ax : Fin 8) (s : State) : Out := .next (if clocked s then holdOp ax.val s else s)
/-- VLIMIT_STOP (R262). -/
def execVlimitStop (ax : Fin 8) (s : State) : Out := .next (if clocked s then vlimitOp ax.val s else s)
/-- REF_EDGE (R263): the present sample of REFn; no edge is reported before its level is known. -/
def execRefEdge (ax : Fin 8) (level : Bool) (s : State) : Out :=
  .next (if clocked s && (axisOf s ax.val).refLevel.isSome then refSample ax.val level s else s)
/-- REF_LEVEL_KNOWN (R122, R263): the present sample of REFn; no edge. -/
def execRefLevelKnown (ax : Fin 8) (level : Bool) (s : State) : Out :=
  .next (if clocked s then refKnown ax.val level s else s)
/-- CAM_END (R264). -/
def execCamEnd (ax : Fin 8) (s : State) : Out := .next (if clocked s then camEndOp ax.val s else s)
/-- CAM_OVERSPEED (R264). -/
def execCamOverspeed (ax : Fin 8) (s : State) : Out :=
  .next (if clocked s then camOverspeedOp ax.val s else s)
/-- MOT_SUPPLY_FAULT (R269). -/
def execMotSupplyFault (ax : Fin 8) (s : State) : Out :=
  .next (if clocked s then supplyFaultOp ax.val s else s)

end Sys2Proof.Machine
end

