-- ==== Sys2Proof/Machine/Grid.lean ====
section
/-! DEFINITION. The firing grid (R138-R159): grid source, interpolation, LOCK, suspect regions, verdicts,
swath results, the skip log and the grid relay. Positions are in 1/65,536 grid unit. -/

namespace Sys2Proof.Machine

/-! ### Configuration (table 0xA6) and the descriptor of the swath in flight (table 0x40) -/

/-- SRC of the grid (R138). -/
def gridSrc (s : State) : Nat := bits (tnat s 0xA6 0) 15 14
/-- UNIT of the grid. -/
def gridUnit (s : State) : Nat := bits (tnat s 0xA6 0) 13 11
/-- GRID_POLICY (R150). -/
def gridPolicy (s : State) : Nat := bits (tnat s 0xA6 0) 10 9
/-- WIN_HI, in sixteenths (R147). -/
def winHi (s : State) : Nat := bits (tnat s 0xA6 1) 15 8
/-- WIN_LO, in sixteenths. -/
def winLo (s : State) : Nat := bits (tnat s 0xA6 1) 7 0
/-- RELAY_NODE. -/
def relayNode (s : State) : Nat := bits (tnat s 0xA6 4) 5 0
/-- RELAY_MAX in TK: units of 1,000 µs, 0 for the default of one (R159). -/
def relayMaxTk (s : State) : Nat := 250000 * max 1 (bits (tnat s 0xA6 4) 15 10)

/-- Word `o` of the descriptor of slot `sl` (R214). -/
def descW (s : State) (sl o : Nat) : Nat := tnat s 0x40 (16 * sl + o)

/-- The active swath runs in reverse (R144). -/
def swathRev (s : State) : Bool :=
  match s.ing.active with
  | some a => bit (descW s a.slot 3) 15
  | none => false

/-- One grid unit. -/
def gu : Int := 65536

/-! ### Position (R141-R143) -/

/-- Sum of the interval list, and its length. -/
def tavg (s : State) : Nat × Nat := (s.grid.intervals.foldl (· + ·) 0, s.grid.intervals.length)

/-- Ppred at TK `t` (R142, R155); how the internal position is rounded is open (log entry 13). -/
def gridPred (s : State) (t : Nat) : Int :=
  let g := s.grid
  match gridSrc s with
  | 1 =>
    let a := tavg s
    if a.2 = 0 then g.base
    else
      let k : Int := 64 * gu * ((t : Int) - g.tb) * a.2
      g.base + divOpen 1421 (if g.lastDown then -k else k) a.1
  | 2 => g.base + g.tokenVel * 64 * ((t : Int) - g.tb)
  | 3 => divOpen 1411 ((axisKin s (gridUnit s) t).x) 1024
  | _ => 0

/-- `x` lies behind `y` in the swath direction. -/
def behind (rev : Bool) (x y : Int) : Bool := if rev then decide (y < x) else decide (x < y)

/-- P after the position `held` of the TK before: inside a swath it never moves backwards (R142, R155); the commanded
position of SRC = 3 is exact on every TK (R141). -/
def holdAfter (s : State) (held p : Int) : Int :=
  if swathActive s && gridSrc s != 3 && behind (swathRev s) p held then held else p

/-- P in the present TK. -/
def gridP (s : State) : Int := holdAfter s s.grid.pHeld (gridPred s s.tk)

/-- P in the next TK (R145). -/
def gridPNext (s : State) : Int := holdAfter s (gridP s) (gridPred s (s.tk + 1))

/-- P in whole grid units (R141). -/
def gridUnits (s : State) : Int := gridP s / gu

/-- VEL of table 0xA7, Q16.16 grid units per TK: the rate of the prediction, 0 while P holds
(log entry 37). -/
def gridVel (s : State) : Int :=
  if swathActive s && gridSrc s != 3 && behind (swathRev s) (gridPred s s.tk) s.grid.pHeld then 0
  else match gridSrc s with
    | 1 =>
      let a := tavg s
      let k : Int := 64 * gu * a.2
      if a.2 = 0 then 0 else divOpen 1591 (if s.grid.lastDown then -k else k) a.1
    | 2 => s.grid.tokenVel * 64
    | 3 => divOpen 1592 ((axisKin s (gridUnit s) s.tk).v * 64) (250000000 * 65536)
    | _ => 0

/-! ### Errors, the GRID gate and swath marks -/

/-- Records error `code` of the grid block (R158). -/
def gridErr (code : Nat) (s : State) : State := recErr 0x05 code s

/-- NOSYNC (R139). -/
def gridNoSync (s : State) : Bool := gridSrc s == 2 && !s.vine.sync

/-- Brings the GRID gate source to what the conditions of R139, R148, R150 and R157 make it. -/
def gridGate (s : State) : State :=
  let closed := gridSrc s == 0 || gridNoSync s || s.grid.gateShut || s.grid.gatePolicy
  let s1 := raiseIfShut s.hc.gridClosed closed s
  { s1 with hc.gridClosed := closed }

/-- Changes the record of the swath in flight. -/
def onActiveRec (f : SwathRec → SwathRec) (s : State) : State :=
  match s.ing.active with
  | some a => { s with ing.active := some { a with rcd := f a.rcd } }
  | none => s

/-- The GRID gate closes for the rest of the swath in flight, which is marked GATED (log entry 38). -/
def gridShut (s : State) : State :=
  if swathActive s then
    gridGate (onActiveRec (fun r => { r with gated := true }) { s with grid.gateShut := true })
  else s

/-- Changes the records with serial `n`: the one in flight and those of table 0x44. A record that
changes to BAD raises GRID (R152). -/
def onRec (n : Nat) (f : SwathRec → SwathRec) (s : State) : State :=
  let s1 : State :=
    { s with grid.results := s.grid.results.map (fun r => if r.serial = n then f r else r) }
  let s2 : State := match s1.ing.active with
    | some a => if a.rcd.serial = n then { s1 with ing.active := some { a with rcd := f a.rcd } } else s1
    | none => s1
  if s.grid.results.any (fun r => decide (r.serial = n) && r.state != 3 && (f r).state == 3) then
    raise irqGrid s2
  else s2

/-- A record made BAD at `disc`, unless it is BAD already (log entry 30). -/
def badRec (disc : Int) (r : SwathRec) : SwathRec :=
  if r.state = 3 then r else { r with state := 3, disc := disc }

/-- A record made SUSPECT by a fire inside a region, or while LOCK = 0 (R149, R150). -/
def suspectRec (disc : Int) (region : Option Region) (r : SwathRec) : SwathRec :=
  let r1 := if r.state = 0 ∨ r.state = 2 then { r with state := 1, disc := disc } else r
  match region with
  | some g =>
    { r1 with relay := r1.relay || g.relay, lasting := r1.lasting || g.relay
              doubts := if r1.doubts.contains g.id then r1.doubts else r1.doubts ++ [g.id] }
  | none => { r1 with lasting := true }

/-! ### Suspect regions (R147, R148, R156, R157) -/

/-- A suspect region opens at the present P; REGIONS counts it. One already open takes the RELAY flag. -/
def openRegion (relay : Bool) (s : State) : State :=
  match s.grid.openRegion with
  | some r =>
    let r1 := { r with relay := r.relay || relay }
    { s with grid.openRegion := some r1
             grid.regions := s.grid.regions.map (fun q => if q.id = r.id then { q with relay := q.relay || relay } else q) }
  | none =>
    let r : Region := { id := s.grid.nextRegion, start := gridUnits s, relay := relay, swaths := [] }
    bump 0xA7 8 { s with grid.openRegion := some r, grid.regions := s.grid.regions ++ [r],
                         grid.nextRegion := s.grid.nextRegion + 1 }

/-- The open region closes. -/
def closeRegion (s : State) : State := { s with grid.openRegion := none }

/-! ### Verdicts (R151, R156) -/

/-- A new interval between verdicts begins. -/
def newInterval (s : State) : State :=
  { s with grid.regions := [], grid.fired := [], grid.posAtIndex := gridUnits s }

/-- Removes cleared regions from a record; it becomes CLEARED when no other suspicion is left. -/
def clearRec (ids : List Nat) (r : SwathRec) : SwathRec :=
  let d := r.doubts.filter (fun i => !ids.contains i)
  if r.doubts.any (fun i => ids.contains i) then
    { r with doubts := d, state := if r.state = 1 ∧ d = [] ∧ !r.lasting then 2 else r.state }
  else r

/-- The verdict on the regions opened since the last one (R151); a region with the RELAY flag is never
cleared, nor confirmed (R157, log entry 39). -/
def applyVerdict (mism : Bool) (s : State) : State :=
  let rs := s.grid.regions.filter (fun r => !r.relay)
  if mism then
    let s1 := gridErr 5 s
    if s.grid.regions.isEmpty then s.grid.fired.foldl (fun st n => onRec n (badRec s.grid.posAtIndex) st) s1
    else rs.foldl (fun st r => r.firedIn.foldl (fun st2 n => onRec n (badRec r.start) st2) st) s1
  else
    let ids := rs.map (fun r => r.id)
    rs.foldl (fun st r => r.swaths.foldl (fun st2 n => onRec n (clearRec ids) st2) st) s

/-- An index event of the source channel, with the comparison R129 made, if it made one. A region of an
interval without a comparison is never resolved. -/
def gridIndex (v : Option Bool) (s : State) : State :=
  match v with
  | some mism =>
    newInterval (applyVerdict mism { s with
      grid.verdictEpoch := (s.grid.verdictEpoch + 1) % 4, grid.verdictMism := mism })
  | none => newInterval s

/-! ### Counts (R142, R147, R148) -/

/-- `B = 64 × G` and `tb = tc`. -/
def rebase (g : Int) (tc : Nat) (s : State) : State :=
  { s with grid.base := 64 * g * gu, grid.tb := tc }

/-- An interval lies between WIN_LO/16 and WIN_HI/16 of Tavg. -/
def inWindow (s : State) (i : Nat) : Bool :=
  let a := tavg s
  decide (winLo s * a.1 ≤ i * 16 * a.2) && decide (i * 16 * a.2 ≤ winHi s * a.1)

/-- An acquisition count (R142). -/
def acquire (g : Int) (down same : Bool) (tc : Nat) (s : State) : State :=
  let i := match s.grid.lastStamp with | some t => tc - t | none => 0
  let keep := same && s.grid.lastStamp.isSome && (s.grid.intervals.isEmpty || inWindow s i)
  let ivs := if keep then (i :: s.grid.intervals).take 4 else []
  rebase g tc { s with
    grid.intervals := ivs, grid.dirDown := down, grid.lastDown := down, grid.lock := decide (4 ≤ ivs.length) }

/-- The count that closes a region (R148). -/
def closeSlip (c : Int) (tc : Nat) (s : State) : State :=
  let g := c + s.grid.ofs
  let slip := roundDivTowardZero (gridPred s tc - 64 * g * gu) (64 * 65536)
  let start := match s.grid.openRegion with | some r => r.start | none => 0
  let s1 := closeRegion s
  if slip.natAbs ≤ tnat s 0xA6 2 % 16 then
    let s2 := if slip ≠ 0 then bump 0xA7 7 s1 else s1
    rebase (g + slip) tc { s2 with grid.ofs := s.grid.ofs + slip }
  else
    gridShut (markBad start (gridErr 4 (rebase g tc (gridUnlock s1))))

/-- The class of a count with stamp `tc` (R147): the error of an early one, 0x03 against the direction, or of a late one;
none in the window. Inside a region nothing is late any more. -/
def countClass (s : State) (same : Bool) (tc : Nat) : Option Nat :=
  let i := tc - s.grid.tb
  let a := tavg s
  if !same then some 3
  else if i * 16 * a.2 < winLo s * a.1 then some 1
  else if inWindow s i || s.grid.openRegion.isSome then none
  else some 2

/-- The count closes the open region (R148): it runs with the track, and its interval from the count before is in the
window. -/
def closesRegion (s : State) (same : Bool) (tc : Nat) : Bool :=
  s.grid.openRegion.isSome && same && s.grid.lastStamp.any (fun t => inWindow s (tc - t))

/-- A count of the source arrives at the grid with LOCK = 1 (R142, R147, R148). Ppred runs in its direction from now on.
A reversal with no swath active clears LOCK, and the count is the first of a new acquisition (log entry 92). -/
def lockedCount (g : Int) (same : Bool) (tc : Nat) (s : State) : State :=
  let e := encOf s (gridUnit s)
  let s0 := { s with grid.lastDown := e.down }
  let s1 := match countClass s same tc with
    | some code => openRegion false (gridErr code s0)
    | none => s0
  if closesRegion s same tc then closeSlip e.count tc s1
  else if !same && !swathActive s then acquire g e.down false tc (gridUnlock s1)
  else if (countClass s same tc).isSome || s.grid.openRegion.isSome then s1
  else rebase g tc { s1 with grid.intervals := ((tc - s.grid.tb) :: s.grid.intervals).take 4 }

/-- A count of the source arrives at the grid (R142, R147, R148). -/
def gridCountOp (s : State) : State :=
  let c := gridUnit s
  let e := encOf s c
  let tc := s.tk - (encFilt s c + 3)
  let same := s.grid.dirDown == e.down
  let g := e.count + s.grid.ofs
  let s1 := if s.grid.lock then lockedCount g same tc s else acquire g e.down same tc s
  { s1 with grid.lastStamp := some tc, grid.lastG := e.count }

/-- The window of the next count has passed (R147). -/
def countIsLate (s : State) : Bool :=
  let a := tavg s
  gridSrc s == 1 && s.grid.lock && s.grid.openRegion.isNone
    && decide (winHi s * a.1 ≤ (s.tk - s.grid.tb) * 16 * a.2)

/-! ### Configuration writes (R140) -/

/-- The source changes (R138): nothing of the old source's track is kept (log entry 40). -/
def gridRestart (s : State) : State :=
  let s1 := closeRegion (gridUnlock s)
  newInterval { s1 with
    grid.ofs := 0, grid.lastStamp := none, grid.tb := s.tk
    grid.base := if gridSrc s = 1 then 64 * (encOf s (gridUnit s)).count * gu else 0
    grid.lastG := (encOf s (gridUnit s)).count
    grid.tokenTs := none, grid.tokenVel := 0, grid.lastToken := s.tk, grid.lost := false
    grid.lostOut := false, grid.rxEpoch := none }

/-- A RELAY_NODE that SRC = 2 may use (R155). -/
def relayNodeOk (s : State) (n : Nat) : Bool := decide (1 ≤ n) && decide (n ≤ 62) && n != s.vine.nodeId

/-- A value that word `a` of table 0xA6 takes (R140, R155, R159). -/
def gridCfgOk (s : State) (a d : Nat) : Bool :=
  match a with
  | 0 => bits d 10 9 != 3 && (bits d 15 14 != 2 || relayNodeOk s (relayNode s))
  | 1 => decide (17 ≤ bits d 15 8) && decide (bits d 15 8 ≤ 64) && decide (1 ≤ bits d 7 0)
      && decide (bits d 7 0 ≤ 15)
  | 2 => decide (1 ≤ d % 16)
  | 3 => decide (128 ≤ d)
  | _ => decide (bits d 15 10 ≤ 60) && decide (bits d 5 0 ≤ 62)
      && (gridSrc s != 2 || relayNodeOk s (bits d 5 0))

/-- The bits of word `a` of table 0xA6 that are stored. -/
def gridCfgKeep (a d : Nat) : Nat :=
  match a with
  | 0 => d / 256 * 256 | 2 => d % 16 | 4 => bits d 15 10 * 1024 + bits d 5 0 | _ => d

/-- A write to table 0xA6 (R140). -/
def gridCfgWriteOp (a : Nat) (d : Word) (s : State) : State :=
  if swathActive s then gridErr 9 { s with grid.cfgbusy := true }
  else if !gridCfgOk s a d.toNat then gridErr 9 { s with grid.cfgerr := true }
  else
    let s1 := tset 0xA6 a (word (gridCfgKeep a d.toNat)) s
    gridGate (if a = 0 ∧ (gridSrc s1 ≠ gridSrc s ∨ (gridUnit s1 ≠ gridUnit s ∧ gridSrc s ≠ 2)) then gridRestart s1 else s1)

/-! ### Relay (R154-R157) -/

/-- Tokens are being sent (R154, R159 TXON). -/
def tokensOn (s : State) : Bool :=
  (gridSrc s == 1 || gridSrc s == 3) && bit (tnat s 0xA6 0) 8 && s.vine.ready

/-- The three words of a token (R154). -/
def tokenWords (s : State) : List Word :=
  let t := s.tick.toNat
  let p := unsigned 19 (gridUnits s)
  let w0 := bits t 14 6 * 128 + atBit s.grid.openRegion.isSome 6 + atBit s.grid.verdictMism 5
    + s.grid.verdictEpoch * 8 + p / 65536
  let v := clampInt (roundDiv (gridVel s) 64) (-32768) 32767
  [word w0, word p, word (unsigned 16 v)]

/-- A token of the fields of R154. -/
def tokenOf (ws : List Word) : Token :=
  let w0 := (nth ws 0).toNat
  { stamp := BitVec.ofNat 9 (bits w0 15 7), sus := bit w0 6, mism := bit w0 5
    epoch := BitVec.ofNat 2 (bits w0 4 3)
    pos := BitVec.ofNat 19 (bits w0 2 0 * 65536 + (nth ws 1).toNat), vel := nth ws 2 }

/-- The number congruent to `x` modulo `m` nearest to `y` (R155). -/
def nearestMod (x y : Int) (m : Nat) : Int :=
  let d := (x - y) % (m : Int)
  if 2 * d < m then y + d else y + d - m

/-- The EPOCH of a token against the last accepted one (R156). -/
def tokenVerdict (t : Token) (s : State) : State :=
  match s.grid.rxEpoch with
  | none => newInterval s
  | some e =>
    let d := (t.epoch.toNat + 4 - e) % 4
    if d = 0 then s
    else if d = 1 then newInterval (applyVerdict t.mism s)
    else newInterval s

/-- A token is accepted (R155, R156, R157). P(ts) is read off the line in force (log entry 41). -/
def acceptToken (t : Token) (back : Nat) (s : State) : State :=
  let s1 := match s.grid.openRegion with
    | some r => if r.relay then closeRegion s else s
    | none => s
  let s2 := tokenVerdict t s1
  let own := (s.grid.base + s.grid.tokenVel * 64 * ((s.tk : Int) - back - s.grid.tb)) / gu
  let ps := nearestMod t.pos.toNat own 524288
  let v := t.vel.toInt
  let s3 : State := { s2 with
    grid.base := ps * gu + v * 64 * back, grid.tb := s.tk, grid.tokenVel := v
    grid.tokenTs := some ((s.tick.toNat + 2 ^ 48 - back) % 2 ^ 48), grid.lastToken := s.tk, grid.lost := false
    grid.lostOut := false, grid.rxEpoch := some t.epoch.toNat, grid.rxMism := t.mism }
  if t.sus then openRegion false s3 else closeRegion s3

/-- A token sampled `back` TK ago is newer than the last one accepted (R155); TICK wraps at 2^48 (R10), so the one ahead
by less than half of that is the newer. -/
def tokenNewer (s : State) (back : Nat) : Bool :=
  match s.grid.tokenTs with
  | some o =>
    let d := (s.tick.toNat + 2 ^ 49 - back - o) % 2 ^ 48
    decide (0 < d) && decide (d < 2 ^ 47)
  | none => true

/-- A GRID packet arrives (R155). -/
def gridToken (src : Nat) (t : Token) (s : State) : State :=
  let back := (s.tick.toNat + 32768 - t.stamp.toNat * 64) % 32768
  if gridSrc s == 2 && src == relayNode s && tokenNewer s back then acceptToken t back s else s

/-- RELAY_TMO passes without a token (R157). -/
def relayTimeoutOp (s : State) : State :=
  if gridSrc s == 2 && !s.grid.lost && decide (tnat s 0xA6 3 ≤ s.tk - s.grid.lastToken) then
    bump 0xA7 9 (gridErr 6 (openRegion true { s with
      grid.lost := true, grid.lossStart := gridUnits s, grid.relaylost := true }))
  else s

/-- The loss has lasted RELAY_MAX (R157): the swath in flight, if there is one, is BAD from where the loss started, and
the gate is shut for the rest of it. -/
def relayOut (s : State) : State :=
  gridShut (markBad s.grid.lossStart (onActiveRec (fun r => { r with relay := true }) s))

/-- RELAY_MAX passes without a token (R157). -/
def relayMaxOp (s : State) : State :=
  if gridSrc s == 2 && s.grid.lost && !s.grid.lostOut && decide (relayMaxTk s ≤ s.tk - s.grid.lastToken) then
    gridErr 7 (relayOut { s with grid.lostOut := true })
  else s

/-- A swath that begins while the loss has lasted RELAY_MAX already fares no better (R157). -/
def relayAtAdmission (s : State) : State := if gridSrc s == 2 && s.grid.lostOut then relayOut s else s

/-- FAB_STAT.SYNC clears (R139). -/
def gridSyncLost (s : State) : State :=
  if gridSrc s == 2 && swathActive s then
    raise irqGrid (gridErr 10 (gridShut (markBad (gridUnits s) s)))
  else gridGate s

/-! ### Swath records and the skip log (R150, R152, R159) -/

/-- The record of a swath that has ended (R152). -/
def writeRecord (r : SwathRec) (s : State) : State :=
  let s1 : State := { s with grid.results := (r :: s.grid.results).take 32
                             grid.resultTotal := s.grid.resultTotal + 1 }
  if r.state = 1 ∨ r.state = 3 then raise irqGrid s1 else s1

/-- A fire that SKIP holds, for one channel (R150). -/
def logSkip (ch : Nat) (col : Int) (s : State) : State :=
  match s.ing.active with
  | some a =>
    let e : SkipEntry := { channel := ch, column := unsigned 16 col, swath := a.rcd.swath, pass := a.rcd.pass
                           layer := a.rcd.layer }
    let s1 := onActiveRec (fun r => { r with skipped := sat16 (r.skipped + 1) }) { s with
      grid.skips := (e :: s.grid.skips).take 128, grid.skipTotal := s.grid.skipTotal + 1 }
    if 128 ≤ s.grid.skips.length then gridErr 8 { s1 with grid.skipOver := sat16 (s.grid.skipOver + 1) }
    else s1
  | none => s

/-- The number `n` at the end of a list that does not hold it. -/
def listed (n : Nat) (l : List Nat) : List Nat := if l.contains n then l else l ++ [n]

/-- A target of the swath in flight falls due inside the open region, or while LOCK = 0: the swath becomes SUSPECT
(R149, R150). -/
def markTarget (s : State) : State :=
  match s.ing.active with
  | none => s
  | some a =>
    match s.grid.openRegion with
    | some r =>
      onActiveRec (suspectRec r.start (some r)) { s with
        grid.regions := s.grid.regions.map (fun q =>
          if q.id = r.id then { q with swaths := listed a.rcd.serial q.swaths } else q) }
    | none =>
      if gridSrc s == 1 && !s.grid.lock then onActiveRec (suspectRec (gridUnits s) none) s else s

/-- Notes that the swath in flight issued or held a fire: in the interval since the last index event, and in the open
region, if any (R151). -/
def markFire (s : State) : State :=
  match s.ing.active with
  | none => s
  | some a =>
    { s with
      grid.fired := listed a.rcd.serial s.grid.fired
      grid.regions := match s.grid.openRegion with
        | some r => s.grid.regions.map (fun q =>
            if q.id = r.id then { q with firedIn := listed a.rcd.serial q.firedIn } else q)
        | none => s.grid.regions }

/-! ### Meanings -/

/-- The present sample of Z (R121, R129): the first TK in which filtered Z is active and the A/B condition holds is an
index event. -/
def indexSample (c : Nat) (z : Bool) (s : State) : State :=
  let e := encOf s c
  let s1 := setEnc c (fun e => { e with
    smpZ := smpPut z e.smpZ, levelZ := smpLevel (encFilt s c) e.levelZ (smpPut z e.smpZ) }) s
  let s2 := setEnc c (fun e => { e with idxOn := indexOn s1 c }) s1
  if indexOn s1 c && !e.idxOn then
    let v := indexVerdict s2 c
    let s3 := indexStep c s2
    if isGridSource s c then gridIndex v s3 else s3
  else s2

/-- INDEX_EVENT (R128, R129, R151): the present sample of Z. -/
def execIndexEvent (z : ZSample) (s : State) : Out :=
  .next (if clocked s && encActive s z.ch.val && encMode s z.ch.val == 0 then indexSample z.ch.val z.level s else s)

/-- GRID_CFG_WRITE (R140). -/
def execGridCfgWrite (addr : Fin 5) (data : Word) (s : State) : Out :=
  .next (if clocked s then routedOp (.tbl 0xA6 addr.val data) (gridCfgWriteOp addr.val data) s else s)

/-- GRID_COUNT (R142): the source channel has counted since the last one. -/
def execGridCount (s : State) : Out :=
  .next (if clocked s && gridSrc s == 1 && encActive s (gridUnit s)
      && decide ((encOf s (gridUnit s)).count ≠ s.grid.lastG) then gridCountOp s else s)

/-- COUNT_LATE (R147). -/
def execCountLate (s : State) : Out :=
  .next (if clocked s && countIsLate s then gridErr 2 (openRegion false s) else s)

/-- GRID_TOKEN_SEND (R154): at a TICK that is a multiple of 64. -/
def execGridTokenSend (s : State) : Out :=
  .next (if clocked s && tokensOn s && decide (s.tick.toNat % 64 = 0) then
    broadcast 0x13 1 (tokenWords s) s else s)

/-- GRID (R155). -/
def execPktGrid (h : Hdr) (token : Token) (s : State) : Out :=
  .next (if clocked s && s.vine.nodeId != 0 then gridToken h.src.toNat token (arrived h.dst.toNat 1 h.src.toNat s) else s)

/-- RELAY_TIMEOUT (R157). -/
def execRelayTimeout (s : State) : Out := .next (if clocked s then relayTimeoutOp s else s)

/-- RELAY_MAX_EXPIRY (R157). -/
def execRelayMaxExpiry (s : State) : Out := .next (if clocked s then relayMaxOp s else s)

end Sys2Proof.Machine
end

