-- ==== Sys2Proof/Machine/Planes.lean ====
section
/-! DEFINITION. What a swath presents to its channels: slots and formats (R195, R200), raw and run-length
records (R201-R203), pass masks and substitution (R204), and the fire units with their targets
(R144, R163, R164). -/

namespace Sys2Proof.Machine

/-! ### Channels and groups -/

/-- Word `o` of channel `c` of table 0x20. -/
def chW (s : State) (c o : Nat) : Nat := tnat s 0x20 (4 * c + o)
/-- USED. -/
def chUsed (s : State) (c : Nat) : Bool := bit (chW s c 0) 15
/-- NOZ + 1, the nozzles of channel `c`. -/
def nozCount (s : State) (c : Nat) : Nat := bits (chW s c 0) 9 0 + 1
/-- Word `o` of group `g` of table 0x21. -/
def grW (s : State) (g o : Nat) : Nat := tnat s 0x21 (8 * g + o)
/-- MODE: 0 off, 1 L, 2 S, 3 P. -/
def grMode (s : State) (g : Nat) : Nat := bits (grW s g 0) 15 14
/-- DRIVE: 0 PULSE, 1 WDAC, 2 EXT. -/
def grDrive (s : State) (g : Nat) : Nat := bits (grW s g 0) 13 12
/-- The WDAC a group selects. -/
def grWdac (s : State) (g : Nat) : Nat := bits (grW s g 0) 11 9
/-- The USED channels of a group. -/
def grUsed (s : State) (g : Nat) : List Nat :=
  ((List.range 8).map (fun i => 8 * g + i)).filter (chUsed s)
/-- Group `g` is driven by WDAC `w`. -/
def onWdac (s : State) (w g : Nat) : Bool := grMode s g != 0 && grDrive s g == 1 && grWdac s g == w

/-! ### Fire units (R163) -/

/-- The trigger channel of the unit that channel `c`'s group belongs to. -/
def unitTrig (s : State) (g : Nat) : Option Nat :=
  if grMode s g = 0 then none
  else if grDrive s g = 1 then some (bits (tnat s 0x24 (4 * grWdac s g)) 7 0)
  else (grUsed s g).head?

/-- The groups of the unit that channel `t` triggers. -/
def unitGroups (s : State) (t : Nat) : List Nat :=
  if unitTrig s (t / 8) = some t then
    (if grDrive s (t / 8) = 1 then (List.range 32).filter (onWdac s (grWdac s (t / 8))) else [t / 8])
  else []

/-- The members of the unit that channel `t` triggers. -/
def unitMembers (s : State) (t : Nat) : List Nat := (unitGroups s t).flatMap (grUsed s)

/-! ### Targets (R144, R164) -/

/-- OFFSET of channel `c` (table 0xA5). -/
def chOffset (s : State) (c : Nat) : Int := signed 24 (tnat32 s 0xA5 (2 * c))
/-- BIDIR of channel `c`'s group for the swath direction. -/
def bidir (s : State) (rev : Bool) (c : Nat) : Int :=
  signed 16 (tnat s 0xA5 (512 + 2 * (c / 8) + (if rev then 1 else 0)))

/-- A 48-bit signed value at words `a` to `a + 2` of a table. -/
def tint48 (s : State) (t a : Nat) : Int := signed 48 (tnat32 s t a + tnat s t (a + 2) * 2 ^ 32)

/-- START of a slot's descriptor. -/
def descStart (s : State) (sl : Nat) : Int := tint48 s 0x40 (16 * sl + 4)
/-- DIR: the swath runs in reverse. -/
def descRev (s : State) (sl : Nat) : Bool := bit (descW s sl 3) 15
/-- PASS. -/
def descPass (s : State) (sl : Nat) : Nat := bits (descW s sl 3) 14 11
/-- MASKEN. -/
def descMasked (s : State) (sl : Nat) : Bool := bit (descW s sl 3) 10
/-- FABRIC. -/
def descFabric (s : State) (sl : Nat) : Bool := bit (descW s sl 3) 9
/-- FORMAT. -/
def descFormat (s : State) (sl : Nat) : Nat := bits (descW s sl 3) 2 0
/-- PITCH. -/
def descPitch (s : State) (sl : Nat) : Nat := descW s sl 7
/-- COLS. -/
def descCols (s : State) (sl : Nat) : Nat := descW s sl 8
/-- BYTES. -/
def descBytes (s : State) (sl : Nat) : Nat := tnat32 s 0x40 (16 * sl + 9)
/-- VREQ. -/
def descVreq (s : State) (sl : Nat) : Nat := tnat32 s 0x40 (16 * sl + 11)
/-- VMIN. -/
def descVmin (s : State) (sl : Nat) : Nat := bits (descW s sl 13) 6 0

/-- The swath direction as a sign. -/
def dirSign (rev : Bool) : Int := if rev then -1 else 1

/-- X(c, k), in grid units (R144). -/
def target (s : State) (sl c : Nat) (k : Int) : Int :=
  let rev := descRev s sl
  descStart s sl + dirSign rev * k * descPitch s sl + chOffset s c + bidir s rev c

/-- Δc of member `c` against trigger `t` (R164). -/
def colDelta (s : State) (sl t c : Nat) : Int :=
  let rev := descRev s sl
  roundDivTowardZero (dirSign rev * (chOffset s c + bidir s rev c - chOffset s t - bidir s rev t)) (descPitch s sl)

/-- The trigger columns of a unit: first and last (R164). -/
def unitCols (s : State) (sl t : Nat) : Int × Int :=
  let ds := (unitMembers s t).map (colDelta s sl t)
  (ds.foldl min 0, (descCols s sl : Int) - 1 + ds.foldl max 0)

/-! ### Formats and slots (R195, R200) -/

/-- First byte of a slot in the swath buffer. -/
def slotBase (s : State) (sl : Nat) : Nat := tnat s 0x41 (2 * sl) % 256 * 65536
/-- Bytes of a slot; 0 when it is unused. -/
def slotSize (s : State) (sl : Nat) : Nat := tnat s 0x41 (2 * sl + 1) % 256 * 65536
/-- RLE of format `f`. -/
def fmtRle (s : State) (f : Nat) : Bool := bit (tnat s 0x41 (16 + 3 * f)) 15
/-- FIRSTCH of format `f`. -/
def fmtFirst (s : State) (f : Nat) : Nat := tnat s 0x41 (17 + 3 * f) % 256
/-- NCH of format `f`. -/
def fmtCount (s : State) (f : Nat) : Nat := tnat s 0x41 (18 + 3 * f) % 512
/-- The channels of format `f`. -/
def fmtChans (s : State) (f : Nat) : List Nat := (List.range (fmtCount s f)).map (fun i => fmtFirst s f + i)

/-- The swath buffer's byte before anything is written (log entry 8). -/
def ramDefault (_ : Nat) : Byte := 0

/-- Byte `i` of slot `sl`. -/
def slotByte (s : State) (sl i : Nat) : Nat := (cellGet ramDefault s.swathRam (slotBase s sl + i)).toNat

/-- Bytes of a raw channel record (R201). -/
def rawBytes (n : Nat) : Nat := 2 * ceilDiv n 8

/-- Bytes of a raw column record (R201). -/
def rawColumn (s : State) (f : Nat) : Nat := (fmtChans s f).foldl (fun a c => a + rawBytes (nozCount s c)) 0

/-- Where the channels of a format before `c` end in a raw column. -/
def rawBefore (s : State) (f c : Nat) : Nat :=
  ((fmtChans s f).filter (fun x => decide (x < c))).foldl (fun a x => a + rawBytes (nozCount s x)) 0

/-- What a channel's record of one column is: its codes, a record beyond the fill mark, or a decode
error. -/
inductive Column where
  | codes (l : List Nat)
  | beyond
  | bad
  deriving DecidableEq, Repr

/-- The codes of a raw record at byte `o` (R201). -/
def rawCodes (s : State) (sl o n : Nat) : List Nat :=
  (List.range n).map (fun i => slotByte s sl (o + i / 4) / 4 ^ (3 - i % 4) % 4)

/-- Length of a run-length record at byte `o`: header, body and padding (R202). -/
def rleLength (s : State) (sl o : Nat) : Nat :=
  let b := (slotByte s sl o * 256 + slotByte s sl (o + 1)) % 32768
  2 + b + b % 2

/-- Where record number `n` of a run-length slot starts, or none once a header lies beyond `fill`. -/
def rleOffset (s : State) (sl fill : Nat) : Nat → Option Nat
  | 0 => some 0
  | n + 1 =>
    match rleOffset s sl fill n with
    | some o => if o + 2 ≤ fill then some (o + rleLength s sl o) else none
    | none => none

/-- The codes that the run bytes of a record spell (R202). -/
def rleRuns (s : State) (sl o n : Nat) : List Nat :=
  (List.range n).flatMap (fun i =>
    List.replicate (slotByte s sl (o + i) % 64 + 1) (slotByte s sl (o + i) / 64))

/-- The record of channel `c` in column `k` of slot `sl` (R200-R203, R210). -/
def slotColumn (s : State) (sl c k : Nat) : Column :=
  let f := descFormat s sl
  let n := nozCount s c
  let fill := ((s.ing.slots.getD sl {}).fill)
  if fmtRle s f then
    match rleOffset s sl fill (k * fmtCount s f + (c - fmtFirst s f)) with
    | none => .beyond
    | some o =>
      if fill < o + 2 ∨ fill < o + rleLength s sl o then .beyond
      else
        let h := slotByte s sl o * 256 + slotByte s sl (o + 1)
        let b := h % 32768
        if 32768 ≤ h then (if b = rawBytes n then .codes (rawCodes s sl (o + 2) n) else .bad)
        else
          let l := rleRuns s sl (o + 2) b
          if l.length = n then .codes l else .bad
  else
    let o := k * rawColumn s f + rawBefore s f c
    if fill < o + rawBytes n then .beyond else .codes (rawCodes s sl o n)

/-! ### Masks and substitution (R204) -/

/-- MB(m, n, k) (R214). -/
def maskBit (s : State) (m n k : Nat) : Bool :=
  bit (tnat s 0x42 (1024 * m + 4 * (n % 256) + k % 64 / 16)) (k % 16)

/-- A valid entry of the substitution table (R214). -/
structure Subst where
  entry : Nat
  channel : Nat
  nozzle : Nat
  delta : Int
  dp : Nat
  deriving DecidableEq, Repr

/-- Entry `e` of table 0x43, if valid. -/
def substEntry (s : State) (e : Nat) : Option Subst :=
  let w0 := tnat s 0x43 (2 * e)
  let w1 := tnat s 0x43 (2 * e + 1)
  if bit w0 15 then
    some { entry := e, channel := w1 / 256, nozzle := bits w0 9 0, delta := signed 8 w1, dp := bits w0 13 12 }
  else none

/-- The valid entries of channel `c`. -/
def substOf (s : State) (c : Nat) : List Subst :=
  ((List.range 1024).filterMap (substEntry s)).filter (fun e => e.channel == c)

/-- Nozzle `n` is OUT: a valid entry of its channel names it. -/
def isOut (es : List Subst) (n : Int) : Bool := es.any (fun e => (e.nozzle : Int) == n)

/-- The pass whose drops an entry covers: DP codes +1 as 1 and −1 as 3. -/
def dpPass (p dp : Nat) : Int := if dp = 1 then (p : Int) - 1 else (p : Int) + 1

/-- The effective codes of channel `c` at column `k`, pass `p` (R204), and the covers skipped. -/
def effective (s : State) (masked : Bool) (p c k : Nat) (codes : List Nat) : List Nat × Nat :=
  let es := substOf s c
  let show_ (q n : Nat) : Bool := !masked || maskBit s q n k
  let own (n : Nat) : Nat := if show_ p n then codes.getD n 0 else 0
  let base := (List.range codes.length).map (fun (n : Nat) => if isOut es n then 0 else own n)
  let cover (acc : List Nat × Nat) (e : Subst) : List Nat × Nat :=
    let n' : Int := e.nozzle + e.delta
    if e.delta = 0 then acc
    else if isOut es n' then (acc.1, acc.2 + 1)
    else if e.dp = 0 then (modifyNth (fun x => max x (own e.nozzle)) acc.1 n'.toNat, acc.2)
    else
      let q := dpPass p e.dp
      if 0 ≤ q ∧ q ≤ 15 ∧ show_ q.toNat e.nozzle then
        (modifyNth (fun x => max x (codes.getD n'.toNat 0)) acc.1 n'.toNat, acc.2)
      else acc
  es.foldl cover (base, 0)

end Sys2Proof.Machine
end

