-- ==== Sys2Proof/Machine/HeadCare.lean ====
section
/-! DEFINITION. Head care (R215-R248): head records, consumables, head temperature, gating inputs, gate
commands, and nozzle signatures with their substitutions. -/

namespace Sys2Proof.Machine

/-- Records error `code` of the head-care block (R246). -/
def hcErr (code : Nat) (s : State) : State := recErr 0x08 code s
/-- Records error `code` with its lees record. -/
def hcErrLees (code : Nat) (data : List Nat) (s : State) : State := recErrLees 0x08 code data s
/-- A refused command (R216). -/
def hcRefuse (s : State) : State := hcErr 9 { s with hc.cmderr := true }

/-- The items of 0 to `n - 1` that TARGET names; 63 means all of them (R216). -/
def hcTargets (n t : Nat) : List Nat := if t = 63 then List.range n else if t < n then [t] else []

/-! ### Head map and records (R218-R222) -/

/-- An entry of the head map is enabled. -/
def headEn (s : State) (h : Nat) : Bool := bit (tnat s 0x51 (2 * h)) 15
/-- BUS of head `h`. -/
def headBus (s : State) (h : Nat) : Nat := bits (tnat s 0x51 (2 * h)) 14 13
/-- FIRSTGRP. -/
def headFirst (s : State) (h : Nat) : Nat := bits (tnat s 0x51 (2 * h + 1)) 12 8
/-- NGRP. -/
def headGroups (s : State) (h : Nat) : Nat := bits (tnat s 0x51 (2 * h + 1)) 2 0 + 1
/-- NOHID bit of group `g`. -/
def noHid (s : State) (g : Nat) : Bool := bit (tnat32 s 0x51 64) g
/-- The enabled entry that covers group `g`. -/
def headOf (s : State) (g : Nat) : Option Nat :=
  (List.range 32).find? (fun h => headEn s h && decide (headFirst s h ≤ g) && decide (g < headFirst s h + headGroups s h))

/-- Byte `i` of the stored record of head `h`. -/
def recByte (s : State) (h i : Nat) : Nat := tbyte s 0x50 (64 * h + i)
/-- GOOD of head `h` (R248). -/
def headGood (s : State) (h : Nat) : Bool := bit (tnat s 0x50 (1024 + h)) 15

/-- The first failed check of a record (R221), as the fault code of table 0x50; 0 when it is good. -/
def recordFault (s : State) (h : Nat) (bs : List Byte) : Nat :=
  let b (i : Nat) : Nat := (bs.getD i 0).toNat
  let rows := List.range (b 8)
  let chan (i : Nat) : Nat := 8 * headFirst s h + i
  if b 0 ≠ 0x4E ∨ b 1 ≠ 0x48 then 2
  else if b 2 ≠ 1 then 3
  else if 8 * headGroups s h < b 8 then 4
  else if rows.any (fun i => decide (b (16 + i) < 0x41) || decide (0x48 < b (16 + i))) then 5
  else if rows.any (fun i => !chUsed s (chan i) || nozCount s (chan i) != b 10 * 256 + b 11) then 6
  else if natLE ((bs.drop 60).take 4) ≠ crc32 (bs.take 60) then 7
  else 0

/-- RANK of channel `c` (R222). -/
def rankOf (s : State) (c : Nat) : Nat :=
  match headOf s (c / 8) with
  | some h =>
    let i := c - 8 * headFirst s h
    if headGood s h && decide (i < recByte s h 8) then recByte s h (16 + i) - 0x41 else 0
  | none => 0

/-- The energy curve channel `c` uses (R178). -/
def curveOf (s : State) (c : Nat) : Nat :=
  bits (chW s c 2) 12 8 + (if bit (chW s c 0) 14 then rankOf s c else 0)

/-- A curve is valid: it exists and passes its check word (R177). -/
def curveOk (s : State) (e : Nat) : Bool :=
  decide (e ≤ 31) && (sumWords (twords s 0x23 (512 * e) 290) == 0xFFFF)

/-- A rank has made the curve of a channel of group `g` invalid (R178). -/
def rankBad (s : State) (g : Nat) : Bool :=
  grMode s g != 0 && (grUsed s g).any (fun c => bit (chW s c 0) 14 && !curveOk s (curveOf s c))

/-- HEADID is closed for group `g` (R178, R222). -/
def headidShut (s : State) (g : Nat) : Bool :=
  match headOf s g with
  | some h => (s.hc.reads.getD h {}).busy || !headGood s h || rankBad s g
  | none => !noHid s g

/-- Brings the HEADID sources to what R222 makes them. -/
def headidUpdate (s : State) : State := setHeadid (grpMap (headidShut s)) s

/-- Sets a W1C flag of JET_STAT and LASTGRP (R186). -/
def jetFlag (g : Nat) (f : Jet → Jet) (s : State) : State :=
  { s with jet := { f s.jet with lastGrp := g } }

/-- Stores the outcome of a read of head `h` and applies it (R178, R219, R222). -/
def headStatus (h fault : Nat) (s : State) : State :=
  let w := (if fault = 0 then 0x8000 else 0) + 0x4000 + fault
  tset 0x50 (1024 + h) (word w) s

/-- A head's channels have their wait counts set to 0 (R238). -/
def clearWaits (s0 : State) (h : Nat) (s : State) : State :=
  { s with hc.nozzles := s.hc.nozzles.map (fun z =>
      if headFirst s0 h ≤ z.channel / 8 ∧ z.channel / 8 < headFirst s0 h + headGroups s0 h then
        { z with wait := 0 } else z) }

/-- Changes the read of head `h`. -/
def setRead (h : Nat) (f : HeadRead → HeadRead) (s : State) : State :=
  { s with hc.reads := modifyNth f s.hc.reads h }

/-- Gives bus `b`, when no read is in progress on it, to the waiting head with the lowest index (R219). -/
def pumpBus (b : Nat) (s : State) : State :=
  let waits (h : Nat) : Bool := headBus s h == b && (s.hc.reads.getD h {}).busy
  if (List.range 32).any (fun h => waits h && (s.hc.reads.getD h {}).active) then s
  else match (List.range 32).find? waits with
    | some h => setRead h (fun r => { r with active := true }) s
    | none => s

/-- The four buses, which run in parallel (R219). -/
def pumpBuses (s : State) : State := (List.range 4).foldl (fun st b => pumpBus b st) s

/-- CURVEBAD for the groups of head `h` of which a read, since the state `s0`, has changed a rank (R178). -/
def curveBadCheck (s0 : State) (h : Nat) (s : State) : State :=
  ((List.range (headGroups s h)).map (fun i => headFirst s h + i)).foldl (fun st g =>
    if rankBad s g && (grUsed s g).any (fun c => rankOf s c != rankOf s0 c) then
      recErr 0x06 6 (jetFlag g (fun j => { j with curvebad := true }) st) else st) s

/-- What the device writes into head `h` after a read (R238): the offset 0x0040, SDLY and SLEN of the head's first group
(log entry 159), and 0x5A. -/
def senseWrite (s : State) (h : Nat) : List Byte :=
  [0x00, 0x40] ++ bytesBE 2 (tnat s 0x59 (8 * headFirst s h + 1))
    ++ [BitVec.ofNat 8 (bits (tnat s 0x59 (8 * headFirst s h)) 6 0), 0x5A]

/-- A read of head `h` has delivered its 64 bytes (R219 steps 4 and 5). -/
def headComplete (h : Nat) (bs : List Byte) (s : State) : State :=
  let fault := recordFault s h bs
  let s1 := headStatus h fault (tsetRun 0x50 (32 * h) (packWords bs)
    (pumpBuses (setRead h (fun _ => { sent := senseWrite s h }) s)))
  let s2 := if fault = 0 then s1 else hcErrLees 2 [h, fault] s1
  headidUpdate (curveBadCheck s h (clearWaits s h s2))

/-- A read attempt of head `h` has failed: a retry 1 ms later, up to three, then failure (R219). -/
def headAttemptFails (h : Nat) (s : State) : State :=
  let r := s.hc.reads.getD h {}
  if r.tries < 3 then
    setRead h (fun r => { r with tries := r.tries + 1, retryAt := some (s.tk + msTk 1) }) s
  else headidUpdate (hcErr 1 (headStatus h 1 (pumpBuses (setRead h (fun r => { sent := r.sent }) s))))

/-- Starts reading the enabled heads of a list; a head whose read waits or is in progress keeps it (R219). -/
def startReads (hs : List Nat) (s : State) : State :=
  headidUpdate (pumpBuses (hs.foldl (fun st h =>
    if headEn s h then setRead h (fun r => { r with busy := true }) st else st) s))

/-- The stored records are checked again against the channel configuration, without bus access (R222). -/
def recheckHeads (s : State) : State :=
  headidUpdate ((List.range 32).foldl (fun st h =>
    let w := tnat s 0x50 (1024 + h)
    if headEn s h && bit w 14 && w % 16 != 1 then
      headStatus h (recordFault s h (unpackWords (twords s 0x50 (32 * h) 32))) st
    else st) s)

/-! ### Consumables (R223-R231) -/

/-- Slot `f`. -/
def consOf (s : State) (f : Nat) : Cons := s.hc.cons.getD f {}
/-- Changes slot `f`. -/
def setConsSlot (f : Nat) (g : Cons → Cons) (s : State) : State :=
  { s with hc.cons := modifyNth g s.hc.cons f }
/-- EN of slot `f`. -/
def consEn (s : State) (f : Nat) : Bool := bit (tnat s 0x52 (8 * f)) 15
/-- LOWMARK in nL. -/
def lowMark (s : State) (f : Nat) : Nat := tnat32 s 0x52 (8 * f + 2)
/-- FEN of group `g`. -/
def fluidEn (s : State) (g : Nat) : Bool := bit (tnat s 0x52 (256 + g)) 15
/-- FLUID of group `g`. -/
def fluidOf (s : State) (g : Nat) : Nat := bits (tnat s 0x52 (256 + g)) 2 0
/-- The consumable key of slot `f`: none while its key slot is unwritten (R224). -/
def consKey (s : State) (f : Nat) : Option (List Byte) :=
  (s.nvm.keys.find? (fun p => p.1 == bits (tnat s 0x52 (8 * f + 1)) 2 0)).map (fun p => p.2)

/-- CONS is closed for group `g` (R231). -/
def consShut (s : State) (g : Nat) : Bool :=
  let f := fluidOf s g
  let c := consOf s f
  fluidEn s g && (!consEn s f || !c.auth || c.exhausted || c.unsyncedClosed)

/-- Brings the CONS sources to what R231 makes them. -/
def consUpdate (s : State) : State := setCons (grpMap (consShut s)) s

/-- PENDING in whole pL. -/
def pendingPl (c : Cons) : Nat := c.pending10 / 10

/-- EXHAUSTED and LOW of a slot whose REMAIN is known (R228), then the gates. Before the first authentication both are 0,
as every word of table 0x53 is after a core reset (R248, log entry 160). -/
def consLevels (f : Nat) (s : State) : State :=
  let c := consOf s f
  let ex := c.seen && decide (c.remain * 1000 ≤ pendingPl c)
  let low := c.seen && decide (c.remain * 1000 ≤ pendingPl c + lowMark s f * 1000)
  let s1 := setConsSlot f (fun c => { c with exhausted := ex, low := low }) s
  let s2 := if ex && !c.exhausted then raise irqHead (hcErrLees 5 [f] s1) else s1
  consUpdate (if low && !c.low then raise irqHead s2 else s2)

/-- RANKVOL[f][r][x] in 0.1 pL. -/
def rankVol (s : State) (f r x : Nat) : Nat := tnat s 0x52 (64 + 24 * f + 3 * r + x - 1)

/-- The volume of one channel's codes, in 0.1 pL (R227). -/
def chanVolume (s : State) (f c : Nat) (codes : List Nat) : Nat :=
  codes.foldl (fun a x => if x = 0 then a else a + rankVol s f (rankOf s c) x) 0

/-- An issued fire charges its fluid slots (R227, R228). -/
def chargeFire (members : List (Nat × List Nat)) (s : State) : State :=
  members.foldl (fun st m =>
    let g := m.1 / 8
    if fluidEn s g then
      let f := fluidOf s g
      consLevels f (setConsSlot f (fun c => { c with pending10 := c.pending10 + chanVolume s f m.1 m.2 }) st)
    else st) s

/-- The MAC over `msg` under the key of slot `f`; a value nobody states while its key slot is unwritten (log entry
42). -/
def keyMac (s : State) (f : Nat) (msg : List Byte) : List Byte :=
  match consKey s f with
  | some k => hmac k msg
  | none => (List.range 32).map (fun i => BitVec.ofNat 8 (Config.openValue 225 (32 * s.free + i)))

/-- The message that asks slot `f` for its identity, or takes DEC off it (R225). -/
def consMessage (s : State) (f : Nat) (nonce : BitVec 128) (dec : Option Nat) : List Byte :=
  match dec with
  | none => 0x01 :: bytesBE 16 nonce.toNat
  | some d =>
    0x02 :: bytesBE 16 nonce.toNat ++ bytesBE 4 d
      ++ keyMac s f (0x02 :: bytesBE 16 nonce.toNat ++ bytesBE 8 (consOf s f).cid.toNat ++ bytesBE 4 d)

/-- An exchange with slot `f` starts with a fresh nonce (R225). -/
def withNonce (dec : Option Nat) (f : Nat) (s : State) : State :=
  let d := drawRandom s
  setConsSlot f (fun c => { c with nonce := d.1, pollFrom := s.tk, sent := consMessage s f d.1 dec }) d.2

/-- Authentication of slot `f` starts (R226). -/
def startAuth (byCommand : Bool) (f : Nat) (s : State) : State :=
  if consEn s f then setConsSlot f (fun c => { c with authBusy := true, byCommand := byCommand }) (withNonce none f s)
  else s

/-- The MAC of a reply to message `tag` (R225). -/
def replyMac (key : List Byte) (tag : Nat) (nonce : BitVec 128) (r : CartReply) : List Byte :=
  hmac key (BitVec.ofNat 8 tag :: bytesBE 16 nonce.toNat ++ bytesBE 8 r.cid.toNat ++ bytesBE 4 r.remain.toNat)

/-- The reply verifies; it cannot while the key slot is unwritten (log entry 42). -/
def macOk (s : State) (f tag : Nat) (r : CartReply) : Bool :=
  match consKey s f with
  | some k => replyMac k tag (consOf s f).nonce r == r.mac
  | none => false

/-- Authentication fails (R226). -/
def authFails (f : Nat) (s : State) : State :=
  consUpdate (raise irqHead (hcErrLees 3 [f]
    (setConsSlot f (fun c => { c with authBusy := false, auth := false }) s)))

/-- An AUTH reply (R226). -/
def authReply (f : Nat) (r : CartReply) (s : State) : State :=
  if macOk s f 0x81 r then
    let c := consOf s f
    let swap := c.byCommand && c.seen && decide (c.cid ≠ r.cid)
    let nl := pendingPl c / 1000
    let s1 := setConsSlot f (fun c => { c with
      auth := true, authBusy := false, cid := r.cid, seen := true, remain := r.remain.toNat
      pending10 := if swap then 0 else c.pending10 }) s
    consLevels f (if swap then lees 0x08 0x81 [f, nl / 65536 % 256, nl / 256 % 256, nl % 256] s1 else s1)
  else authFails f s

/-- A write-back attempt of slot `f` starts (R229). -/
def startWriteback (dec : Nat) (atEntry : Bool) (f : Nat) (s : State) : State :=
  setConsSlot f (fun c => { c with
    wbBusy := true, wbDec := dec, wbTries := 0, wbRetryAt := none, atEntry := atEntry, syncReq := false })
    (withNonce (some dec) f s)

/-- A write-back of enabled slot `f` is due at a boundary (R229). -/
def writebackDue (s : State) (f : Nat) : Bool :=
  let c := consOf s f
  consEn s f && !c.wbBusy && (decide (1000000000 ≤ pendingPl c)
    || (decide (15000000000 ≤ s.tk - c.lastSync) && decide (1000 ≤ pendingPl c)) || c.syncReq)

/-- Step 5 of R21: the write-backs due start. -/
def writebacks (s : State) : State :=
  (List.range 8).foldl (fun st f =>
    if writebackDue s f then startWriteback (pendingPl (consOf s f) / 1000) false f st else st) s

/-- An attempt fails (R230, R359): tried again 10 ms later, up to three times; an attempt made for a
power entry is not retried, and the step in progress then aborts the entry. -/
def writebackFails (f : Nat) (s : State) : State :=
  let c := consOf s f
  let s1 := bump 0x53 (16 * f + 10) s
  if c.atEntry then setConsSlot f (fun c => { c with wbBusy := false, atEntry := false }) { s1 with pwr.wbFailed := true }
  else if c.wbTries < 3 then
    setConsSlot f (fun c => { c with wbTries := c.wbTries + 1, wbRetryAt := some (s.tk + msTk 10) }) s1
  else raise irqHead (hcErrLees 4 [f] (setConsSlot f (fun c => { c with wbBusy := false, unsynced := true }) s1))

/-- A DEC reply (R229, R230): one with a different CID clears AUTH, whether or not its MAC verifies. -/
def writebackReply (f : Nat) (r : CartReply) (s : State) : State :=
  let c := consOf s f
  if c.cid ≠ r.cid then consUpdate (writebackFails f (setConsSlot f (fun c => { c with auth := false }) s))
  else if !macOk s f 0x82 r then writebackFails f s
  else if r.remain.toNat = c.remain - c.wbDec then
    consLevels f (setConsSlot f (fun c => { c with
      wbBusy := false, atEntry := false, pending10 := c.pending10 - c.wbDec * 10000, remain := r.remain.toNat
      lastSync := s.tk, unsynced := false, unsyncedClosed := false }) s)
  else writebackFails f s

/-- A layer boundary closes CONS for the groups of an UNSYNCED slot (R230, R231). -/
def unsyncedClosures (s : State) : State :=
  consUpdate { s with hc.cons := s.hc.cons.map (fun c =>
    { c with unsyncedClosed := c.unsyncedClosed || c.unsynced }) }

/-! ### Temperature (R232, R233) -/

/-- TEN of group `g`. -/
def tempEn (s : State) (g : Nat) : Bool := bit (tnat s 0x54 (8 * g)) 15
/-- A signed word of group `g` of table 0x54. -/
def tempW (s : State) (g o : Nat) : Int := signed 16 (tnat s 0x54 (8 * g + o))
/-- DWELL `i` of table 0x56, in TK: 0 stands for 1,000 µs. -/
def dwellTk (s : State) (i : Nat) : Nat := usTk (if tnat s 0x56 i = 0 then 1000 else tnat s 0x56 i)

/-- The temperature state of group `g`. -/
def tempOf (s : State) (g : Nat) : HeadTemp := s.hc.temps.getD g {}

/-- TEMP is closed for group `g` (R233). -/
def tempShut (s : State) (g : Nat) : Bool := !tempEn s g || (tempOf s g).st != .normal

/-- Brings the TEMP sources to what R233 makes them. -/
def tempUpdate (s : State) : State := setTemp (grpMap (tempShut s)) s

/-- The counts of consecutive samples after one of code `code` with temperature `t` (R232, R233). A sensor
fault sample leaves T at its last value (log entry 43). -/
def tempRuns (s : State) (g : Nat) (code : Nat) (t : Int) (h : HeadTemp) : HeadTemp :=
  let lo := tempW s g 3
  let hi := tempW s g 4
  if code ≤ 15 ∨ 4080 ≤ code then
    { h with raw := code, overRun := 0, underRun := 0, bandRun := 0, faultRun := h.faultRun + 1 }
  else
    let band := decide (lo + 8 ≤ t) && decide (t ≤ hi - 8)
    { h with
      raw := code, t := t, tOld := if h.at_ = s.tk then h.tOld else h.t, valid := true, at_ := s.tk, faultRun := 0
      overRun := if hi < t then h.overRun + 1 else 0
      underRun := if t < lo then h.underRun + 1 else 0
      bandRun := if band then h.bandRun + 1 else 0
      bandFrom := if band && h.bandRun == 0 then s.tk else h.bandFrom }

/-- The offsets and gains in force of head-temperature input `g` (R380): the sense converters', and the input's own
offset. -/
def tempCal (s : State) (g : Nat) : List (Nat × Nat) := senseCal s ++ [(calWord s 4 (174 + g) 0, 0x8000)]

/-- The time between two samples of a head temperature in TK: 96 µs, in HUSH 10 ms (R232, R365). -/
def tempPeriod (s : State) : Nat := if s.pwr.state = 4 then msTk 10 else 24000

/-- A sample of group `g` (R232, R233): T is that of the calibrated code. -/
def tempSample (g : Nat) (code : Nat) (s : State) : State :=
  let t : Int := tempW s g 1 + (calibratedCode (tempCal s g) code : Int) * tempW s g 2 / 4096
  let h : HeadTemp := { tempRuns s g code t (tempOf s g) with scanAt := some (periodNow (tempOf s g).scanAt (tempPeriod s) s) }
  let put (st : TempState) (s : State) : State :=
    { s with hc.temps := modifyNth (fun _ => { h with st := st }) s.hc.temps g }
  let enter (st : TempState) (code : Nat) : State :=
    wake 7 (raise irqHead (hcErrLees code [g] (if code = 6 then bump 0x55 (4 * g + 3) (put st s) else put st s)))
  let s1 :=
    if 8 ≤ h.overRun ∧ h.st ≠ .over then enter .over 6
    else if 8 ≤ h.underRun ∧ h.st ≠ .under then enter .under 6
    else if 8 ≤ h.faultRun ∧ h.st ≠ .fault then enter .fault 7
    else if h.st ≠ .normal ∧ 8 ≤ h.bandRun ∧ dwellTk s 3 ≤ s.tk - h.bandFrom then put .normal s
    else put h.st s
  tempUpdate s1

/-! ### Gating inputs (R235) -/

/-- An input after a low sample in TK `now`: its level is known once four samples in a row have been equal, high ones
before this one or low ones up to it (R235). -/
def lowSample (now : Nat) (g : GateInput) : GateInput :=
  let run := if g.lowAt = now then g.lowRun else if g.lowAt + 1 = now then g.lowRun + 1 else 1
  { g with
    closed := true, low := true, lowAt := now, lowRun := run
    known := g.known || decide (4 ≤ run) || decide (g.lowAt + 5 ≤ now) }

/-- A low sample of input `i`. -/
def inputLow (i : Nat) (s : State) : State :=
  let g := s.hc.inputs.getD i {}
  let s1 : State := { s with hc.inputs := modifyNth (lowSample s.tk) s.hc.inputs i
                             hc.jamWait := s.hc.jamWait && i != 2 }
  if g.closed then s1
  else
    let s2 := raiseIfShut false true (bump 0x57 (32 + i) s1)
    if i = 2 then hcErrLees 8 [i] s2 else hcErr 8 s2

/-- The TK in which the dwell of an input starts: with its first high sample, and while its level is not known
with the fourth of them (R235). -/
def dwellStart (g : GateInput) : Nat := g.lowAt + (if g.known then 1 else 4)

/-- Input `i` has been known and high for its dwell. -/
def inputDwell (i : Nat) (s : State) : State :=
  let g := s.hc.inputs.getD i {}
  if g.closed && decide (dwellStart g + dwellTk s i ≤ s.tk) then
    if i = 2 then { s with hc.jamWait := true
                           hc.inputs := modifyNth (fun g => { g with known := true, low := false }) s.hc.inputs i }
    else { s with hc.inputs := modifyNth (fun g => { g with known := true, low := false, closed := false }) s.hc.inputs i }
  else s

/-- JAM_REARM (R216, R235). -/
def jamRearmOp (s : State) : State :=
  if s.hc.jamWait then
    { s with hc.jamWait := false, hc.inputs := modifyNth (fun g => { g with closed := false }) s.hc.inputs 2 }
  else if inputClosed s 2 then hcRefuse s else s

/-! ### Nozzle signatures (R236-R245) -/

/-- SIGEN of group `g`. -/
def sigEn (s : State) (g : Nat) : Bool := bit (tnat s 0x59 (8 * g)) 15
/-- SLEN of group `g`. -/
def sigLen (s : State) (g : Nat) : Nat := bits (tnat s 0x59 (8 * g)) 6 0

/-- The record of a nozzle. -/
def nozzleOf (s : State) (c n : Nat) : Nozzle :=
  (s.hc.nozzles.find? (fun z => z.channel == c && z.nozzle == n)).getD { channel := c, nozzle := n }

/-- Stores the record of a nozzle. -/
def putNozzle (z : Nozzle) (s : State) : State :=
  { s with hc.nozzles := z :: s.hc.nozzles.filter (fun y => !(y.channel == z.channel && y.nozzle == z.nozzle)) }

/-- Queues a nozzle event; a full ring discards it (R243). -/
def nozzleEvent (type c n : Nat) (delta : Int) (dp : Nat) (s : State) : State :=
  let w := tnat s 0x5A 257
  if (w + 1) % 64 = tnat s 0x5A 256 % 64 then hcErr 13 (bump 0x5A 258 s)
  else raise irqNozzle (tset 0x5A 257 (word ((w + 1) % 64)) (tsetRun 0x5A (4 * w)
    [word (type * 4096 + c), word n, word (unsigned 8 delta * 256 + dp), s.bnd.swath] s))

/-- The driven nozzle with the largest wait count, ties to the lowest index (R238). -/
def senseNozzle (s : State) (c : Nat) (codes : List Nat) : Option Nat :=
  ((List.range codes.length).filter (fun n => codes.getD n 0 != 0)).foldl (fun best n =>
    match best with
    | none => some n
    | some b => if (nozzleOf s c b).wait < (nozzleOf s c n).wait then some n else some b) none

/-- The waveform a code of channel `c` plays (R240). -/
def playedWave (s : State) (c x : Nat) : Nat :=
  let g := c / 8
  if grDrive s g = 1 then bits (tnat s 0x24 (4 * grWdac s g)) 13 8
  else if grDrive s g = 0 ∧ grMode s g = 3 then
    (if x = 1 then bits (chW s c 1) 5 0 else if x = 2 then bits (chW s c 1) 13 8 else bits (chW s c 2) 5 0)
  else bits (chW s c 1) 5 0

/-- Wait counts of one row after a fire (R238), and the fire counts of a row whose signatures are checked (R236,
R244). -/
def countRow (c : Nat) (codes : List Nat) (sense : Option Nat) (s : State) : State :=
  (List.range codes.length).foldl (fun st n =>
    if codes.getD n 0 = 0 then st
    else
      let z := nozzleOf s c n
      let w := if sense = some n then 0 else min 4095 (z.wait + 1)
      let f := if sigEn s (c / 8) then z.fires + 1 else z.fires
      let st1 := putNozzle { z with wait := w, fires := f } st
      if f = 4096 ∧ z.fires ≠ f then nozzleEvent 4 c n 0 0 (bump 0x5B 9 st1) else st1) s

/-- The sense burst of a fire of group `g` that ended, or ends, at `endTk` (R236, R237). -/
def senseBurst (g endTk : Nat) (rows : List (Nat × List Nat)) (s : State) : State :=
  if sigEn s g then
    let start := endTk + tnat s 0x59 (8 * g + 1)
    let pick (i : Nat) : Option (Nat × Nat × Nat) :=
      match rows.find? (fun r => r.1 == 8 * g + i) with
      | some r => (senseNozzle s r.1 r.2).map (fun n => (n, playedWave s r.1 (r.2.getD n 0), r.2.getD n 0))
      | none => none
    let b : Burst := { group := g, start := start, stop := start + 32 * sigLen s g, rows := (List.range 8).map pick }
    { s with hc.bursts := s.hc.bursts ++ [b] }
  else s

/-- A fire of group `g` that ended, or ends, at `endTk`: its sense burst, and the counts of its rows (R237, R238). -/
def senseFire (g endTk : Nat) (rows : List (Nat × List Nat)) (s : State) : State :=
  rows.foldl (fun st r => countRow r.1 r.2 (senseNozzle s r.1 r.2) st) (senseBurst g endTk rows s)

/-- A burst is lost (R239). -/
def burstLost (s : State) : State := hcErr 12 (bump 0x5B 7 s)

/-- The sampler with the lowest index that no burst in progress holds. -/
def freeSampler (bs : List Burst) (tk : Nat) : Option Nat :=
  (List.range 16).find? (fun i => !bs.any (fun b => b.sampler == some i && decide (tk < b.stop)))

/-- The first burst that starts by now and holds no sampler takes one, or is lost; a burst of its group
that has not ended is lost (R239). -/
def burstStart (s : State) : State :=
  match s.hc.bursts.find? (fun b => b.sampler.isNone && decide (b.start ≤ s.tk)) with
  | none => s
  | some b =>
    let cut := s.hc.bursts.any (fun x => x.group == b.group && x.sampler.isSome && decide (b.start < x.stop))
    let rest := (s.hc.bursts.erase b).filter (fun x =>
      !(x.group == b.group && x.sampler.isSome && decide (b.start < x.stop)))
    let s1 := if cut then burstLost { s with hc.bursts := rest } else { s with hc.bursts := rest }
    match freeSampler rest b.start with
    | some i => { s1 with hc.bursts := rest ++ [{ b with sampler := some i }] }
    | none => burstLost s1

/-- Every burst that starts by now takes its sampler; at most one group each starts in a TK. -/
def burstStarts (s : State) : State := (List.range 32).foldl (fun st _ => burstStart st) s

/-- Sample `i` of TPL[w][x] (R248). -/
def templateByte (s : State) (w x i : Nat) : Nat := tbyte s 0x58 (64 * (3 * w + x - 1) + i)

/-- The sum of differences of a slot from its template (R240). -/
def slotSad (s : State) (w x : Nat) (slot : List Byte) : Nat :=
  (List.range slot.length).foldl (fun a i =>
    let d := (slot.getD i 0).toNat
    let t := templateByte s w x i
    a + (if t ≤ d then d - t else t - d)) 0

/-- Sum of two sample lists. -/
def addSamples : List Nat → List Byte → List Nat
  | [], bs => bs.map (fun b => b.toNat)
  | xs, [] => xs
  | x :: xs, b :: bs => (x + b.toNat) :: addSamples xs bs

/-- A slot keyed (w, x) goes into the templates being learned (R245). -/
def learnSlot (x : Nat) (slot : List Byte) (l : Learn) : Learn :=
  if l.counts.getD (x - 1) 64 < 64 then
    { l with sums := modifyNth (fun u => addSamples u slot) l.sums (x - 1)
             counts := modifyNth (· + 1) l.counts (x - 1) }
  else l

/-- The candidates of a group's COVER list, in order (R241, R248): DELTA and DP. -/
def coverList (s : State) (g : Nat) : List (Int × Nat) :=
  ((List.range 4).map (fun i => tnat s 0x59 (8 * g + 4 + i))).filterMap (fun w =>
    if bit w 15 then some (signed 8 w, bits w 9 8) else none)

/-- A nozzle is OUT, by a valid entry or by one that is prepared. -/
def outNow (s : State) (c : Nat) (n : Int) : Bool :=
  isOut (substOf s c) n || s.hc.prepared.any (fun p => p.channel == c && (p.nozzle : Int) == n)

/-- A candidate covers nozzle `n` of channel `c` (R205, R241). -/
def coverOk (s : State) (c n : Nat) (cand : Int × Nat) : Bool :=
  let n' : Int := n + cand.1
  decide (0 ≤ n') && decide (n' < nozCount s c) && cand.1 != 0 && decide (cand.1.natAbs ≤ 64) && cand.2 != 2
    && !outNow s c n'

/-- A nozzle is declared out: its entry is prepared (R241). -/
def declareOut (c n : Nat) (s : State) : State :=
  let e : Prepared := match (coverList s (c / 8)).find? (coverOk s c n) with
    | some (d, dp) => { channel := c, nozzle := n, delta := d, dp := dp, nocover := false }
    | none => { channel := c, nozzle := n, delta := 0, dp := 0, nocover := true }
  hcErrLees 11 [c, n / 256, n % 256] { s with hc.prepared := s.hc.prepared ++ [e] }

/-- Judges one slot (R240, R241, R244, R245). -/
def judgeSlot (c : Nat) (row : Nat × Nat × Nat) (slot : List Byte) (s : State) : State :=
  let n := row.1
  let w := row.2.1
  let x := row.2.2
  if slot.any (fun b => b == 0 || b == 255) then bump 0x5B 8 s
  else if s.hc.learn.any (fun l => l.wf == w) then
    { s with hc.learn := s.hc.learn.map (learnSlot x slot) }
  else
    let bad := decide (tnat s 0x59 (8 * (c / 8) + 2) < slotSad s w x slot)
    let z := nozzleOf s c n
    let hist := (bad :: z.history).take 8
    let s1 := bump32 0x5B 10 (putNozzle { z with history := hist, fires := 0 } s)
    let limit := bits (tnat s 0x59 (8 * (c / 8) + 3)) 3 0
    if decide (max 1 limit ≤ (hist.filter id).length) && !outNow s c n then declareOut c n s1 else s1

/-- The burst of group `g` that a sampler has finished taking. -/
def burstOf (s : State) (g : Nat) : Option Burst :=
  s.hc.bursts.find? (fun b => b.group == g && b.sampler.isSome && decide (b.stop ≤ s.tk))

/-- The samples of a slot as the sampler that took it delivers them, corrected by its offset in force (R380). -/
def samplerBytes (s : State) (b : Burst) (slot : List Byte) : List Byte :=
  let off := match b.sampler with | some i => calWord s 5 (206 + i) 0 | none => 0
  slot.map (fun x => BitVec.ofNat 8 (calibratedCode [(off, 0x8000)] x.toNat))

/-- Judges the slots of a finished burst, row by row. -/
def judgeBurst (b : Burst) (slots : List (List Byte)) (s : State) : State :=
  (List.range 8).foldl (fun st i =>
    match b.rows.getD i none with
    | some row => judgeSlot (8 * b.group + i) row (samplerBytes s b (slots.getD i [])) st
    | none => st) { s with hc.bursts := s.hc.bursts.erase b }

/-- The templates learned replace the stored ones (R245). -/
def learnEnd (l : Learn) (s : State) : State :=
  [1, 2, 3].foldl (fun st x =>
    let k := l.counts.getD (x - 1) 0
    let sums := l.sums.getD (x - 1) []
    if k = 0 then st
    else
      let old := (List.range 64).map (fun i => templateByte s l.wf x i)
      let new := sums.map (fun (n : Nat) => (roundDiv n k).toNat) ++ old.drop sums.length
      tsetRun 0x58 (32 * (3 * l.wf + x - 1)) (packWords (new.map (BitVec.ofNat 8))) st) { s with hc.learn := none }

/-- Learning ends (R245): all three codes have 64 slots, or its second has passed. -/
def learnDone (s : State) (l : Learn) : Bool :=
  decide (l.until_ ≤ s.tk) || l.counts.all (fun k => decide (64 ≤ k))

/-! ### Writing the prepared entries (R21 step 3, R241) -/

/-- The two words of an entry: VALID, AUTO, DP and nozzle; channel and DELTA. -/
def entryWords (p : Prepared) : Word × Word :=
  (word (0xC000 + p.dp * 4096 + p.nozzle), word (p.channel * 256 + unsigned 8 p.delta))

/-- The first free entry of the substitution table held in `m`. -/
def freeEntry (m : Cells) : Option Nat :=
  (List.range 1024).find? (fun e => !(cellGet tblDefault m (tkey 0x43 (2 * e))).getLsbD 15)

/-- Writes an entry into `m`, and CHECK so that the table's words sum to 0xFFFF. -/
def putEntry (e : Nat) (p : Prepared) (m : Cells) : Cells :=
  let w := entryWords p
  let m1 := cellSet tblDefault (tkey 0x43 (2 * e + 1)) w.2 (cellSet tblDefault (tkey 0x43 (2 * e)) w.1 m)
  let sum := sumWords (cellRun tblDefault m1 (tkey 0x43 0) 2048)
  cellSet tblDefault (tkey 0x43 2048) (0xFFFF - sum) m1

/-- Writes one prepared entry: into the table in force, and into the cask if one exists. -/
def applyOne (p : Prepared) (s : State) : State :=
  match freeEntry s.tbl with
  | none => nozzleEvent 3 p.channel p.nozzle p.delta p.dp s
  | some e =>
    let s1 := nozzleEvent (if p.nocover then 2 else 1) p.channel p.nozzle p.delta p.dp { s with tbl := putEntry e p s.tbl }
    match s1.txn.cask with
    | none => s1
    | some k =>
      match freeEntry k.mem with
      | some e2 => { s1 with txn.cask := some { k with mem := putEntry e2 p k.mem } }
      | none => { s1 with hc.again := s1.hc.again ++ [p] }

/-- Step 3 of R21: the prepared entries are written in declaration order. -/
def applyPrepared (s : State) : State :=
  s.hc.prepared.foldl (fun st p => applyOne p st) { s with hc.prepared := [] }

/-- After a decant, the entries that the cask had no room for are written again (R241). -/
def applyAgain (s : State) : State :=
  s.hc.again.foldl (fun st p =>
    if isOut (substOf st p.channel) p.nozzle then st
    else match freeEntry st.tbl with
      | some e => { st with tbl := putEntry e p st.tbl }
      | none => nozzleEvent 3 p.channel p.nozzle p.delta p.dp st) { s with hc.again := [] }

/-! ### Configuration writes (R215) -/

/-- Another enabled entry uses a group of head `h`, or its bus is full, or its groups run past HG31. -/
def headMapBad (s : State) (h : Nat) : Bool :=
  headEn s h && (decide (32 < headFirst s h + headGroups s h)
    || (List.range 32).any (fun k => k != h && headEn s k
        && decide (headFirst s k < headFirst s h + headGroups s h)
        && decide (headFirst s h < headFirst s k + headGroups s k))
    || decide (8 < ((List.range 32).filter (fun k => headEn s k && headBus s k == headBus s h)).length))

/-- The bits of a word of tables 0x51, 0x52, 0x54, 0x58 and 0x59 that are stored (R248). -/
def hcMask (t a : Nat) : Nat :=
  if t = 0x51 then (if 64 ≤ a then 0xFFFF else if a % 2 = 0 then 0xE07F else 0x1F07)
  else if t = 0x52 then
    (if a < 64 then (match a % 8 with | 0 => 0x807F | 1 => 0x0007 | 2 => 0xFFFF | 3 => 0xFFFF | _ => 0)
     else if a < 256 then 0xFFFF else 0x8007)
  else if t = 0x54 then (match a % 8 with | 0 => 0x8000 | 1 => 0xFFFF | 2 => 0xFFFF | 3 => 0xFFFF | 4 => 0xFFFF | _ => 0)
  else if t = 0x58 then 0xFFFF
  else (match a % 8 with | 0 => 0x807F | 1 => 0xFFFF | 2 => 0xFFFF | 3 => 0x000F | _ => 0x83FF)

/-- Number of writable words of a head-care table. -/
def hcSize (t : Nat) : Nat :=
  if t = 0x51 then 66 else if t = 0x52 then 288 else if t = 0x54 then 256 else if t = 0x58 then 6144 else 256

/-- A write breaks a limit stated for its field, in the state that holds it (R215, R218, R233, R248). -/
def hcBreaks (s : State) (t a : Nat) (d : Nat) : Bool :=
  if t = 0x51 then decide (a < 64) && headMapBad s (a / 2)
  else if t = 0x54 then tempEn s (a / 8) && decide (tempW s (a / 8) 4 - tempW s (a / 8) 3 < 32)
  else if t = 0x59 then
    (match a % 8 with
     | 0 => decide (bits d 6 0 < 8) || decide (64 < bits d 6 0)
     | 1 => false | 2 => false
     | 3 => decide (bits d 3 0 < 1) || decide (8 < bits d 3 0)
     | _ => bits d 9 8 == 2)
  else false

/-- What follows a stored configuration word: HEADID, CONS and TEMP as R222, R231 and R233 make them. -/
def hcAfter (t a : Nat) (s : State) : State :=
  if t = 0x51 then (if a < 64 then recheckHeads s else headidUpdate s)
  else if t = 0x52 then (if a < 64 then consLevels (a / 8) s else consUpdate s)
  else if t = 0x54 then tempUpdate s
  else s

/-- A write to a head-care configuration table (R215). -/
def hcConfigWriteOp (t a : Nat) (d : Word) (s : State) : State :=
  if swathActive s then hcErr 10 { s with hc.cfgbusy := true }
  else if hcSize t ≤ a then s
  else
    let v := d &&& word (hcMask t a)
    let s1 := tset t a v s
    if hcBreaks s1 t a v.toNat then hcErr 10 { s with hc.cfgerr := true } else hcAfter t a s1

/-! ### Commands of table 0x5B (R216) -/

/-- OPEN (R216, R234). -/
def openOp (t : Nat) (s : State) : State :=
  (hcTargets 32 t).foldl (fun st g =>
    { st with hc.hostClosed := setGrp st.hc.hostClosed g false, hc.wdgClosed := setGrp st.hc.wdgClosed g false }) s

/-- CLOSE. -/
def closeOp (t : Nat) (s : State) : State :=
  setHostGate ((hcTargets 32 t).foldl (fun m g => setGrp m g true) s.hc.hostClosed) s

/-- HM_READ. -/
def hmReadOp (t : Nat) (s : State) : State :=
  if swathActive s || (hcTargets 32 t).isEmpty then hcRefuse s else startReads (hcTargets 32 t) s

/-- CONS_AUTH; TARGET 63 takes every enabled slot. -/
def consAuthOp (t : Nat) (s : State) : State :=
  let fs := (hcTargets 8 t).filter (consEn s)
  if fs.isEmpty then hcRefuse s else fs.foldl (fun st f => startAuth true f st) s

/-- CONS_SYNC; TARGET 63 takes every authenticated slot. -/
def consSyncOp (t : Nat) (s : State) : State :=
  let fs := (hcTargets 8 t).filter (fun f => (consOf s f).auth)
  if fs.isEmpty then hcRefuse s
  else fs.foldl (fun st f => setConsSlot f (fun c => { c with syncReq := true }) st) s

/-- NZ_RESET. -/
def nzResetOp (t : Nat) (s : State) : State :=
  let gs := hcTargets 32 t
  if swathActive s || gs.isEmpty then hcRefuse s
  else { s with hc.nozzles := s.hc.nozzles.map (fun z =>
    if gs.contains (z.channel / 8) then { z with wait := 0, history := [] } else z) }

/-- TPL_LEARN. Waveforms are numbered 0 to 63, so TARGET 63 names waveform 63 (log entry 44). -/
def tplLearnOp (t : Nat) (s : State) : State :=
  if s.hc.learn.isSome then hcRefuse s
  else { s with hc.learn := some { wf := t, until_ := s.tk + 250000000 } }

/-- One write of table 0x5B word 0 (R216). -/
def hcCmd (op t : Nat) (s : State) : State :=
  match op with
  | 1 => openOp t s
  | 2 => closeOp t s
  | 3 => jamRearmOp s
  | 4 => hmReadOp t s
  | 5 => consAuthOp t s
  | 6 => consSyncOp t s
  | 7 => nzResetOp t s
  | 8 => tplLearnOp t s
  | _ => hcRefuse s

/-- A head-care command reaches the block when the whole map answers and the core is clocked (R328). -/
def hcReg (op t : Nat) (s : State) : State := 
  if clocked s then routedOp (.tbl 0x5B 0 (word (op * 4096 + t))) (hcCmd op t) s else s

/-! ### Meanings -/

/-- HC_CONFIG_WRITE (R215): the tables of R215 only. -/
def execHcConfigWrite (table : Byte) (addr : BitVec 24) (data : Word) (s : State) : Out :=
  .next (if clocked s && [0x51, 0x52, 0x54, 0x58, 0x59].contains table.toNat then
    routedOp (.tbl table.toNat addr.toNat data) (hcConfigWriteOp table.toNat addr.toNat data) s else s)
/-- OPEN (R216). -/
def execGateOpen (target : BitVec 6) (s : State) : Out := .next (hcReg 1 target.toNat s)
/-- CLOSE (R216). -/
def execGateClose (target : BitVec 6) (s : State) : Out := .next (hcReg 2 target.toNat s)
/-- JAM_REARM (R235). -/
def execJamRearm (target : BitVec 6) (s : State) : Out := .next (hcReg 3 target.toNat s)
/-- HM_READ (R219). -/
def execHmRead (target : BitVec 6) (s : State) : Out := .next (hcReg 4 target.toNat s)
/-- CONS_AUTH (R226). -/
def execConsAuth (target : BitVec 6) (s : State) : Out := .next (hcReg 5 target.toNat s)
/-- CONS_SYNC (R229). -/
def execConsSync (target : BitVec 6) (s : State) : Out := .next (hcReg 6 target.toNat s)
/-- NZ_RESET (R242). -/
def execNzReset (target : BitVec 6) (s : State) : Out := .next (hcReg 7 target.toNat s)
/-- TPL_LEARN (R245). -/
def execTplLearn (target : BitVec 6) (s : State) : Out := .next (hcReg 8 target.toNat s)
/-- HC_RESERVED_OP (R216): codes 0 and 9 to 15. -/
def execHcReservedOp (op : BitVec 4) (target : BitVec 6) (s : State) : Out :=
  if 1 ≤ op.toNat ∧ op.toNat ≤ 8 then .fault .malformedOperand else .next (hcReg op.toNat target.toNat s)

/-- HM_READ_COMPLETE (R221): 64 bytes of a read in progress. -/
def execHmReadComplete (head : Fin 32) (bytes : List Byte) (s : State) : Out :=
  if bytes.length ≠ 64 then .fault .malformedOperand
  else
    let r := s.hc.reads.getD head.val {}
    .next (if clocked s && r.busy && r.active && r.retryAt.isNone then headComplete head.val bytes s else s)

/-- HM_READ_RETRY (R219): the attempt in progress is not acknowledged, or the retry that was waiting
starts. -/
def execHmReadRetry (head : Fin 32) (s : State) : Out :=
  let r := s.hc.reads.getD head.val {}
  .next (if clocked s && r.busy && r.active then
    (match r.retryAt with
     | none => headAttemptFails head.val s
     | some t => if t ≤ s.tk then setRead head.val (fun r => { r with retryAt := none }) s else s)
  else s)

/-- The exchange with a cartridge that is in progress fails (R217, R225, R226, R230). -/
def exchangeFails (f : Nat) (s : State) : State :=
  let c := consOf s f
  if c.authBusy then authFails f s
  else if c.wbBusy && c.wbRetryAt.isNone then writebackFails f s
  else s

/-- HMB_BUS_FAULT (R217): HMB0 to HMB3, or the consumable bus as 4. The attempt in progress fails. -/
def execHmbBusFault (bus : Fin 5) (s : State) : Out :=
  .next (if clocked s then
    (if bus.val = 4 then
      (match (List.range 8).find? (fun f => (consOf s f).authBusy || ((consOf s f).wbBusy && (consOf s f).wbRetryAt.isNone)) with
       | some f => exchangeFails f (bump 0x5B 6 s)
       | none => bump 0x5B 6 s)
     else
      let s1 := bump 0x5B (2 + bus.val) { s with hc.busFault := s.hc.busFault ||| 2 ^ bus.val }
      (match (List.range 32).find? (fun h => headBus s h == bus.val && (s.hc.reads.getD h {}).busy
          && (s.hc.reads.getD h {}).active && (s.hc.reads.getD h {}).retryAt.isNone) with
       | some h => headAttemptFails h s1
       | none => s1))
  else s)

/-- CONS_AUTH_REPLY (R226). -/
def execConsAuthReply (slot : Fin 8) (r : CartReply) (s : State) : Out :=
  .next (if clocked s && (consOf s slot.val).authBusy then authReply slot.val r s else s)

/-- CONS_WRITEBACK_REPLY (R229). -/
def execConsWritebackReply (slot : Fin 8) (r : CartReply) (s : State) : Out :=
  .next (if clocked s && (consOf s slot.val).wbBusy && (consOf s slot.val).wbRetryAt.isNone then
    writebackReply slot.val r s else s)

/-- CONS_WRITEBACK_RETRY (R230): the next attempt, with a fresh nonce. -/
def execConsWritebackRetry (slot : Fin 8) (s : State) : Out :=
  .next (if clocked s && (consOf s slot.val).wbBusy then
    (match (consOf s slot.val).wbRetryAt with
     | some t => if t ≤ s.tk then
         withNonce (some (consOf s slot.val).wbDec) slot.val (setConsSlot slot.val (fun c => { c with wbRetryAt := none }) s)
         else s
     | none => s)
  else s)

/-- CARTRIDGE_POLL_TIMEOUT (R225): 20 ms of polling have passed. -/
def execCartridgePollTimeout (slot : Fin 8) (s : State) : Out :=
  .next (if clocked s && decide ((consOf s slot.val).pollFrom + msTk 20 ≤ s.tk) then exchangeFails slot.val s else s)

/-- TPL_LEARN_END (R245). -/
def execTplLearnEnd (s : State) : Out :=
  .next (match s.hc.learn with
    | some l => if clocked s && learnDone s l then learnEnd l s else s
    | none => s)

/-- SIGNATURE_BURST (R240): eight slots of the group's SLEN samples. -/
def execSignatureBurst (g : Fin 32) (slots : List (List Byte)) (s : State) : Out :=
  if slots.length ≠ 8 then .fault .malformedOperand
  else
    let s1 := burstStarts s
    .next (if clocked s && slots.all (fun l => l.length == sigLen s g.val) then
      (match burstOf s1 g.val with | some b => judgeBurst b slots s1 | none => s) else s)

/-- HEAD_TEMP_SAMPLE (R232, R233): one in each `tempPeriod`, also in the sleep states down to HUSH (R365). -/
def execHeadTempSample (g : Fin 32) (code : BitVec 12) (s : State) : Out :=
  .next (if isUp s && decide (s.pwr.state ≤ 4) && periodDue (tempOf s g.val).scanAt (tempPeriod s) s then
    tempSample g.val code.toNat s else s)

/-- GATE_INPUT_LOW (R235). -/
def execGateInputLow (inp : Fin 3) (s : State) : Out :=
  .next (if coreRuns s && decide (s.pwr.state ≤ 1) then inputLow inp.val s else s)

/-- GATE_DWELL_EXPIRY (R235). -/
def execGateDwellExpiry (inp : Fin 3) (s : State) : Out :=
  .next (if coreRuns s && decide (s.pwr.state ≤ 1) then inputDwell inp.val s else s)

end Sys2Proof.Machine
end

