-- ==== Sys2Proof/Machine/Validate.lean ====
section
/-! DEFINITION. Which state is cask-able (R37), and the validation of the cask-able tables (R28, R29): for
each table the faults of its check words and ranges and of the relations it refers by, each as table,
word and reason. A fault list is read off one state, so the same functions judge the state in force and
the state a cask would leave. -/

namespace Sys2Proof.Machine

/-- An offending item: table, word address, reason (R29). -/
abbrev VFault := Nat × Nat × Nat

/-- Number of words of each cask-able table; 0 for every other table (R37). -/
def caskSize (t : Nat) : Nat :=
  if t = 0x20 then 1025 else if t = 0x21 then 257 else if t = 0x22 then 4096 else if t = 0x23 then 16384
  else if t = 0x24 then 33 else if 0x30 ≤ t ∧ t ≤ 0x37 then 16 else if t = 0x41 then 256
  else if t = 0x42 then 16385 else if t = 0x43 then 2049 else if t = 0x56 then 5 else if t = 0x60 then 260
  else if t = 0x62 then 8192 else if t = 0x63 then 16 else if t = 0x70 then 129 else if t = 0x71 then 512
  else if t = 0x79 then 33 else if t = 0xA0 then 128 else if t = 0xA2 then 128 else if t = 0xA5 then 577 else 0

/-- Table `t` is cask-able (R37). -/
def caskable (t : Nat) : Bool := decide (0 < caskSize t)

/-- The cask-able tables in ascending ID. -/
def caskTables : List Nat :=
  [0x20, 0x21, 0x22, 0x23, 0x24, 0x30, 0x31, 0x32, 0x33, 0x34, 0x35, 0x36, 0x37, 0x41, 0x42, 0x43, 0x56,
   0x60, 0x62, 0x63, 0x70, 0x71, 0x79, 0xA0, 0xA2, 0xA5]

/-- The entry of table `t` that word `a` belongs to. -/
def caskEntry (t a : Nat) : Nat :=
  if t = 0x22 then a / 64 else if t = 0x23 then a / 512 else if t = 0x62 then a / 2048 else if t = 0x63 then a / 4
  else if t = 0x60 ∨ t = 0x71 then a / 32 else if t = 0x70 then a / 8 else if t = 0xA0 ∨ t = 0xA2 then a / 16 else 0

/-- The touched entries of a cask (R28). -/
abbrev Touched := List (Nat × Nat)

/-- A table of the list is touched. -/
def hasT (tt : Touched) (ts : List Nat) : Bool := tt.any (fun p => ts.contains p.1)
/-- Entry `e` of table `t` is touched. -/
def hasE (tt : Touched) (t e : Nat) : Bool := tt.contains (t, e)

/-- A fault where `b` holds. -/
def faultIf (b : Bool) (t a r : Nat) : List VFault := if b then [(t, a, r)] else []

/-- Words 0 to `n` of a table do not sum to 0xFFFF; the fault names the whole table (R29). -/
def checkAll (s : State) (t n : Nat) : List VFault := faultIf (sumWords (twords s t 0 (n + 1)) != 0xFFFF) t 0xFFFF 1

/-! ### Jet tables (R161, R162, R168, R173, R174, R177, R178, R181, R187) -/

/-- One segment of waveform `w` (R174): at word `b`, drive USE `u`. -/
def segFaults (s : State) (b u i : Nat) : List VFault :=
  let ctl := tnat s 0x22 (b + 17 + 2 * i)
  let dur := tnat s 0x22 (b + 18 + 2 * i)
  faultIf ((u == 0 && (decide (1 < bits ctl 15 12) || bit ctl 11)) || (u == 1 && bit ctl 10)) 0x22 (b + 17 + 2 * i) 3
    ++ faultIf (decide (dur < 1) || (u == 1 && decide (dur % 4 ≠ 0))) 0x22 (b + 18 + 2 * i) 3

/-- NSEG of waveform `w`. -/
def waveSegs (s : State) (w : Nat) : Nat := bits (tnat s 0x22 (64 * w)) 4 0
/-- USE of waveform `w`. -/
def waveUse (s : State) (w : Nat) : Nat := bits (tnat s 0x22 (64 * w)) 15 14
/-- Total duration of waveform `w`. -/
def waveTotal (s : State) (w : Nat) : Nat :=
  (List.range (waveSegs s w)).foldl (fun a i => a + tnat s 0x22 (64 * w + 18 + 2 * i)) 0

/-- Faults of waveform `w` (R173, R174). -/
def waveFaults (s : State) (w : Nat) : List VFault :=
  let b := 64 * w
  let u := waveUse s w
  let n := waveSegs s w
  (if 1 < u ∨ n < 1 ∨ 16 < n then [(0x22, b, 3)]
   else (List.range n).flatMap (segFaults s b u)
     ++ faultIf (u == 1 && decide (2400 < waveTotal s w)) 0x22 (b + 16 + 2 * n) 3)
    ++ faultIf (sumWords (twords s 0x22 b 64) != 0xFFFF) 0x22 (b + 63) 1

/-- Waveform `w` is valid and has USE `u`. -/
def waveOk (s : State) (u w : Nat) : Bool := (waveFaults s w).isEmpty && waveUse s w == u

/-- Faults of format table 0x30 + `f` (R181). -/
def formatFaults (s : State) (f : Nat) : List VFault :=
  let t := 0x30 + f
  let w0 := tnat s t 0
  faultIf (bits w0 13 12 == 3 || decide (32 < bits w0 5 0)) t 0 3
    ++ faultIf (decide (32 < bits (tnat s t 1) 5 0)) t 1 3
    ++ checkAll s t 15

/-- FORMAT of group `g`. -/
def grFormat (s : State) (g : Nat) : Nat := bits (grW s g 0) 6 4
/-- RATE of group `g`. -/
def grRate (s : State) (g : Nat) : Nat := bits (grW s g 0) 8 7
/-- LATW of group `g`. -/
def grLatw (s : State) (g : Nat) : Nat := bits (grW s g 1) 15 8
/-- NADDR of group `g`. -/
def grNaddr (s : State) (g : Nat) : Nat := bits (grW s g 1) 5 0 + 1
/-- SETUP of group `g`. -/
def grSetup (s : State) (g : Nat) : Nat := grW s g 2
/-- APER of group `g`. -/
def grAper (s : State) (g : Nat) : Nat := grW s g 3
/-- SUPPLY of group `g`. -/
def grSupply (s : State) (g : Nat) : Nat := bits (grW s g 4) 3 0
/-- VNOM of group `g`. -/
def grVnom (s : State) (g : Nat) : Nat := grW s g 5
/-- IL of a group's format (R168). -/
def grInterleave (s : State) (g : Nat) : Nat := 2 ^ bits (tnat s (0x30 + grFormat s g) 0) 11 10

/-- Range faults of group `g`, whose mode is not off (R161, R187). -/
def groupRanges (s : State) (g : Nat) : List VFault :=
  let m := grMode s g
  let d := grDrive s g
  let b := 8 * g
  faultIf (d == 3 || grRate s g == 3 || (m == 3 && d != 0) || (m == 2 && d == 0)) 0x21 b 3
    ++ faultIf (grLatw s g == 0) 0x21 (b + 1) 3
    ++ faultIf (decide (grSetup s g < 1) || decide (1023 < grSetup s g) || (m == 3 && decide (grSetup s g ≤ grLatw s g)))
        0x21 (b + 2) 3
    ++ faultIf (m == 3 && decide (grAper s g < grSetup s g + 16)) 0x21 (b + 3) 3
    ++ faultIf (decide (11 < grSupply s g)) 0x21 (b + 4) 3
    ++ faultIf (grVnom s g == 0) 0x21 (b + 5) 3

/-- A group in mode L or S refers to a format that is not valid (R52 reason 0x02). -/
def groupFormat (s : State) (g : Nat) : List VFault :=
  faultIf ((grMode s g == 1 || grMode s g == 2) && !(formatFaults s (grFormat s g)).isEmpty) 0x21 (8 * g) 2

/-- NOZ + 1 against NADDR (R162) and the interleave (R168). -/
def chanRows (s : State) (c : Nat) : List VFault :=
  let g := c / 8
  let n := nozCount s c
  faultIf ((grMode s g == 3 && n != grNaddr s g)
    || ((grMode s g == 1 || grMode s g == 2) && decide (n % grInterleave s g ≠ 0))) 0x20 (4 * c) 3

/-- The curve of channel `c` (R178). -/
def chanCurve (s : State) (c : Nat) : List VFault := faultIf (!curveOk s (curveOf s c)) 0x20 (4 * c + 2) 2

/-- The waveforms of a channel in PULSE drive (R174, R187). -/
def chanWaves (s : State) (c : Nat) : List VFault :=
  if grDrive s (c / 8) = 0 then
    faultIf (!waveOk s 0 (bits (chW s c 1) 5 0) || !waveOk s 0 (bits (chW s c 1) 13 8)) 0x20 (4 * c + 1) 2
      ++ faultIf (!waveOk s 0 (bits (chW s c 2) 5 0)) 0x20 (4 * c + 2) 2
  else []

/-- The USED channels of groups whose mode is not off (R162). -/
def liveChans (s : State) : List Nat :=
  (List.range 256).filter (fun c => chUsed s c && grMode s (c / 8) != 0)

/-- The entry of WDAC `w` (R187). -/
def wdacFaults (s : State) (w : Nat) : List VFault :=
  let e := tnat s 0x24 (4 * w)
  let t := bits e 7 0
  faultIf (!waveOk s 1 (bits e 13 8) || !chUsed s t || !onWdac s w (t / 8)) 0x24 (4 * w) 2

/-- WDAC `w` is selected by a group in service. -/
def wdacSelected (s : State) (w : Nat) : Bool := (List.range 32).any (onWdac s w)

/-- Faults of the jet block for the touched tables: R28 makes a table touched as a whole, so every waveform of table 0x22
and every curve of table 0x23 is judged (log entry 144). -/
def jetFaults (s : State) (tt : Touched) : List VFault :=
  let gs := (List.range 32).filter (fun g => grMode s g != 0)
  (if hasT tt [0x20] then checkAll s 0x20 1024 else [])
    ++ (liveChans s).flatMap (fun c =>
        (if hasT tt [0x20, 0x21, 0x30 + grFormat s (c / 8)] then chanRows s c else [])
          ++ (if hasT tt [0x20, 0x21, 0x23] then chanCurve s c else [])
          ++ (if hasT tt [0x20, 0x21, 0x22] then chanWaves s c else []))
    ++ (if hasT tt [0x21] then checkAll s 0x21 256 ++ gs.flatMap (groupRanges s) else [])
    ++ gs.flatMap (fun g => if hasT tt [0x21, 0x30 + grFormat s g] then groupFormat s g else [])
    ++ (if hasT tt [0x22] then (List.range 64).flatMap (waveFaults s) else [])
    ++ (if hasT tt [0x23] then (List.range 32).flatMap (fun e => faultIf (!curveOk s e) 0x23 (512 * e + 289) 1) else [])
    ++ (if hasT tt [0x24] then checkAll s 0x24 32 else [])
    ++ (if hasT tt [0x20, 0x21, 0x22, 0x24] then ((List.range 8).filter (wdacSelected s)).flatMap (wdacFaults s) else [])
    ++ (List.range 8).flatMap (fun f => if hasT tt [0x30 + f] then formatFaults s f else [])

/-- The configuration of group `g` is valid (R182): mode not off, and no fault in what it uses. -/
def groupValid (s : State) (g : Nat) : Bool :=
  grMode s g != 0 && (checkAll s 0x20 1024).isEmpty && (checkAll s 0x21 256).isEmpty
    && (groupRanges s g).isEmpty && (groupFormat s g).isEmpty
    && (grUsed s g).all (fun c => (chanRows s c).isEmpty && (chanCurve s c).isEmpty && (chanWaves s c).isEmpty)
    && (grDrive s g != 1 || ((checkAll s 0x24 32).isEmpty && (wdacFaults s (grWdac s g)).isEmpty))

/-! ### Swath tables (R195, R200, R205, R159) -/

/-- Slot `i` of table 0x41 ends beyond the buffer or overlaps an earlier slot (R195). -/
def slotBad (s : State) (i : Nat) : Bool :=
  let base (k : Nat) : Nat := tnat s 0x41 (2 * k) % 256
  let size (k : Nat) : Nat := tnat s 0x41 (2 * k + 1) % 256
  size i != 0 && (decide (128 < base i + size i) || (List.range i).any (fun k =>
    size k != 0 && decide (base k < base i + size i) && decide (base i < base k + size k)))

/-- Faults of table 0x41. -/
def formatTable (s : State) (tt : Touched) : List VFault :=
  let own := hasT tt [0x41]
  (if own then checkAll s 0x41 255
      ++ (List.range 8).flatMap (fun i => faultIf (slotBad s i) 0x41 (2 * i + 1) 3)
      ++ faultIf (decide (tnat s 0x41 40 < 1) || decide ((if bit (tnat s 0x41 41) 0 then 180 else 250) < tnat s 0x41 40)) 0x41 40 3
    else [])
    ++ (List.range 8).flatMap (fun f =>
      if fmtCount s f = 0 then []
      else (if own then faultIf (decide (256 < fmtCount s f) || decide (256 < fmtFirst s f + fmtCount s f)) 0x41 (18 + 3 * f) 3 else [])
        ++ (if own || hasT tt [0x20] then faultIf (!(fmtChans s f).all (chUsed s)) 0x41 (17 + 3 * f) 2 else []))

/-- Faults of one valid entry of the substitution table (R205). -/
def substFaults (s : State) (own : Bool) (all : List Subst) (e : Subst) : List VFault :=
  let n' : Int := e.nozzle + e.delta
  (if own then faultIf (e.dp == 2 || all.any (fun o => decide (o.entry < e.entry) && o.channel == e.channel && o.nozzle == e.nozzle))
      0x43 (2 * e.entry) 3 else [])
    ++ faultIf ((own && decide (64 < e.delta.natAbs)) || decide (n' < 0) || decide ((nozCount s e.channel : Int) ≤ n'))
      0x43 (2 * e.entry + 1) 3

/-- Faults of tables 0x41, 0x42, 0x43 and 0xA5. -/
def swathFaults (s : State) (tt : Touched) : List VFault :=
  let all := (List.range 1024).filterMap (substEntry s)
  formatTable s tt
    ++ (if hasT tt [0x42] then checkAll s 0x42 16384 else [])
    ++ (if hasT tt [0x43] then checkAll s 0x43 2048 else [])
    ++ (if hasT tt [0x43, 0x20] then all.flatMap (substFaults s (hasT tt [0x43]) all) else [])
    ++ (if hasT tt [0xA5] then checkAll s 0xA5 576
          ++ (List.range 256).flatMap (fun c =>
            let hi := tnat s 0xA5 (2 * c + 1)
            faultIf (bits hi 15 8 != (if bit hi 7 then 255 else 0)) 0xA5 (2 * c + 1) 3)
        else [])

/-! ### Motion tables (R273) -/

/-- Faults of axis `n` of table 0x60. -/
def axisFaults (s : State) (n : Nat) : List VFault :=
  let b := 32 * n
  let w (o : Nat) : Nat := tnat s 0x60 (b + o)
  let d (o : Nat) : Nat := tnat32 s 0x60 (b + o)
  let lo := tint32 s 0x60 (b + 11)
  let hi := tint32 s 0x60 (b + 13)
  faultIf (bits (w 0) 10 9 == 3 || decide (11 < bits (w 0) 3 0)) 0x60 b 3
    ++ faultIf (decide (d 1 < 1) || decide (4000000 < d 1)) 0x60 (b + 1) 3
    ++ faultIf (d 3 == 0) 0x60 (b + 3) 3
    ++ faultIf (d 5 == 0) 0x60 (b + 5) 3
    ++ faultIf (d 7 == 0) 0x60 (b + 7) 3
    ++ faultIf (decide (d 9 < d 5)) 0x60 (b + 9) 3
    ++ faultIf (!(decide (lo = 0) && decide (hi = 0)) && decide (hi ≤ lo)) 0x60 (b + 13) 3
    ++ (if n < 4 then faultIf (decide (w 17 < 1) || decide (10000 < w 17)) 0x60 (b + 17) 3
          ++ faultIf (decide (w 22 % 256 < 4)) 0x60 (b + 22) 3
        else faultIf (bits (w 23) 12 8 == 0 || w 23 % 256 == 0) 0x60 (b + 23) 3)
    ++ faultIf (decide (1000 < w 24)) 0x60 (b + 24) 3

/-- Faults of cam `t` (R273): its range where table 0x63 is touched, its check word, which covers both tables, where
either is. -/
def camFaults (s : State) (tt : Touched) (t : Nat) : List VFault :=
  faultIf (hasT tt [0x63] && decide (camSpan s t < 1)) 0x63 (4 * t + 1) 3
    ++ faultIf (sumWords (twords s 0x62 (2048 * t) 2048 ++ twords s 0x63 (4 * t) 4) != 0xFFFF) 0x63 (4 * t + 3) 1

/-- Faults of tables 0x60, 0x62 and 0x63. -/
def motionFaults (s : State) (tt : Touched) : List VFault :=
  (if hasT tt [0x60] then checkAll s 0x60 259 ++ (List.range 8).flatMap (axisFaults s)
      ++ faultIf (bit (tnat s 0x60 256) 15 && tnat32 s 0x60 257 == 0) 0x60 257 3
    else [])
    ++ (if hasT tt [0x62, 0x63] then (List.range 4).flatMap (camFaults s tt) else [])

/-! ### Valve tables (R295) -/

/-- Faults of valve channel `n`. -/
def valveFaults (s : State) (n : Nat) : List VFault :=
  let b := 8 * n
  let w (o : Nat) : Nat := tnat s 0x70 (b + o)
  faultIf (bits (w 0) 13 12 == 3 || (bit (w 0) 14 && decide (n % 2 = 1))) 0x70 b 3
    ++ faultIf (decide (w 1 < 100) || decide (20000 < w 1)) 0x70 (b + 1) 3
    ++ faultIf (decide (w 2 < 1) || decide (w 1 < w 2)) 0x70 (b + 2) 3
    ++ faultIf (decide (w 6 % 256 < 4)) 0x70 (b + 6) 3
    ++ faultIf (w 7 == 0) 0x70 (b + 7) 3

/-- NPH of profile `p`. -/
def profPhases (s : State) (p : Nat) : Nat := bits (tnat s 0x71 (32 * p)) 14 12 + 1
/-- REL of profile `p`. -/
def profRel (s : State) (p : Nat) : Nat := bits (tnat s 0x71 (32 * p)) 11 8
/-- FAULT of profile `p`. -/
def profFault (s : State) (p : Nat) : Nat := bits (tnat s 0x71 (32 * p)) 7 4
/-- ITGT of phase `i`. -/
def phTarget (s : State) (p i : Nat) : Nat := tnat s 0x71 (32 * p + 2 + 3 * i)
/-- CTL of phase `i`. -/
def phCtl (s : State) (p i : Nat) : Nat := tnat s 0x71 (32 * p + 3 + 3 * i)
/-- END of phase `i`. -/
def phEnd (s : State) (p i : Nat) : Nat := bits (phCtl s p i) 14 12
/-- LAST of phase `i`. -/
def phLast (s : State) (p i : Nat) : Bool := bit (phCtl s p i) 11
/-- DUR of phase `i`. -/
def phDur (s : State) (p i : Nat) : Nat := tnat s 0x71 (32 * p + 4 + 3 * i)

/-- Phase `i` is reached from the fault entry (R282, R295): no phase before it, from FAULT − 1 on, is LAST. -/
def fromFault (s : State) (p i : Nat) : Bool :=
  let f := profFault s p
  decide (1 ≤ f) && decide (f - 1 ≤ i) && (List.range i).all (fun k => decide (k < f - 1) || !phLast s p k)

/-- Faults of phase `i` of profile `p`. -/
def phaseFaults (s : State) (p i : Nat) : List VFault :=
  faultIf (decide (40000 < phTarget s p i)) 0x71 (32 * p + 2 + 3 * i) 3
    ++ faultIf (decide (4 < phEnd s p i) || (phEnd s p i == 4 && fromFault s p i)) 0x71 (32 * p + 3 + 3 * i) 3
    ++ faultIf (phEnd s p i != 4 && phDur s p i == 0) 0x71 (32 * p + 4 + 3 * i) 3

/-- CHECK of profile `p` holds. -/
def profCheck (s : State) (p : Nat) : Bool := sumWords (twords s 0x71 (32 * p) 32) == 0xFFFF

/-- Faults of profile `p`. -/
def profileFaults (s : State) (p : Nat) : List VFault :=
  let n := profPhases s p
  faultIf (decide (n < profRel s p) || decide (n < profFault s p)) 0x71 (32 * p) 3
    ++ (List.range n).flatMap (phaseFaults s p)
    ++ faultIf (!profCheck s p) 0x71 (32 * p + 31) 1

/-! ### Rail margins (R316), gate dwell (R248), encoders and SSI (R134, R137) -/

/-- Faults of margin entry `m` (R316). -/
def marginFaults (s : State) (m : Nat) : List VFault :=
  let w (k o : Nat) : Nat := tnat s 0x79 (4 * k + o)
  let rail (k : Nat) : Nat := bits (w k 0) 3 0
  let en (k : Nat) : Bool := bit (w k 0) 15
  let lim := bits (w m 2) 5 0
  faultIf (decide (9 < rail m) || bit (tnat s 0x78 (16 * rail m)) 15
      || (en m && (List.range m).any (fun k => en k && rail k == rail m))) 0x79 (4 * m) 3
    ++ faultIf (decide (lim < (signed 16 (w m 1)).natAbs)) 0x79 (4 * m + 1) 3
    ++ faultIf (decide (32 < lim)) 0x79 (4 * m + 2) 3

/-- Faults of encoder channel `c` of table 0xA0. -/
def encFaults (s : State) (c : Nat) : List VFault :=
  let cfg := encCfg s c
  let lo := tint32 s 0xA0 (16 * c + 4)
  let hi := tint32 s 0xA0 (16 * c + 6)
  faultIf (bits cfg 15 14 == 3 || bits cfg 9 8 == 3) 0xA0 (16 * c) 3
    ++ faultIf (!(decide (lo = 0) && decide (hi = 0)) && decide (hi ≤ lo)) 0xA0 (16 * c + 6) 3

/-- A field of `n` bits from bit `a` lies outside the frame or overlaps an earlier field. -/
def fieldBad (len : Nat) (before : List (Nat × Nat)) (a n : Nat) : Bool :=
  decide (len < a + n) || before.any (fun f => decide (f.1 < a + n) && decide (a < f.1 + f.2))

/-- Faults of the SSI entry of channel `c` (R134). -/
def ssiFaults (s : State) (c : Nat) : List VFault :=
  let b := 16 * c
  let w (o : Nat) : Nat := tnat s 0xA2 (b + o)
  let len := bits (w 0) 15 10
  let pos := (bits (w 1) 13 8, bits (w 1) 5 0)
  let err := (bits (w 2) 5 0, 1)
  let crc := (bits (w 3) 5 0, bits (w 3) 12 8)
  let errEn := bit (w 0) 7
  let crcEn := bit (w 0) 5
  faultIf (decide (len < 8) || decide (48 < len)) 0xA2 b 3
    ++ faultIf (decide (pos.2 < 4) || decide (32 < pos.2) || fieldBad len [] pos.1 pos.2) 0xA2 (b + 1) 3
    ++ faultIf (errEn && fieldBad len [pos] err.1 err.2) 0xA2 (b + 2) 3
    ++ faultIf (crcEn && (decide (crc.2 < 3) || decide (16 < crc.2)
        || fieldBad len (pos :: (if errEn then [err] else [])) crc.1 crc.2)) 0xA2 (b + 3) 3
    ++ faultIf (decide (w 6 < 25) || decide (2500 < w 6)) 0xA2 (b + 6) 3
    ++ faultIf (decide (255 < w 7)) 0xA2 (b + 7) 3
    ++ faultIf (decide (w 8 < 1) || decide (100 < w 8)) 0xA2 (b + 8) 3
    ++ faultIf (decide (60000 < w 9) || decide (w 9 * 1000 < (len + 1) * w 6 * 4 + (w 8 + 1) * 1000)) 0xA2 (b + 9) 3

/-- Every fault of the touched tables (R28). -/
def allFaults (s : State) (tt : Touched) : List VFault :=
  jetFaults s tt ++ swathFaults s tt
    ++ (if hasT tt [0x56] then checkAll s 0x56 4 else [])
    ++ motionFaults s tt
    ++ (if hasT tt [0x70] then checkAll s 0x70 128 ++ (List.range 16).flatMap (valveFaults s) else [])
    ++ (if hasT tt [0x71] then (List.range 16).flatMap (profileFaults s) else [])
    ++ (if hasT tt [0x79] then checkAll s 0x79 32 ++ (List.range 8).flatMap (marginFaults s) else [])
    ++ (if hasT tt [0xA0] then (List.range 8).flatMap (encFaults s) else [])
    ++ (if hasT tt [0xA0, 0xA2] then
        ((List.range 8).filter (fun c => encMode s c == 2)).flatMap (ssiFaults s) else [])

/-- Fault `x` is named before `y` (R29): lower table, then lower word, then lower reason. -/
def faultBefore (x y : VFault) : Bool :=
  decide (x.1 < y.1) || (x.1 == y.1 && (decide (x.2.1 < y.2.1) || (x.2.1 == y.2.1 && decide (x.2.2 ≤ y.2.2))))

/-- The first offending item (R29). -/
def firstFault : List VFault → Option VFault
  | [] => none
  | x :: xs =>
    match firstFault xs with
    | none => some x
    | some y => if faultBefore x y then some x else some y

/-! ### The state a cask would leave -/

/-- Writes a list of words at their keys. -/
def putCells (l m : Cells) : Cells := l.foldl (fun acc p => cellSet tblDefault p.1 p.2 acc) m

/-- Replaces every word of the touched tables with the cask's (R32). -/
def decantCells (k : Cask) (m : Cells) : Cells :=
  let mine (p : Nat × Word) : Bool := hasT k.touched [keyTable p.1]
  putCells (k.mem.filter mine) (m.filter (fun p => !mine p))

/-- The state with the touched tables of a cask in force. -/
def underCask (k : Cask) (s : State) : State := { s with tbl := decantCells k s.tbl }

/-- The first offending item of a cask, if it has one (R28, R29). -/
def caskFault (k : Cask) (s : State) : Option VFault := firstFault (allFaults (underCask k s) k.touched)

/-- The cask-able words of a memory: what a cask copies at BEGIN (R24). -/
def caskCells (m : Cells) : Cells := m.filter (fun p => caskable (keyTable p.1))

/-! ### Idle blocks (R37) -/

/-- An engaged cam uses table `t`. -/
def camInUse (s : State) (t : Nat) : Bool :=
  s.mot.axes.any (fun a => match a.cam with | some c => c.table == t | none => false)

/-- A valve channel, or the pair it belongs to, is running. -/
def valveRuns (s : State) (n : Nat) : Bool :=
  (s.vlv.getD n {}).running || (s.vlv.getD n {}).kept.isSome ||
    (bit (tnat s 0x70 (8 * (n / 2 * 2))) 14 && (s.vlv.getD (n / 2 * 2) {}).running)

/-- The block of entry `e` of table `t` is idle (R37, R251, R295). -/
def entryIdle (s : State) (t e : Nat) : Bool :=
  if t = 0x60 then (if e < 8 then !axMoving s e else (List.range 8).all (fun n => !axMoving s n))
  else if t = 0x62 ∨ t = 0x63 then !camInUse s e
  else if t = 0x70 then (if e < 16 then !valveRuns s e else (List.range 16).all (fun n => !valveRuns s n))
  else if t = 0x71 then !s.vlv.any (fun v => v.running && v.profile == e)
  else if t = 0xA0 ∨ t = 0xA2 then !(encOf s e).en
  else if t = 0x56 then true
  else !swathActive s

/-- Every block a cask touches is idle (R31, R43, R44). -/
def caskIdle (s : State) (tt : Touched) : Bool := tt.all (fun p => entryIdle s p.1 p.2)

end Sys2Proof.Machine
end

