-- ==== Sys2Proof/Machine/Jet.lean ====
section
/-! DEFINITION. Jet channels and drive shaping (R160-R187): fire intervals, energy scaling, waveforms and
WDACs, the fire of a unit, and the operations of JET_CTL. -/

namespace Sys2Proof.Machine

/-- Records error `code` of the jet block (R185). -/
def jetErr (code : Nat) (s : State) : State := recErr 0x06 code s

/-- EN of group `g`. -/
def grEn (s : State) (g : Nat) : Bool := grp s.jet.en g

/-! ### Fire intervals (R166-R172) -/

/-- D of mode L (R166). -/
def bitTk (s : State) (g : Nat) : Nat := 2 * 2 ^ grRate s g

/-- The largest NOZ + 1 of a group's USED channels. -/
def maxRows (s : State) (g : Nat) : Nat := (grUsed s g).foldl (fun a c => max a (nozCount s c)) 0

/-- Word `o` of the format table of group `g`. -/
def fmtW (s : State) (g o : Nat) : Nat := tnat s (0x30 + grFormat s g) o

/-- The idle TK of group `g` between the strobe's end and the next column's bits: the one TK of mode L, GAP of mode S
(R166, R167). -/
def laneGap (s : State) (g : Nat) : Nat := if grMode s g = 1 then 1 else bits (fmtW s g 1) 15 8

/-- How long the shift or frame of one column of group `g` takes (R166-R168). -/
def laneTk (s : State) (g : Nat) : Nat :=
  if grMode s g = 1 then 2 * maxRows s g * bitTk s g
  else bits (fmtW s g 0) 5 0 + 2 * maxRows s g + bits (fmtW s g 1) 5 0

/-- The time from a fire's start until the fire, frame or shift of group `g` completes (R166, R168, R169). -/
def fireLength (s : State) (g : Nat) : Nat :=
  match grMode s g with
  | 0 => 0
  | 3 => grNaddr s g * grAper s g
  | _ => grLatw s g + laneGap s g + laneTk s g

/-- MIN_INTERVAL of group `g` (R170); 0 for a group that is off. -/
def minInterval (s : State) (g : Nat) : Nat :=
  match grMode s g with
  | 0 => 0
  | 3 => max 2500 (fireLength s g)
  | _ => max 2500 (fireLength s g + grSetup s g)

/-- The refire guard of the unit that `t` triggers (R172): SETUP after a frame or shift belongs to it, since the
earliest fire of the next column comes after it (R166, R168, log entry 97). -/
def refireGuard (s : State) (t : Nat) : Nat := (unitGroups s t).foldl (fun a g => max a (minInterval s g)) 2500

/-- How long a fire of group `g` itself lasts: the strobe, or every address of mode P (R169, R237). -/
def fireSpan (s : State) (g : Nat) : Nat := if grMode s g = 3 then grNaddr s g * grAper s g else grLatw s g

/-- MIN_INTERVAL of the unit of group `g`: a WDAC unit takes the largest of its groups (R170). -/
def unitInterval (s : State) (g : Nat) : Nat :=
  if grDrive s g = 1 then ((List.range 32).filter (onWdac s (grWdac s g))).foldl (fun a h => max a (minInterval s h)) 0
  else minInterval s g

/-! ### Energy (R177-R179) -/

/-- The scale factor of curve `e` at temperature `t` (1/16 °C) and supply `v` against `vnom` (R177). -/
def energyScale (s : State) (e : Nat) (t : Int) (v vnom : Nat) : Nat :=
  let tp := (clampInt (t + 160) 0 1280).toNat
  let i := min (tp / 80) 15
  let a := (tp - 80 * i) * 256 / 80
  let vp := (clampInt (100 * (v : Int) - 92 * vnom) 0 (16 * vnom)).toNat
  let j := if vnom = 0 then 0 else min (vp / vnom) 15
  let b := if vnom = 0 then 0 else (vp - vnom * j) * 256 / vnom
  let pt (x y : Nat) : Nat := tnat s 0x23 (512 * e + 17 * x + y)
  (roundDiv ((256 - a) * (256 - b) * pt i j + a * (256 - b) * pt (i + 1) j + (256 - a) * b * pt i (j + 1)
    + a * b * pt (i + 1) (j + 1) : Nat) 65536).toNat

/-- S of channel `c` from its group's latest samples (R179), for a WDAC at a swath boundary. -/
def chanScale (s : State) (c : Nat) : Nat :=
  let g := c / 8
  energyScale s (curveOf s c) (tempOf s g).t (s.rail.rails.getD (grSupply s g) {}).v (grVnom s g)

/-- S of channel `c` at a fire (R179): from the samples in force at its TK, which a sample that arrives in the same TK
is not yet. -/
def fireScale (s : State) (c : Nat) : Nat :=
  let g := c / 8
  let h := tempOf s g
  let r : RailCh := s.rail.rails.getD (grSupply s g) {}
  energyScale s (curveOf s c) (if h.at_ = s.tk then h.tOld else h.t) (if r.vAt = some s.tk then r.vOld else r.v)
    (grVnom s g)

/-- Both samples of group `g` have been received (R182). -/
def inputsOk (s : State) (g : Nat) : Bool :=
  (tempOf s g).valid && (s.rail.rails.getD (grSupply s g) {}).vAt.isSome

/-- A sample of group `g` has not been refreshed for 1 ms, and that loss has not been recorded yet (R180). -/
def inputsStale (s : State) (g : Nat) : Bool :=
  let last := ((s.jet.staleAt.find? (fun p => p.1 == g)).map Prod.snd).getD 0
  [(tempOf s g).at_, (s.rail.rails.getD (grSupply s g) {}).vAt.getD 0].any (fun t =>
    decide (t + 250000 ≤ s.tk) && decide (last < t + 250000))

/-! ### Waveforms (R173-R175, R177) -/

/-- The played segments of a PULSE waveform with scale `sc`: level and duration (R175, R177). -/
def pulseSegs (s : State) (w sc : Nat) : List (Nat × Nat) :=
  (List.range (waveSegs s w)).map (fun i =>
    let ctl := tnat s 0x22 (64 * w + 17 + 2 * i)
    let dur := tnat s 0x22 (64 * w + 18 + 2 * i)
    (bits ctl 15 12, if bit ctl 10 then clampNat (roundDiv (dur * sc : Nat) 32768).toNat 1 65535 else dur))

/-- Total time of played segments. -/
def segsTotal (l : List (Nat × Nat)) : Nat := l.foldl (fun a p => a + p.2) 0

/-- Segments cut to `n` TK. -/
def cutSegs : List (Nat × Nat) → Nat → List (Nat × Nat)
  | [], _ => []
  | (v, d) :: l, n => if d ≤ n then (v, d) :: cutSegs l (n - d) else if n = 0 then [] else [(v, n)]

/-! ### WDACs (R175, R176, R179) -/

/-- WDAC `w`. -/
def wdacOf (s : State) (w : Nat) : Wdac := s.jet.wdacs.getD w {}
/-- Changes WDAC `w`. -/
def setWdac (w : Nat) (f : Wdac → Wdac) (s : State) : State := { s with jet.wdacs := modifyNth f s.jet.wdacs w }
/-- WF of WDAC `w`. -/
def wdacWf (s : State) (w : Nat) : Nat := bits (tnat s 0x24 (4 * w)) 13 8
/-- AMPCOR of WDAC `w`. -/
def ampcor (s : State) (w : Nat) : Bool := bit (tnat s 0x24 (4 * w + 1)) 15
/-- LEVEL[x] of waveform `v`. -/
def waveLevel (s : State) (v x : Nat) : Nat := bits (tnat s 0x22 (64 * v + 1 + x)) 13 0

/-- A WDAC level before it is clamped (R179). -/
def rawLevel (s : State) (v x : Nat) (sc : Option Nat) : Int :=
  let l0 : Int := waveLevel s v 0
  match sc with
  | some k => roundDiv (l0 * 32768 + ((waveLevel s v x : Int) - l0) * k) 32768
  | none => waveLevel s v x

/-- A WDAC level as played (R179). -/
def playLevel (s : State) (v x : Nat) (sc : Option Nat) : Nat := (clampInt (rawLevel s v x sc) 0 16383).toNat

/-- The segments of WDAC waveform `v` as a fire plays them (R175, R179). -/
def wavePlay (s : State) (v : Nat) (sc : Option Nat) : List WaveSeg :=
  (List.range (waveSegs s v)).map (fun i =>
    let ctl := tnat s 0x22 (64 * v + 17 + 2 * i)
    { level := playLevel s v (bits ctl 15 12) sc, dur := tnat s 0x22 (64 * v + 18 + 2 * i), slope := bit ctl 11 })

/-- The code of a WDAC waveform `t` TK into its segments, with `prev` before them; after the last one the level it ends
at (R175). -/
def waveCodeAt : List WaveSeg → Nat → Nat → Nat
  | [], prev, _ => prev
  | w :: l, prev, t =>
    if t < w.dur then
      (if w.slope then (roundDiv ((prev : Int) * w.dur + ((w.level : Int) - prev) * (t / 4) * 4) w.dur).toNat else w.level)
    else waveCodeAt l w.level (t - w.dur)

/-- The present code of WDAC `w` (R176): a glide, the waveform that its last fire started, or the level it holds. How
the code of a glide is rounded is open (log entry 13). -/
def wdacCode (s : State) (w : Nat) : Nat :=
  let d := wdacOf s w
  match d.glideEnd with
  | some e =>
    let t : Int := 25000 - ((e - s.tk : Nat) : Int)
    ((d.code : Int) + divOpen 1761 (((d.glideTo : Int) - d.code) * t) 25000).toNat
  | none =>
    match d.playFrom with
    | some t0 => if d.on && decide (t0 ≤ s.tk) then waveCodeAt d.playSegs d.playBase (s.tk - t0) else d.code
    | none => d.code

/-- An enabled group selects WDAC `w`. -/
def wdacBusy (s : State) (w : Nat) : Bool := (List.range 32).any (fun g => grEn s g && onWdac s w g)

/-- The level codes a WDAC waveform uses. -/
def usedLevels (s : State) (v : Nat) : List Nat :=
  ((List.range (waveSegs s v)).map (fun i => bits (tnat s 0x22 (64 * v + 17 + 2 * i)) 15 12)).eraseDups

/-- Step 4 of R21: the energy scale of WDAC `w` (R179). A level that leaves the range is counted. -/
def correctWdac (w : Nat) (s : State) : State :=
  let t := bits (tnat s 0x24 (4 * w)) 7 0
  if ampcor s w && wdacSelected s w then
    let sc := chanScale s t
    let v := wdacWf s w
    let s1 := setWdac w (fun d => { d with scale := some sc }) s
    (usedLevels s v).foldl (fun st x =>
      if rawLevel s v x (some sc) < 0 ∨ 16383 < rawLevel s v x (some sc) then
        jetErr 3 (bump 0x25 307 (jetFlag (t / 8) (fun j => { j with wclamp := true }) st))
      else st) s1
  else s

/-- The correction of every WDAC. -/
def correctWdacs (s : State) : State := (List.range 8).foldl (fun st w => correctWdac w st) s

/-! ### JET_CTL (R176, R182, R183) -/

/-- The lanes of group `g`. -/
def laneOf (s : State) (g : Nat) : Lane := (s.jet.lanes.find? (fun l => l.group == g)).getD { group := g }

/-- Sets the lanes of a group. -/
def setLane (l : Lane) (s : State) : State :=
  { s with jet.lanes := l :: s.jet.lanes.filter (fun x => x.group != l.group) }

/-- A refused operation (R183). -/
def jetRefuse (g : Nat) (s : State) : State := jetErr 4 (jetFlag g (fun j => { j with operr := true }) s)

/-- ENABLE_GROUP (R182): the outputs go to the rest levels of the group's mode, and lanes of mode S start to idle. -/
def enableGroupOp (g : Nat) (s : State) : State :=
  if swathActive s || !groupValid s g || (grDrive s g == 1 && !(wdacOf s (grWdac s g)).ready) || !inputsOk s g then
    jetRefuse g s
  else setLane { group := g, from_ := s.tk } { s with jet.en := setGrp s.jet.en g true }

/-- DISABLE_GROUP (R183): running pulses are cut. -/
def disableGroupOp (g : Nat) (s : State) : State :=
  { cutGroups (BitVec.ofNat 32 (2 ^ g)) s with jet.en := setGrp s.jet.en g false }

/-- DISABLE_ALL (R183). -/
def disableAllOp (s : State) : State := { cutGroups (BitVec.allOnes 32) s with jet.en := 0 }

/-- WDAC_ON (R176). -/
def wdacOnOp (w : Nat) (s : State) : State :=
  if 7 < w ∨ wdacBusy s w ∨ !waveOk s 1 (wdacWf s w) ∨ (wdacSelected s w ∧ !(wdacFaults s w).isEmpty) then
    jetRefuse s.jet.lastGrp s
  else setWdac w (fun d => { d with
    on := true, ready := false, glideUp := true, glideEnd := some (s.tk + 25000), code := 0x2000, used := true
    glideTo := playLevel s (wdacWf s w) 0 (if ampcor s w then d.scale else none), playFrom := none }) s

/-- WDAC_OFF (R176). -/
def wdacOffOp (w : Nat) (s : State) : State :=
  if 7 < w ∨ wdacBusy s w then jetRefuse s.jet.lastGrp s
  else if (wdacOf s w).on then
    setWdac w (fun d => { d with
      ready := false, glideUp := false, glideEnd := some (s.tk + 25000), code := wdacCode s w, glideTo := 0x2000
      playFrom := none }) s
  else s

/-- One write of JET_CTL (R186). -/
def jetCmd (op t : Nat) (s : State) : State :=
  match op with
  | 0 => s
  | 1 => enableGroupOp t s
  | 2 => disableGroupOp t s
  | 3 => wdacOnOp t s
  | 4 => wdacOffOp t s
  | 5 => disableAllOp s
  | _ => jetRefuse t s

/-- A JET_CTL write, which a power entry holds (R359). -/
def jetWrite (op t : Nat) (s : State) : State :=
  if entryHolds s && op != 0 then holdCmd (.jet op t) s else jetCmd op t s

/-- A JET_CTL write where the core is clocked. -/
def jetReg (op t : Nat) (s : State) : State := if clocked s then routedOp (.jet op t) (jetWrite op t) s else s

/-- A glide has ended (R176). -/
def glideDone (w : Nat) (s : State) : State :=
  match (wdacOf s w).glideEnd with
  | some t =>
    if t ≤ s.tk then
      (if (wdacOf s w).glideUp then
        setWdac w (fun d => { d with glideEnd := none, ready := true, code := d.glideTo }) s
       else setWdac w (fun d => { d with glideEnd := none, on := false, code := d.glideTo }) s)
    else s
  | none => s

/-! ### The fire of a unit (R145, R163, R164, R172) -/

/-- What a unit's fire presents: for each member its column, its codes, covers skipped and what its record
was. -/
structure Presented where
  channel : Nat
  column : Int
  codes : List Nat
  skipped : Nat
  under : Bool
  bad : Bool
  deriving DecidableEq, Repr

/-- The codes member `c` presents at trigger column `k` (R164, R203, R204, R210). -/
def present (s : State) (a : Active) (t c : Nat) (k : Int) : Presented :=
  let col := k - colDelta s a.slot t c
  let n := nozCount s c
  let blank : Presented := { channel := c, column := col, codes := List.replicate n 0, skipped := 0, under := false, bad := false }
  if col < 0 ∨ (descCols s a.slot : Int) ≤ col ∨ !(fmtChans s (descFormat s a.slot)).contains c
      ∨ a.starvedChans.contains c then blank
  else match slotColumn s a.slot c col.toNat with
    | .beyond => { blank with under := true }
    | .bad => { blank with bad := true }
    | .codes l =>
      let e := effective s (descMasked s a.slot) (descPass s a.slot) c col.toNat l
      { blank with codes := e.1, skipped := e.2 }

/-- Records error `code` of the ingest block (R212). -/
def ingErr (code : Nat) (s : State) : State := recErr 0x07 code s

/-- What the records of a fire's members do besides their codes: covers skipped (R204), decode errors
(R203) and underruns (R210). -/
def noteRecord (sl : Nat) (p : Presented) (s : State) : State :=
  let x := target s sl p.channel p.column
  let s1 := if p.skipped = 0 then s else bumpBy 0x45 82 p.skipped s
  let s2 := if p.bad then
      raise irqIngest (markBad x (ingErr 7 (bump 0x45 78 { s1 with ing.decerr := true }))) else s1
  if p.under then
    raise irqIngest (markBad x (ingErr 6 (bump 0x45 77 { s2 with
      ing.underrun := true
      ing.active := s2.ing.active.map (fun a => { a with starvedChans := p.channel :: a.starvedChans }) })))
  else s2

/-- Target `x` (grid units) has been reached by P of the next TK (R145, R146). -/
def reached (s : State) (sl : Nat) (x : Int) : Bool := !behind (descRev s sl) (gridPNext s) (x * gu)

/-- TRIM of channel `c`, in taps (R145, R380). -/
def trimOf (s : State) (c : Nat) : Nat :=
  bits (calWord s 0 (32 + c / 2) 0) (if c % 2 = 0 then 15 else 7) (if c % 2 = 0 then 8 else 0) % 32

/-- The TK, the tap before TRIM and the fine tap of a fire of trigger `t` at target `x` (R145, R146). -/
def firePlace (s : State) (t : Nat) (x : Int) : Nat × Nat × Nat :=
  let p0 := gridP s
  let p1 := gridPNext s
  let passed := decide ((p1 - p0).natAbs = 0) || !behind (swathRev s) p0 (x * gu)
  let f := if passed then 0 else min 31 ((32 * (x * gu - p0).natAbs) / (p1 - p0).natAbs)
  let q := f + trimOf s t
  (s.tk + q / 32, f, q % 32)

/-- What the channel's output plays at a fire (R166, R169, R175): the segments from the channel's own start, which lies
`off` taps after the strobe's TK, gaps as level 0; and the addresses whose pulse is cut. A pulse is cut at a whole TK
of the address period, whatever its tap: the TK in which it is low from the cut on is the first it does not play. -/
def outputSegs (s : State) (g c : Nat) (off : Int) (codes : List Nat) : List (Nat × Nat) × List Nat :=
  let sc := fireScale s c
  if grDrive s g ≠ 0 then ([], [])
  else if grMode s g = 1 then ((0, grLatw s g) :: pulseSegs s (bits (chW s c 1) 5 0) sc, [])
  else
    let room := (32 * ((grAper s g : Int) - 2 - grSetup s g) - off).toNat
    (List.range (grNaddr s g)).foldl (fun acc a =>
      let x := codes.getD a 0
      let pulse := if x = 0 then [] else pulseSegs s (playedWave s c x) sc
      let cut := if room < 32 * segsTotal pulse then cutSegs pulse (ceilDiv room 32) else pulse
      (acc.1 ++ [(0, grSetup s g)] ++ cut ++ [(0, grAper s g - grSetup s g - segsTotal cut)],
       if room < 32 * segsTotal pulse then acc.2 ++ [a] else acc.2)) ([], [])

/-- Counts `n` pulses of group `g` that are cut (R169). -/
def noteCuts (g n : Nat) (s : State) : State :=
  if n = 0 then s else jetErr 2 (bumpBy 0x25 306 n (jetFlag g (fun j => { j with trunc := true }) s))

/-- The pulses whose address period ends in the present TK, 2 TK before the address does, are cut and counted (R169);
those that a DISABLE or a gate has cut before are not among them. -/
def pulseCuts (s : State) : State :=
  let due (g : Nat) : Nat := s.jet.fires.foldl (fun n f =>
    (f.chans.filter (fun c => c.channel / 8 == g)).foldl (fun m c => m + (c.cuts.filter (fun t => t == s.tk)).length) n) 0
  if s.jet.fires.all (fun f => f.chans.all (fun c => c.cuts.isEmpty)) then s
  else (List.range 32).foldl (fun st g => noteCuts g (due g) st) s

/-- A fire that the refire guard holds (R172); the total saturates as every counter of table 0x25 (R187). -/
def refireHeld (t : Nat) (members : List Nat) (s : State) : State :=
  jetErr 1 (jetFlag (t / 8) (fun j => { j with refire := true })
    (bump 0x25 256 (members.foldl (fun st c => bump 0x25 c st) s)))

/-- The last fire of the unit that `t` triggers. -/
def lastFire (s : State) (t : Nat) : Option Fire := s.jet.fires.find? (fun f => f.trig == t)

/-- The fire of a unit is issued for the groups `live` (R163-R179, R227, R237). -/
def issueFire (t : Nat) (k : Int) (place : Nat × Nat × Nat) (live : List Nat) (ps : List Presented) (s : State) : State :=
  let mine := ps.filter (fun p => live.contains (p.channel / 8))
  let q (c : Nat) : Nat := place.2.1 + trimOf s c
  let outs := mine.map (fun p => (p, outputSegs s (p.channel / 8) p.channel
    (32 * ((s.tk : Int) - place.1) + q p.channel) p.codes))
  let w := grWdac s (t / 8)
  let wave := if grDrive s (t / 8) = 1 then place.1 + waveTotal s (wdacWf s w) else place.1
  let keep := (live.map (fun g => if grMode s g = 3 then place.1 else place.1 + grLatw s g)).foldl max wave
  let ends := live.map (fun g => (g, ((outs.filter (fun o => o.1.channel / 8 == g)).map (fun o =>
    s.tk + q o.1.channel / 32 + segsTotal o.2.1)).foldl max (place.1 + fireSpan s g)))
  let fin := ends.foldl (fun a e => max a e.2) keep
  let fire : Fire :=
    { trig := t, column := k, start := place.1, tap := place.2.2, groups := live
      guardEnd := max (place.1 + refireGuard s t) fin, fireEnd := fin, keepEnd := keep, ends := ends
      chans := outs.map (fun o =>
        { channel := o.1.channel, column := o.1.column, from_ := s.tk + q o.1.channel / 32, tap := q o.1.channel % 32
          codes := o.1.codes, segs := o.2.1
          cuts := o.2.2.map (fun a => place.1 + (a + 1) * grAper s (o.1.channel / 8) - 2) }) }
  let s1 : State := { s with jet.fires := fire :: s.jet.fires.filter (fun f => f.trig != t) }
  let s2 := if grDrive s (t / 8) = 1 then
      setWdac w (fun d =>
        let sc := if ampcor s w then d.scale else none
        { d with playFrom := some place.1, code := wdacCode s w
                 playBase := playLevel s (wdacWf s w) 0 sc, playSegs := wavePlay s (wdacWf s w) sc }) s1
    else s1
  let s4 := chargeFire (mine.map (fun p => (p.channel, p.codes))) s2
  live.foldl (fun st g =>
    senseFire g (place.1 + fireSpan s g) ((mine.filter (fun p => p.channel / 8 == g)).map (fun p => (p.channel, p.codes))) st) s4

/-- The TK at which the bits of group `g`'s next column start (R166, R167): not before the swath's admission. -/
def laneNext (s : State) (a : Active) (g : Nat) : Nat := max (laneOf s g).next a.from_

/-- Trigger column `k` of the unit of group `g` goes by at TK `at_`: the next column's bits start after the strobe, and
not before a frame or shift in progress has completed (R166, R167, log entry 134). -/
def laneMove (a : Active) (k : Int) (at_ g : Nat) (s : State) : State :=
  let b := laneNext s a g
  let l := if b ≤ at_ then { laneOf s g with col := some k, from_ := b } else laneOf s g
  let done := if l.col.isSome then l.from_ + laneTk s g + (if grMode s g = 1 then 0 else laneGap s g) else 0
  setLane { l with next := max (at_ + grLatw s g + laneGap s g) done } s

/-- The swath's next trigger column of unit `t` moves on, in the present TK (R146); `at_` is the TK of its strobe. -/
def advance (a : Active) (t : Nat) (k : Int) (at_ : Nat) (s : State) : State :=
  (unitGroups s t).foldl (fun st g => laneMove a k at_ g st) { s with ing.active := s.ing.active.map (fun a =>
      { a with next := a.next.map (fun p => if p.1 = t then (p.1, p.2 + 1) else p), gone := assocSet t s.tk a.gone }) }

/-- A target falls due (R145, R149, R150, R163, R172, R183): the swath is marked, a GATE policy closes the gate, and the
members' records are read. A fire is due where an enabled group has a member with a code other than 0 (R144); SKIP holds
and logs it, for the channels of open groups that would have fired; else the refire guard is asked, then the gates. -/
def fireDue (a : Active) (t : Nat) (k : Int) (s : State) : State :=
  let x := target s a.slot t k
  let place := firePlace s t x
  let members := unitMembers s t
  let suspect := s.grid.openRegion.isSome || (gridSrc s == 1 && !s.grid.lock)
  let s1 := advance a t k place.1 (markTarget s)
  let s2 := if suspect && gridPolicy s == 2 then
      gridGate (onActiveRec (fun r => { r with gated := true }) { s1 with grid.gatePolicy := true }) else s1
  let ps := members.map (fun c => present s a t c k)
  let s3 := ps.foldl (fun st p => noteRecord a.slot p st) s2
  let held := match lastFire s t with | some f => decide (place.1 < f.guardEnd) | none => false
  let en := (unitGroups s t).filter (grEn s)
  let live := en.filter (groupGateOpen s2)
  let drops (gs : List Nat) : List Presented :=
    ps.filter (fun p => gs.contains (p.channel / 8) && p.codes.any (fun c => c != 0))
  if (drops en).isEmpty then s3
  else if suspect && gridPolicy s == 1 then
    (if (drops live).isEmpty then s3 else (drops live).foldl (fun st p => logSkip p.channel p.column st) (markFire s3))
  else if held then refireHeld t members s3
  else if (drops live).isEmpty then s3
  else issueFire t k place live ps (markFire s3)

/-! ### Meanings -/

/-- UNIT_FIRE (R163): the next target of the unit has been reached, and none of the unit's went by in this TK (R146). -/
def execUnitFire (trig : Fin 256) (s : State) : Out :=
  .next (match s.ing.active with
    | some a =>
      (match a.next.find? (fun p => p.1 == trig.val) with
       | some p =>
         if clocked s && decide (p.2 ≤ (unitCols s a.slot trig.val).2) && reached s a.slot (target s a.slot trig.val p.2)
             && !a.gone.contains (trig.val, s.tk) then
           fireDue a trig.val p.2 s
         else s
       | none => s)
    | none => s)

/-- JET_NONE (R186). -/
def execJetNone (target : BitVec 5) (s : State) : Out := .next (jetReg 0 target.toNat s)
/-- ENABLE_GROUP (R182). -/
def execEnableGroup (target : BitVec 5) (s : State) : Out := .next (jetReg 1 target.toNat s)
/-- DISABLE_GROUP (R183). -/
def execDisableGroup (target : BitVec 5) (s : State) : Out := .next (jetReg 2 target.toNat s)
/-- DISABLE_ALL (R183). -/
def execDisableAll (target : BitVec 5) (s : State) : Out := .next (jetReg 5 target.toNat s)
/-- WDAC_ON (R176). -/
def execWdacOn (target : BitVec 5) (s : State) : Out := .next (jetReg 3 target.toNat s)
/-- WDAC_OFF (R176). -/
def execWdacOff (target : BitVec 5) (s : State) : Out := .next (jetReg 4 target.toNat s)
/-- JET_RESERVED_OP (R183): codes 6 and 7. -/
def execJetReservedOp (op : BitVec 3) (target : BitVec 5) (s : State) : Out :=
  if op.toNat < 6 then .fault .malformedOperand else .next (jetReg op.toNat target.toNat s)

/-- WDAC_GLIDE_COMPLETE (R176). -/
def execWdacGlideComplete (w : Fin 8) (s : State) : Out := .next (if clocked s then glideDone w.val s else s)

/-- ENERGY_INPUT_STALE (R180): a group in service has lost a sample for 1 ms. -/
def execEnergyInputStale (g : Fin 32) (s : State) : Out :=
  .next (if clocked s && grMode s g.val != 0 && inputsStale s g.val then
    jetErr 5 (jetFlag g.val (fun j => { j with stalein := true, staleAt := assocSet g.val s.tk j.staleAt }) s) else s)

end Sys2Proof.Machine
end

