-- ==== Sys2Proof/Machine/Reset.lean ====
section
/-! DEFINITION. Core reset as one shared operation (R332, R397, R398), its causes (R342), and the
release of the core at step 4 of start-up (R326). -/

namespace Sys2Proof.Machine

/-! ### The NVM array -/

/-- What an erased byte of the flash reads: the NVM is blank until programmed (log entry 45). -/
def nvmBlank : Nat → Byte := fun _ => 0xFF

/-- A byte of the NVM (R383). -/
def nvmByte (s : State) (a : Nat) : Byte := cellGet nvmBlank s.nvm.mem a

/-- `n` bytes of the NVM. -/
def nvmBytes (s : State) (a n : Nat) : List Byte := cellRun nvmBlank s.nvm.mem a n

/-- The NVM with bytes stored from `a` on. -/
def nvmStore (a : Nat) (bs : List Byte) (s : State) : State :=
  { s with nvm.mem := cellSetRun nvmBlank a bs s.nvm.mem }

/-- The flash byte that a cut write or erase leaves at place `i` (log entry 46). -/
def cutByte (s : State) (i : Nat) : Byte := BitVec.ofNat 8 (Config.openValue 388 (s.free * 1048576 + i))

/-- `n` bytes from `a` on left at values nobody states by a cut write or erase (R314, R388). -/
def nvmScramble (a n : Nat) (s : State) : State :=
  { nvmStore a ((List.range n).map (cutByte s)) s with free := s.free + 1 }

/-- The byte address of a calibration copy (R383). -/
def copyBase (b : Bool) : Nat := if b then 0x0D4000 else 0x0D0000

/-- A calibration store cut before its end leaves its copy invalid (R382): its MAGIC is erased. -/
def cutStore (s : State) : State :=
  match s.cal.storing with
  | some b => nvmStore (copyBase b) (List.replicate 16 0xFF) (nvmScramble (copyBase b) 16384
      { s with cal.storing := none, nvm.cut := true })
  | none => s

/-- What an image word of table 0x7D reads until DEFAULTS_WRITE has written it (R322). -/
def defaultsDefault (a : Nat) : Word := word (shippedDefaults a)

/-- The bits of word `a` of table 0x7D that can read 1 (R6, R325): none of a reserved bit or word, none of SELF and
MON, and of the PFW_CTL image CMPEN and HOLD. -/
def defaultsMask (a : Nat) : Nat :=
  if a < 48 then
    (if a % 16 = 0 then 0x3FFF else if a % 16 ≤ 8 then 0xFFFF else if a % 16 = 9 then 0x000F else 0)
  else if a = 48 then 0x00FF else if a = 49 then 0x81FF else 0

/-- The words of a table 0x7D image as the NVM keeps them. -/
def defaultsKeep (ws : List Word) : List Word :=
  (List.range 50).map (fun a => ws.getD a 0 &&& word (defaultsMask a))

/-- A PROGRAM at byte address `a` has changed the NVM; in the configuration image region it bars HUSH until the next start
(R358). -/
def noteImage (a : Nat) (s : State) : State :=
  if 0x0C0000 ≤ a ∧ a < 0x0D0000 then { s with pwr.imageDirty := true } else s

/-- The target of a command of table 0x84 that was cut, or whose verification failed (R385, R386, R388): it holds
values nobody states, and whether the key slot counts as written or the region as locked is as open (log entry
46). A read writes nothing. -/
def openTarget (o : NvmOp) (s : State) : State :=
  let flag : Bool := decide (Config.openValue 387 s.free % 2 = 1)
  if o.op = 1 then nvmScramble o.addr 4096 s
  else if o.op = 2 then noteImage o.addr (nvmScramble o.addr o.len s)
  else if o.op = 4 then { s with
    nvm.keys := if flag then (o.ksel, (List.range 16).map (cutByte s)) :: s.nvm.keys else s.nvm.keys, free := s.free + 1 }
  else if o.op = 5 then { s with
    nvm.defaults := cellSetRun defaultsDefault 0 (defaultsKeep (packWords ((List.range 100).map (cutByte s)))) s.nvm.defaults
    free := s.free + 1 }
  else if o.op = 6 then { s with nvm.locked := s.nvm.locked || flag, free := s.free + 1 }
  else s

/-- A command of table 0x84 cut before its end (R388). -/
def cutCommand (s : State) : State :=
  match s.nvm.busy with
  | some o => openTarget o { s with nvm.busy := none, nvm.cut := s.nvm.cut || o.op != 3 }
  | none => s

/-- The byte address of line `k` of the lees log. -/
def leesAddr (k : Nat) : Nat := 0x0D8000 + 16 * k

/-- Line `k` of the log. -/
def leesLine (s : State) (k : Nat) : List Byte := nvmBytes s (leesAddr k) 16

/-- A line that reads all 0xFF is free (R390). -/
def leesFree (l : List Byte) : Bool := l.all (· == 0xFF)

/-- The first free line from `k` on, trying `n` lines of the ring. -/
def leesNextFree (s : State) : Nat → Nat → Nat
  | 0, k => k % 8192
  | n + 1, k => if leesFree (leesLine s (k % 8192)) then k % 8192 else leesNextFree s n (k + 1)

/-- The NVM engine programs the first waiting record (R388): no erase is in progress, and writing is not barred (R314). -/
def leesRuns (s : State) : Bool :=
  coreRuns s && s.boot.phase != .rom && !s.rail.barred && !s.nvm.busy.any (fun o => o.op == 1) && !s.nvm.leesQ.isEmpty

/-- What a record cut short leaves in its line (R314, R390): bytes that nobody states, under a CRC that fails (log entry
46). -/
def cutLine (s : State) : List Byte :=
  let b := (List.range 15).map (cutByte s)
  b ++ [BitVec.ofNat 8 (crc8 (b.map (·.toNat))) ^^^ 1]

/-- The lees record that is being programmed is cut short (R314): its line is abandoned, and the record is lost. -/
def cutLees (s : State) : State :=
  if leesRuns s then
    let k := leesNextFree s 8192 s.nvm.leesNext
    { nvmStore (leesAddr k) (cutLine s) s with
      free := s.free + 1, nvm.leesQ := s.nvm.leesQ.tail, nvm.leesNext := (k + 1) % 8192, nvm.cut := true }
  else s

/-- Every NVM write or erase in progress is abandoned (R314, R398). -/
def cutNvm (s : State) : State := cutCommand (cutStore (cutLees s))

/-! ### Causes -/

/-- The place of a cause bit in the order of R397: POR, THERM, RAIL, PIN, WDG, SOFT, FAB. -/
def causeRank (c : Nat) : Nat :=
  match c with
  | 0 => 0 | 4 => 1 | 5 => 2 | 1 => 3 | 2 => 4 | 3 => 5 | 6 => 6 | _ => 7

/-- A cause coincides with the last reset: within 3 TK of it (R397). -/
def coincides (s : State) : Bool := decide (s.tk < s.boot.causeAt + 3) && decide (0 < s.boot.causeAt)

/-- Sets a cause bit and SUB (R342); of coinciding causes the first in the order of R397 keeps SUB. -/
def noteCause (c sub : Nat) (s : State) : State :=
  let keeps := coincides s && (List.range 7).any (fun d => s.boot.because.getLsbD d && decide (causeRank d < causeRank c))
  { s with
    boot.cause := s.boot.cause ||| BitVec.ofNat 8 (2 ^ c)
    boot.sub := if keeps then s.boot.sub else BitVec.ofNat 8 sub
    boot.because := (if coincides s then s.boot.because else 0) ||| BitVec.ofNat 8 (2 ^ c)
    boot.causeAt := if coincides s then s.boot.causeAt else s.tk }

/-! ### Reset -/

/-- The tables that keep their values through a core reset (R332): those of VAON and of the forwarder. -/
def keptTable (t : Nat) : Bool :=
  [0x03, 0x08, 0x78, 0x79, 0x7A, 0x7B, 0x7D, 0x10, 0x11, 0x13, 0x14].contains t

/-- What the forwarder and its registers are after a core reset (R95, R114): the node's number, routes,
ports and directory are kept, and DUALROOT (R98); the core's registers go to their reset values. -/
def vineDown (v : Vine) : Vine :=
  { v with
    portEn := 7
    ready := decide (v.nodeId ≠ 0) && decide (v.arrivalPort ≠ 0)
    sync := false, overflow := false, split := false, failover := false, newlink := false, linkerr := false
    operr := false, fabDst := 0, fabGroup := 0, disc := none, waiting := [], good := 0, bad := 0, lag := 0
    lastErr := 0, inLat := 0 }

/-- The swath in flight as record 0 of table 0x44 shows it after the restart (R153). -/
def resetRecord (s : State) : Option SwathRec :=
  match s.ing.active with
  | some a => some { a.rcd with serial := 0, state := 3, reset := true, disc := gridUnits s, doubts := [], lasting := false }
  | none => if isUp s then none else s.boot.resetSwath

/-- The state of every block under core reset (R332, R398): the tables but the kept ones read 0, the cask,
the swath in flight and every queue are gone, every output is at its reset level and every gate is
closed. VAON, the NVM and the forwarder go on; the swath buffer's bytes are left as they were (log
entry 47). -/
def blocksDown (s : State) : State :=
  { tk := s.tk, free := s.free, pending := s.pending, tap := s.tap, rail := s.rail
    swathRam := s.swathRam
    tbl := s.tbl.filter (fun p => keptTable (keyTable p.1))
    vine := vineDown s.vine
    hc := { railClosed := railGateMap s }
    bnd := { gapFrom := s.tk }
    cal := { samples := if s.boot.hot then s.cal.samples else [] }
    pwr := { s.pwr with
      state := 0, last := if s.pwr.state = 0 then s.pwr.last else s.pwr.state
      entering := none, step3Done := false, wbFailed := false, wakeSeen := false, waking := false
      wakeAt := none, imageDirty := false }
    nvm := { s.nvm with
      busy := none, done := false, err := false, refused := false, reason := 0, leesQ := []
      leesNext := 0, leesSeq := 0, leesNewest := none, leesOldest := 0, abandoned := 0 }
    boot := { s.boot with
      phase := .held, slotB := false, fallback := false, wdgQ := 0, serves := 0, period := 12
      periodNext := 12, wdgSeen := false, prefused := false, v3en := false, busy := false
      done := false, qerr := false, v := List.replicate 4 (List.replicate 32 0)
      v3Count := 0, v3Pending := none, resetSwath := resetRecord s } }

/-- The core is put in reset (R332): an NVM write in progress is abandoned, then every block is down. -/
def coreDown (s : State) : State := blocksDown (cutNvm s)

/-! ### Release -/

/-- Whether something holds the core in reset: nRESET, TESTEN, the thermal shutdown or the clock
(R329-R331, R424). -/
def coreHeld (s : State) : Bool :=
  s.boot.pinLow || s.boot.testen || s.boot.hot || s.boot.clockLost

/-- The first byte of slot A or B in the NVM (R383). -/
def slotStart (b : Bool) : Nat := if b then 0x060000 else 0

/-- The MAGIC of a slot's header matches (R333). -/
def magicOk (s : State) (b : Bool) : Bool := nvmBytes s (slotStart b) 4 == [0x53, 0x54, 0x57, 0x44]

/-- The generation number in a slot's header (R333). -/
def slotSeq (s : State) (b : Bool) : Nat := natBE (nvmBytes s (slotStart b + 12) 4)

/-- The slot the boot ROM tries first is B (R334). -/
def firstIsB (s : State) : Bool :=
  magicOk s false && magicOk s true && decide (slotSeq s false < slotSeq s true)

/-- A watchdog question: a non-zero value of the random source (R346). -/
def seedQuestion (s : State) : State :=
  let r := drawRandom s
  let q := r.1.toNat % 65536
  { r.2 with boot.wdgQ := word (if q = 0 then 1 else q) }

/-- The error and the record of a self-sequencing retry follow once the core runs (R321). -/
def noteRetry (s : State) : State :=
  if s.rail.selfErr then
    raise irqRail (recErrLees 0x0B (16 * s.rail.selfRail + 8) [s.rail.selfRail] { s with rail.selfErr := false })
  else s

/-- Step 4 of start-up (R326): TICK starts at 0, the watchdog starts with its default period and a new
question, the boot ROM starts and the boot counter increments. IRQ_PEND is at its reset value (R77), whatever VAON
raised while the core was in reset. -/
def coreRelease (s : State) : State :=
  let s1 := seedQuestion s
  noteRetry { s1 with
    tick := 0
    nvm.bootCount := if s.nvm.bootCount < 0xFFFFFFFF then s.nvm.bootCount + 1 else s.nvm.bootCount
    boot.phase := .rom, boot.slotB := firstIsB s, boot.romFrom := s.tk, boot.wdgFrom := s.tk
    boot.serves := 0
    bnd.gapFrom := s.tk
    host.irqPend := 0
    hc.inputs := s1.hc.inputs.map (fun g => { g with lowAt := s.tk - 1 })
    hc.cons := s1.hc.cons.map (fun c => { c with lastSync := s.tk })
    grid.results := s.boot.resetSwath.toList, grid.resultTotal := s.boot.resetSwath.toList.length }

/-- Releases the core once nothing holds it in reset. -/
def tryRelease (s : State) : State :=
  if s.boot.phase == .held && !coreHeld s then coreRelease s else s

/-- A core reset of cause bit `c` (R342): every block goes down and the cause is set. A watchdog reset
also closes WDG for every group (R350). The core starts again at once where nothing holds it (log
entry 48). -/
def coreReset (c sub : Nat) (s : State) : State :=
  let s1 := noteCause c sub (coreDown s)
  tryRelease (if c = 2 then { s1 with hc.wdgClosed := BitVec.allOnes 32 } else s1)

/-- A condition that holds the core in reset sets in: a running core is reset with its cause, a core
already in reset only has the cause noted; before the first step 4 the core was in reset anyway (log
entry 49). -/
def holdCore (c sub : Nat) (s : State) : State :=
  if coreRuns s then coreReset c sub s
  else if s.boot.phase == .held then noteCause c sub s
  else s

end Sys2Proof.Machine
end

