-- ==== Sys2Proof/Machine/Valve.lean ====
section
/-! DEFINITION. The sixteen valve channels (R274-R295): the current loop, profiles, the movement check,
faults and their precedence, and the commands of VLV_CMD. -/

namespace Sys2Proof.Machine

/-- Channel `n`. -/
def valveOf (s : State) (n : Nat) : Valve := s.vlv.getD n {}

/-- Changes channel `n`. -/
def setValve (n : Nat) (f : Valve → Valve) (s : State) : State := { s with vlv := modifyNth f s.vlv n }

/-- The state as channel `n` sees its configuration and profile: while it runs, the words that were in force before a
decant changed them (R290, log entry 162). -/
def vlvT (s : State) (n : Nat) : State :=
  match (valveOf s n).kept with
  | some k => { s with tbl := k }
  | none => s

/-- Word `o` of channel `n` in table 0x70. -/
def vlvW (s : State) (n o : Nat) : Nat := tnat (vlvT s n) 0x70 (8 * n + o)
/-- EN of VCFG. -/
def vlvEn (s : State) (n : Nat) : Bool := bit (vlvW s n 0) 15
/-- Channels 2k and 2k + 1 drive one load (R279). -/
def vlvPaired (s : State) (n : Nat) : Bool := bit (vlvW s (n / 2 * 2) 0) 14
/-- POSSRC. -/
def vlvPossrc (s : State) (n : Nat) : Nat := bits (vlvW s n 0) 13 12
/-- POSPOL. -/
def vlvPospol (s : State) (n : Nat) : Bool := bit (vlvW s n 0) 8
/-- The channel that controls channel `n`: channel 2k of a pair (R279). -/
def vlvMaster (s : State) (n : Nat) : Nat := if vlvPaired s n then n / 2 * 2 else n
/-- VDEAD, in TK. -/
def vlvDead (s : State) (n : Nat) : Nat := vlvW s n 6 % 256
/-- DLIM (R277). -/
def vlvDlim (s : State) (n : Nat) : Int := 12500 - 256 - 2 * (vlvDead s n : Int)
/-- The overcurrent limit of a channel, or of a pair (R279, R288). -/
def vlvLimit (s : State) (n : Nat) : Nat :=
  if vlvPaired s n then vlvW s n 2 + vlvW s (n + 1) 2 else vlvW s n 2
/-- The offset and gain in force of the current converter of channel `n`, which serves channels 4c to 4c + 3 (R276,
R380). -/
def vlvCal (s : State) (n : Nat) : List (Nat × Nat) :=
  [(calWord s 2 (164 + 2 * (n / 4)) 0, calWord s 2 (165 + 2 * (n / 4)) 0x8000)]

/-- The calibrated code of a current sample (log entry 158). -/
def vlvCode (s : State) (n raw : Nat) : Nat := calibratedCode (vlvCal s n) raw

/-- The current of a sample, in mA (R277). The rounding of the quotient is open (log entry 13). -/
def vlvAmps (s : State) (n raw : Nat) : Int := divOpen 2771 (vlvCode s n raw * vlvW s n 1) 1023

/-- Records an error of the valve block (R292); codes 2, 4, 5 and 6 also write a lees record. -/
def vlvErr (n code : Nat) (s : State) : State :=
  raise irqVlv (if [2, 4, 5, 6].contains code then recErrLees 0x0A code [n] s else recErr 0x0A code s)

/-! ### Phases (R281-R284) -/

/-- Enters switch-off at TK `t` (R284): both gates low. A movement check goes on (R286). -/
def vlvOff (n t : Nat) (s : State) : State :=
  let v := valveOf s n
  if v.running && !v.offing then
    setValve n (fun v => { v with
      offing := true, offFrom := t, gates := .off, d := 0, dPartner := 0, acc := 0, r := 0
      closePend := false, idleRun := 0 }) s
  else s

/-- RAMP of the phase that channel `n` is in, in TK. -/
def vlvRamp (s : State) (n : Nat) : Nat :=
  bits (phCtl (vlvT s n) (valveOf s n).profile (valveOf s n).phase) 10 0 * 25000

/-- ITGT of the phase that channel `n` is in, in mA. -/
def vlvItgt (s : State) (n : Nat) : Nat := phTarget (vlvT s n) (valveOf s n).profile (valveOf s n).phase

/-- The target in force `e` TK into the phase (R281); the rounding between two targets is open (log entry
13). -/
def vlvTarget (s : State) (n e : Nat) : Int :=
  let v := valveOf s n
  if vlvRamp s n ≤ e then vlvItgt s n
  else (v.rampFrom : Int) + divOpen 2811 (((vlvItgt s n : Int) - v.rampFrom) * e) (vlvRamp s n)

/-- Starts phase `i` at TK `t`: r moves on from the target in force (R281). -/
def vlvPhase (n i t : Nat) (s : State) : State :=
  setValve n (fun v => { v with
    phase := i, phaseFrom := t, rampFrom := (vlvTarget s n (t - v.phaseFrom)).toNat, curRun := 0 }) s

/-- The release branch (R282): the movement check ends (R286). -/
def vlvRelease (n t : Nat) (s : State) : State :=
  let rel := profRel (vlvT s n) (valveOf s n).profile
  let s1 := setValve n (fun v => { v with relBr := true, checkEnd := none, closePend := false }) s
  if rel = 0 then vlvOff n t s1 else vlvPhase n (rel - 1) t s1

/-- The fault branch (R282, R287); switch-off at once from the fault branch or the release branch. -/
def vlvFault (n t : Nat) (s : State) : State :=
  let v := valveOf s n
  let f := profFault (vlvT s n) v.profile
  if v.faultBr || v.relBr || v.offing then vlvOff n t s
  else
    let s1 := setValve n (fun v => { v with faultBr := true, checkEnd := none, closePend := false }) s
    if f = 0 then vlvOff n t s1 else vlvPhase n (f - 1) t s1

/-- A CLOSE that acts (R282, R289): the release branch, from anywhere but the branches and switch-off. -/
def vlvClosing (n t : Nat) (s : State) : State :=
  let v := valveOf s n
  if v.running && !v.offing && !v.faultBr && !v.relBr then vlvRelease n t s
  else setValve n (fun v => { v with closePend := false }) s

/-- The phase ends (R282). -/
def vlvNext (n t : Nat) (s : State) : State :=
  let v := valveOf s n
  if phLast (vlvT s n) v.profile v.phase || decide (profPhases (vlvT s n) v.profile ≤ v.phase + 1) then vlvOff n t s
  else vlvPhase n (v.phase + 1) t s

/-- POSFILT of channel `n`. -/
def vlvFilt (s : State) (n : Nat) : Nat := bits (vlvW s n 0) 7 4

/-- A change of POSSRC or POSFILT of channel `n` starts its sensor over as not known, and one of POSPOL turns POSACT of a
known sensor round (R285, R122). `old` holds the words before the change. -/
def vlvResense (old : State) (n : Nat) (s : State) : State :=
  if vlvPossrc old n = vlvPossrc s n ∧ vlvFilt old n = vlvFilt s n then
    (if vlvPospol old n = vlvPospol s n then s
     else setValve n (fun v => { v with posact := v.posknown && !v.posact }) s)
  else setValve n (fun v => { v with posknown := false, posact := false, smpPos := smpNew v.smpPos }) s

/-- Channel `n` is no longer held to the words of before a decant (R290). -/
def vlvUnkeep (n : Nat) (s : State) : State :=
  if (valveOf s n).kept.isSome then vlvResense s n (setValve n (fun v => { v with kept := none }) s) else s

/-- The channel becomes idle (R284): its gates stay low and VLV is raised; what a decant has changed meanwhile holds from
here on, for a pair for both its channels. -/
def vlvIdle (n : Nat) (s : State) : State :=
  let s1 := raise irqVlv (setValve n (fun v => { v with
    running := false, offing := false, faultBr := false, relBr := false, gates := .off, r := 0, d := 0
    dPartner := 0, acc := 0, checkEnd := none, closePend := false }) s)
  if vlvPaired s n then vlvUnkeep n (vlvUnkeep (n + 1) s1) else vlvUnkeep n s1

/-- Cells of the valve tables. -/
def vlvCells (m : Cells) : Cells := m.filter (fun p => keyTable p.1 == 0x70 || keyTable p.1 == 0x71)

/-- A decant leaves a running channel the words it runs on (R290); `old` is the state before it. -/
def vlvKeep (old : State) (n : Nat) (s : State) : State :=
  if (valveRuns old n) && (valveOf s n).kept.isNone then
    setValve n (fun v => { v with kept := some (vlvCells old.tbl) }) s
  else s

/-- What a decant of tables 0x70 and 0x71 does to the channels (R285, R290). -/
def vlvAfterCask (old s : State) : State :=
  let s1 := (List.range 16).foldl (fun st n => vlvKeep old n st) s
  (List.range 16).foldl (fun st n => vlvResense old n st) s1

/-! ### One period (R276-R289) -/

/-- Overcurrent (R288): the channel is switched off, wherever its profile is. -/
def vlvOvercur (n : Nat) (s : State) : State :=
  vlvErr n 4 (setValve n (fun v => { v with overcur := true }) (vlvOff n s.tk s))

/-- The conversion result of the period's sample (R276, R279): the current and the runs of R280, R284 and R288. The second
of two overcurrent samples of a running channel switches it off; the second low one taken in switch-off ends its run. -/
def vlvConvert (n : Nat) (p : VlvSample) (s : State) : State :=
  let pair := vlvPaired s n
  let i0 := vlvAmps s n p.code
  let i1 := if pair then vlvAmps s (n + 1) p.partner else 0
  let i := i0 + i1
  let low := decide (vlvCode s n p.code ≤ 4) && (!pair || decide (vlvCode s (n + 1) p.partner ≤ 4))
  let apart := pair && decide ((vlvW s n 7 : Int) < (i0 - i1).natAbs)
  let s1 := setValve n (fun v => { v with
    i := i
    ocRun := if (vlvLimit s n : Int) ≤ i then v.ocRun + 1 else 0
    shareRun := if apart then v.shareRun + 1 else 0
    idleRun := if v.offing && decide (v.offFrom ≤ p.at_) && low then v.idleRun + 1 else 0 }) s
  let v := valveOf s1 n
  if v.running && v.ocRun == 2 then vlvOvercur n s1
  else if v.offing && decide (2 ≤ v.idleRun) then vlvIdle n s1
  else s1

/-- The movement check, from the sensor's state at TK 0 of the period (R286). -/
def vlvMoved (n : Nat) (p : VlvSample) (s : State) : State :=
  setValve n (fun v => { v with
    seenInactive := v.seenInactive || (p.known && !p.act)
    checkEnd := if v.seenInactive && p.known && p.act then none else v.checkEnd }) s

/-- The current is within ITOL of the phase's target after its ramp, `e` TK into the phase (R283, END CUR). -/
def vlvNear (s : State) (n e : Nat) : Bool :=
  decide (vlvRamp s n ≤ e) && decide (((valveOf s n).i - (vlvItgt s n : Int)).natAbs ≤ vlvW s n 7)

/-- A phase timeout (R283). -/
def vlvTimeout (n : Nat) (s : State) : State :=
  vlvFault n s.tk (vlvErr n 3 (bump 0x72 (8 * n + 6) (setValve n (fun v => { v with tmo := true }) s)))

/-- The end condition of the phase that channel `n` is in is met at this TK 256 (R283); `run` counts the samples of END
CUR. -/
def vlvMet (s : State) (n run : Nat) (p : VlvSample) : Bool :=
  let v := valveOf s n
  match phEnd (vlvT s n) v.profile v.phase with
  | 0 => decide (phDur (vlvT s n) v.profile v.phase * 25000 ≤ s.tk - v.phaseFrom)
  | 1 => p.known && p.act
  | 2 => p.known && !p.act
  | 3 => decide (2 ≤ run)
  | _ => false

/-- DUR of the phase has elapsed (R283). -/
def vlvDurOver (s : State) (n : Nat) : Bool :=
  let v := valveOf s n
  decide (phDur (vlvT s n) v.profile v.phase * 25000 ≤ s.tk - v.phaseFrom)

/-- What happens at TK 256 of a period (R283, R287, R289): a share fault, a phase timeout, a pending CLOSE, then the
phase's own end, the first of them alone. A share fault ends the phase before its timeout can (log entry 51). -/
def vlvEvents (n : Nat) (p : VlvSample) (s : State) : State :=
  let v := valveOf s n
  let kind := phEnd (vlvT s n) v.profile v.phase
  let run := if kind = 3 ∧ vlvNear s n (s.tk - v.phaseFrom) then v.curRun + 1 else 0
  let s1 := setValve n (fun v => { v with curRun := run }) s
  if 8 ≤ v.shareRun then
    vlvFault n s.tk (vlvErr n 5 (setValve n (fun v => { v with share := true, shareRun := 0 }) s1))
  else if v.offing then s
  else if (kind == 1 || kind == 2 || kind == 3) && vlvDurOver s n && !vlvMet s n run p then vlvTimeout n s1
  else if v.closePend || (kind == 4 && phDur (vlvT s n) v.profile v.phase != 0 && vlvDurOver s n) then
    vlvClosing n s.tk s1
  else if vlvMet s n run p then vlvNext n s.tk s1
  else s1

/-- The duty of the period, from the target in force at its TK 256 (R277, R279), and the off state of the phase (R281). -/
def vlvDuty (n : Nat) (p : VlvSample) (s : State) : State :=
  let v := valveOf s n
  if v.offing then s
  else
    let r := vlvTarget s n (s.tk - v.phaseFrom)
    let dlim := vlvDlim s n
    let e := r - v.i
    let kp : Int := vlvW s n 3
    let acc := clampInt (v.acc + (vlvW s n 4 : Int) * e) 0 (dlim * 65536)
    let d := if r = 0 then 0 else clampInt (divOpen 2772 (roundDiv (kp * e) 256 * 65536 + acc) 65536) 0 dlim
    let diff := roundDiv (kp * (vlvAmps s (n + 1) p.partner - vlvAmps s n p.code)) 512
    let s1 := setValve n (fun v => { v with
      r := r
      acc := if r = 0 then 0 else acc
      d := (if vlvPaired s n then clampInt (d + diff) 0 dlim else d).toNat
      dPartner := (if vlvPaired s n then clampInt (d - diff) 0 dlim else 0).toNat
      dutyAt := p.at_
      gates := if bit (phCtl (vlvT s n) v.profile v.phase) 15 then .off else .slow }) s
    if d = dlim then bump 0x72 (8 * n + 7) s1 else s1

/-- TK 256 of a period (R276, R283). -/
def vlvDecide (n : Nat) (p : VlvSample) (s : State) : State :=
  if (valveOf s n).running then vlvDuty n p (vlvEvents n p (vlvMoved n p s)) else s

/-- The TK of the period at which its conversions are complete (R276, R279). -/
def vlvDoneTk (s : State) (n : Nat) : Nat := if vlvPaired s n then 200 else 100

/-- One TK of channel `n`'s period: its conversion result, or its TK 256 (R276). -/
def vlvTick (n : Nat) (s : State) : State :=
  match (valveOf s n).sample with
  | some p =>
    if s.tk = p.at_ + vlvDoneTk s n then vlvConvert n p s
    else if s.tk = p.at_ + 256 then vlvDecide n p (setValve n (fun v => { v with sample := none }) s)
    else s
  | none => s

/-- One TK of every channel. -/
def vlvTicks (s : State) : State :=
  if clocked s then (List.range 16).foldl (fun st n => vlvTick n st) s else s

/-- TK 0 of a period of channel `n` (R276, R279): its current, its partner's, and the state of its sensor. -/
def vlvPeriod (n code partner : Nat) (s : State) : State :=
  setValve n (fun v => { v with
    sample := some { at_ := s.tk, code := code, partner := partner, known := v.posknown, act := v.posact } }) s

/-- The period of channel `n` starts in this TK (R276). -/
def vlvPeriodDue (s : State) (n : Nat) : Bool :=
  s.tick.toNat % 12500 == 3125 * (n % 4) && (valveOf s n).sample.all (fun p => decide (p.at_ + 256 < s.tk))

/-! ### Commands of VLV_CMD (R294) -/

/-- A refused command (R294). -/
def vlvRefuse (n : Nat) (s : State) : State :=
  vlvErr n 1 (setValve n (fun v => { v with refused := true }) s)

/-- An OPEN of profile `p` is refused (R294). -/
def openRefused (s : State) (n p : Nat) : Bool :=
  let v := valveOf s n
  let phases := List.range (profPhases s p)
  !vlvEn s n || v.running || v.heldOpen.isSome || (vlvPaired s n && n % 2 == 1) || !profCheck s p
    || phases.any (fun i => decide (vlvLimit s n ≤ phTarget s p i))
    || (vlvPossrc s n == 0 && (tnat s 0x71 (32 * p + 1) != 0
        || phases.any (fun i => phEnd s p i == 1 || phEnd s p i == 2)))
    || v.stuck || v.tmo || v.overcur || v.share

/-- Starts profile `p` at phase 0, with the movement check where the profile has one (R282, R286). -/
def vlvStart (n p : Nat) (s : State) : State :=
  let pw := tnat s 0x71 (32 * p + 1)
  setValve n (fun v => { v with
    running := true, faultBr := false, relBr := false, offing := false, profile := p, phase := 0
    phaseFrom := s.tk, rampFrom := 0, r := 0, acc := 0, curRun := 0, ocRun := 0, shareRun := 0
    closePend := false, heldOpen := none
    checkEnd := if pw = 0 then none else some (s.tk + pw * 25000)
    seenInactive := v.posknown && !v.posact }) s

/-- OPEN (R294); held while the node is prepared (R43). -/
def vlvOpenOp (n p : Nat) (s : State) : State :=
  if openRefused s n p then vlvRefuse n s
  else if valveHeld s n p then setValve n (fun v => { v with heldOpen := some p }) s
  else vlvStart n p s

/-- CLOSE (R282, R289): it takes effect at the next TK 256. -/
def vlvCloseOp (n : Nat) (s : State) : State :=
  let v := valveOf s n
  if v.heldOpen.isSome then setValve n (fun v => { v with heldOpen := none }) s
  else if v.running && !v.offing && !v.faultBr && !v.relBr then
    setValve n (fun v => { v with closePend := true }) s
  else s

/-- OFF (R294): switch-off at once, of the pair for either channel of it. -/
def vlvOffOp (n : Nat) (s : State) : State :=
  vlvOff (vlvMaster s n) s.tk (setValve (vlvMaster s n) (fun v => { v with heldOpen := none }) s)

/-- An operation of VLV_CMD (R294). -/
def vlvOp (op p n : Nat) (s : State) : State :=
  match op with
  | 0 => s
  | 1 => vlvOpenOp n p s
  | 2 => vlvCloseOp n s
  | 3 => vlvOffOp n s
  | 4 => (List.range 16).foldl (fun st m => vlvOffOp m st) s
  | _ => vlvRefuse n s

/-- One VLV_CMD write (R293): CHAN is set whatever OP; a power entry holds the operation (R359). -/
def vlvCmd (op p n : Nat) (s : State) : State :=
  let s1 := { s with vlvSel := n }
  if entryHolds s && op != 0 then holdCmd (.vlv op p n) s1 else vlvOp op p n s1

/-- A VLV_CMD write where the core is clocked. -/
def vlvReg (op p n : Nat) (s : State) : State := 
  if clocked s then routedOp (.reg 0x2C false (word (op * 4096 + p * 256 + n))) (vlvCmd op p n) s else s

/-- Opens held by a prepared node are carried out once the hold is over (R43). -/
def vlvResume (s : State) : State :=
  (List.range 16).foldl (fun st n =>
    match (valveOf st n).heldOpen with
    | some p =>
      if valveHeld st n p then st else vlvOpenOp n p (setValve n (fun v => { v with heldOpen := none }) st)
    | none => st) s

/-! ### Events -/

/-- PULL_WINDOW has elapsed without the movement check passing (R286). A channel in switch-off stays there (R284, log
entry 163). -/
def pullWindow (n : Nat) (s : State) : State :=
  match (valveOf s n).checkEnd with
  | some t =>
    if t ≤ s.tk then
      vlvFault n s.tk (vlvErr n 2 (bump 0x72 (8 * n + 5)
        (setValve n (fun v => { v with stuck := true, checkEnd := none }) s)))
    else s
  | none => s

/-- 50 ms in switch-off (R284). -/
def switchoffTimeout (n : Nat) (s : State) : State :=
  let v := valveOf s n
  if v.offing && decide (v.offFrom + msTk 50 ≤ s.tk) then vlvIdle n (recErrLees 0x0A 6 [n] s) else s

/-- The present TK's sample of VLVn_POS (R121, R122, R285). -/
def vlvPin (n : Nat) (b : Bool) (s : State) : State :=
  let pol := vlvPospol s n
  setValve n (fun v =>
    let x := smpPut b v.smpPos
    if vlvPossrc s n = 1 then
      let l := if v.posknown then smpLevel (vlvFilt s n) (some (v.posact == pol)) x else smpFirst (vlvFilt s n) x
      { v with smpPos := x, posknown := l.isSome, posact := l == some pol }
    else { v with smpPos := x }) s


/-- A sample of channel `n`'s valve-position input, one per scan of 24,000 TK (R285). -/
def vlvAin (n raw : Nat) (s : State) : State :=
  let pol := vlvPospol s n
  let hys := 8 * bits (vlvW s n 0) 3 0
  let thr := vlvW s n 5 % 4096
  let code := calibratedCode (senseCal s) raw
  if !periodDue (valveOf s n).posAt 24000 s then s
  else if raw ≤ 15 ∨ 4080 ≤ raw then
    setValve n (fun v => { v with posknown := false, posact := false, posAt := some (periodNow v.posAt 24000 s) }) s
  else setValve n (fun v => { v with
    posknown := true, posAt := some (periodNow v.posAt 24000 s)
    posact := if thr + hys < code then pol
      else if code + hys < thr then !pol
      else v.posact }) s

/-- A sample of a position sensor: of one channel's pin, or of a valve-position input, which every channel takes whose
POSSRC and AIN select it (R285). -/
def vlvSense (src : PosInput) (level : Bool) (code : Nat) (s : State) : State :=
  match src with
  | .pin ch => vlvPin ch.val level s
  | .ain input => (List.range 16).foldl (fun st n =>
      if vlvPossrc st n == 2 && bits (vlvW st n 0) 11 9 == input.val then vlvAin n code st else st) s

/-- One TK's samples of VLVn_POS (R121). -/
def sampleVlv (s : State) : State := { s with vlv := s.vlv.map (fun v => { v with smpPos := smpTick v.smpPos }) }

/-! ### Meanings -/

/-- VLV_NONE (R294): only CHAN is set. -/
def execVlvNone (chan : BitVec 4) (s : State) : Out := .next (vlvReg 0 0 chan.toNat s)
/-- VLV_OPEN (R294). -/
def execVlvOpen (profile chan : BitVec 4) (s : State) : Out :=
  .next (vlvReg 1 profile.toNat chan.toNat s)
/-- VLV_CLOSE (R289). -/
def execVlvClose (chan : BitVec 4) (s : State) : Out := .next (vlvReg 2 0 chan.toNat s)
/-- VLV_OFF (R294). -/
def execVlvOff (chan : BitVec 4) (s : State) : Out := .next (vlvReg 3 0 chan.toNat s)
/-- OFF_ALL (R294). -/
def execVlvOffAll (chan : BitVec 4) (s : State) : Out := .next (vlvReg 4 0 chan.toNat s)
/-- VLV_RESERVED_OP (R294): codes 5 to 15. -/
def execVlvReservedOp (op profile chan : BitVec 4) (s : State) : Out :=
  if op.toNat < 5 then .fault .malformedOperand
  else .next (vlvReg op.toNat profile.toNat chan.toNat s)
/-- VALVE_PERIOD (R276, R277): the samples of the period that starts; channel 2k + 1 of a pair has none of its own
(R279). -/
def execValvePeriod (ch : Fin 16) (code partner : BitVec 10) (s : State) : Out :=
  .next (if clocked s && vlvPeriodDue s ch.val && vlvMaster s ch.val == ch.val then
    vlvPeriod ch.val code.toNat partner.toNat s else s)
/-- PULL_WINDOW_EXPIRY (R286). -/
def execPullWindowExpiry (ch : Fin 16) (s : State) : Out :=
  .next (if clocked s then pullWindow ch.val s else s)
/-- SWITCHOFF_TIMEOUT (R284). -/
def execSwitchoffTimeout (ch : Fin 16) (s : State) : Out :=
  .next (if clocked s then switchoffTimeout ch.val s else s)
/-- VALVE_POSITION_SENSE (R285). -/
def execValvePositionSense (src : PosInput) (level : Bool) (code : BitVec 12) (s : State) : Out :=
  .next (if clocked s then vlvSense src level code.toNat s else s)

end Sys2Proof.Machine
end

