-- ==== Sys2Proof/Machine/Rail.lean ====
section
/-! DEFINITION. Rail sequencing and supervision (R296-R325), in VAON: scan ends, start and shutdown,
running faults, nPFW, the comparator, margining, counters and self-sequencing. -/

namespace Sys2Proof.Machine


/-- Changes rail `r`. -/
def setRail (r : Nat) (f : RailCh → RailCh) (s : State) : State :=
  { s with rail.rails := modifyNth f s.rail.rails r }

/-- Word `o` of rail `r` in table 0x78. -/
def railW (s : State) (r o : Nat) : Nat := tnat s 0x78 (16 * r + o)
/-- DEPS. -/
def railDeps (s : State) (r : Nat) : Nat := bits (railW s r 0) 11 0
/-- SELF. -/
def railSelf (s : State) (r : Nat) : Bool := bit (railW s r 0) 15
/-- FACT. -/
def railFact (s : State) (r : Nat) : Nat := bits (railW s r 0) 13 12
/-- The rail is configured: KDIV is not 0 (R305). An unconfigured rail has no voltage to judge (log entry
52). -/
def railSet (s : State) (r : Nat) : Bool := railW s r 1 != 0
/-- RAIL_FILT, 0 meaning 2. -/
def railFilt (s : State) (r : Nat) : Nat := let n := railW s r 9 % 16; if n = 0 then 2 else n
/-- The rails with an enable (R296). -/
def enableRails : List Nat := List.range 10
/-- The SELF rails (R320). -/
def selfRails (s : State) : List Nat := enableRails.filter (railSelf s)
/-- The other enable rails. -/
def otherRails (s : State) : List Nat := enableRails.filter (fun r => !railSelf s r)

/-- A threshold of rail `r` in force: scaled by the margin step (R315). -/
def railThr (s : State) (r o : Nat) : Int := (railW s r o : Int) * (320 + (railOf s r).s) / 320
/-- GOOD, UV and OV in force. -/
def railGoodThr (s : State) (r : Nat) : Int := railThr s r 3
/-- UV in force. -/
def railUv (s : State) (r : Nat) : Int := railThr s r 4
/-- OV in force. -/
def railOv (s : State) (r : Nat) : Int := railThr s r 5


/-- The rail is settled (R303). -/
def railSettled (s : State) (r : Nat) : Bool :=
  let h := railOf s r
  !h.ren && (!h.everOn || h.wasOff || h.forced)

/-- The rails reached from `rs` in `n` steps of `next`. -/
def railReach (next : Nat → Nat → Bool) (rs : List Nat) : Nat → List Nat
  | 0 => rs
  | n + 1 => railReach next ((List.range 12).filter (fun d => rs.contains d || rs.any (fun r => next r d))) n

/-- The transitive dependencies of the rails `rs`. -/
def railNeeds (s : State) (rs : List Nat) : List Nat :=
  railReach (fun r d => bit (railDeps s r) d)
    ((List.range 12).filter (fun d => rs.any (fun r => bit (railDeps s r) d))) 12

/-- The rails `rs` and their transitive dependants. -/
def railDependants (s : State) (rs : List Nat) : List Nat :=
  railReach (fun r d => bit (railDeps s d) r) rs 12

/-- The rails of a mask. -/
def railsOf (mask : Nat) : List Nat := enableRails.filter (fun r => bit mask r)

/-! ### Records -/

/-- Sets the RAIL interrupt with a flag of RAIL_STAT, for the rail of the most recent event. -/
def railFlag (r : Nat) (f : Rail → Rail) (s : State) : State :=
  raise irqRail { s with rail := { f s.rail with lastRail := r } }

/-- Counts event `i` of rail `r` in table 0x7C; the record carries the counter's word and new value
(R317, R391). -/
def countRail (r i code : Nat) (s : State) : State :=
  let s1 := bump 0x7C (8 * r + i) s
  let v := tnat s1 0x7C (8 * r + i)
  lees 0x0B (16 * r + code) [8 * r + i, v / 256, v % 256] s1

/-- An event of rail `r` is counted and written to the log (R317). Before UP the count and the record wait in VAON
for the start-up that loads the counters; while writing is barred, 16 of them at most (R314). -/
def railCount (r i code : Nat) (s : State) : State :=
  if isUp s then countRail r i code s
  else if s.rail.barred && decide (16 ≤ s.nvm.barredQ.length + s.nvm.preQ.length) then bump 0x7B 48 s
  else { s with nvm.preQ := s.nvm.preQ ++ [{ time := s.tick.toNat / 65536, boot := s.nvm.bootCount % 256,
                                             block := 0x0B, code := 16 * r + code, data := [8 * r + i] }] }

/-- An event of rail `r` that has an error code (R317, R323). -/
def railEvent (r i code : Nat) (s : State) : State := railCount r i code (recErr 0x0B (16 * r + code) s)

/-- nPFW's level (R312). -/
def nPfwLow (s : State) : Bool := s.rail.pfw || s.rail.force

/-- NVM writing is barred from now on and what is being written is cut (R314). -/
def barNvm (s : State) : State := { cutNvm s with rail.barred := true }

/-! ### Enables and shutdown sets -/

/-- REN falls (R303). -/
def renLow (r : Nat) (s : State) : State :=
  if (railOf s r).ren then
    setRail r (fun h => { h with ren := false, offRun := 0, wasOff := false, forced := false, renAt := s.tk }) s
  else s

/-- REN rises (R306). -/
def renHigh (r : Nat) (s : State) : State :=
  setRail r (fun h => { h with
    ren := true, everOn := true, forced := false, wasOff := false, offRun := 0, renAt := s.tk, st := .ramp }) s

/-- A rail of a shutdown set: it leaves the target, from OFF or WAIT it is off at once, and else it is to drain from the
next scan end on (R300, R308). -/
def drainRail (s : State) (r : Nat) : State :=
  setRail r (fun h => { h with
    target := false, pending := false
    leaving := h.leaving || h.st == .ramp || h.st == .good
    st := if h.st = .wait then .off else h.st }) s

/-- Rails leave the target and drain. -/
def drainRails (rs : List Nat) (s : State) : State := rs.foldl drainRail s

/-- A rail of a scheduled shutdown leaves the target and waits for the hold (R310). -/
def pendRail (s : State) (r : Nat) : State := setRail r (fun h => { h with target := false, pending := true }) s

/-- The hold of R310 starts, unless one runs. -/
def startHold (s : State) : State :=
  match s.rail.holdEnd with
  | some _ => s
  | none => { s with rail.holdEnd := some (s.tk + s.rail.hold * 25000) }

/-- A rail waiting to start leaves the target (R306). -/
def cancelRail (s : State) (r : Nat) : State :=
  setRail r (fun h => { h with target := false, st := if h.st = .wait then .off else h.st }) s

/-- A start failure of a SELF rail (R321): every SELF rail drains; the first is tried once more. -/
def selfStartFails (r : Nat) (s : State) : State :=
  let s1 := drainRails (selfRails s) s
  { s1 with
    rail.selfSeq := if s.rail.selfSeq == .retrying then .failed else .draining
    rail.selfRail := r }

/-- A start failure (R306). -/
def startFails (r : Nat) (s : State) : State :=
  let s1 := railEvent r 2 3 (railFlag r (fun x => { x with startfail := true }) s)
  if railSelf s r then selfStartFails r s1
  else
    let s2 := setRail r (fun h => { h with st := .fail, target := false }) (renLow r s1)
    ((railDependants s2 [r]).filter (fun d => d != r && decide (d < 10))).foldl cancelRail s2

/-- The shutdown set of a running fault of rail `r` (R310): enable rails other than SELF rails, which only
self-sequencing and the power ladder switch (R320). -/
def faultSet (s : State) (r : Nat) : List Nat :=
  if railFact s r = 0 then (railDependants s [r]).filter (fun d => decide (d < 10) && !railSelf s d)
  else if railFact s r = 1 then otherRails s
  else []

/-- A running fault of rail `r` (R310, R313, R314). -/
def runningFault (r : Nat) (ov : Bool) (s : State) : State :=
  let s0 := if r = 11 ∨ railSelf s r then barNvm s else s
  let s1 := railFlag r (fun x => { x with pfw := true, faultev := true }) s0
  let s2 := wake 8 (railEvent r (if ov then 1 else 0) (if ov then 2 else 1) s1)
  if railSelf s r then
    startHold { s2 with
      rail.selfFault := true, rail.selfRail := if s2.rail.selfFault then s2.rail.selfRail else r }
  else if railFact s r = 2 then s2
  else
    let s3 := (faultSet s2 r).foldl pendRail s2
    startHold (setRail r (fun h => { h with
      caused := decide (r < 10), st := if 10 ≤ r then .off else h.st }) s3)

/-! ### Scan ends (R300-R309) -/

/-- The offset and gain of the rail scanner in force (R380). -/
def railCal (s : State) : List (Nat × Nat) := [(calWord s 3 172 0, calWord s 3 173 0x8000)]

/-- The sample of rail `r` is taken in (R299, R302); V is that of the calibrated code. -/
def railSample (s : State) (r : Nat) (code : Nat) : State :=
  let v := calibratedCode (railCal s) code * railW s r 1 / 4096
  let good := decide (railGoodThr s r ≤ v) && decide ((v : Int) ≤ railOv s r) && railSet s r
  let off := decide (v < railW s r 6)
  setRail r (fun h => { h with
    code := code, v := v, vAt := some s.tk, vOld := if h.vAt = some s.tk then h.vOld else h.v
    goodRun := if good then h.goodRun + 1 else 0
    lowRun := if (v : Int) < railUv s r then h.lowRun + 1 else 0
    highRun := if railOv s r < v then h.highRun + 1 else 0
    winRun := if railUv s r ≤ v ∧ (v : Int) ≤ railOv s r then h.winRun + 1 else 0
    offRun := if off ∧ ¬ h.ren then h.offRun + 1 else 0
    wasOff := h.wasOff || (off && !h.ren && decide (railFilt s r ≤ h.offRun + 1)) }) s

/-- The rail is qualified (R302). -/
def railQualified (s : State) (r : Nat) : Bool := decide (railFilt s r ≤ (railOf s r).goodRun)

/-- The flags of a rail clear (R304). -/
def railFlagsClear (s : State) (r : Nat) : State :=
  let h := railOf s r
  if (h.st = .good && decide (railFilt s r ≤ h.winRun)) || (h.st ≠ .good && railQualified s r) then
    setRail r (fun h => { h with uv := false, ov := false }) s
  else s

/-- The rules of R304 for rail `r`. -/
def railFlags (s0 : State) (r : Nat) : State :=
  let s := railFlagsClear s0 r
  let h := railOf s r
  let n := railFilt s r
  if h.st = .good then
    if n ≤ h.lowRun ∧ ¬ h.uv then runningFault r false (setRail r (fun h => { h with uv := true }) s)
    else if n ≤ h.highRun ∧ ¬ h.ov then runningFault r true (setRail r (fun h => { h with ov := true }) s)
    else s
  else if h.st = .ramp ∧ n ≤ h.highRun then startFails r (railCount r 1 2 s)
  else s

/-- Qualification (R303, R306): a monitor rail in OFF or an enable rail in RAMP becomes GOOD. -/
def railRises (s : State) (r : Nat) : State :=
  let h := railOf s r
  if railQualified s r && ((10 ≤ r && h.st == .off) || h.st == .ramp) then
    setRail r (fun h => { h with st := .good }) s
  else s

/-- A targeted rail in OFF or WAIT starts once every rail of its DEPS is good (R306). -/
def railStarts (s : State) (r : Nat) : State :=
  let h := railOf s r
  if h.target && (h.st == .off || h.st == .wait) then
    if (List.range 12).all (fun d => !bit (railDeps s r) d || railGood s d) then renHigh r s
    else setRail r (fun h => { h with st := .wait }) s
  else s

/-- The enable of a draining rail falls once every rail that depends on it is settled (R308). -/
def railFalls (s : State) (r : Nat) : State :=
  let h := railOf s r
  if h.st = .drain ∧ h.ren
      ∧ (List.range 10).all (fun d => !bit (railDeps s d) r || railSettled s d) = true then renLow r s
  else s

/-- A drained rail that is settled is off, or failed where it caused the shutdown (R308). -/
def railEnds (s : State) (r : Nat) : State :=
  let h := railOf s r
  if h.st = .drain ∧ ¬ h.ren ∧ railSettled s r = true then
    setRail r (fun h => { h with st := if h.caused then .fail else .off, caused := false }) s
  else s

/-- A rail that a shutdown set took enters DRAIN (R308). -/
def railLeaves (s : State) (r : Nat) : State :=
  setRail r (fun h => { h with
    leaving := false, st := if h.leaving && (h.st == .ramp || h.st == .good) then .drain else h.st }) s

/-- The drain rules of R308 at a scan end. -/
def railDrains (s : State) : State :=
  enableRails.foldl railEnds (enableRails.foldl railFalls (enableRails.foldl railLeaves s))

/-- Every rail in the target is GOOD with none in WAIT, RAMP or DRAIN (R307); an empty target is never
done (log entry 53). -/
def railsDone (s : State) : Bool :=
  s.rail.rails.any (fun h => h.target)
    && s.rail.rails.all (fun h => (!h.target || h.st == .good) && h.st != .wait && h.st != .ramp && h.st != .drain)

/-- DONE sets at the scan end at which the rails become so (R307). -/
def noteDone (s : State) : State :=
  let now := railsDone s
  if now && !s.rail.allGood then raise irqRail { s with rail.done := true, rail.allGood := true }
  else { s with rail.allGood := now }

/-- The RAIL gate source of every group (R313, R318). -/
def railGates (s : State) : State := setRailGate (railGateMap s) s

/-- The margin step of a rail that is not running is 0 (R316). -/
def marginRest (s : State) (r : Nat) : State :=
  setRail r (fun h => { h with
    s := if h.st == .ramp || h.st == .good || (h.st == .drain && h.ren) then h.s else 0 }) s

/-- The forwarder and its links are lost with VLNK's supply (R313, R365): only DUALROOT stays (R98). -/
def vineLost (s : State) : State :=
  { s with
    vine := { ({} : Vine) with dualroot := s.vine.dualroot }
    tbl := s.tbl.filter (fun p => !([0x10, 0x11, 0x13, 0x14].contains (keyTable p.1))) }

/-- The SELF rails join the target (R320, R321). -/
def selfTarget (s : State) : State := (selfRails s).foldl (fun st r => setRail r (fun h => { h with target := true }) st) s

/-- Self-sequencing moves on at a scan end (R313, R321). The 100 ms before the retry count from the end of
the drain (log entry 54). -/
def selfProgress (s : State) : State :=
  let off := (selfRails s).all (fun r => (railOf s r).st == .off)
  if s.rail.selfDrain && (otherRails s).all (fun r => (railOf s r).st != .drain) then
    drainRails (selfRails s) { s with rail.selfDrain := false, rail.selfSeq := .redraining }
  else match s.rail.selfSeq with
    | .starting => if (selfRails s).all (railGood s) then { s with rail.selfSeq := .good } else s
    | .retrying => if (selfRails s).all (railGood s) then { s with rail.selfSeq := .good } else s
    | .draining => if off then { s with rail.selfSeq := .retryWait (s.tk + msTk 100) } else s
    | .redraining => if off then selfTarget (vineLost { s with rail.selfSeq := .starting }) else s
    | _ => s

/-- What ends every change of the rails: margins, gates and self-sequencing. -/
def railSettle (s : State) : State :=
  selfProgress (noteDone (railGates ((List.range 12).foldl marginRest s)))

/-- The scan period: 12,000 TK, and 10 ms in HUSH (R299, R300, R365). -/
def scanPeriod (s : State) : Nat := if s.pwr.state = 4 then msTk 10 else 12000

/-- A scan end (R300). -/
def railScan (codes : List Nat) (s : State) : State :=
  let s1 := (List.range 12).foldl (fun st r => railSample st r (codes.getD r 0))
    { s with rail.lastScan := periodNow (some s.rail.lastScan) (scanPeriod s) s }
  let s2 := (List.range 12).foldl railFlags s1
  let s3 := (List.range 12).foldl railRises s2
  let s4 := enableRails.foldl railStarts s3
  railSettle (railDrains s4)

/-- A rail still in RAMP at the first scan end at or after RAMP_TMO fails to start (R306). -/
def rampTimeout (r : Nat) (s : State) : State :=
  let h := railOf s r
  if h.st = .ramp ∧ h.renAt + msTk (railW s r 7) ≤ s.rail.lastScan then
    railSettle (railDrains (startFails r s))
  else s

/-- A rail that would not fall is forced off (R309). -/
def offTimeout (r : Nat) (s : State) : State :=
  let h := railOf s r
  if !h.ren && h.everOn && !h.wasOff && !h.forced
      && decide (h.renAt + msTk (railW s r 8) ≤ s.rail.lastScan) then
    railSettle (railDrains (railEvent r 3 4 (railFlag r (fun x => { x with forcedoff := true })
      (setRail r (fun h => { h with forced := true }) s))))
  else s

/-- The hold of R310 expires: the pending set drains, from the next scan end on. For a SELF rail's fault the core is reset
first and loses its supplies once the other rails have drained (R313). -/
def holdExpiry (s : State) : State :=
  match s.rail.holdEnd with
  | some t =>
    if t ≤ s.tk then
      let s1 := { s with rail.holdEnd := none }
      let s2 := drainRails (enableRails.filter (fun r => (railOf s1 r).pending)) s1
      if s.rail.selfFault then
        let s3 := noteCause 5 s.rail.selfRail (coreDown (drainRails (otherRails s2) s2))
        { s3 with boot.phase := .supplies, rail.selfFault := false, rail.selfDrain := true }
      else s2
    else s
  | none => s

/-! ### Margining (R315, R316) -/

/-- The enabled margin entry that names rail `r`. -/
def marginEntry (s : State) (r : Nat) : Option Nat :=
  (List.range 8).find? (fun m => bit (tnat s 0x79 (4 * m)) 15 && bits (tnat s 0x79 (4 * m)) 3 0 == r)

/-- The target step of rail `r`: MSTEP of its enabled margin entry, else 0. -/
def marginTarget (s : State) (r : Nat) : Int :=
  match marginEntry s r with
  | some m => signed 16 (tnat s 0x79 (4 * m + 1))
  | none => 0

/-- One step of rail `r` toward its target (R315). A rail that no entry names walks back on the output that served it last
(log entry 165). -/
def marginWalk (s : State) (r : Nat) : State :=
  let h := railOf s r
  let t := marginTarget s r
  if h.st = .good then
    let n := if h.s < t then h.s + 1 else if t < h.s then h.s - 1 else h.s
    let s1 := setRail r (fun h => { h with
      s := n, rmgBy := match marginEntry s r with | some m => some m | none => h.rmgBy }) s
    if h.s = 0 ∧ n ≠ 0 then railCount r 4 9 s1
    else s1
  else s

/-- One step of every margin, at the first scan end at or after each 25,000 TK (R300, R315). -/
def marginSteps (s : State) : State :=
  if s.rail.marginAt + 25000 ≤ s.rail.lastScan then
    enableRails.foldl marginWalk { s with
      rail.marginAt := s.rail.marginAt + (s.rail.lastScan - s.rail.marginAt) / 25000 * 25000 }
  else s

/-! ### The comparator (R311) -/

/-- A level of RMON11, in µV, is below CMPTHR × 1,200 / 256 mV. -/
def belowCmp (s : State) (uv : Nat) : Bool := decide (uv * 256 < tnat s 0x7A 32 % 256 * 1200000)

/-- RMON11 stands at `uv`, below the threshold: the comparator trips where it watches, and a recovery begins anew (R311,
R314). -/
def cmpBelow (s : State) : State :=
  let s1 := { s with rail.cmpAbove := none }
  if s.rail.cmpen && tnat s 0x7A 32 % 256 != 0 && s.pwr.state != 6 && !s.rail.cmptrip then
    railEvent 11 0 5 (railFlag 11 (fun x => { x with pfw := true, cmptrip := true }) (barNvm s1))
  else s1

/-- RMON11 stands above the threshold: CMPTRIP clears once it has for 25,000 TK without a break (R311). -/
def cmpRises (s : State) : State :=
  match s.rail.cmpAbove with
  | none => { s with rail.cmpAbove := some s.tk }
  | some t => if t + 25000 ≤ s.tk then { s with rail.cmptrip := false } else s

/-! ### Commands of RAIL_CTL (R305) -/

/-- A refused command (R305); it names no rail, and its code carries rail 0 (log entry 55). -/
def railRefuse (s : State) : State := raise irqRail (recErr 0x0B 0x07 { s with rail.cmderr := true })

/-- The threshold order of R302 holds. -/
def railOrder (s : State) (r : Nat) : Bool :=
  decide (railW s r 6 < railW s r 4) && decide (railW s r 4 < railW s r 3)
    && decide (railW s r 3 < railW s r 5) && decide (railW s r 5 ≤ railW s r 1)

/-- An ON is refused (R305). -/
def onRefused (s : State) (rs : List Nat) : Bool :=
  let needs := railNeeds s rs
  rs.any (fun r => let h := railOf s r
      railSelf s r || h.st == .fail || h.st == .drain || h.pending || h.leaving)
    || (rs ++ needs).any (fun r => !railSet s r || !railOrder s r)
    || (rs ++ needs).any (fun r => (railNeeds s [r]).contains r)
    || needs.any (fun r => (railOf s r).st == .fail)

/-- One RAIL_CTL write. -/
def railCmd (op mask : Nat) (s : State) : State :=
  let rs := railsOf mask
  match op with
  | 0 => s
  | 1 => if onRefused s rs then railRefuse s
         else rs.foldl (fun st r => setRail r (fun h => { h with target := true }) st) s
  | 2 => if rs.any (railSelf s) then railRefuse s
         else drainRails ((railDependants s rs).filter (fun r => decide (r < 10) && !railSelf s r)) s
  | 3 => rs.foldl (fun st r => setRail r (fun h => { h with st := if h.st = .fail then .off else h.st }) st) s
  | 4 => drainRails (otherRails s) s
  | _ => railRefuse s

/-- A RAIL_CTL write, which a power entry holds (R359). -/
def railWrite (op mask : Nat) (s : State) : State :=
  if entryHolds s && op != 0 then holdCmd (.rail op mask) s else railCmd op mask s

/-- A RAIL_CTL write where the core is clocked. -/
def railReg (op mask : Nat) (s : State) : State := if clocked s then routedOp (.rail op mask) (railWrite op mask) s else s

/-- PFW of RAIL_STAT is cleared where nothing keeps it (R312); held lees records go to the log's queue
once nPFW is released (R314). -/
def pfwClearOp (s : State) : State :=
  if s.rail.cmptrip || s.rail.rails.any (fun h => h.uv || h.ov) then s
  else { s with
    rail.pfw := false, rail.barred := false
    nvm.leesQ := s.nvm.leesQ ++ s.nvm.barredQ, nvm.barredQ := [] }

/-- The value HOLD is stored as (R324). -/
def holdOf (d : Nat) : Nat := clampNat (d % 512) 1 500

/-- A PFW_CTL write (R324): FORCE that drives nPFW low where it was released raises RAIL, as every assertion of nPFW
does (R73, R312). -/
def pfwCtl (d : Word) (s : State) : State :=
  let s1 := { s with rail.cmpen := d.getLsbD 15, rail.force := d.getLsbD 14, rail.hold := holdOf d.toNat }
  if nPfwLow s1 && !nPfwLow s then raise irqRail s1 else s1

/-! ### Configuration (R319) -/

/-- A refused configuration write of rail `r`. -/
def railCfgRefuse (r : Nat) (busy : Bool) (s : State) : State :=
  raise irqRail (recErr 0x0B (16 * r + 6) { s with
    rail.cfgbusy := s.rail.cfgbusy || busy, rail.cfgerr := s.rail.cfgerr || !busy })

/-- The stored value of word `o` of a rail, reserved bits dropped. -/
def railKeep (r o d : Nat) : Nat :=
  match o with
  | 0 => atBit (decide (10 ≤ r)) 14 + bits d 13 12 * 4096 + bits d 11 0
  | 9 => d % 16
  | _ => d

/-- A word of table 0x78 is outside its range (R319, R325). -/
def railWordBad (r o d : Nat) : Bool :=
  match o with
  | 0 => bits d 13 12 == 3 || bit d r || (decide (10 ≤ r) && bits d 11 0 != 0)
  | 1 => d != 0 && decide (d < 1200)
  | 7 => decide (d < 1) || decide (10000 < d)
  | 8 => decide (d < 1) || decide (10000 < d)
  | 9 => decide (8 < d % 16)
  | _ => false

/-- A write to rail `r`'s words is free to take effect (R319). -/
def railCfgFree (s : State) (r : Nat) : Bool :=
  let h := railOf s r
  if r < 10 then h.st == .off || h.st == .fail
  else enableRails.all (fun d => !bit (railDeps s d) r || !(railOf s d).ren)

/-- A write to table 0x78 or 0x7A (R319). -/
def railConfig (t a : Nat) (d : Word) (s : State) : State :=
  if t = 0x78 then
    let r := a / 16
    if 192 ≤ a ∨ 10 ≤ a % 16 then s
    else if railSelf s r || railWordBad r (a % 16) d.toNat then railCfgRefuse r false s
    else if !railCfgFree s r then railCfgRefuse r true s
    else tset 0x78 a (word (railKeep r (a % 16) d.toNat)) s
  else if t = 0x7A then
    if 33 ≤ a then s
    else if swathActive s then railCfgRefuse 0 true s
    else railGates (tset 0x7A a (if a < 32 then d &&& 0x0FFF else d &&& 0x00FF) s)
  else s

/-- A write to a counter word clears it and writes a record with the value 0 (R317, R391). -/
def railCounter (a : Nat) (s : State) : State :=
  if 5 ≤ a % 8 then s else lees 0x0B (16 * (a / 8) + 10) [a, 0, 0] (tset 0x7C a 0 s)

/-! ### Self-sequencing -/

/-- Self-sequencing starts over (R320, R321). -/
def selfStart (s : State) : State := selfTarget { s with rail.selfSeq := .starting }

/-- The retry of a failed self-sequencing (R321). -/
def selfRetry (s : State) : State :=
  match s.rail.selfSeq with
  | .retryWait t =>
    if t ≤ s.tk then selfTarget { s with rail.selfSeq := .retrying, rail.selfretry := true, rail.selfErr := true }
    else s
  | _ => s

/-! ### Meanings -/

/-- The rail scanner runs: VAON is up and the node is above STILL (R299, R365). -/
def scanRuns (s : State) : Bool := decide (s.pwr.state ≤ 4)

/-- RAIL_SCAN_END (R300): once every scan period. -/
def execRailScanEnd (codes : List (BitVec 12)) (s : State) : Out :=
  if codes.length = 12 then
    .next (if scanRuns s && periodDue (some s.rail.lastScan) (scanPeriod s) s then railScan (codes.map (·.toNat)) s else s)
  else .fault .malformedOperand
/-- RAMP_TIMEOUT (R306). -/
def execRampTimeout (r : Fin 10) (s : State) : Out := .next (rampTimeout r.val s)
/-- OFF_TIMEOUT (R309). -/
def execOffTimeout (r : Fin 10) (s : State) : Out := .next (offTimeout r.val s)
/-- PFW_HOLD_EXPIRY (R310). -/
def execPfwHoldExpiry (s : State) : Out := .next (holdExpiry s)
/-- MARGIN_STEP (R315). -/
def execMarginStep (s : State) : Out := .next (if scanRuns s then marginSteps s else s)
/-- COMPARATOR_TRIP (R311, R314): a level of RMON11, in µV; nothing where it is not below the threshold. -/
def execComparatorTrip (s : State) (uv : BitVec 21 := 0) : Out :=
  .next (if belowCmp s uv.toNat then cmpBelow s else s)
/-- COMPARATOR_RECOVER (R311): a level of RMON11, in µV; the first one above the threshold starts the 25,000 TK. -/
def execComparatorRecover (s : State) (uv : BitVec 21 := 0x1FFFFF) : Out :=
  .next (if belowCmp s uv.toNat then s else cmpRises s)
/-- RAIL_NONE (R305). -/
def execRailNone (mask : BitVec 10) (s : State) : Out := .next (railReg 0 mask.toNat s)
/-- RAIL_ON (R305). -/
def execRailOn (mask : BitVec 10) (s : State) : Out := .next (railReg 1 mask.toNat s)
/-- RAIL_OFF (R305). -/
def execRailOff (mask : BitVec 10) (s : State) : Out := .next (railReg 2 mask.toNat s)
/-- RAIL_CLEAR (R305). -/
def execRailClear (mask : BitVec 10) (s : State) : Out := .next (railReg 3 mask.toNat s)
/-- ALLOFF (R305). -/
def execRailAllOff (mask : BitVec 10) (s : State) : Out := .next (railReg 4 mask.toNat s)
/-- RAIL_RESERVED_OP (R305): codes 5 to 7. -/
def execRailReservedOp (op : BitVec 3) (mask : BitVec 10) (s : State) : Out :=
  if op.toNat < 5 then .fault .malformedOperand else .next (railReg op.toNat mask.toNat s)
/-- PFW_CLEAR (R312). -/
def execPfwClear (s : State) : Out := 
  .next (if clocked s then routedOp (.reg 0x24 false 0x8000) pfwClearOp s else s)
/-- PFW_CTL_WRITE (R312). -/
def execPfwCtlWrite (data : Word) (s : State) : Out := 
  .next (if clocked s then routedOp (.reg 0x26 false data) (pfwCtl data) s else s)
/-- RAIL_CONFIG_WRITE (R319): the tables of R319 only. -/
def execRailConfigWrite (table : Byte) (addr : BitVec 24) (data : Word) (s : State) : Out :=
  .next (if clocked s && [0x78, 0x7A].contains table.toNat then
    routedOp (.tbl table.toNat addr.toNat data) (railConfig table.toNat addr.toNat data) s
  else s)
/-- RAIL_COUNTER_CLEAR (R317). -/
def execRailCounterClear (addr : Fin 96) (s : State) : Out :=
  .next (if clocked s then routedOp (.tbl 0x7C addr.val 0) (railCounter addr.val) s else s)
/-- SELF_SEQ_RETRY (R321). -/
def execSelfSeqRetry (s : State) : Out := .next (selfRetry s)

end Sys2Proof.Machine
end

