-- ==== Sys2Proof/Machine/Nvm.lean ====
section
/-! DEFINITION. The NVM engine and its command table (R383-R387) and the lees log (R388-R391). -/

namespace Sys2Proof.Machine

/-! ### Regions (R383, R387) -/

/-- The last byte address of the NVM plus one. -/
def nvmSize : Nat := 0x100000

/-- ERASE and PROGRAM are allowed at byte address `a` (R387): the slot that does not run, or both slots in
ROM recovery mode, and the configuration image. -/
def nvmWritable (s : State) (a : Nat) : Bool :=
  if a < 0x060000 then s.boot.phase == .recovery || s.boot.slotB
  else if a < 0x0C0000 then s.boot.phase == .recovery || !s.boot.slotB
  else decide (a < 0x0D0000)

/-- A byte as READ delivers it: the protected region delivers 0 (R387). -/
def nvmReadByte (s : State) (a : Nat) : Byte := if a < 0x0F8000 then nvmByte s a else 0

/-- Buffer bytes 0 to `n - 1` of table 0x85. -/
def nvmBuffer (s : State) (n : Nat) : List Byte := (List.range n).map (fun i => BitVec.ofNat 8 (tbyte s 0x85 i))

/-- Bytes stored into a table that holds a byte format, from byte `i` on, high byte first. -/
def tputByte (t i : Nat) (b : Byte) (s : State) : State :=
  let w := tnat s t (i / 2)
  tset t (i / 2) (word (if i % 2 = 0 then b.toNat * 256 + w % 256 else w / 256 * 256 + b.toNat)) s

/-- A run of bytes stored into such a table. -/
def tputBytes (t : Nat) : Nat → List Byte → State → State
  | _, [], s => s
  | i, b :: bs, s => tputBytes t (i + 1) bs (tputByte t i b s)

/-! ### Commands of table 0x84 (R385, R386) -/

/-- Word `a` of the table 0x7D image that the buffer spells breaks R386 reason 0x06. -/
def defaultsBad (ws : List Word) : Bool :=
  let w (a : Nat) : Nat := (ws.getD a 0).toNat
  [0, 1, 2].any (fun r =>
      (List.range 10).any (fun o => railWordBad r o (w (16 * r + o)))
      || !(decide (w (16 * r + 6) < w (16 * r + 4)) && decide (w (16 * r + 4) < w (16 * r + 3))
        && decide (w (16 * r + 3) < w (16 * r + 5)) && decide (w (16 * r + 5) ≤ w (16 * r + 1))))
    || bits (w 49) 14 9 != 0 || decide (bits (w 49) 8 0 < 1) || decide (500 < bits (w 49) 8 0)

/-- ADDR or LEN breaks R385. -/
def nvmRangeBad (op addr len : Nat) : Bool :=
  match op with
  | 1 => addr % 4096 != 0 || decide (nvmSize ≤ addr)
  | 2 => addr % 16 != 0 || len % 16 != 0 || decide (len < 16) || decide (4096 < len)
      || decide (nvmSize < addr + len) || addr / 4096 != (addr + len - 1) / 4096
  | 3 => decide (4096 < len) || decide (nvmSize < addr + len)
  | _ => false

/-- The reason a command is refused (R386), the first in the order of its codes (log entry 56); KEY_WRITE
after LOCK is refused as the region forbids it (log entry 57). -/
def nvmReason (s : State) (op ksel : Nat) : Option Nat :=
  let addr := tnat32 s 0x84 1
  let len := tnat s 0x84 3
  let key := nvmBuffer s 16
  if op < 1 ∨ 6 < op then some 1
  else if nvmRangeBad op addr len then some 2
  else if ((op = 1 ∨ op = 2) ∧ ¬ nvmWritable s addr) ∨ (op = 4 ∧ s.nvm.locked) then some 3
  else if op = 2 ∧ (nvmBytes s addr len).any (· != 0xFF) then some 4
  else if op = 4 ∧ (s.nvm.keys.any (fun k => k.1 == ksel) ∨ key.all (· == 0) ∨ key.all (· == 0xFF)) then some 5
  else if op = 5 ∧ defaultsBad (twords s 0x85 0 50) then some 6
  else if op = 5 ∧ s.nvm.locked then some 7
  else if s.rail.barred then some 8
  else if s.nvm.busy.isSome then some 10
  else none

/-- One write of CMD (R385, R386): the command starts with the operands it finds, or is refused. -/
def nvmCmd (op ksel : Nat) (s : State) : State :=
  match nvmReason s op ksel with
  | some r => recErr 0x0E 7 { s with nvm.refused := true, nvm.reason := r }
  | none => { s with
      nvm.busy := some { op := op, addr := tnat32 s 0x84 1, len := tnat s 0x84 3, ksel := ksel,
                         data := nvmBuffer s (if op = 2 then tnat s 0x84 3 else if op = 4 then 16 else 100) } }

/-- What a completed command has done (R385). -/
def nvmEffect (o : NvmOp) (s : State) : State :=
  match o.op with
  | 1 => nvmStore o.addr (List.replicate 4096 0xFF) s
  | 2 => noteImage o.addr (nvmStore o.addr o.data s)
  | 3 => tputBytes 0x85 0 ((List.range o.len).map (fun i => nvmReadByte s (o.addr + i))) s
  | 4 => { s with nvm.keys := (o.ksel, o.data) :: s.nvm.keys }
  | 5 => { s with nvm.defaults := cellSetRun defaultsDefault 0 (defaultsKeep (packWords o.data)) s.nvm.defaults }
  | 6 => { s with nvm.locked := true }
  | _ => s

/-- A command whose verification failed (R386): ERR, error 0x08 and a lees record; its target holds values nobody
states. -/
def nvmFailed (o : NvmOp) (s : State) : State :=
  recErrLees 0x0E 8 [o.op] { openTarget o s with nvm.err := true }

/-- The command in progress ends (R386). A read verifies nothing. -/
def nvmDone (verified : Bool) (s : State) : State :=
  match s.nvm.busy with
  | some o =>
    let s1 := { s with nvm.busy := none }
    let s2 := if verified || o.op == 3 then nvmEffect o s1 else nvmFailed o s1
    raise irqCal { s2 with nvm.done := true }
  | none => s

/-! ### The lees log (R388-R391) -/


/-- A line's CRC holds (R389). -/
def leesValid (l : List Byte) : Bool :=
  !leesFree l && crc8 ((l.take 15).map (·.toNat)) == (l.getD 15 0).toNat

/-- SEQ of a line. -/
def leesSeqOf (l : List Byte) : Nat := natBE (l.take 4)

/-- The 16 bytes of a record (R389). -/
def leesBytes (seq : Nat) (r : LeesRec) : List Byte :=
  let b := bytesBE 4 seq ++ bytesBE 4 (r.time % 2 ^ 32) ++ [BitVec.ofNat 8 r.boot, BitVec.ofNat 8 r.block, BitVec.ofNat 8 r.code]
    ++ ((r.data ++ [0, 0, 0, 0]).take 4).map (BitVec.ofNat 8)
  b ++ [BitVec.ofNat 8 (crc8 (b.map (·.toNat)))]


/-- SEQ after `q`: 0xFFFFFFFF is never used (R389). -/
def leesSeqNext (q : Nat) : Nat := if q + 1 < 0xFFFFFFFF then q + 1 else 0

/-- The sector after that of line `k` is erased, and with it its 256 oldest records (R390). It is erased where 200 lines of
the present sector are used and it is not free. -/
def leesErase (k : Nat) (s : State) : State :=
  let n := (k / 256 + 1) % 32
  let s1 := nvmStore (leesAddr (256 * n)) (List.replicate 4096 0xFF) s
  if s.nvm.leesOldest / 256 = n then { s1 with nvm.leesOldest := (n + 1) % 32 * 256 } else s1

/-- The first waiting record is programmed (R388, R390), unless an erase is in progress or writing is
barred (R314). -/
def leesWrite (s : State) : State :=
  match s.nvm.leesQ with
  | [] => s
  | r :: rest =>
    if s.rail.barred || (s.nvm.busy.any (fun o => o.op == 1)) then s
    else
      let k := leesNextFree s 8192 s.nvm.leesNext
      let s1 := nvmStore (leesAddr k) (leesBytes s.nvm.leesSeq r) { s with
        nvm.leesQ := rest, nvm.leesSeq := leesSeqNext s.nvm.leesSeq, nvm.leesNewest := some k
        nvm.leesOldest := if s.nvm.leesNewest = none then k else s.nvm.leesOldest
        nvm.leesNext := (k + 1) % 8192 }
      if 199 ≤ k % 256 ∧ leesFree (leesLine s1 ((k / 256 + 1) % 32 * 256)) = false then leesErase k s1 else s1

/-- Every waiting record is programmed, before the core loses its clock (R367). -/
def leesFlush (s : State) : State := s.nvm.leesQ.foldl (fun st _ => leesWrite st) s

/-- The record with the larger SEQ of two lines. -/
def leesNewer (s : State) (best : Option Nat) (k : Nat) : Option Nat :=
  let l := leesLine s k
  if !leesValid l then best
  else match best with
    | none => some k
    | some b => if leesSeqOf (leesLine s b) < leesSeqOf l then some k else best

/-- The record with the smaller SEQ of two lines. -/
def leesOlder (s : State) (best : Option Nat) (k : Nat) : Option Nat :=
  let l := leesLine s k
  if !leesValid l then best
  else match best with
    | none => some k
    | some b => if leesSeqOf l < leesSeqOf (leesLine s b) then some k else best

/-- The firmware scans the log at start-up (R390). -/
def leesScan (s : State) : State :=
  let newest := (List.range 8192).foldl (leesNewer s) none
  let oldest := ((List.range 8192).foldl (leesOlder s) none).getD 0
  let bad := ((List.range 8192).filter (fun k => !leesFree (leesLine s k) && !leesValid (leesLine s k))).length
  { s with
    nvm.leesNewest := newest, nvm.leesOldest := oldest, nvm.abandoned := sat16 bad
    nvm.leesNext := (match newest with | some k => (k + 1) % 8192 | none => 0)
    nvm.leesSeq := (match newest with | some k => leesSeqNext (leesSeqOf (leesLine s k)) | none => 0) }

/-- The value the newest complete record of counter word `a` of table 0x7C carries (R317): a record of one
of the counter's own events or of its clear. -/
def leesCounter (s : State) (a : Nat) : Nat :=
  let r := a / 8
  let own (l : List Byte) : Bool :=
    leesValid l && (l.getD 9 0).toNat == 0x0B && (l.getD 11 0).toNat == a
      && (let c := (l.getD 10 0).toNat
          c / 16 == r && ([1, 2, 3, 4, 5, 9, 10].contains (c % 16)))
  let best := (List.range 8192).foldl (fun b k => if own (leesLine s k) then leesNewer s b k else b) none
  match best with
  | some k => natBE (((leesLine s k).drop 12).take 2)
  | none => 0

/-- Table 0x7C is loaded from the log, and the events that waited in VAON are counted and recorded (R317). -/
def loadCounters (s : State) : State :=
  let words := (List.range 12).flatMap (fun r => (List.range 5).map (fun i => 8 * r + i))
  let s1 := words.foldl (fun st a => tset 0x7C a (word (leesCounter s a)) st) s
  s.nvm.preQ.foldl (fun st r =>
    match r.block, r.data with
    | 0x0B, [a] =>
      let st1 := bump 0x7C a st
      let v := tnat st1 0x7C a
      { st1 with nvm.leesQ := st1.nvm.leesQ ++ [{ r with data := [a, v / 256, v % 256] }] }
    | _, _ => { st with nvm.leesQ := st.nvm.leesQ ++ [r] }) { s1 with nvm.preQ := [] }

/-! ### Meanings -/

/-- The NVM programming tables answer: after UP and in ROM recovery mode (R328, R335). -/
def nvmAnswers (s : State) : Bool := clocked s || (s.boot.phase == .recovery)

/-- A write of CMD, which a power entry holds (R359, log entry 34). -/
def nvmWrite (op ksel : Nat) (s : State) : State :=
  if entryHolds s then holdCmd (.tbl 0x84 0 (word (op * 4096 + ksel))) s else nvmCmd op ksel s

/-- A write of CMD where table 0x84 answers. -/
def nvmReg (op ksel : Nat) (s : State) : State :=
  if nvmAnswers s then routedOp (.tbl 0x84 0 (word (op * 4096 + ksel))) (nvmWrite op ksel) s else s

/-- NVM_ERASE (R385). -/
def execNvmErase (s : State) : Out := .next (nvmReg 1 0 s)
/-- NVM_PROGRAM (R385). -/
def execNvmProgram (s : State) : Out := .next (nvmReg 2 0 s)
/-- NVM_READ (R385). -/
def execNvmRead (s : State) : Out := .next (nvmReg 3 0 s)
/-- KEY_WRITE (R385). -/
def execKeyWrite (ksel : BitVec 3) (s : State) : Out := .next (nvmReg 4 ksel.toNat s)
/-- DEFAULTS_WRITE (R385). -/
def execDefaultsWrite (s : State) : Out := .next (nvmReg 5 0 s)
/-- LOCK (R385). -/
def execNvmLock (s : State) : Out := .next (nvmReg 6 0 s)
/-- NVM_RESERVED_OP (R386): codes 0 and 7 to 15. -/
def execNvmReservedOp (op : BitVec 4) (ksel : BitVec 3) (s : State) : Out :=
  if 1 ≤ op.toNat ∧ op.toNat ≤ 6 then .fault .malformedOperand
  else .next (nvmReg op.toNat ksel.toNat s)
/-- NVM_COMMAND_DONE (R386). -/
def execNvmCommandDone (verified : Bool) (s : State) : Out :=
  .next (if nvmAnswers s then nvmDone verified s else s)
/-- LEES_RECORD_WRITE (R388). -/
def execLeesRecordWrite (s : State) : Out :=
  .next (if coreRuns s && s.boot.phase != .rom then leesWrite s else s)

end Sys2Proof.Machine
end

