-- ==== Sys2Proof/Machine/Calib.lean ====
section
/-! DEFINITION. Self-calibration (R371-R382, R393): runs, items, the staged set and its application, the
store in NVM, the forced gap, and the die temperature with the thermal shutdown (R331, R375). -/

namespace Sys2Proof.Machine

/-! ### Items (R371, R380) -/

/-- The items in the order of their VALID bits. -/
def allItems : List CalItem := [.trims, .sense, .current, .scanner, .headTemp, .samplers, .wdacs]

/-- An item's VALID bit (R380). -/
def itemBit : CalItem → Nat
  | .trims => 0 | .sense => 1 | .current => 2 | .scanner => 3 | .headTemp => 4 | .samplers => 5 | .wdacs => 6

/-- An item's first byte in a calibration set (R380). -/
def itemStart : CalItem → Nat
  | .trims => 64 | .sense => 320 | .current => 328 | .scanner => 344 | .headTemp => 348 | .samplers => 412
  | .wdacs => 444

/-- The number of bytes of an item (R380). -/
def itemLen : CalItem → Nat
  | .trims => 256 | .sense => 8 | .current => 16 | .scanner => 4 | .headTemp => 64 | .samplers => 32
  | .wdacs => 32

/-- A run completes at a swath boundary or an idle boundary: only the trims take the former (R371). -/
def itemIdle (i : CalItem) : Bool := i != .trims

/-- Sets a W1C flag of CAL_STAT, which raises CAL (R393). -/
def calFlag (f : Cal → Cal) (s : State) : State := raise irqCal { s with cal := f s.cal }

/-- Sets or clears the VALID bit of an item in table `t`. -/
def setValid (t : Nat) (i : CalItem) (b : Bool) (s : State) : State :=
  let w := tnat s t 3
  let m := 2 ^ itemBit i
  tset t 3 (word (w / (2 * m) * (2 * m) + (if b then m else 0) + w % m)) s

/-- The bytes of an item in table `t`. -/
def itemBytes (s : State) (t : Nat) (i : CalItem) : List Byte :=
  (List.range (itemLen i)).map (fun k => BitVec.ofNat 8 (tbyte s t (itemStart i + k)))

/-- An item stored in table `t`. -/
def putItem (t : Nat) (i : CalItem) (bs : List Byte) (s : State) : State :=
  setValid t i true (tputBytes t (itemStart i) bs s)

/-- An item removed from the staged set: table 0x81 reads 0 where nothing is staged (R394). -/
def unstage (i : CalItem) (s : State) : State :=
  { setValid 0x81 i false (tputBytes 0x81 (itemStart i) (List.replicate (itemLen i) 0) s) with
    cal.staged := s.cal.staged.filter (· != i) }

/-! ### Application (R377) -/

/-- A staged item takes effect in table 0x80. -/
def applyItem (s : State) (i : CalItem) : State := unstage i (putItem 0x80 i (itemBytes s 0x81 i) s)

/-- The staged items that satisfy `p` take effect, and CAL is raised (R377). -/
def applyStaged (p : CalItem → Bool) (s : State) : State :=
  let items := s.cal.staged.filter p
  if items.isEmpty then s else raise irqCal (items.foldl applyItem s)

/-- Step 2 of R21: the trims at any boundary, the other items at an idle boundary (R377). -/
def applyCalibration (idle : Bool) (s : State) : State :=
  applyStaged (fun i => idle || !itemIdle i) s

/-- DISCARD removes every staged result (R377). -/
def discardStaged (s : State) : State := s.cal.staged.foldl (fun st i => unstage i st) s

/-! ### Storing a set (R380-R382) -/

/-- A copy is valid (R381). -/
def copyValid (s : State) (b : Bool) : Bool :=
  let bs := nvmBytes s (copyBase b) 16384
  (bs.take 4 == [0x4E, 0x43, 0x41, 0x4C]) && (bs.getD 4 0 == 1)
    && (bs.drop 16380 == crc32Bytes (bs.take 16380))

/-- SEQ of a copy. -/
def copySeq (s : State) (b : Bool) : Nat := natBE (nvmBytes s (copyBase b + 8) 4)

/-- The copy that start-up takes (R381): the later one of two, the valid one of one. -/
def chooseCopy (s : State) : Option Bool :=
  match copyValid s false, copyValid s true with
  | true, true =>
    let d := (copySeq s true + 2 ^ 32 - copySeq s false) % 2 ^ 32
    some (decide (1 ≤ d) && decide (d < 2 ^ 31))
  | true, false => some false
  | false, true => some true
  | false, false => none

/-- Replaces the bytes from `i` on. -/
def patch (bs : List Byte) (i : Nat) (new : List Byte) : List Byte := bs.take i ++ new ++ bs.drop (i + new.length)

/-- The bytes of the newest valid set, or of a set with every item at its default (R380). -/
def newestSet (s : State) : List Byte :=
  match s.cal.newest with
  | some b => nvmBytes s (copyBase b) 16384
  | none => [0x4E, 0x43, 0x41, 0x4C, 1] ++ List.replicate 16379 0

/-- The set a run builds (R382): the newest one with the measured items, SEQ, TREF and BOOTS of the run. -/
def buildSet (s : State) (results : List (CalItem × List Byte)) : List Byte :=
  let base := newestSet s
  let seq := (natBE ((base.drop 8).take 4) + 1) % 2 ^ 32
  let valid := results.foldl (fun v r => v ||| 2 ^ itemBit r.1) (natBE ((base.drop 6).take 2))
  let b1 := results.foldl (fun bs r => patch bs (itemStart r.1) r.2) base
  let head := [0x4E, 0x43, 0x41, 0x4C, 1, 0] ++ bytesBE 2 valid ++ bytesBE 4 seq
    ++ bytesBE 2 (unsigned 16 s.cal.tref) ++ [0, 0] ++ bytesBE 4 s.nvm.bootCount
  let body := patch b1 0 head
  body.take 16380 ++ crc32Bytes (body.take 16380)

/-- The store of a completed run starts (R382): the copy that does not hold the newest valid set is
written. While NVM writing is barred no store starts (R314, log entry 61). -/
def startStore (results : List (CalItem × List Byte)) (s : State) : State :=
  if s.rail.barred then s
  else
    let b := match s.cal.newest with | some n => !n | none => false
    nvmStore (copyBase b) (buildSet s results) { s with cal.storing := some b }

/-- The store ends (R382). -/
def storeDone (verified : Bool) (s : State) : State :=
  match s.cal.storing with
  | some b =>
    let s1 := { s with cal.storing := none }
    if verified then
      let seq := copySeq s b
      lees 0x0E 0x81 ([if b then 1 else 0] ++ (bytesBE 3 seq).map (·.toNat)) { s1 with cal.newest := some b }
    else
      calFlag (fun c => { c with storefail := true })
        (recErrLees 0x0E 5 [if b then 1 else 0] (nvmScramble (copyBase b) 16384 s1))
  | none => s

/-! ### Runs (R371-R379) -/

/-- A run starts (R374). -/
def startRun (trig : Nat) (startUp : Bool) (items : List CalItem) (s : State) : State :=
  { s with cal.run := some { from_ := s.tk, startUp := startUp, todo := items, results := [] }, cal.lastTrig := trig }

/-- The results of a run join the staged set (R377). -/
def stageOne (s : State) (r : CalItem × List Byte) : State :=
  let s1 := putItem 0x81 r.1 r.2 s
  { s1 with
    cal.staged := if s1.cal.staged.contains r.1 then s1.cal.staged else s1.cal.staged ++ [r.1]
    cal.stagedFrom := if itemIdle r.1 && !(s.cal.staged.any itemIdle) then s.tk else s.cal.stagedFrom }

/-- A run with nothing left to measure completes (R377, R378, R382): its temperature becomes TREF, its
results are staged, stored, and applied at once where the node is in the state they wait for. -/
def endRun (s : State) : State :=
  match s.cal.run with
  | some r =>
    if r.todo.isEmpty then
      let s1 := { s with cal.run := none, cal.tref := signed 16 s.cal.tempDie.toNat, cal.trefSet := true }
      let s2 := startStore r.results (r.results.foldl stageOne s1)
      applyStaged (fun i => r.startUp || (!itemIdle i && s2.bnd.inGap) || s2.bnd.idle) s2
    else s
  | none => s

/-- The precondition of an item holds in the present TK (R371): for the head-temperature offsets the group measured last
is among those unfired for 2 s, for the samplers the last one is free for 5,000 TK, for the WDACs the node is idle
(R372). -/
def itemReady (s : State) (i : CalItem) : Bool :=
  match i with
  | .headTemp => (List.range 32).any (fun g =>
      s.jet.fires.all (fun f => !f.groups.contains g || decide (f.fireEnd + 500000000 ≤ s.tk)))
  | .samplers => (List.range 16).any (fun k =>
      s.hc.bursts.all (fun b => b.sampler != some k || decide (b.stop + 5000 ≤ s.tk)))
  | .wdacs => s.bnd.idle
  | _ => true

/-- An item of the run is measured (R371). -/
def itemDone (i : CalItem) (bs : List Byte) (s : State) : State :=
  match s.cal.run with
  | some r =>
    if r.todo.contains i && itemReady s i then
      endRun { s with cal.run := some { r with todo := r.todo.filter (· != i), results := r.results ++ [(i, bs)] } }
    else s
  | none => s

/-- One item is skipped (R371). -/
def skipOne (s : State) (i : CalItem) : State :=
  match s.cal.run with
  | some r => calFlag (fun c => { c with skipped := true, run := some { r with todo := r.todo.filter (· != i) } })
      (recErr 0x0E 2 s)
  | none => s

/-- An item not measured 60 s after the run's start is skipped (R371). -/
def itemSkip (i : CalItem) (s : State) : State :=
  match s.cal.run with
  | some r =>
    if r.todo.contains i && decide (r.from_ + msTk 60000 ≤ s.tk) then endRun (skipOne s i) else s
  | none => s

/-- The start-up run is out of time: every item left is skipped (R378). -/
def startupTimeout (s : State) : State :=
  match s.cal.run with
  | some r =>
    if r.startUp && decide (r.from_ + 10000000 ≤ s.tk) then endRun (r.todo.foldl skipOne s) else s
  | none => s

/-! ### Commands of CAL_CTL (R374, R393) -/

/-- A refused command. -/
def calRefuse (s : State) : State := calFlag (fun c => { c with refused := true }) (recErr 0x0E 1 s)

/-- A CAL_CTL write: MAXDEFER and DELTA are stored with every OP. -/
def calCmd (op maxDefer delta : Nat) (s : State) : State :=
  let s1 := { s with cal.maxDefer := max 1 maxDefer, cal.delta := delta }
  match op with
  | 0 => s1
  | 1 => if s1.cal.run.isSome then calRefuse s1 else startRun 3 false allItems s1
  | 2 => discardStaged s1
  | _ => calRefuse s1

/-- A CAL_CTL write where the core is clocked. -/
def calReg (op maxDefer delta : Nat) (s : State) : State := 
  if clocked s then
    routedOp (.reg 0x30 false (word (op * 8192 + maxDefer * 256 + delta))) (calCmd op maxDefer delta) s
  else s

/-! ### The forced gap (R379) -/

/-- CAL_MAXDEFER in TK. -/
def maxDeferTk (s : State) : Nat := msTk (60000 * s.cal.maxDefer)

/-- An idle-boundary result has waited for CAL_MAXDEFER: the next swath boundary starts a forced gap. -/
def maxDeferExpiry (s : State) : State :=
  if s.cal.staged.any itemIdle && decide (s.cal.stagedFrom + maxDeferTk s ≤ s.tk) then
    { s with cal.forceDue := true }
  else s

/-- A swath boundary starts the forced gap that is due (R379, R401 step 5). -/
def startForced (s : State) : State :=
  if s.cal.forceDue && s.cal.staged.any itemIdle then
    calFlag (fun c => { c with forceDue := false, forced := true, forcing := true, forceTestAt := none }) s
  else { s with cal.forceDue := false }

/-- An idle boundary, with every action due there complete, ends the hold (R379). -/
def endForced (s : State) : State := { s with cal.forcing := false, cal.forceDue := false }

/-- 40 ms after the speed test first passed during the hold, the hold ends without an idle boundary. -/
def forcedTimeout (s : State) : State :=
  match s.cal.forceTestAt with
  | some t =>
    if s.cal.forcing && decide (t + 10000000 ≤ s.tk) then
      calFlag (fun c => { c with forceFail := true, forcing := false, forceTestAt := none, stagedFrom := s.tk })
        (recErrLees 0x0E 6 [] s)
    else s
  | none => s

/-! ### Die temperature (R331, R374, R375) -/

/-- The thermal shutdown threshold in 1/16 °C (R331). -/
def hotLimit : Int := if Config.isB1E then 155 * 16 else 140 * 16

/-- The mean of the last 16 samples; its rounding is open (log entry 13). -/
def tempMean (l : List Int) : Int := divOpen 3751 (l.foldl (· + ·) 0) 16

/-- The temperature trigger of R374: it needs a valid TEMP_DIE and a TREF. -/
def tempTrigger (s : State) : State :=
  if isUp s && s.cal.run.isNone && s.cal.delta != 0 && s.cal.trefSet && decide (16 ≤ s.cal.samples.length)
      && decide (s.cal.delta * 16 < (signed 16 s.cal.tempDie.toNat - s.cal.tref).natAbs) then
    startRun 2 false allItems s
  else s

/-- One sample of the die sensor (R375): TEMP_DIE from the 16th on (log entry 58), the shutdown, its
release 20 °C below the threshold, and the trigger. -/
def dieSample (t : Int) (s : State) : State :=
  let l := (t :: s.cal.samples).take 16
  let s1 := { s with cal.samples := l }
  if l.length < 16 then s1
  else
    let m := tempMean l
    let s2 := { s1 with cal.tempDie := BitVec.ofInt 16 m }
    if s.boot.hot then
      if m ≤ hotLimit - 320 then tryRelease { s1 with boot.hot := false, cal.samples := [] } else s1
    else if hotLimit ≤ m then holdCore 4 0 { s2 with boot.hot := true }
    else tempTrigger s2

/-! ### Meanings -/

/-- DIE_TEMP_SAMPLE (R375): one in each 250,000 TK. -/
def execDieTempSample (t : Word) (s : State) : Out :=
  .next (if s.boot.phase != .supplies && s.boot.phase != .pll && decide (s.pwr.state ≤ 1)
      && periodDue s.cal.dieAt 250000 s then
    dieSample (signed 16 t.toNat) { s with cal.dieAt := some (periodNow s.cal.dieAt 250000 s) } else s)
/-- CAL_NONE (R393). -/
def execCalNone (maxDefer : BitVec 5) (delta : Byte) (s : State) : Out :=
  .next (calReg 0 maxDefer.toNat delta.toNat s)
/-- CAL_RUN (R374). -/
def execCalRun (maxDefer : BitVec 5) (delta : Byte) (s : State) : Out :=
  .next (calReg 1 maxDefer.toNat delta.toNat s)
/-- CAL_DISCARD (R377). -/
def execCalDiscard (maxDefer : BitVec 5) (delta : Byte) (s : State) : Out :=
  .next (calReg 2 maxDefer.toNat delta.toNat s)
/-- CAL_RESERVED_OP (R393): codes 3 to 7. -/
def execCalReservedOp (op : BitVec 3) (maxDefer : BitVec 5) (delta : Byte) (s : State) : Out :=
  if op.toNat < 3 then .fault .malformedOperand
  else .next (calReg op.toNat maxDefer.toNat delta.toNat s)
/-- CAL_ITEM_DONE (R371). -/
def execCalItemDone (item : CalItem) (result : List Byte) (s : State) : Out :=
  if result.length = itemLen item then .next (if coreRuns s then itemDone item result s else s)
  else .fault .malformedOperand
/-- CAL_ITEM_SKIP (R371). -/
def execCalItemSkip (item : CalItem) (s : State) : Out := .next (if coreRuns s then itemSkip item s else s)
/-- STARTUP_CAL_TIMEOUT (R378). -/
def execStartupCalTimeout (s : State) : Out := .next (if coreRuns s then startupTimeout s else s)
/-- CAL_STORE_DONE (R382). -/
def execCalStoreDone (verified : Bool) (s : State) : Out := .next (if coreRuns s then storeDone verified s else s)
/-- CAL_MAXDEFER_EXPIRY (R379). -/
def execCalMaxdeferExpiry (s : State) : Out := .next (if clocked s then maxDeferExpiry s else s)
/-- FORCED_GAP_TIMEOUT (R379). -/
def execForcedGapTimeout (s : State) : Out := .next (if clocked s then forcedTimeout s else s)

end Sys2Proof.Machine
end

