-- ==== Sys2Proof/Machine/Txn.lean ====
section
/-! DEFINITION. Transactions (R23-R52): the cask, leases, validation, the decant, the two-phase commit of
a fabric, stranded nodes and their resolution. -/

namespace Sys2Proof.Machine

/-! ### Records and refusals -/

/-- A lees record of a transaction event (R36, R391). -/
def txnLees (code : Nat) (s : State) : State := lees 0x02 code [s.txn.tag, s.txn.kind, s.txn.reason] s

/-- A transaction exists (R23, R47). -/
def txnExists (s : State) : Bool := s.txn.phase != .none

/-- This node coordinates a fabric-wide transaction (R40). -/
def txnRoot (s : State) : Bool := s.txn.scope == .root

/-- This node is a member of a fabric-wide transaction (R40). -/
def txnMember (s : State) : Bool := s.txn.scope == .member

/-- A refusal that names table `t` and word `a`, of node `peer` where a group node refused (R29, R45); table
0 names none. -/
def txnRefuseAt (t a r peer : Nat) (s : State) : State :=
  { s with
    txn.refused := true, txn.fault := t, txn.faultAt := if t = 0 then 0 else a, txn.reason := r, txn.peer := peer }

/-- A refusal that names no table (R29). -/
def txnRefuse (r : Nat) (s : State) : State := txnRefuseAt 0 0 r 0 s

/-- An accepted BEGIN or COMMIT clears the fault values (R29). -/
def txnClearFault (s : State) : State :=
  { s with txn.fault := 0, txn.faultAt := 0, txn.reason := 0, txn.peer := 0 }

/-- The lease runs for its full length again (R24); a member's lease is the root's (R41). On the root the writes
that renew are those into its own cask and into its TXN_CTL: a write that it sends to another node or by broadcast
renews it only where the root's own cask takes it too (log entry 136). -/
def txnRenew (s : State) : State :=
  if txnMember s then s else { s with txn.leaseEnd := s.tk + msTk s.txn.lease }

/-! ### TXN packets (R86) -/

/-- Word 0 of a TXN packet. -/
def txnWord (op kind tag : Nat) (late : Bool) : Word := word (op * 4096 + kind * 512 + atBit late 8 + tag)

/-- The group mask in four words, most significant first. -/
def maskWords (m : Nat) : List Word := wordsBE 4 m

/-- The root broadcasts ABORT (R41, R44). -/
def sendAbort (s : State) : State :=
  broadcast 0x08 0 (txnWord 6 0 s.txn.tag false :: maskWords s.txn.group) s

/-- A packet of the named boundary: PREPARE or COMMIT_AT (R44). -/
def sendNamed (op : Nat) (s : State) : State :=
  let n := s.txn.named
  broadcast 0x08 0 ([txnWord op s.txn.kind s.txn.tag false] ++ wordsBE 2 n.layer.toNat
    ++ [n.swath, word (atBit n.next 0)] ++ maskWords s.txn.group) s

/-! ### Ends of a transaction -/

/-- Starts that R43 held go ahead once the hold is over; `old` is the state before the transaction ended. -/
def resumeHeld (old s : State) : State :=
  vlvResume ((List.range 8).foldl (fun st n => resumeAxis old n st) s)

/-- The node's own part of the transaction ends, by a decant (1) or a rollback (2). A stranded node's TXN
gate source clears, and it reports to the root (R47). The root keeps the transaction in its resolving phase
while a node of the group is stranded. The named boundary stays readable until the next one is named (log
entry 140). -/
def txnEnd (how : Nat) (s : State) : State :=
  let was := s.txn.phase == .stranded
  let s1 := { s with
    txn.phase := if txnRoot s && s.txn.strandedMask != 0 then .resolving else .none
    txn.cask := none, hc.again := [], txn.collecting := false, txn.votes := [], txn.present := false, txn.stage := 0
    txn.late := none, txn.leaseLeft := none }
  let s2 := if was then sendEvent 0x11 s.txn.tag [word how] (setTxnGate false s1) else s1
  resumeHeld s s2

/-! ### Decant (R32) -/

/-- A V3 extension that is due takes place (R337, R338). -/
def v3Extend (s : State) : State :=
  match s.boot.v3Pending with
  | some d => { s with
      boot.v := modifyNth (fun v => sha256 (v ++ d)) s.boot.v 3
      boot.v3Count := s.boot.v3Count + 1
      boot.v3Pending := none }
  | none => s

/-- The digest of every table a decant touched (R338). -/
def touchedDigest (tt : Touched) (s : State) : List Byte :=
  sha256 ((caskTables.filter (fun t => hasT tt [t])).flatMap (fun t =>
    BitVec.ofNat 8 t :: unpackWords (twords s t 0 (caskSize t))))

/-- The commit record of R338. -/
def commitRecord (tt : Touched) (s : State) : List Byte :=
  bytesBE 4 s.txn.decLayer.toNat ++ bytesBE 2 s.txn.decSwath.toNat
    ++ [BitVec.ofNat 8 s.txn.tag, BitVec.ofNat 8 (s.txn.decInfo.toNat % 8)] ++ touchedDigest tt s

/-- What follows a change of cask-able state in force: position channels whose MODE or FILT changed start
over (R119, R122), an axis whose limits changed is planned again (R251), head records are judged against
the new channels (R222), and valve sensors are known anew (R285). `old` is the state before the change. -/
def afterCask (old : State) (tt : Touched) (s : State) : State :=
  let s1 := (List.range 8).foldl (fun st c =>
    if encMode old c = encMode st c ∧ encFilt old c = encFilt st c then st else encModeDecant old c st) s
  let s2 := (List.range 8).foldl (fun st n => axisAfterCask old (hasE tt 0x60 n) n st) s1
  let s3 := if hasT tt [0x20, 0x21] then recheckHeads s2 else s2
  vlvAfterCask old s3

/-- The KIND of the decant that is due: the late COMMIT's on a stranded node (R47). -/
def decantKind (s : State) : Nat :=
  match s.txn.phase, s.txn.late with
  | .stranded, some l => l.1
  | _, _ => s.txn.kind

/-- The decant (R32): every word of every touched table takes the cask's value, the record of table 0x06 is
kept, and the transaction ends. A root that holds no cask only ends it (R40). -/
def decant (s : State) : State :=
  match s.txn.cask with
  | none => txnEnd 1 s
  | some k =>
    let s0 := v3Extend s
    let s1 := applyAgain (afterCask s0 k.touched { s0 with tbl := decantCells k s0.tbl })
    let s2 := { s1 with
      txn.decLayer := s1.bnd.layer, txn.decSwath := s1.bnd.swath
      txn.decInfo := word (s1.txn.tag * 256 + decantKind s1) }
    let s3 := if s2.boot.v3en then { s2 with boot.v3Pending := some (sha256 (commitRecord k.touched s2)) } else s2
    txnEnd 1 (raise irqTxn (txnLees 0x84 s3))

/-- The cask is discarded (R33): in-force state is unchanged. -/
def rollback (code : Nat) (s : State) : State := txnEnd 2 (txnLees code s)

/-- A lease has run out (R34, R41). -/
def expire (s : State) : State :=
  let s1 := raise irqTxn { s with txn.expired := true }
  rollback 0x86 (if txnRoot s then sendAbort s1 else s1)

/-! ### Named boundaries (R42) -/

/-- The planned end of the active swath lies at least 2 ms ahead (R42): the remaining distance to the
farthest last target of its units, at VPLAN. Without LOCK, or before the print axis has taken the permit,
it counts as nearer. -/
def endFarAhead (s : State) : Bool :=
  match s.ing.active with
  | none => false
  | some a =>
    let sl := a.slot
    let ends := a.next.map (fun p => dirSign (descRev s sl) * target s sl p.1 (unitCols s sl p.1).2)
    let far := ends.foldl max (ends.getD 0 0)
    let dist := far * gu - dirSign (descRev s sl) * gridP s
    s.grid.lock && (!bit (tnat s 0x60 256) 15 || s.mot.permits.isEmpty)
      && decide ((2 * (s.ing.slots.getD sl {}).vplan : Int) * gu ≤ dist)

/-- The boundary that a COMMIT on the root names (R42). NAMED_LAYER is LAYER + 1 for KIND LAYER, 0 where no LAYER is
greater, and the LAYER in force for the present gap, the present idle state and NOW: R42 gives these no value (log
entry 137). -/
def nameBoundary (s : State) (kind : Nat) : Named :=
  match kind with
  | 1 => { layer := s.bnd.layer + 1, swath := 0xFFFF, next := false }
  | 3 => { layer := BitVec.ofNat 32 (tnat32 s 0x06 0), swath := 0xFFFF, next := false }
  | 4 => { layer := s.bnd.layer, swath := 0xFFFF, next := false }
  | _ =>
    if swathActive s then { layer := s.bnd.layer, swath := s.bnd.swath, next := !endFarAhead s }
    else { layer := s.bnd.layer, swath := 0xFFFF, next := false }

/-- The present state of this node is of the kind that a boundary of `kind` leaves: the gap, the idle state (R43). -/
def inKind (kind : Nat) (s : State) : Bool := (kind == 0 && s.bnd.inGap) || (kind == 2 && s.bnd.idle)

/-- Where this node stands against the named boundary when it learns of it (R42): 0, the named swath has still to end;
1, the next swath end is it (NEXT); 2, an idle boundary is awaited; 3, the named boundary is the present gap or idle
state. A node that is not in the gap which the root names waits for its own next boundary (log entry 137). -/
def namedStage (s : State) : Nat :=
  let n := s.txn.named
  let kind := s.txn.kind
  let after := if inKind kind s then 3 else if kind = 0 then 1 else 2
  if kind ≠ 0 ∧ kind ≠ 2 then 0
  else if n.swath = 0xFFFF then after
  else if s.bnd.lastEnd = some (n.layer, n.swath) ∧ n.next then 1
  else if s.bnd.lastEnd = some (n.layer, n.swath) ∧ !swathActive s then after
  else 0

/-- A PREPARE or the root's own COMMIT names the boundary: this node places itself against it. -/
def localise (s : State) : State := { s with txn.stage := namedStage s, txn.present := false }

/-- The named boundary of a validated transaction is the present gap, the present idle state or NOW (R42, R43). -/
def namedPresent (s : State) : Bool := s.txn.kind == 4 || (s.txn.stage == 3 && inKind s.txn.kind s)

/-- The named boundary passed while the cask was validated, and its gap or idle state is over: the node can no longer
meet it. It answers REFUSE with reason 0x09 (log entry 138). -/
def namedMissed (s : State) : Bool := s.txn.kind != 4 && s.txn.stage == 3 && !inKind s.txn.kind s

/-- The swath that has just ended is the one whose end the named boundary is (R42). -/
def endsNamed (s : State) : Bool :=
  let n := s.txn.named
  s.txn.stage == 1 || (s.txn.stage == 0 && !n.next && s.bnd.lastEnd == some (n.layer, n.swath))

/-- The LAYER in force is one that the named layer boundary waits for; a NAMED_LAYER of 0 with KIND LAYER says that
none is greater than the root's (R42, log entry 137). -/
def layerNamed (s : State) : Bool :=
  decide (s.txn.named.layer ≤ s.bnd.layer) && (s.txn.kind == 3 || decide (s.txn.named.layer ≠ 0))

/-- This boundary is the named one (R42, R46). -/
def hitsNamed (sw ly idle : Bool) (s : State) : Bool :=
  if s.txn.present || s.txn.stage == 3 then false
  else match s.txn.kind with
    | 0 => sw && endsNamed s
    | 1 => ly && layerNamed s
    | 3 => ly && layerNamed s
    | 2 => idle && s.txn.stage == 2
    | _ => false

/-- Follows the swath ends and boundaries that a named boundary counts: `hit` says that it has come. -/
def followEnds (sw hit : Bool) (s : State) : State :=
  let n := s.txn.named
  if hit then { s with txn.stage := 3 }
  else if !sw then s
  else if s.txn.kind = 2 ∧ endsNamed s then { s with txn.stage := 2 }
  else if s.txn.stage = 0 ∧ s.bnd.lastEnd = some (n.layer, n.swath) then { s with txn.stage := 1 }
  else s

/-! ### The two phases (R44-R46) -/

/-- The nodes whose votes the root collects: the group, and the root itself where its bit is set. -/
def voters (s : State) : List Nat := (List.range 63).filter (fun n => bit s.txn.group n && decide (1 ≤ n))

/-- The vote of node `n`; a missing one counts as a refusal with reason 0x09 (R44). -/
def voteOf (s : State) (n : Nat) : Vote := lookupD (.refuse 0 9 0) s.txn.votes n

/-- The refusal of the lowest-numbered refusing node (R45). -/
def firstRefusal (s : State) : Option (Nat × Nat × Nat × Nat) :=
  (voters s).findSome? (fun n => match voteOf s n with
    | .refuse t r a => some (n, t, a, r)
    | .ready => none)

/-- A pending decant whose boundary is the present one takes place at once (R30, R44, R47). -/
def decantIfPresent (s : State) : State := if s.txn.present then decant s else s

/-- The root decides (R44, R45): COMMIT_AT when every vote is READY, else ABORT. -/
def decide2 (s : State) : State :=
  let s1 := { s with txn.collecting := false }
  match firstRefusal s with
  | none =>
    let s2 := txnLees 0x82 (txnClearFault s1)
    decantIfPresent (sendNamed 5 { s2 with txn.phase := .pending })
  | some (n, t, a, r) =>
    rollback 0x88 (sendAbort (txnLees 0x83 (txnRefuseAt t a r n s1)))

/-- A vote comes in; the last one brings the decision. -/
def takeVote (n : Nat) (v : Vote) (s : State) : State :=
  if s.txn.collecting && (voters s).contains n then
    let s1 := { s with txn.votes := assocSet n v s.txn.votes }
    if (voters s1).all (fun m => s1.txn.votes.any (fun p => p.1 == m)) then decide2 s1 else s1
  else s

/-- A prepared node reaches its named boundary without COMMIT_AT or ABORT (R46). -/
def strand (s : State) : State :=
  let s1 := setTxnGate true { s with txn.phase := .stranded }
  sendEvent 0x10 s.txn.tag [0] (raise irqTxn (txnLees 0x87 s1))

/-- Step 3 of R401: the named boundary is judged before the deferred actions. On the root it cuts the vote
short (R44); a prepared node strands. The answer says whether the boundary was the named one. -/
def judgeNamed (sw ly idle : Bool) (s : State) : State × Bool :=
  let fabric := s.txn.scope != .localScope && (s.txn.phase == .validating || s.txn.phase == .prepared || s.txn.phase == .pending)
  let hit := fabric && hitsNamed sw ly idle s
  let s1 := if fabric then followEnds sw hit s else s
  if hit && s.txn.collecting then (decide2 s1, false)
  else if hit && s.txn.phase == .prepared then (strand s1, false)
  else (s1, hit)

/-- Step 1 of R21: a decant is due at this boundary (R20, R30, R44, R47). -/
def decantDue (sw ly idle hit : Bool) (s : State) : Bool :=
  let kindDue (kind target : Nat) : Bool :=
    match kind with
    | 0 => sw || ly || idle
    | 1 => ly
    | 2 => idle
    | 3 => ly && decide (target ≤ s.bnd.layer.toNat)
    | _ => false
  match s.txn.phase with
  | .pending => if s.txn.scope == .localScope then kindDue s.txn.kind s.txn.target.toNat else hit
  | .stranded => (match s.txn.late with | some l => kindDue l.1 l.2.toNat | none => false)
  | _ => false

/-! ### Validation (R28-R31) -/

/-- What validation of the cask finds: a fault, or a block that NOW finds busy (R31). -/
def judgeCask (k : Cask) (s : State) : Option VFault :=
  match caskFault k s with
  | some f => some f
  | none => if s.txn.kind = 4 && !caskIdle s k.touched then some (0, 0, 4) else none

/-- A local commit is accepted (R30): it decants at once where its boundary is the present state. A
LAYER_AT target the layer in force already reaches waits for any next layer boundary (log entry 62). -/
def acceptCommit (s : State) : State :=
  let t := BitVec.ofNat 32 (tnat32 s 0x06 0)
  let s1 := txnLees 0x82 (txnClearFault { s with
    txn.phase := .pending, txn.target := if t ≤ s.bnd.layer then 0 else t })
  let kind := s.txn.kind
  if kind = 4 ∨ (kind = 0 ∧ s.bnd.inGap) ∨ (kind = 2 ∧ s.bnd.idle) then decant s1 else s1

/-- BUSY is set with a refusal of reason 0x04 (R31). -/
def busyIf (r : Nat) (s : State) : State := if r = 4 then { s with txn.busy := true } else s

/-- What a node of a fabric-wide transaction answers for: the faults of its cask, or the named boundary missed. -/
def judgeVote (k : Cask) (s : State) : Option VFault :=
  match judgeCask k s with
  | some f => some f
  | none => if s.txn.scope != .localScope && namedMissed s then some (0, 0, 9) else none

/-- Validation of the node's cask has finished (R28, R44). -/
def validated (s : State) : State :=
  match s.txn.phase, s.txn.cask with
  | .validating, some k =>
    match judgeVote k s with
    | some (t, a, r) =>
      let s1 := busyIf r s
      (match s.txn.scope with
       | .localScope => txnRenew { txnLees 0x83 (txnRefuseAt t a r 0 s1) with txn.phase := .opened }
       | .root => takeVote 1 (.refuse t r a) s1
       | .member =>
         sendTo 1 0x08 0 [txnWord 4 s.txn.kind s.txn.tag false, word (t * 256 + r), word a]
           { txnLees 0x83 (txnRefuseAt t a r 0 s1) with txn.phase := .opened })
    | none =>
      (match s.txn.scope with
       | .localScope => acceptCommit s
       | .root => takeVote 1 .ready { s with txn.phase := .prepared, txn.present := namedPresent s }
       | .member => sendTo 1 0x08 0 [txnWord 3 s.txn.kind s.txn.tag false]
           { s with txn.phase := .prepared, txn.present := namedPresent s })
  | _, _ => s

/-! ### Commands of TXN_CTL (R49, R50) -/

/-- BEGIN (R23, R24, R40). -/
def txnBegin (c : TxnCtl) (s : State) : State :=
  if txnExists s then { s with txn.nested := true }
  else if c.bcast && !isRoot s then txnRefuse 7 s
  else
    let mask := if c.bcast then groupMask s s.vine.fabGroup else 0
    let own := !c.bcast || bit mask 1
    let s1 := txnRenew (txnClearFault { s with
      txn.phase := .opened, txn.scope := if c.bcast then .root else .localScope, txn.tag := c.tag.toNat
      txn.bcast := c.bcast, txn.group := mask, txn.late := none, txn.strandedMask := 0
      txn.cask := if own then some { mem := caskCells s.tbl } else none })
    let s2 := txnLees 0x81 s1
    if c.bcast then
      broadcast 0x08 0 ([txnWord 1 0 c.tag.toNat false, word s.txn.lease] ++ maskWords mask) s2
    else s2

/-- The late COMMIT of R47, on a root that is resolving: an accepted COMMIT, with its record (R29, R36). -/
def lateCommit (kind : Nat) (s : State) : State :=
  let t := if kind = 3 then tnat32 s 0x06 0 else 0
  broadcast 0x08 0 ([txnWord 5 kind s.txn.tag true] ++ wordsBE 2 t ++ [0, 0] ++ maskWords s.txn.group)
    (lees 0x02 0x82 [s.txn.tag, kind, 0] { txnClearFault s with txn.late := some (kind, BitVec.ofNat 32 t) })

/-- The root keeps the transaction in the resolving phase: a node of the group is stranded (R47), whatever the root's
own part of it still waits for. -/
def resolving (s : State) : Bool := s.txn.phase == .resolving || (txnRoot s && txnExists s && s.txn.strandedMask != 0)

/-- A COMMIT refused at its write: the refusal, with a lees record that carries the tag written (R36, log entry 139). -/
def refuseCommit (tag : Byte) (kind r : Nat) (s : State) : State :=
  lees 0x02 0x83 [tag.toNat, kind, r] (txnRefuse r s)

/-- COMMIT (R28, R44, R47). -/
def txnCommit (c : TxnCtl) (s : State) : State :=
  let kind := c.kind.toNat
  if resolving s then lateCommit kind s
  else if s.txn.phase ≠ .opened then refuseCommit c.tag kind 10 s
  else
    let s1 := { s with txn.kind := kind, txn.phase := .validating, txn.validUntil := s.tk + 250000 }
    if txnRoot s then
      let s2 := localise { s1 with
        txn.named := nameBoundary s kind, txn.collecting := true, txn.votes := [], txn.voteEnd := s.tk + 2500000 }
      let s3 := sendNamed 2 s2
      if (voters s3).isEmpty then decide2 s3 else s3
    else s1

/-- ROLLBACK (3) and ABORT (4) (R33, R41, R47). -/
def txnUndo (op : Nat) (s : State) : State :=
  let code := if op = 4 && s.txn.scope != .localScope then 0x88 else 0x85
  if s.txn.phase = .resolving then txnLees code (sendAbort s)
  else rollback code (if txnRoot s then sendAbort s else s)

/-- COMMIT, ROLLBACK or ABORT (R27, R40, R50). The tag is judged before the node's part in the transaction, and a
member answers reason 0x07 whatever phase its transaction is in (log entry 139). -/
def txnAct (op : Nat) (c : TxnCtl) (s : State) : State :=
  let refuse (r : Nat) : State := if op = 2 then refuseCommit c.tag c.kind.toNat r s else txnRefuse r s
  if !txnExists s then refuse 6
  else if c.tag.toNat ≠ s.txn.tag then
    (let s1 := { s with txn.tagerr := true }
     if op = 2 then lees 0x02 0x83 [c.tag.toNat, c.kind.toNat, s.txn.reason] s1 else s1)
  else if txnMember s then refuse 7
  else
    let s1 := if s.txn.phase = .opened then txnRenew s else s
    if op = 2 then txnCommit c s1 else txnUndo op s1

/-- A TXN_CTL write (R49, R50). VIEW takes effect on every write; NONE and a reserved OP or KIND store
nothing else (log entry 63). -/
def txnCtl (op : Nat) (c : TxnCtl) (s : State) : State :=
  let s1 := { s with txn.view := c.view }
  if op = 0 then
    (if s1.txn.phase = .opened ∧ c.tag.toNat = s1.txn.tag then txnRenew s1 else s1)
  else if op = 2 ∧ 5 ≤ c.kind.toNat then refuseCommit c.tag c.kind.toNat 5 s1
  else if 5 ≤ op then txnRefuse 5 s1
  else
    let s2 := { s1 with txn.kindWritten := c.kind.toNat }
    if op = 1 then txnBegin c s2 else txnAct op c s2

/-! ### Writes to cask-able state (R24, R25, R39) -/

/-- A write into the open cask, which renews the lease (R24, R25). -/
def caskWrite (k : Cask) (t a : Nat) (d : Word) (s : State) : State :=
  let e := (t, caskEntry t a)
  txnRenew { s with txn.cask := some {
    mem := cellSet tblDefault (tkey t a) d k.mem
    touched := if k.touched.contains e then k.touched else k.touched ++ [e] } }

/-- A write outside a transaction (R39): at once if the block is idle, else discarded with BUSY. -/
def directWrite (t a : Nat) (d : Word) (s : State) : State :=
  if entryIdle s t (caskEntry t a) then afterCask s [(t, caskEntry t a)] (tset t a d s)
  else { s with txn.busy := true }

/-- A write of word `a` of cask-able table `t` (R25, R39). -/
def ckWrite (t a : Nat) (d : Word) (s : State) : State :=
  match s.txn.cask with
  | some k =>
    if s.txn.phase = .opened then caskWrite k t a d s
    else if hasT k.touched [t] then txnRefuse 11 s
    else directWrite t a d s
  | none => directWrite t a d s

/-! ### TXN packets received (R40-R47) -/

/-- A packet of the root for the group `mask` acts on this node (R86). -/
def groupPacket (h : Hdr) (mask : Nat) (s : State) : Bool :=
  clocked s && h.src == 1 && s.vine.nodeId != 0 && !isRoot s && bit mask s.vine.nodeId

/-- A TXN packet of the root is taken in; `f` is what it does on a node of the group. -/
def groupStep (h : Hdr) (mask : Nat) (f : State → State) (s : State) : State :=
  if vineOn s && (isNode s h.dst.toNat || h.dst == 63 && s.vine.nodeId != 0) then
    let s1 := arrived h.dst.toNat 0 h.src.toNat s
    if groupPacket h mask s then f s1 else s1
  else s

/-- This node is a member of the transaction with this tag. -/
def memberOf (tag : Nat) (s : State) : Bool := txnMember s && txnExists s && s.txn.tag == tag

/-- BEGIN received (R40, R41). -/
def recvBegin (tag lease : Nat) (s : State) : State :=
  if txnExists s then { s with txn.nested := true }
  else txnLees 0x81 (txnClearFault { s with
    txn.phase := .opened, txn.scope := .member, txn.tag := tag, txn.bcast := true, txn.late := none
    txn.carriedLease := lease, txn.lastFromRoot := s.tk, txn.cask := some { mem := caskCells s.tbl } })

/-- PREPARE received (R44). -/
def recvPrepare (tag kind : Nat) (n : Named) (s : State) : State :=
  if memberOf tag s && s.txn.phase == .opened then
    localise { s with txn.kind := kind, txn.named := n, txn.phase := .validating, txn.validUntil := s.tk + 250000 }
  else s

/-- A late COMMIT reaches a stranded node (R47). -/
def recvLate (kind : Nat) (t : BitVec 32) (s : State) : State :=
  let s1 := { s with txn.late := some (kind, t) }
  if kind = 4 ∨ (kind = 0 ∧ s.bnd.inGap) ∨ (kind = 2 ∧ s.bnd.idle) then decant s1 else s1

/-- COMMIT_AT received (R44, R46, R47). It is no COMMIT written on the node, so it clears none of the fault values of
R29 (log entry 141). -/
def recvCommitAt (tag kind : Nat) (late : Bool) (n : Named) (s : State) : State :=
  if !memberOf tag s then s
  else if late then (if s.txn.phase = .stranded then recvLate kind n.layer s else s)
  else if s.txn.phase = .prepared then decantIfPresent { txnLees 0x82 s with txn.phase := .pending }
  else s

/-- ABORT received (R41, R44, R47). -/
def recvAbort (tag : Nat) (s : State) : State := if memberOf tag s then rollback 0x88 s else s

/-- EVENT stranded reaches the root (R46, R47). -/
def recvStranded (node tag : Nat) (s : State) : State :=
  if isRoot s && txnRoot s && s.txn.tag == tag && bit s.txn.group node then
    { s with
      txn.strandedMask := s.txn.strandedMask ||| 2 ^ node
      txn.phase := if s.txn.phase = .none then .resolving else s.txn.phase }
  else s

/-- EVENT stranding resolved reaches the root (R47). Only this report takes a node out of the stranded ones: a stranded
node whose core resets reports nothing, and the root stays resolving until its own core resets (log entry 142). -/
def recvResolved (node tag : Nat) (s : State) : State :=
  if isRoot s && txnRoot s && s.txn.tag == tag && bit s.txn.strandedMask node then
    let m := s.txn.strandedMask - 2 ^ node
    { s with
      txn.strandedMask := m
      txn.phase := if m = 0 ∧ s.txn.phase = .resolving then .none else s.txn.phase }
  else s

/-! ### Meanings -/

/-- A TXN_CTL write where the port's registers answer: it is an anchor register (R64, R328). -/
def txnReg (op : Nat) (c : TxnCtl) (s : State) : State := if portDecodes s then txnCtl op c s else s

/-- TXN_NONE (R49). -/
def execTxnNone (c : TxnCtl) (s : State) : Out := .next (txnReg 0 c s)
/-- TXN_BEGIN (R24). -/
def execTxnBegin (c : TxnCtl) (s : State) : Out := .next (txnReg 1 c s)
/-- TXN_COMMIT (R28). -/
def execTxnCommit (c : TxnCtl) (s : State) : Out := .next (txnReg 2 c s)
/-- TXN_ROLLBACK (R33). -/
def execTxnRollback (c : TxnCtl) (s : State) : Out := .next (txnReg 3 c s)
/-- TXN_ABORT (R41). -/
def execTxnAbort (c : TxnCtl) (s : State) : Out := .next (txnReg 4 c s)
/-- TXN_RESERVED_OP (R50): codes 5 to 7. -/
def execTxnReservedOp (op : BitVec 3) (c : TxnCtl) (s : State) : Out :=
  if op.toNat < 5 then .fault .malformedOperand else .next (txnReg op.toNat c s)
/-- VALIDATION_COMPLETE (R30). -/
def execValidationComplete (s : State) : Out := .next (if portDecodes s then validated s else s)
/-- LEASE_EXPIRY (R34). -/
def execLeaseExpiry (s : State) : Out :=
  .next (if coreRuns s && decide (s.pwr.state ≤ 2) && s.txn.phase == .opened && !txnMember s
      && decide (s.txn.leaseEnd ≤ s.tk) then expire s else s)
/-- MEMBER_LEASE_EXPIRY (R41): open but not prepared, and silent for longer than the carried lease. -/
def execMemberLeaseExpiry (s : State) : Out :=
  .next (if coreRuns s && decide (s.pwr.state ≤ 2) && txnMember s
      && (s.txn.phase == .opened || s.txn.phase == .validating)
      && decide (s.txn.lastFromRoot + msTk s.txn.carriedLease < s.tk) then expire s else s)
/-- VOTE_TIMEOUT (R44). -/
def execVoteTimeout (s : State) : Out :=
  .next (if clocked s && s.txn.collecting && decide (s.txn.voteEnd ≤ s.tk) then decide2 s else s)
/-- BEGIN (R40). -/
def execPktBegin (h : Hdr) (tag : Byte) (lease : Word) (mask : BitVec 64) (s : State) : Out :=
  .next (groupStep h mask.toNat (recvBegin tag.toNat lease.toNat) s)
/-- PREPARE (R44). -/
def execPktPrepare (h : Hdr) (tag : Byte) (kind : BitVec 3) (named : Named) (mask : BitVec 64) (s : State) : Out :=
  .next (groupStep h mask.toNat (recvPrepare tag.toNat kind.toNat named) s)
/-- A vote packet from a node reaches the root (R44). -/
def votePacket (h : Hdr) (tag : Byte) (v : Vote) (s : State) : State :=
  takeUnicast h.dst.toNat h.src.toNat (fun s1 =>
    if isRoot s && s.txn.tag == tag.toNat then takeVote h.src.toNat v s1 else s1) s

/-- READY (R44). -/
def execPktReady (h : Hdr) (tag : Byte) (s : State) : Out := .next (votePacket h tag .ready s)
/-- REFUSE (R45). -/
def execPktRefuse (h : Hdr) (tag : Byte) (table reason : Byte) (addr : Word) (s : State) : Out :=
  .next (votePacket h tag (.refuse table.toNat reason.toNat addr.toNat) s)
/-- COMMIT_AT (R44, R47). -/
def execPktCommitAt (h : Hdr) (tag : Byte) (kind : BitVec 3) (late : Bool) (named : Named) (mask : BitVec 64)
    (s : State) : Out :=
  .next (groupStep h mask.toNat (recvCommitAt tag.toNat kind.toNat late named) s)
/-- ABORT (R41). -/
def execPktAbort (h : Hdr) (tag : Byte) (mask : BitVec 64) (s : State) : Out :=
  .next (groupStep h mask.toNat (recvAbort tag.toNat) s)
/-- EVENT stranded (R47). -/
def execEventStranded (node : BitVec 6) (tag : Byte) (s : State) : Out :=
  .next (takeAtRoot node.toNat (recvStranded node.toNat tag.toNat) s)
/-- EVENT stranding resolved (R47). -/
def execEventStrandingResolved (node : BitVec 6) (tag : Byte) (value : Word) (s : State) : Out :=
  .next (takeAtRoot node.toNat (fun s1 =>
    if value == 1 || value == 2 then recvResolved node.toNat tag.toNat s1 else s1) s)
/-- V3_EXTEND (R338). -/
def execV3Extend (s : State) : Out := .next (if clocked s then v3Extend s else s)

end Sys2Proof.Machine
end

