-- ==== Sys2Proof/Machine/Boundary.lean ====
section
/-! DEFINITION. Layers and boundaries (R13-R22, R401): layer declarations, the idle boundary, and what
happens at every boundary. -/

namespace Sys2Proof.Machine

/-- Steps 3 and 4 of R401, and R21: the named boundary is judged, then the deferred actions due run in the
order decant, calibration, substitution, WDAC correction, write-back, gate closures. -/
def deferredActions (sw ly idle : Bool) (s : State) : State :=
  let j := judgeNamed sw ly idle s
  let s1 := if decantDue sw ly idle j.2 j.1 then decant j.1 else j.1
  let s2 := writebacks (correctWdacs (applyPrepared (applyCalibration idle s1)))
  if ly then unsyncedClosures s2 else s2

/-- BOUNDARY.LAST: 1 swath, 2 layer, 3 idle; a layer boundary that comes with a swath boundary shows as the
layer boundary (R49). -/
def lastKind (sw ly : Bool) : Nat := if ly then 2 else if sw then 1 else 3

/-- A boundary (R16, R20, R21, R401): the deferred actions, the forced gap, and BOUND once all is done. -/
def boundaryEvent (sw ly idle : Bool) (s : State) : State :=
  let s1 := deferredActions sw ly idle { s with bnd.last := lastKind sw ly }
  let s2 := if sw then startForced s1 else s1
  raise irqBound (if idle then endForced s2 else s2)

/-- A write to LAYER_LO (R13, R18): the declaration takes effect with a layer boundary, or is held while a
swath is active, replacing one already held. Before UP no boundary occurs (R17): a declaration of the configuration
image sets LAYER alone (log entry 145). -/
def declareLayer (lo : Word) (s : State) : State :=
  let v : BitVec 32 := s.bnd.layerHi ++ lo
  if swathActive s then { s with bnd.held := some v, bnd.lrepl := s.bnd.lrepl || s.bnd.held.isSome }
  else if !isUp s then { s with bnd.layer := v, bnd.lrepl := false }
  else boundaryEvent false true false { s with bnd.layer := v, bnd.lrepl := false }

/-- The idle boundary is due (R16, R17). -/
def idleDue (s : State) : Bool :=
  clocked s && !swathActive s && !s.bnd.idle && decide (s.bnd.gapFrom + msTk s.bnd.idleMin ≤ s.tk)

/-- The idle boundary, where it is due (R16): also at the exit from a sleep in which it fell due (R366). -/
def idleBoundary (s : State) : State :=
  if idleDue s then boundaryEvent false false true { s with bnd.idle := true } else s

/-- A swath has ended with its record written: the gap begins, a held declaration takes effect, and the
boundary runs (R17, R18, R401). -/
def swathBoundary (layer : BitVec 32) (swath : Word) (s : State) : State :=
  let s1 := { s with
    bnd.lastEnd := some (layer, swath), bnd.inGap := true, bnd.idle := false, bnd.gapFrom := s.tk }
  match s1.bnd.held with
  | some v => boundaryEvent true true false { s1 with bnd.layer := v, bnd.held := none, bnd.lrepl := false }
  | none => boundaryEvent true false false s1

/-! ### Meanings -/

/-- LAYER_HI_WRITE (R13): the upper half is staged. -/
def execLayerHiWrite (data : Word) (s : State) : Out :=
  .next (if clocked s then routedOp (.reg 0x1D false data) (fun st => { st with bnd.layerHi := data }) s else s)

/-- LAYER_LO_WRITE (R13, R18). -/
def execLayerLoWrite (data : Word) (s : State) : Out :=
  .next (if clocked s then routedOp (.reg 0x1C false data) (declareLayer data) s else s)

/-- IDLE_BOUNDARY (R16). -/
def execIdleBoundary (s : State) : Out :=
  .next (idleBoundary s)

end Sys2Proof.Machine
end

