-- ==== Sys2Proof/Machine/Swath.lean ====
section
/-! DEFINITION. Swath data and admission (R188-R214): the Harvest port, SWATH_DATA packets, slots,
descriptors, arming, the speed test, admission, its coordination over a fabric, and the swath's end. -/

namespace Sys2Proof.Machine

/-! ### Flags and counters (R212-R214) -/

/-- A W1C flag of INGEST_STAT is set, which raises INGEST (R213). -/
def ingFlag (f : Ingest → Ingest) (s : State) : State := raise irqIngest { s with ing := f s.ing }

/-- A refused command or descriptor write (R196, R199, R214). -/
def ingRefuse (s : State) : State := ingErr 5 (ingFlag (fun i => { i with cmderr := true }) s)

/-- A stale block (R190, R195, R197). -/
def staleBlock (s : State) : State := ingErr 4 (bump 0x45 79 s)

/-- Slot `sl`. -/
def slotOf (s : State) (sl : Nat) : Slot := s.ing.slots.getD sl {}

/-- Changes slot `sl`. -/
def setSlot (sl : Nat) (f : Slot → Slot) (s : State) : State := { s with ing.slots := modifyNth f s.ing.slots sl }

/-- Missing data of slot `sl` (R197). -/
def slotGap (sl : Nat) (s : State) : State :=
  ingErr 3 (bump 0x45 76 (ingFlag (fun i => { i with gap := true }) (setSlot sl (fun x => { x with gap := true }) s)))

/-! ### Blocks into slots (R195-R198) -/

/-- The data of a block goes into its slot from the fill mark on; what lies beyond BYTES, or beyond the slot
(log entry 64), is discarded (R197). -/
def fillSlot (sl : Nat) (data : List Byte) (s : State) : State :=
  let fill := (slotOf s sl).fill
  let room := min (descBytes s sl) (slotSize s sl) - fill
  let s1 := setSlot sl (fun x => { x with gap := false, fill := fill + min room data.length }) { s with
    swathRam := cellSetRun ramDefault (slotBase s sl + fill) (data.take room) s.swathRam }
  if room < data.length then ingErr 0x0A (bump 0x45 81 s1) else s1

/-- A block whose SWATH matches its slot's descriptor (R197). -/
def placeBlock (b : DataBlock) (s : State) : State :=
  let sl := b.slot.toNat
  if b.offset.toNat = (slotOf s sl).fill then fillSlot sl (unpackWords b.data) s else slotGap sl s

/-- A block for a slot of this node (R195-R197); none where it is held. -/
def takeBlock (b : DataBlock) (s : State) : Option State :=
  let sl := b.slot.toNat
  let same := descW s sl 2 == b.swath.toNat
  if slotSize s sl = 0 then some (staleBlock s)
  else match (slotOf s sl).st with
    | .empty => none
    | .done => none
    | .filling => some (if same then placeBlock b s else staleBlock s)
    | _ => if same then some (placeBlock b s) else none

/-- The payload of a SWATH_DATA packet (R189). -/
def blockWords (b : DataBlock) : List Word :=
  [word (b.slot.toNat * 8192 + atBit b.last 12), b.swath] ++ wordsBE 2 b.offset.toNat ++ b.data

/-- The 512-byte units of the packet that carries a block (R89). -/
def blockUnits (b : DataBlock) : Nat := ceilDiv (12 + 2 * (4 + b.data.length)) 512

/-- A Harvest block goes to its node (R188, R190); none where it waits for its slot or for Vine credit. -/
def routeBlock (n : Nat) (b : DataBlock) (s : State) : Option State :=
  if n = 0 ∨ n = s.vine.nodeId then takeBlock b s
  else if n = 63 ∨ routeOf s n = 0 then some (staleBlock s)
  else
    let pt := portOf s (routeOf s n - 1)
    if pt.up && (decide (pt.credit2 < blockUnits b) || pt.txq.any (fun q => q.cls == 2)) then none
    else some (sendTo n 0x18 2 (blockWords b) s)

/-- The blocks of the FIFO leave in order, until one is held (R190, R198). -/
def drainFifo : List (Nat × DataBlock) → State → State
  | [], s => { s with ing.fifo := [] }
  | (n, b) :: rest, s =>
    match routeBlock n b s with
    | some t => drainFifo rest t
    | none => { s with ing.fifo := (n, b) :: rest }

/-- A bulk buffer of port `p` is freed and its credit returned (R89). -/
def freeBulk (p : Nat) (b : DataBlock) (s : State) : State :=
  creditBack p 2 (blockUnits b) (setPort p (fun q => { q with used2 := q.used2 - blockUnits b }) s)

/-- The held blocks of the Vine buffers that their slots can take now (R198). -/
def drainHeld : List (Nat × DataBlock) → State → State
  | [], s => { s with ing.vineHeld := [] }
  | (p, b) :: rest, s =>
    match takeBlock b s with
    | some t => drainHeld rest (freeBulk p b t)
    | none => let t := drainHeld rest s; { t with ing.vineHeld := (p, b) :: t.ing.vineHeld }

/-! ### The Harvest port (R188-R193, R211) -/

/-- Free words of the 4 KiB ingest FIFO. -/
def hvFree (s : State) : Nat := 2048 - (s.ing.hvBuf.length + s.ing.fifo.foldl (fun n x => n + 7 + x.2.data.length) 0)

/-- HV_RDY is to be high (R191). -/
def hvRdy (s : State) : Bool := s.ing.hvOn && decide (8 ≤ hvFree s)

/-- HV_CLK rises in the present TK (R191): in every second one. On which of two it rises is open. -/
def hvRises (s : State) : Bool := (s.tk + Config.openValue 191 0) % 2 == 0

/-- HV_RDY goes to `r`: its low time while the port is enabled is counted, and THROTTLED set where it falls (R211). -/
def hvRdyTo (r : Bool) (s : State) : State :=
  if r then
    { s with
      ing.rdy := true, ing.rdyLowFrom := none
      ing.lowTk := s.ing.lowTk + (match s.ing.rdyLowFrom with | some t => s.tk - t | none => 0) }
  else if s.ing.rdy then ingFlag (fun i => { i with rdy := false, throttled := true, rdyLowFrom := some s.tk }) s
  else s

/-- What follows a rising edge of HV_CLK (R191, R192): the level HV_RDY had at it is kept, and HV_RDY follows the FIFO. -/
def hvEdge (s : State) : State :=
  hvRdyTo (hvRdy s) { s with ing.rdyEdges := (s.ing.rdy :: s.ing.rdyEdges).take 4 }

/-- The block of a complete Harvest block's words (R188). -/
def harvestBlockOf (ws : List Word) : DataBlock :=
  let r := (nth ws 1).toNat
  { slot := BitVec.ofNat 3 (bits r 9 7), last := bit r 6, swath := nth ws 2
    offset := BitVec.ofNat 32 (field ws 3 2), data := (ws.drop 6).take (nth ws 5).toNat }

/-- A bad block is discarded whole (R193). -/
def badBlock (s : State) : State :=
  ingErr 2 (bump 0x45 75 (ingFlag (fun i => { i with hvbad := true, hvBuf := [], hvSkip := 0 }) s))

/-- A complete block is checked when its CHECK word has arrived (R188, R193). -/
def checkBlock (ws : List Word) (s : State) : State :=
  let r := (nth ws 1).toNat
  if sumWords ws ≠ 0xFFFF ∨ bits r 5 0 ≠ 0 then badBlock s
  else
    let s1 := { s with ing.hvBuf := [] }
    drainFifo (s.ing.fifo ++ [(bits r 15 10, harvestBlockOf ws)]) s1

/-- An accepted word (R193). The words of a block whose NWORDS is above 508 pass up to its CHECK word, with which it is
found bad; none of them is held in the FIFO (log entry 156). -/
def takeWord (w : Word) (s : State) : State :=
  if 1 < s.ing.hvSkip then { s with ing.hvSkip := s.ing.hvSkip - 1 }
  else if s.ing.hvSkip = 1 then badBlock s
  else if s.ing.hvBuf.isEmpty then
    (if w = 0xA5C3 then { s with ing.hvBuf := [w] } else bump 0x45 80 s)
  else
    let ws := s.ing.hvBuf ++ [w]
    if ws.length = 6 ∧ 508 < w.toNat then { s with ing.hvBuf := ws, ing.hvSkip := w.toNat + 1 }
    else if 7 ≤ ws.length ∧ ws.length = 7 + (nth ws 5).toNat then checkBlock ws s
    else { s with ing.hvBuf := ws }

/-- A word at a rising edge of HV_CLK is accepted (R192): HV_RDY was high at one of the four edges before. A full FIFO
takes no word (log entry 66). -/
def wordOk (s : State) : Bool := s.ing.rdyEdges.any (fun r => r) && hvFree s != 0

/-- One rising edge of HV_CLK, with HV_D where HV_VALID is 1 (R191-R193). -/
def harvestEdge (s : State) (x : Option Word) : State :=
  hvEdge (match x with
    | some w => if wordOk s then takeWord w s
        else ingErr 1 (bump 0x45 74 (ingFlag (fun i => { i with overrun := true }) s))
    | none => s)

/-- A rising edge in the present TK, with nothing valid at it. -/
def hvClock (s : State) : State := if clocked s && s.ing.hvOn && hvRises s then hvEdge s else s

/-! ### Arming (R199, R207) -/

/-- The descriptor of slot `sl` passes the checks of ARM (R199). -/
def armOk (s : State) (sl : Nat) : Bool :=
  let f := descFormat s sl
  (slotOf s sl).st == .filling
    && sumWords (twords s 0x40 (16 * sl) 16) == 0xFFFF
    && fmtCount s f != 0 && decide (fmtFirst s f + fmtCount s f ≤ 256) && (fmtChans s f).all (chUsed s)
    && decide (descBytes s sl ≤ slotSize s sl)
    && (fmtRle s f || descBytes s sl == descCols s sl * rawColumn s f)
    && descCols s sl != 0 && descPitch s sl != 0 && descVreq s sl != 0
    && decide (1 ≤ descVmin s sl) && decide (descVmin s sl ≤ 100)

/-- The head of the arm queue. -/
def armHead (s : State) : Option Nat := s.ing.armq.head?

/-- A new head of the arm queue, if there is one: its wait starts (R208, log entry 65), and nothing has been reported or
admitted for it yet. -/
def newHead (s : State) : State :=
  { s with
    ing.admitValue := none, ing.lastReport := none, ing.seqSeen := none, ing.starveDone := false
    ing.waitFrom := if s.ing.armq.isEmpty then none else some s.tk }

/-- ARM (R199). -/
def armOp (sl : Nat) (s : State) : State :=
  if armOk s sl then
    let s1 := setSlot sl (fun x => { x with st := .armed }) { s with ing.armq := s.ing.armq ++ [sl] }
    if s.ing.armq.isEmpty then newHead s1 else s1
  else ingRefuse s

/-! ### Swath end (R148, R150, R207, R401) -/

/-- The grid leaves the swath: its gate closures of the swath end (R148, R150), and a region that a
reversal holds open closes, for acquisition to start again (R148). -/
def gridSwathEnd (s : State) : State :=
  let turned := gridSrc s == 1 && s.grid.openRegion.isSome && (encOf s (gridUnit s)).down != s.grid.dirDown
  gridGate { (if turned then gridUnlock s else s) with grid.gateShut := false, grid.gatePolicy := false }

/-- The swath in flight ends (R207): the slot becomes DONE, its record is written, and the boundary runs. -/
def endSwath (s : State) : State :=
  match s.ing.active with
  | some a =>
    let s1 := setSlot a.slot (fun x => { x with st := .done }) (writeRecord a.rcd { s with ing.active := none })
    swathBoundary a.rcd.layer a.rcd.swath (gridSwathEnd s1)
  | none => s

/-- The end of the swath in flight is reached (R207): every unit is past its last column and every fire has
completed. -/
def swathOver (s : State) : Bool :=
  match s.ing.active with
  | some a =>
    a.next.all (fun p => decide ((unitCols s a.slot p.1).2 < p.2)) && s.jet.fires.all (fun f => decide (f.fireEnd ≤ s.tk))
  | none => false

/-- CANCEL (R199, R207); of a slot neither ARMED nor ACTIVE it is refused (log entry 67). -/
def cancelOp (sl : Nat) (s : State) : State :=
  match (slotOf s sl).st with
  | .armed =>
    let s1 := setSlot sl (fun x => { x with st := .done }) { s with ing.armq := s.ing.armq.filter (· != sl) }
    if armHead s = some sl then newHead s1 else s1
  | .active => endSwath (onActiveRec (fun r => { r with state := 3, disc := gridUnits s }) s)
  | _ => ingRefuse s

/-! ### Commands of table 0x45 (R191, R214) -/

/-- HV_ON and HV_OFF (R191): the FIFO and a block in progress are kept (log entry 68). HV_RDY is low until the first
edge of a port that is switched on, and while it is off. -/
def hvSwitch (on : Bool) (s : State) : State :=
  if on == s.ing.hvOn then s
  else if on then { s with ing.hvOn := true, ing.rdyLowFrom := some s.tk }
  else
    { s with
      ing.hvOn := false, ing.rdy := false, ing.rdyEdges := [], ing.rdyLowFrom := none
      ing.lowTk := s.ing.lowTk + (match s.ing.rdyLowFrom with | some t => s.tk - t | none => 0) }

/-- A write of table 0x45 word 0 (R195, R214). -/
def ingCmd (op sl : Nat) (s : State) : State :=
  match op with
  | 0 => s
  | 1 => if slotSize s sl = 0 then ingRefuse s else armOp sl s
  | 2 => if slotSize s sl = 0 then ingRefuse s else cancelOp sl s
  | 3 => hvSwitch true s
  | 4 => hvSwitch false s
  | _ => ingRefuse s

/-- A write of table 0x45 word 0, which a power entry holds (R359). -/
def ingWrite (op sl : Nat) (s : State) : State :=
  if entryHolds s && op != 0 then holdCmd (.ing op sl) s else ingCmd op sl s

/-- A command of table 0x45 where the core is clocked. -/
def ingReg (op sl : Nat) (s : State) : State := if clocked s then routedOp (.ing op sl) (ingWrite op sl) s else s

/-- A counter of table 0x45 clears (R214). -/
def ingCounter (a : Nat) (s : State) : State :=
  if a = 72 ∨ a = 73 then { s with ing.lowTk := 0, ing.rdyLowFrom := s.ing.rdyLowFrom.map (fun _ => s.tk) }
  else if 74 ≤ a ∧ a ≤ 83 then tset 0x45 a 0 s
  else s

/-- The bits of a descriptor word that are not reserved (R6, R214). -/
def descMask (o : Nat) : Word := match o with | 3 => 0xFE07 | 13 => 0x007F | _ => 0xFFFF

/-- A write of a descriptor word (R196); the reserved word of a slot ignores it (R71). -/
def descriptorWrite (a : Nat) (raw : Word) (s : State) : State :=
  let sl := a / 16
  let d := raw &&& descMask (a % 16)
  match (slotOf s sl).st with
  | .armed => ingRefuse s
  | .active => ingRefuse s
  | .filling => if a % 16 = 14 then s else tset 0x40 a d s
  | _ =>
    if a % 16 = 14 then s
    else tset 0x40 a d (setSlot sl (fun x => { x with st := .filling, fill := 0, gap := false }) s)

/-! ### The speed test (R206) -/

/-- The largest MIN_INTERVAL over the groups of a format's channels; a format without a group in use does
not limit the speed. -/
def formatInterval (s : State) (f : Nat) : Nat :=
  ((fmtChans s f).map (fun c => unitInterval s (c / 8))).foldl max 1

/-- GRATE. -/
def grate (s : State) : Nat := tnat s 0x41 40

/-- v of the speed test (R206). -/
def speedOf (s : State) (sl : Nat) : Nat :=
  let span := descCols s sl * descPitch s sl
  let by_ := descBytes s sl
  let need := ceilDiv (by_ * 17) 16
  let fill := (slotOf s sl).fill
  let vreq := descVreq s sl
  let vfire := descPitch s sl * 250000 / formatInterval s (descFormat s sl)
  let vread := if by_ = 0 then vreq else 4000000 * span / by_
  let vdata := if fill = by_ then vreq else grate s * 1000 * span / (need - fill)
  min (min vreq vfire) (min vread vdata)

/-- F, the speed floor of a slot (R206, R209). -/
def speedFloor (s : State) (sl : Nat) : Nat := ceilDiv (descVreq s sl * descVmin s sl) 100

/-- The speed test passes (R206). -/
def speedPass (s : State) (sl : Nat) : Bool := decide (speedFloor s sl ≤ speedOf s sl)

/-! ### Admission (R206, R207) -/

/-- The conditions of R206 on the gap: the node is in RUN and in the gap, with no hold of R43, of a forced gap (R379) or
of a power entry (R359). -/
def gapOpen (s : State) : Bool :=
  clocked s && s.pwr.state == 0 && !entryHolds s && !swathActive s && s.bnd.inGap && !prepHolds s && !s.cal.forcing

/-- The descriptor's LAYER. -/
def descLayer (s : State) (sl : Nat) : BitVec 32 := BitVec.ofNat 32 (tnat32 s 0x40 (16 * sl))

/-- The trigger channels of the units that hold a channel of the format (R163). -/
def formatTrigs (s : State) (f : Nat) : List Nat :=
  ((fmtChans s f).filterMap (fun c => if chUsed s c then unitTrig s (c / 8) else none)).eraseDups

/-- The first trigger column of a unit whose target P has not reached yet (R145, log entry 69). -/
def firstColumn (s : State) (sl t : Nat) : Int :=
  let d := dirSign (descRev s sl)
  max (unitCols s sl t).1 ((d * gridP s - d * target s sl t 0 * gu) / (descPitch s sl * gu) + 1)

/-- The swath that an admission of slot `sl` puts in flight. -/
def newActive (s : State) (sl : Nat) : Active :=
  { slot := sl
    rcd := { serial := s.grid.serial, layer := s.bnd.layer, swath := tget s 0x40 (16 * sl + 2), pass := descPass s sl }
    next := (formatTrigs s (descFormat s sl)).map (fun t => (t, firstColumn s sl t))
    starvedChans := []
    from_ := s.tk }

/-- PEN: the print axis is coupled to the swath permits (R265). -/
def printAxisOn (s : State) : Bool := bit (tnat s 0x60 256) 15

/-- Admission of slot `sl` at speed `v` (R207, R265). -/
def admitSlot (sl v : Nat) (s : State) : State :=
  let s1 := setSlot sl (fun x => { x with st := .active, vplan := v }) { s with
    ing.active := some (newActive s sl), ing.armq := s.ing.armq.filter (· != sl)
    bnd.swath := tget s 0x40 (16 * sl + 2), bnd.inGap := false, bnd.idle := false
    grid.serial := s.grid.serial + 1, grid.pHeld := gridP s, grid.gateShut := false, grid.gatePolicy := false }
  let s2 := raise irqIngest (newHead (relayAtAdmission (gridGate s1)))
  let s3 := if v < descVreq s sl then bump 0x45 83 (ingFlag (fun i => { i with clamped := true }) s2) else s2
  if printAxisOn s && !descFabric s sl then addPermit v s3 else s3

/-- A mismatch of the head's LAYER, once for each head and LAYER (R206). -/
def layerMismatch (sl : Nat) (s : State) : State :=
  if s.ing.seqSeen = some (sl, s.bnd.layer) then s
  else ingErr 8 (ingFlag (fun i => { i with seqerr := true, seqSeen := some (sl, s.bnd.layer) }) s)

/-- During a forced gap, the TK in which the speed test first passes is noted (R379). -/
def noteForcedTest (s : State) : State :=
  match armHead s with
  | some sl =>
    if s.cal.forcing && s.cal.forceTestAt.isNone && speedPass s sl then { s with cal.forceTestAt := some s.tk } else s
  | none => s

/-- The head of the arm queue is considered for admission (R206, R209). -/
def tryAdmit (s : State) : State :=
  match armHead s with
  | some sl =>
    if !gapOpen s then noteForcedTest s
    else if descLayer s sl ≠ s.bnd.layer then layerMismatch sl s
    else if !speedPass s sl then s
    else if descFabric s sl then
      (match s.ing.admitValue with | some v => admitSlot sl (64 * v) s | none => s)
    else admitSlot sl (speedOf s sl) s
  | none => s

/-! ### Admission over a fabric (R209) -/

/-- The head of the arm queue is a FABRIC slot. -/
def fabricHead (s : State) : Option Nat :=
  match armHead s with
  | some sl => if descFabric s sl && !swathActive s then some sl else none
  | none => none

/-- An ADMIT reaches this node's FABRIC head slot. -/
def takeAdmit (v : Nat) (s : State) : State :=
  if (fabricHead s).isSome then { s with ing.admitValue := some v } else s

/-- The nodes whose reports the root needs: the group ADMGRP, the root itself only while it holds an armed
FABRIC slot. -/
def admitNodes (s : State) : List Nat :=
  let m := groupMask s (bits (tnat s 0x41 41) 6 4)
  (List.range 63).filter (fun n => bit m n && decide (1 ≤ n) && (n != 1 || s.ing.armq.any (descFabric s)))

/-- The root judges the reports (R209 step 2): ADMIT to every node with the least speed, a permit for the
print axis, or SEQERR. The reports are used up by an ADMIT (log entry 70); its ARG is open (log entry 14). -/
def rootJudge (s : State) : State :=
  let rs := (admitNodes s).filterMap (fun n => s.ing.reports.find? (fun r => r.1 == n))
  let sws := (rs.map (fun r => r.2.1)).eraseDups
  let least := (rs.map (fun r => r.2.2.1)).foldl min 0xFFFF
  let floor := (rs.map (fun r => r.2.2.2)).foldl max 0
  if rs.isEmpty then s
  else if 1 < sws.length then ingErr 8 (ingFlag (fun i => { i with seqerr := true }) s)
  else if rs.length = (admitNodes s).length ∧ floor ≤ least then
    let arg := Config.openValue 209 s.free % 256
    let s1 := broadcast 0x09 0 [word (0x41 * 256 + arg), word least] { s with free := s.free + 1, ing.reports := [] }
    takeAdmit least (if printAxisOn s then addPermit (64 * least) s1 else s1)
  else s

/-- A report reaches the root. -/
def takeReport (n sw v f : Nat) (s : State) : State :=
  rootJudge { s with ing.reports := (n, sw, v, f) :: s.ing.reports.filter (fun r => r.1 != n) }

/-- This node's report is sent to the root, or held by the root itself (R209 step 1). -/
def sendReport (sl v f : Nat) (s : State) : State :=
  let sw := descW s sl 2 % 256
  let s1 := { s with ing.lastReport := some (v, f) }
  if isRoot s then takeReport 1 sw v f s1
  else sendTo 1 0x09 0 [word (0x40 * 256 + sw), word v, word f] s1

/-- ADMIT_READY of the FABRIC head slot (R209 step 1). -/
def reportHead (s : State) : State :=
  match fabricHead s with
  | some sl =>
    let f := ceilDiv (speedFloor s sl) 64
    let now := if gapOpen s && descLayer s sl == s.bnd.layer && speedPass s sl then
        some (sat16 (speedOf s sl / 64), f)
      else if s.ing.lastReport.isSome && !speedPass s sl then some (0, f)
      else none
    if now.isSome ∧ now ≠ s.ing.lastReport then sendReport sl (now.getD (0, 0)).1 f s else s
  | none => s

/-! ### SWATH_DATA (R87, R89, R90, R197, R198) -/

/-- Records error `code` of the Vine block (R115). -/
def vineErr (code : Nat) (s : State) : State := recErr 0x03 code s

/-- SEQ continuity of class 2 from one source (R87); `true` where packets are missing. -/
def bulkSeq (h : Hdr) (s : State) : Bool × State :=
  let k := h.src.toNat * 64 + h.dst.toNat
  let gapped := s.vine.seqRx.any (fun p => p.1 == k && (p.2 + 1) % 256 != h.seq.toNat)
  (gapped, { s with vine.seqRx := assocSet k h.seq.toNat s.vine.seqRx })

/-- A SWATH_DATA packet for this node; a block that is held keeps its credit back, which is back-pressure
(R198, R211). -/
def recvBulk (p : Nat) (h : Hdr) (b : DataBlock) (s : State) : State :=
  let u := blockUnits b
  if 64 < (portOf s p).used2 + u then vineErr 3 (linkCount p 2 s)
  else
    let q := bulkSeq h (heardFrom h.src.toNat (bump32 0x13 (16 * p + 8) s))
    let s1 := if q.1 then slotGap b.slot.toNat (vineErr 0x0C (linkCount p 6 q.2)) else q.2
    let s2 := drainHeld s1.ing.vineHeld (setPort p (fun x => { x with used2 := x.used2 + u }) s1)
    match takeBlock b s2 with
    | some t => freeBulk p b t
    | none => ingFlag (fun i => { i with throttled := true, vineHeld := i.vineHeld ++ [(p, b)] }) s2

/-- STARVED (R208). -/
def starve (s : State) : State :=
  match s.ing.waitFrom with
  | some t =>
    if !s.ing.starveDone && decide (t + 250000000 ≤ s.tk) then
      ingErr 9 (ingFlag (fun i => { i with starved := true, starveDone := true }) s)
    else s
  | none => s

/-! ### Meanings -/

/-- HARVEST_BLOCK (R192, R193): what successive rising edges of HV_CLK bring, with nothing else of the block between them
(log entry 156). -/
def execHarvestBlock (words : List (Option Word)) (s : State) : Out :=
  .next (if clocked s && s.ing.hvOn then words.foldl harvestEdge s else s)

/-- HARVEST_HUNT_DISCARD (R193): one word while the port hunts, which SYNC ends. -/
def execHarvestHuntDiscard (w : Word) (s : State) : Out :=
  .next (if clocked s && s.ing.hvOn && s.ing.hvBuf.isEmpty then harvestEdge s (some w) else s)

/-- SWATH_DATA (R197): the forwarder of a core in reset takes it in, and its data is lost (log entry 72). -/
def execPktSwathData (port : Fin 3) (h : Hdr) (blk : DataBlock) (s : State) : Out :=
  .next (if !(vineOn s && isNode s h.dst.toNat) then s
    else if clocked s then recvBulk port.val h blk s
    else creditBack port.val 2 (blockUnits blk) (heardFrom h.src.toNat (bump32 0x13 (16 * port.val + 8) s)))

/-- HELD_BLOCK_RELEASE (R198): whatever can leave the FIFO and the bulk buffers leaves. -/
def execHeldBlockRelease (s : State) : Out :=
  .next (if clocked s then drainHeld s.ing.vineHeld (drainFifo s.ing.fifo s) else s)

/-- DESCRIPTOR_WRITE (R196). -/
def execDescriptorWrite (addr : Fin 128) (data : Word) (s : State) : Out :=
  .next (if clocked s then routedOp (.tbl 0x40 addr.val data) (descriptorWrite addr.val data) s else s)

/-- INGEST_NONE (R214). -/
def execIngestNone (slot : BitVec 3) (s : State) : Out := .next (ingReg 0 slot.toNat s)
/-- ARM (R199). -/
def execArm (slot : BitVec 3) (s : State) : Out := .next (ingReg 1 slot.toNat s)
/-- CANCEL (R207). -/
def execCancel (slot : BitVec 3) (s : State) : Out := .next (ingReg 2 slot.toNat s)
/-- HV_ON (R191). -/
def execHvOn (slot : BitVec 3) (s : State) : Out := .next (ingReg 3 slot.toNat s)
/-- HV_OFF (R191). -/
def execHvOff (slot : BitVec 3) (s : State) : Out := .next (ingReg 4 slot.toNat s)
/-- INGEST_RESERVED_OP (R214): codes 5 to 7. -/
def execIngestReservedOp (op slot : BitVec 3) (s : State) : Out :=
  if op.toNat < 5 then .fault .malformedOperand else .next (ingReg op.toNat slot.toNat s)

/-- ADMISSION (R206). -/
def execAdmission (s : State) : Out := .next (if clocked s then tryAdmit s else s)

/-- SWATH_END (R207, R401). -/
def execSwathEnd (s : State) : Out := .next (if clocked s && swathOver s then endSwath s else s)

/-- ADMIT_READY_SEND (R209). -/
def execAdmitReadySend (s : State) : Out := .next (if clocked s then reportHead s else s)

/-- EVENT ADMIT_READY reaches the root (R209). -/
def execEventAdmitReady (node : BitVec 6) (sw : Byte) (value floor : Word) (s : State) : Out :=
  .next (takeAtRoot node.toNat (takeReport node.toNat sw.toNat value.toNat floor.toNat) s)

/-- EVENT ADMIT, a broadcast of the root (R209); an unaddressed device acts on none (R97). -/
def execEventAdmit (value : Word) (s : State) : Out :=
  .next (if clocked s && !isRoot s && s.vine.nodeId != 0 then takeAdmit value.toNat (heardFrom 1 s) else s)

/-- STARVED (R208). -/
def execStarved (s : State) : Out := .next (if clocked s then starve s else s)

end Sys2Proof.Machine
end

