-- ==== Sys2Proof/Machine/Vine.lean ====
section
/-! DEFINITION. The Vine fabric (R80-R116): ports, credits, forwarding, discovery and numbering, routing
tables, rings and failover, fabric reset, link latency and the alignment of TICK. Ports are 0 to 2 here and
1 to 3 on the wire and in the routing tables. -/

namespace Sys2Proof.Machine

/-! ### The forwarder's condition (R95, R105) -/

/-- FAB is raised where the core runs. -/
def fabIrq (s : State) : State := if coreRuns s then raise irqFab s else s

/-- Changes the forwarder and the fabric registers. -/
def setVine (f : Vine → Vine) (s : State) : State := { s with vine := f s.vine }

/-- This node is the root and has its number (R93). -/
def rootUp (s : State) : Bool := clocked s && isRoot s && s.vine.nodeId == 1

/-- A packet of class 0 with DST 0 that this node sends on one port. -/
def linkPacket (p type : Nat) (words : List Word) (s : State) : State :=
  let q := nextSeq 0 0 s
  sendOn p { dst := 0, src := s.vine.nodeId, type := type, cls := 0, seq := q.1, words := words } q.2

/-! ### Trees (R94, R99, R102) -/

/-- A node's place in the tree: its parent, the parent's port toward it, its own port toward the parent, and
its depth. -/
structure Branch where
  node : Nat
  parent : Nat
  down : Nat
  up : Nat
  depth : Nat
  deriving DecidableEq, Repr

/-- What a link offers node `n`: its port, the other node, and that node's port. -/
def linkEnds (n : Nat) (l : Link) : List (Nat × Nat × Nat) :=
  (if l.nodeA = n then [(l.portA, l.nodeB, l.portB)] else []) ++ (if l.nodeB = n then [(l.portB, l.nodeA, l.portA)] else [])

/-- Adds a node that the tree does not hold yet. -/
def addBranch (b : Branch) (acc : List Branch) (e : Nat × Nat × Nat) : List Branch :=
  if acc.any (fun x => x.node == e.2.1) then acc
  else acc ++ [{ node := e.2.1, parent := b.node, down := e.1, up := e.2.2, depth := b.depth + 1 }]

/-- One level more of a tree: the neighbours of the nodes at depth `k`. -/
def growTree (ls : List Link) (acc : List Branch) (k : Nat) : List Branch :=
  (acc.filter (fun b => b.depth == k)).foldl (fun a b => (ls.flatMap (linkEnds b.node)).foldl (addBranch b) a) acc

/-- The root's branch. -/
def rootBranch : Branch := { node := 1, parent := 0, down := 0, up := 0, depth := 0 }

/-- The shortest-path tree of the root over the links `ls`. -/
def treeOf (ls : List Link) : List Branch := (List.range 62).foldl (growTree ls) [rootBranch]

/-- The links that carry traffic: up and not standby. -/
def activeLinks (ls : List Link) : List Link := ls.filter (fun l => l.up && !l.standby)

/-- The depth of the deepest node. -/
def treeDepth (t : List Branch) : Nat := t.foldl (fun a b => max a b.depth) 0

/-- The links of a ring: the tree keeps its nodes without any one of them. -/
def ringLinks (ls : List Link) : List Link := ls.filter (fun l => (treeOf (ls.erase l)).length == (treeOf ls).length)

/-- Where link `l` stands in the choice of R102: the depth that its removal leaves, then its lower end. -/
def standbyKey (ls : List Link) (l : Link) : Nat × Nat := (treeDepth (treeOf (ls.erase l)), min l.nodeA l.nodeB)

/-- The better of two candidates; of equals the one found first. -/
def betterLink (ls : List Link) (best : Option Link) (l : Link) : Option Link :=
  match best with
  | none => some l
  | some b =>
    let x := standbyKey ls l
    let y := standbyKey ls b
    if x.1 < y.1 ∨ (x.1 = y.1 ∧ x.2 < y.2) then some l else some b

/-- One link of each ring leaves the tree (R102). -/
def breakRings : Nat → List Link → List Link
  | 0, ls => ls
  | n + 1, ls =>
    match (ringLinks ls).foldl (betterLink ls) none with
    | some l => breakRings n (ls.erase l)
    | none => ls

/-- The links with their standby marks chosen anew (R102). -/
def chooseStandby (ls : List Link) : List Link :=
  let live := (ls.filter (fun l => l.up)).map (fun l => { l with standby := false })
  let keep := breakRings ls.length live
  ls.map (fun l => { l with standby := l.up && !keep.contains { l with standby := false } })

/-- Standby links are taken into the tree while one of them reaches a node cut off from it (R103). -/
def activateStandby : Nat → List Link → List Link
  | 0, ls => ls
  | n + 1, ls =>
    let t := treeOf (activeLinks ls)
    let inT (x : Nat) : Bool := t.any (fun b => b.node == x)
    match ls.find? (fun l => l.up && l.standby && inT l.nodeA != inT l.nodeB) with
    | some l => activateStandby n (ls.map (fun x => if x = l then { x with standby := false } else x))
    | none => ls

/-! ### Routing tables (R94 step 5, R99, R116) -/

/-- The branch of node `n`. -/
def branchOf (t : List Branch) (n : Nat) : Option Branch := t.find? (fun b => b.node == n)

/-- The port of node `x` toward node `n`: down the tree where `n` hangs below `x`, else toward the parent. -/
def portToward (t : List Branch) (x : Nat) : Nat → Nat → Nat
  | 0, _ => 0
  | f + 1, n =>
    match branchOf t n with
    | some b =>
      if b.parent = x ∧ b.depth ≠ 0 then b.down
      else if b.depth = 0 then (match branchOf t x with | some y => y.up | none => 0)
      else portToward t x f b.parent
    | none => 0

/-- The eleven words of a ROUTE for node `x` (R86, R116). -/
def routeWords (t : List Branch) (x : Nat) : List Word :=
  let code (n : Nat) : Nat := if n = x ∨ (branchOf t n).isNone then 0 else portToward t x 64 n
  let entry (w : Nat) : Nat := (List.range 8).foldl (fun a i => a + code (8 * w + i) * 4 ^ i) 0
  let me := (branchOf t x).getD rootBranch
  let below := t.filter (fun b => b.parent == x && b.depth != 0)
  let ports := below.foldl (fun m b => m ||| 2 ^ (b.down - 1)) (if me.depth = 0 then 0 else 2 ^ (me.up - 1))
  (List.range 8).map (fun w => word (entry w)) ++ [word ports, word me.up, word me.depth]

/-- A ROUTE replaces the whole table (R100). -/
def applyRoute (ws : List Word) (s : State) : State :=
  setVine (fun v => { v with
    routes := (List.range 64).map (fun n => bits (nth ws (n / 8)).toNat (2 * (n % 8) + 1) (2 * (n % 8)))
    treePorts := (nth ws 8).toNat % 8, parentPort := (nth ws 9).toNat % 4, depth := (nth ws 10).toNat % 64
    learned := [] }) s

/-- ROUTE packets for the nodes of `t`, then or first the root's own table. -/
def sendRoutes (t : List Branch) (ns : List Nat) (s : State) : State :=
  ns.foldl (fun st n => sendTo n 0x04 0 (routeWords t n) st) s

/-- New routing tables go out so that no cycle exists at any moment (R100, R103): with the links that stay,
then with the new tree, the nodes that stay first, and those reached anew in the order of their depth. -/
def distribute (old new : List Link) (s : State) : State :=
  let stay := treeOf (old.filter (fun l => new.contains l))
  let t := treeOf new
  let kept := ((stay.filter (fun b => b.depth != 0)).map (fun b => b.node)).reverse
  let moved := (t.filter (fun b => !stay.any (fun x => x.node == b.node))).map (fun b => b.node)
  let s1 := if moved.isEmpty || old = new then s else applyRoute (routeWords stay 1) (sendRoutes stay kept s)
  sendRoutes t moved (applyRoute (routeWords t 1) (sendRoutes t kept s1))

/-! ### The root's directory (R94, R104, R116) -/

/-- The directory after a change of the tree: nodes in it are reachable; the others are as `lost` makes
them. -/
def dirFrom (t : List Branch) (lost : DirEntry → Nat) (d : List DirEntry) : List DirEntry :=
  d.map (fun e => match branchOf t e.node with
    | some b => { e with parent := b.parent, parentPort := b.up, depth := b.depth, reach := 1 }
    | none => { e with reach := lost e })

/-- A node that is cut off is unreachable; one that was absent stays so (R104). -/
def cutReach (e : DirEntry) : Nat := if e.reach = 0 then 0 else 2

/-- SPLIT holds while a node is unreachable (R104). -/
def splitNow (s : State) : Bool := s.vine.dir.any (fun e => e.reach == 2)

/-- SPLIT follows the directory; a new split is recorded. -/
def noteSplit (s : State) : State :=
  let now := splitNow s
  let s1 := setVine (fun v => { v with split := now }) s
  if now && !s.vine.split then fabIrq (vineErr 9 s1) else s1

/-- The tree changes to the links `new` (R102-R104). -/
def changeTree (old : List Link) (ls : List Link) (s : State) : State :=
  let new := activeLinks ls
  noteSplit (distribute old new (setVine (fun v => { v with
    links := ls, dir := dirFrom (treeOf new) cutReach v.dir }) s))

/-! ### SYNC (R108) -/

/-- SYNC changes, which raises FAB; its loss reaches the grid (R139). -/
def setSync (b : Bool) (s : State) : State :=
  if s.vine.sync = b then s
  else
    let s1 := fabIrq (setVine (fun v => { v with sync := b, good := 0, bad := 0 }) s)
    if b then gridGate s1 else gridSyncLost (vineErr 0x0A s1)

/-! ### Discovery (R93, R94, R96-R98, R102) -/

/-- The next port to probe: the innermost node's next port that is neither the one it was reached by nor,
on the root, a port that is down. -/
def nextPort (s : State) : Nat → List (Nat × Nat) → Option ((Nat × Nat) × List (Nat × Nat))
  | 0, _ => none
  | _ + 1, [] => none
  | f + 1, (n, p) :: rest =>
    if 3 ≤ p then nextPort s f rest
    else
      let came := match s.vine.dir.find? (fun e => e.node == n) with | some e => e.parentPort | none => 0
      if came = p + 1 ∨ (n = 1 ∧ !(portOf s p).up) then nextPort s f ((n, p + 1) :: rest)
      else some ((n, p + 1), (n, p + 1) :: rest)

/-- The words of a DISCOVER (R86); `port` is 1 to 3. -/
def discoverWords (epoch : Nat) (fwd : Bool) (port : Nat) (rootUid : BitVec 64) : List Word :=
  word (epoch * 256 + atBit fwd 2 + port) :: wordsBE 4 rootUid.toNat

/-- The root has node `n` send DISCOVER on its port `p` (R94 step 1). -/
def probe (n p : Nat) (s : State) : State :=
  if n = 1 then linkPacket (p - 1) 0x01 (discoverWords s.vine.epoch false p Config.uid) s
  else sendTo n 0x01 0 (discoverWords s.vine.epoch true p Config.uid) s

/-- The root probes port `p` of node `n` alone, to re-adopt an unaddressed neighbour it knows (R96). -/
def readopt (n p : Nat) (s : State) : State :=
  probe n p (setVine (fun v => { v with
    found := (v.dir.filter (fun e => e.reach == 1)).map (fun e => e.node)
    disc := some { known := true, probe := some (n, p), deadline := s.tk + 25000 } }) s)

/-- The ports with an unaddressed neighbour that came up during the run are taken up one after the other (R94, R96). -/
def nextWaiting (s : State) : State :=
  match s.vine.waiting with
  | (n, p) :: rest => readopt n p (setVine (fun v => { v with waiting := rest }) s)
  | [] => s

/-- Discovery is complete (R94 step 5): the tree is chosen, every node gets its table, READY sets. A run that
re-adopts one port keeps the tree it finds (R96). A node that the run did not find is unreachable (R104). -/
def discoveryDone (d : Disc) (s : State) : State :=
  let old := activeLinks s.vine.links
  let ls := if d.known then s.vine.links else chooseStandby s.vine.links
  let s1 := setVine (fun v => { v with links := ls, dir := dirFrom (treeOf (activeLinks ls)) cutReach v.dir }) s
  let s2 := setVine (fun v => { v with ready := true, disc := none }) (noteSplit (distribute old (activeLinks ls) s1))
  nextWaiting (setSync true (fabIrq s2))

/-- Discovery goes on with the next port (R94 step 4). -/
def discoverNext (d : Disc) (s : State) : State :=
  match nextPort s 256 d.stack with
  | some (np, rest) =>
    probe np.1 np.2 (setVine (fun v => { v with
      disc := some { d with stack := rest, probe := some np, deadline := s.tk + 25000 } }) s)
  | none => discoveryDone d s

/-- The root's own entry of the directory. -/
def rootEntry : DirEntry := { node := 1, uid := Config.uid }

/-- A discovery run starts at the root (R94). -/
def startDiscovery (restarted : Bool) (s : State) : State :=
  let s1 := setVine (fun v => { v with
    epoch := (v.epoch + 1) % 256, links := [], found := [1], waiting := [], ready := false
    dir := rootEntry :: v.dir.filter (fun e => e.node != 1) }) s
  discoverNext { stack := [(1, 0)], restarted := restarted } s1

/-- The root takes its number when its firmware completes start-up, and discovers the fabric (R93, R94). -/
def rootStarts (s : State) : State :=
  if isRoot s then
    startDiscovery false (setVine (fun v => { v with nodeId := 1, rootUid := Config.uid }) s)
  else s

/-- A second root has shown itself (R98). -/
def dualRoot (s : State) : State :=
  if s.vine.dualroot then s else fabIrq (vineErr 7 (setVine (fun v => { v with dualroot := true }) s))

/-- The number for a neighbour (R94 step 3): the directory's for its UID, else the lowest free one. -/
def numberFor (a : DiscAck) (s : State) : Option Nat :=
  let used (n : Nat) : Bool := s.vine.dir.any (fun e => e.node == n)
  match s.vine.dir.find? (fun e => e.uid == a.uid && e.node != 1) with
  | some e => some e.node
  | none => ((List.range 61).map (· + 2)).find? (fun n => !used n)

/-- A link of the fabric, unless one of its ends is known already. -/
def addLink (l : Link) (ls : List Link) : List Link :=
  if ls.any (fun x => (linkEnds l.nodeA x).any (fun e => e.1 == l.portA)) then ls else ls ++ [l]

/-- The words of an ASSIGN (R86). -/
def assignWords (n : Nat) (fwd : Bool) (port : Nat) (uid rootUid : BitVec 64) : List Word :=
  word (n * 256 + atBit fwd 2 + port) :: (wordsBE 4 uid.toNat ++ wordsBE 4 rootUid.toNat)

/-- A route learned from an ASSIGN (log entry 71). -/
def learnRoute (n port : Nat) (s : State) : State :=
  if s.vine.routes.getD n 0 = 0 ∧ n ≠ s.vine.nodeId then
    setVine (fun v => { v with learned := assocSet n port v.learned }) s
  else s

/-- The neighbour of node `n`'s port `p` is node `num` of the tree that the run builds: its directory entry, its link,
and a way to it. -/
def joinNode (n p num : Nat) (a : DiscAck) (s : State) : State :=
  let depth := match s.vine.dir.find? (fun e => e.node == n) with | some e => e.depth + 1 | none => 1
  let e : DirEntry := { node := num, uid := a.uid, parent := n, parentPort := a.port.toNat, depth := depth, reach := 1 }
  let s1 := setVine (fun v => { v with
    found := num :: v.found, dir := v.dir.filter (fun x => x.node != num && x.uid != a.uid) ++ [e]
    links := addLink { nodeA := n, portA := p, nodeB := num, portB := a.port.toNat }
      (v.links.filter (fun l => !(linkEnds n l).any (fun x => x.1 == p))) }) s
  let s2 := learnRoute num (if n = 1 then p else routeOf s1 n) s1
  if n = 1 then setPort (p - 1) (fun q => { q with neighbour := num }) s2 else s2

/-- The root numbers the neighbour of node `n`'s port `p` (R94 step 3, R97). -/
def adopt (n p num : Nat) (a : DiscAck) (s : State) : State :=
  let s1 := joinNode n p num a s
  if n = 1 then linkPacket (p - 1) 0x03 (assignWords num false p a.uid Config.uid) s1
  else sendTo n 0x03 0 (assignWords num true p a.uid Config.uid) s1

/-- The answer to the probe of node `n`'s port `p` (R94 steps 2-4, R96-R98, R102). An addressed neighbour gets no ASSIGN:
one that this run has reached closes a ring, any other joins the tree under the number it holds and is probed in its
turn (log entry 73). -/
def probeAnswer (n p : Nat) (a : DiscAck) (d : Disc) (s : State) : State :=
  let d1 := { d with probe := none }
  let foreign := (a.root && a.uid != Config.uid) || (a.node != 0 && a.rootUid != Config.uid)
  if foreign || s.vine.dualroot then discoverNext d1 s
  else if s.vine.found.contains a.node.toNat && a.node != 0 then
    discoverNext d1 (setVine (fun v => { v with
      links := addLink { nodeA := n, portA := p, nodeB := a.node.toNat, portB := a.port.toNat, standby := true } v.links }) s)
  else if a.node != 0 && !s.vine.dir.any (fun e => e.node == a.node.toNat && e.uid != a.uid) then
    discoverNext { d1 with stack := (a.node.toNat, 0) :: d1.stack } (joinNode n p a.node.toNat a s)
  else if d.known && a.node == 0 && !s.vine.dir.any (fun e => e.uid == a.uid) then
    discoverNext d1 (fabIrq (setVine (fun v => { v with newlink := true }) s))
  else match numberFor a s with
    | some num => discoverNext { d1 with stack := (num, 0) :: d1.stack } (adopt n p num a s)
    | none => discoverNext d1 (fabIrq (vineErr 6 (setVine (fun v => { v with overflow := true }) s)))

/-- A DISC_ACK at the root (R94, R98). -/
def recvAck (a : DiscAck) (s : State) : State :=
  let rival := (a.root && a.uid != Config.uid) || (a.node != 0 && a.rootUid != Config.uid)
  let s1 := if rival then dualRoot s else s
  match s1.vine.disc with
  | some d =>
    (match d.probe with
     | some np => if a.epoch.toNat = s1.vine.epoch then probeAnswer np.1 np.2 a d s1 else s1
     | none => s1)
  | none => s1

/-- No answer came within 100 µs: the port has no neighbour (R94 step 2). -/
def probeTimeout (s : State) : State :=
  match s.vine.disc with
  | some d => if d.probe.isSome && decide (d.deadline ≤ s.tk) then discoverNext { d with probe := none } s else s
  | none => s

/-! ### Port changes at the root (R94, R96, R103, R104) -/

/-- The link at port `p` of node `n`. -/
def linkAt (n p : Nat) (s : State) : Option Link :=
  s.vine.links.find? (fun l => (linkEnds n l).any (fun e => e.1 == p))

/-- The links with link `l` changed by `f`. -/
def changeLink (l : Link) (f : Link → Link) (ls : List Link) : List Link := ls.map (fun x => if x = l then f x else x)

/-- A link of the tree has failed (R103, R104): a standby link takes over where one can. -/
def failLink (l : Link) (n p : Nat) (s : State) : State :=
  let ls := changeLink l (fun x => { x with up := false }) s.vine.links
  if l.standby then setVine (fun v => { v with links := ls }) s
  else
    let ls2 := activateStandby 64 ls
    let s1 := changeTree (activeLinks ls) ls2 s
    if ls2 = ls then s1
    else fabIrq (recErrLees 0x03 8 [n, p] (setVine (fun v => { v with failover := true }) s1))

/-- Discovery is under way: a run of the whole fabric, and whether it has been restarted already (R94). -/
def fullRun (s : State) : Option Bool :=
  match s.vine.disc with
  | some d => if d.known then none else some d.restarted
  | none => none

/-- A port of the fabric went down (R94, R103). A change during discovery restarts it once; a re-adoption does not keep
the root from acting on a failure. -/
def fabricDown (n p : Nat) (s : State) : State :=
  match fullRun s, linkAt n p s with
  | some false, _ => startDiscovery true s
  | some true, some l => setVine (fun v => { v with links := changeLink l (fun x => { x with up := false }) v.links }) s
  | none, some l => if l.up && s.vine.ready then failLink l n p s else s
  | _, none => s

/-- A link that failed comes up again: as the new standby, or back into the tree where a node is cut off
without it (R103, R104). -/
def restoreLink (l : Link) (s : State) : State :=
  let t := treeOf (activeLinks s.vine.links)
  let both := t.any (fun b => b.node == l.nodeA) && t.any (fun b => b.node == l.nodeB)
  let ls := changeLink l (fun x => { x with up := true, standby := both }) s.vine.links
  if both then setVine (fun v => { v with links := ls }) s
  else changeTree (activeLinks s.vine.links) (activateStandby 64 ls) s

/-- A port of the fabric came up, with neighbour `nbr` or an unaddressed one (R94, R96, R103). An unaddressed one that
shows itself while a run is under way is taken up after it. -/
def fabricUp (n p nbr : Nat) (s : State) : State :=
  if fullRun s == some false then startDiscovery true s
  else if nbr = 0 then
    (if s.vine.disc.isSome then setVine (fun v => { v with waiting := v.waiting ++ [(n, p)] }) s
     else if s.vine.ready then readopt n p s
     else s)
  else if (fullRun s).isSome || !s.vine.ready then s
  else match linkAt n p s with
    | some l => if l.up then s else restoreLink l s
    | none => s

/-! ### Ports (R83, R89) -/

/-- The port, 1 to 3, that an EVENT for the root takes "by any route that remains" (R103), 0 where there is none: the
routed one where it is up and is not the one the packet came in by, else another such port, one off the tree first
(log entry 150). -/
def eventPort (s : State) (came : Option Nat) : Nat :=
  let free (p : Nat) : Bool := (portOf s p).up && decide (came ≠ some p)
  let r := routeOf s 1
  if 1 ≤ r ∧ free (r - 1) then r
  else match ([0, 1, 2].filter free).find? (fun p => !onTree s p), [0, 1, 2].find? free with
    | some p, _ => p + 1
    | none, some p => p + 1
    | none, none => 0

/-- An EVENT of this node to the root (R86, R103). -/
def eventAnyway (code port : Nat) (rest : Word) (s : State) : State :=
  let p := eventPort s none
  if p = 0 then sendEvent code port [rest] s
  else
    let q := nextSeq 1 0 s
    sendOn (p - 1) { dst := 1, src := s.vine.nodeId, type := 0x09, cls := 0, seq := q.1
                     words := [word (code * 256 + port), rest] } q.2

/-- A change of port `p` is reported: handled by the root itself, or sent to it as an EVENT (R86, R96, R103). -/
def reportPort (up : Bool) (p nbr : Nat) (s : State) : State :=
  if isRoot s then
    (if rootUp s then (if up then fabricUp 1 (p + 1) nbr s else fabricDown 1 (p + 1) s) else s)
  else if s.vine.nodeId = 0 then s
  else eventAnyway (if !up then 1 else if nbr = 0 then 3 else 2) (p + 1) (word (if up then nbr else 0)) s

/-- An idle link comes back (R105): the neighbour has woken and retrained, routing and credits stand, and what waited
is sent. -/
def linkWakes (p : Nat) (s : State) : State :=
  drain p (setPort p (fun q => { q with idle := false, burst := none }) s)

/-- A port comes up (R83, R89, R107). -/
def linkUp (p nbr : Nat) (s : State) : State :=
  if (portOf s p).idle then linkWakes p s
  else if (portOf s p).up || !bit s.vine.portEn p then s
  else
    let s1 := setPort p (fun q => { q with
      up := true, neighbour := nbr, credit0 := 0, credit1 := 0, credit2 := 0, txq := []
      latencies := [], echoLeft := 8, echoNext := s.tk + 1024 }) s
    let s2 := sendCredit p 2 true 64 (sendCredit p 1 true 4 (sendCredit p 0 true 16 s1))
    reportPort true p nbr (fabIrq s2)

/-- A port goes down (R83): its credits are cleared and its queue is discarded and counted. -/
def linkDown (p : Nat) (s : State) : State :=
  if !(portOf s p).up then s
  else
    let q := (portOf s p).txq
    let s1 := setPort p (fun x => { x with
      up := false, idle := false, burst := none, credit0 := 0, credit1 := 0, credit2 := 0, txq := [] }) s
    let s2 := q.foldl settleCopy (if q.isEmpty then s1 else setVine (fun v => { v with linkerr := true })
      (bumpBy 0x13 (16 * p + 7) q.length s1))
    reportPort false p 0 (fabIrq (vineErr 1 (linkCount p 5 s2)))

/-- The neighbour's end goes to electrical idle (R105): the port keeps its credits and its place in the fabric. -/
def linkIdle (p : Nat) (s : State) : State :=
  if (portOf s p).up then setPort p (fun q => { q with idle := true }) s else s

/-- A port's receiver loses its link (R83, R105): four invalid code groups within sixteen count as such (R116). -/
def linkLost (p : Nat) (c : DownCause) (s : State) : State :=
  match c with
  | .idle => linkIdle p s
  | .signal => linkDown p s
  | .codes =>
    if (portOf s p).up then linkDown p (setVine (fun v => { v with linkerr := true }) (bumpBy 0x13 (16 * p) 4 s)) else s

/-! ### FAB_CTL (R113, R114) -/

/-- PORT_EN takes effect: a port that is disabled goes down in the same TK (R83). -/
def setPortEn (m : Nat) (s : State) : State :=
  [0, 1, 2].foldl (fun st p => if bit m p then st else linkDown p st) (setVine (fun v => { v with portEn := m }) s)

/-- A refused OP (R114). -/
def fabRefuse (s : State) : State := vineErr 0x0B (setVine (fun v => { v with operr := true }) s)

/-- RETREE: the tree is chosen anew (R102, R103). -/
def retreeOp (s : State) : State :=
  if s.vine.ready && s.vine.disc.isNone then
    changeTree (activeLinks s.vine.links) (chooseStandby s.vine.links) s
  else s

/-- RESET_NODE (R113): a RESET to each addressed node; this node's own core resets where it is addressed. -/
def resetNodeOp (s : State) : State :=
  let me := s.vine.nodeId
  let d := s.vine.fabDst
  let ts := if d = 63 then (List.range 63).filter (fun n => bit (groupMask s s.vine.fabGroup) n) else [d]
  let s1 := ts.foldl (fun st n => if n = 0 ∨ n = me then st else sendTo n 0x0B 0 [] st) s
  if ts.any (fun n => n == 0 || n == me) then coreReset 6 me s1 else s1

/-- A write of FAB_CTL (R114), in every phase in which anchor registers answer. DISCOVER and RETREE are the firmware's
work (R94): before the root's has started nothing comes of them. -/
def fabCtl (op portEn : Nat) (s : State) : State :=
  let s1 := setPortEn portEn s
  match op with
  | 0 => s1
  | 1 => if !isRoot s1 then fabRefuse s1 else if rootUp s1 then startDiscovery false s1 else s1
  | 2 => resetNodeOp s1
  | 3 => if !isRoot s1 then fabRefuse s1 else if rootUp s1 then retreeOp s1 else s1
  | _ => fabRefuse s1

/-- FAB_CTL is an anchor register. -/
def fabReg (op portEn : Nat) (s : State) : State := if portDecodes s then fabCtl op portEn s else s

/-! ### Forwarding (R85, R88, R90, R99, R101) -/

/-- A packet is dropped by the receiving port: counted, and its buffer freed (R89). -/
def dropPacket (p off err cls units : Nat) (s : State) : State :=
  let s1 := vineErr err (linkCount p off s)
  if cls ≤ 2 then creditBack p cls units s1 else s1

/-- The buffers that a packet uses, in the unit of its class (R89). -/
def packetUnits (pkt : Packet) : Nat := if pkt.cls = 2 then bulkUnits pkt else 1

/-- The buffers of port `p` in class `c` that packets in transit occupy. -/
def owedUnits (p c : Nat) (s : State) : Nat :=
  (s.vine.owed.filter (fun o => o.port == p && o.cls == c)).foldl (fun n o => n + o.units) 0

/-- No buffer of its class is free for the packet (R89, R90). -/
def noBuffer (p : Nat) (pkt : Packet) (s : State) : Bool :=
  if pkt.cls = 2 then decide (64 < (portOf s p).used2 + bulkUnits pkt)
  else decide ((if pkt.cls = 1 then 4 else 16) ≤ owedUnits p pkt.cls s)

/-- The packet keeps the buffer it came in, on port `p`, until `n` copies of it have left (R89). -/
def oweBuffer (p n : Nat) (pkt : Packet) (s : State) : State :=
  setVine (fun v => { v with
    nextOwe := v.nextOwe + 1
    owed := { id := v.nextOwe, port := p, cls := pkt.cls, units := packetUnits pkt, copies := n } :: v.owed }) s

/-- The routes that a passing ASSIGN or DISC_ACK shows are learned (log entry 71). -/
def learnFrom (p r : Nat) (pkt : Packet) (s : State) : State :=
  if pkt.type = 3 then learnRoute (bits (nth pkt.words 0).toNat 13 8) r s
  else if pkt.type = 2 ∧ pkt.src ≠ 0 ∧ routeOf s pkt.src = 0 then learnRoute pkt.src (p + 1) s
  else s

/-- A unicast packet for another node is sent on by the routing table, never out of the port it came in by; it keeps
its buffer until it has left (R89, R99, R101). An EVENT for the root takes any route that remains (R103). -/
def forwardUnicast (p : Nat) (pkt : Packet) (s : State) : State :=
  let r := if pkt.type = 9 ∧ pkt.dst = 1 then eventPort s (some p) else routeOf s pkt.dst
  if r = 0 ∨ r = p + 1 then dropPacket p 4 5 pkt.cls (packetUnits pkt) s
  else
    let s1 := learnFrom p r pkt s
    let s2 := oweBuffer p 1 pkt s1
    sendOn (r - 1) { pkt with owe := some s1.vine.nextOwe }
      (if pkt.cls = 2 then setPort p (fun q => { q with used2 := q.used2 + packetUnits pkt }) s2 else s2)

/-- The tree ports that a broadcast from port `p` goes out on (R101). -/
def treeCopies (s : State) (p : Nat) : Nat := ([0, 1, 2].filter (fun q => onTree s q && q != p)).length

/-- A broadcast is taken in and sent on along the tree (R101): its buffer is free with the last copy, or at once where
there is none to send (R89). -/
def forwardBroadcast (p : Nat) (pkt : Packet) (s : State) : State :=
  if treeCopies s p = 0 then portArrived p pkt.cls pkt.src s
  else
    let s1 := oweBuffer p (treeCopies s p) pkt (heardFrom pkt.src (bump32 0x13 (16 * p + 8) s))
    sendTree (some p) { pkt with owe := some s.vine.nextOwe } s1

/-- An EVENT code that the root does not know (R86). -/
def eventReserved (s : State) (pkt : Packet) : Bool :=
  isRoot s && pkt.type == 0x09
    && !([0x01, 0x02, 0x03, 0x10, 0x11, 0x40, 0x41].contains (bits (nth pkt.words 0).toNat 15 8))

/-- A packet as its header and payload come in on port `p`: dropped, or forwarded where another node or the whole tree
is addressed (R85, R86, R90, R97, R99, R101). What this device consumes is the command of that packet's own row, as all
of a TICK and of a CREDIT is; an unaddressed device takes a packet for a node in and does nothing with it (R97). -/
def forwardPacket (p : Nat) (pkt : Packet) (s : State) : State :=
  if !packetFormOk pkt then
    (if pkt.type = 0x0A then vineErr 4 (linkCount p 3 s) else dropPacket p 3 4 pkt.cls (packetUnits pkt) s)
  else if pkt.type = 0x0A ∨ pkt.type = 0x10 then s
  else if noBuffer p pkt s then vineErr 3 (linkCount p 2 s)
  else if pkt.dst = 0 then s
  else if s.vine.nodeId = 0 then creditBack p pkt.cls (packetUnits pkt) (bump32 0x13 (16 * p + 8) s)
  else if pkt.dst = s.vine.nodeId then
    (if eventReserved s pkt then dropPacket p 3 4 pkt.cls (packetUnits pkt) s else s)
  else if pkt.dst = 63 then forwardBroadcast p pkt s
  else forwardUnicast p pkt (bump32 0x13 (16 * p + 8) s)

/-- The bytes of a packet on port `p` (R84, R88). Of a packet with a bad CRC no field is sure; the credit goes back to the
class, and for the length, that its header shows (log entry 149). -/
def recvBytes (p : Nat) (bs : List Byte) (s : State) : State :=
  if !(portOf s p).up then s
  else if !packetCrcOk bs then dropPacket p 1 2 (packetOf bs).cls (packetUnits (packetOf bs)) s
  else forwardPacket p (packetOf bs) s

/-! ### DISCOVER, ASSIGN and DISC_ACK at any device (R86, R97, R98) -/

/-- The DISC_ACK of this device (R86). -/
def ackWords (s : State) (p epoch : Nat) : List Word :=
  wordsBE 4 Config.uid.toNat
    ++ [word (atBit (isRoot s) 15 + s.vine.nodeId * 256 + (p + 1)), word (epoch * 256)]
    ++ wordsBE 4 (if s.vine.nodeId = 0 then 0 else s.vine.rootUid.toNat)

/-- A DISCOVER is answered on the port it came in by (R86, R98). -/
def answerDiscover (p epoch : Nat) (src : Nat) (rootUid : BitVec 64) (s : State) : State :=
  let s1 := if isRoot s && rootUid != Config.uid then dualRoot s else s
  let q := nextSeq 1 0 (setPort p (fun x => { x with neighbour := src }) s1)
  sendOn p { dst := 1, src := s.vine.nodeId, type := 0x02, cls := 0, seq := q.1, words := ackWords s p epoch } q.2

/-- An ASSIGN for this device's UID (R86, R94 step 3). -/
def takeNumber (p n : Nat) (rootUid : BitVec 64) (s : State) : State :=
  setVine (fun v => { v with
    nodeId := n, rootUid := rootUid, arrivalPort := p + 1, parentPort := p + 1, ready := true
    learned := if v.routes.getD 1 0 = 0 then assocSet 1 (p + 1) v.learned else v.learned }) s

/-- A received packet that is not for this device is forwarded (R101). -/
def passOn (p : Nat) (h : Hdr) (type : Nat) (ws : List Word) (s : State) : State :=
  forwardPacket p { dst := h.dst.toNat, src := h.src.toNat, type := type, cls := 0, seq := h.seq.toNat, words := ws } s

/-- This node is the one a header names. -/
def forMe (h : Hdr) (s : State) : Bool := isNode s h.dst.toNat

/-! ### Time (R106-R108) -/

/-- A timestamp of R86: TICK[25:0] and a fraction. -/
def stampOf (s : State) (frac : Nat) : Nat := s.tick.toNat % 2 ^ 26 * 64 + frac % 64

/-- A packet of class 1 of this node for its neighbour on port `p`; its own timestamp goes in with its K27.7. -/
def timePacket (p type : Nat) (words : List Word) (s : State) : State :=
  let q := nextSeq 0 1 s
  sendOn p { dst := 0, src := s.vine.nodeId, type := type, cls := 1, seq := q.1, words := words } q.2

/-- The incoming latency of a port: the mean of its last eight latencies, in 1/64 TK; its rounding is open
(log entry 13). -/
def latencyOf (s : State) (p : Nat) : Nat :=
  let l := (portOf s p).latencies
  (divOpen 1071 (l.foldl (· + ·) 0 : Nat) l.length).toNat

/-- ECHO_REQ on the ports where one is due (R107). -/
def sendEchos (s : State) : State :=
  [0, 1, 2].foldl (fun st p =>
    let q := portOf st p
    if q.up && decide (q.echoNext ≤ st.tk) then
      let s1 := setPort p (fun x => { x with
        echoLeft := x.echoLeft - 1, echoNext := st.tk + (if 1 < q.echoLeft then 1024 else 65536) })
        (setVine (fun v => { v with echoNum := (v.echoNum + 1) % 256 }) st)
      timePacket p 0x11 [word (st.vine.echoNum * 256 + (p + 1)), 0, 0, 0] s1
    else st) s

/-- An ECHO_REQ is answered (R107). -/
def answerEcho (p num sport : Nat) (t1 : BitVec 32) (rxFrac : Nat) (s : State) : State :=
  timePacket p 0x12 ([word (num * 256 + (p + 1) * 4 + sport)] ++ wordsBE 2 t1.toNat ++ wordsBE 2 (stampOf s rxFrac)
    ++ [0, 0, 0]) s

/-- An ECHO_RSP gives a latency (R107); how half a unit is rounded is open (log entry 13). -/
def takeEcho (p sport : Nat) (t1 t2 t3 : BitVec 32) (rxFrac : Nat) (s : State) : State :=
  if sport ≠ p + 1 then s
  else
    let t4 := BitVec.ofNat 32 (stampOf s rxFrac)
    let lat := (divOpen 1072 ((t4 - t1) - (t3 - t2)).toNat 2).toNat
    let s1 := setPort p (fun q => { q with latencies := (lat :: q.latencies).take 8 }) s
    if s.vine.parentPort = p + 1 then setVine (fun v => { v with inLat := latencyOf s1 p }) s1 else s1

/-- The root sends TICK, every 1,024 TK while discovery is complete (R106); ORIGIN goes in with its K27.7. -/
def sendTick (s : State) : State :=
  if rootUp s && s.vine.ready && decide (s.vine.lastTickPkt + 1024 ≤ s.tk) then
    broadcast 0x10 1 [0, 0, 0, 0, 0] (setVine (fun v => { v with lastTickPkt := s.tk }) s)
  else s

/-- A TICK goes out on the other tree ports, with the latency of its incoming link added to CORR, and on each port the
residence time since its receipt (R106). -/
def relayTick (p : Nat) (h : Hdr) (origin : BitVec 48) (corr rxFrac : Nat) (s : State) : State :=
  forwardBroadcast p { dst := 63, src := h.src.toNat, type := 0x10, cls := 1, seq := h.seq.toNat
                       words := wordsBE 3 origin.toNat ++ wordsBE 2 (corr + latencyOf s p)
                       rx := some (s.tk * 64 + rxFrac) } s

/-- e of R108 in 1/64 TK: ORIGIN and CORR with the incoming latency, minus the own TICK at receipt. -/
def tickError (p : Nat) (origin : BitVec 48) (corr rxFrac : Nat) (s : State) : Int :=
  signed 54 (unsigned 54 ((origin.toNat * 64 + corr + latencyOf s p : Int) - (s.tick.toNat * 64 + rxFrac)))

/-- The node's TICK follows the root's (R108): set at once without SYNC and outside a swath, else corrected
1 TK at a time; SYNC from 16 good packets, lost after 4 bad ones. How the set value is rounded is open (log
entry 13). -/
def alignTick (p : Nat) (origin : BitVec 48) (corr rxFrac : Nat) (s : State) : State :=
  let e := tickError p origin corr rxFrac s
  let ok := decide (e.natAbs ≤ 128)
  let s1 := setVine (fun v => { v with
    lastErr := e, inLat := latencyOf s p, lastTickPkt := s.tk
    good := if ok then v.good + 1 else 0, bad := if ok then 0 else v.bad + 1 }) s
  let s2 := if !s.vine.sync && !swathActive s then
      bump 0x15 3 (setVine (fun v => { v with lag := 0 }) { s1 with
        tick := s1.tick + BitVec.ofInt 48 (divOpen 1081 e 64) })
    else setVine (fun v => { v with lag := e }) s1
  if s2.vine.sync then (if 4 ≤ s2.vine.bad then setSync false s2 else s2)
  else if 16 ≤ s2.vine.good then setSync true s2 else s2

/-- SYNC clears after 65,536 TK without a TICK packet (R108). -/
def syncTimeout (s : State) : State :=
  if !isRoot s && s.vine.sync && decide (s.vine.lastTickPkt + 65536 ≤ s.tk) then setSync false s else s

/-! ### Meanings -/

/-- PORT_UP (R83). -/
def execPortUp (port : Fin 3) (nbr : BitVec 6) (s : State) : Out :=
  .next (if vineOn s then linkUp port.val nbr.toNat s else s)
/-- PORT_DOWN (R83, R105). -/
def execPortDown (loss : LinkLoss) (s : State) : Out :=
  .next (if vineOn s then linkLost loss.port.val loss.cause s else s)

/-- FAB_NONE (R114). -/
def execFabNone (portEn : BitVec 3) (s : State) : Out := .next (fabReg 0 portEn.toNat s)
/-- FAB_DISCOVER (R94). -/
def execFabDiscover (portEn : BitVec 3) (s : State) : Out := .next (fabReg 1 portEn.toNat s)
/-- RESET_NODE (R113). -/
def execResetNode (portEn : BitVec 3) (s : State) : Out := .next (fabReg 2 portEn.toNat s)
/-- RETREE (R103). -/
def execRetree (portEn : BitVec 3) (s : State) : Out := .next (fabReg 3 portEn.toNat s)
/-- FAB_RESERVED_OP (R114): codes 4 to 7. -/
def execFabReservedOp (op portEn : BitVec 3) (s : State) : Out :=
  if op.toNat < 4 then .fault .malformedOperand else .next (fabReg op.toNat portEn.toNat s)

/-- DISCOVERY_PROBE_TIMEOUT (R94). -/
def execDiscoveryProbeTimeout (s : State) : Out := .next (if rootUp s then probeTimeout s else s)

/-- DISCOVER (R86): answered, or sent on the named port by the node it instructs, where that port is up (R94 step 1). -/
def execPktDiscover (port : Fin 3) (h : Hdr) (epoch : Byte) (fwd : Bool) (onPort : BitVec 2)
    (rootUid : BitVec 64) (s : State) : Out :=
  .next (if !vineOn s || !(portOf s port.val).up then s
    else if !fwd then answerDiscover port.val epoch.toNat h.src.toNat rootUid (portArrived port.val 0 h.src.toNat s)
    else if forMe h s then
      (let s1 := portArrived port.val 0 h.src.toNat s
       if onPort = 0 ∨ (portOf s (onPort.toNat - 1)).up = false then s1
       else linkPacket (onPort.toNat - 1) 0x01 (discoverWords epoch.toNat false onPort.toNat rootUid) s1)
    else passOn port.val h 0x01 (discoverWords epoch.toNat true onPort.toNat rootUid) s)

/-- DISC_ACK (R94): it acts on the root; any other node passes it on. -/
def execPktDiscAck (port : Fin 3) (h : Hdr) (a : DiscAck) (s : State) : Out :=
  .next (if !vineOn s || !(portOf s port.val).up then s
    else if rootUp s then recvAck a (portArrived port.val 0 h.src.toNat s)
    else passOn port.val h 0x02 (wordsBE 4 a.uid.toNat
      ++ [word (atBit a.root 15 + a.node.toNat * 256 + a.port.toNat), word (a.epoch.toNat * 256)]
      ++ wordsBE 4 a.rootUid.toNat) s)

/-- ASSIGN (R86): taken by the device of that UID, or sent on the named port by the node it instructs. -/
def execPktAssign (port : Fin 3) (h : Hdr) (node : BitVec 6) (fwd : Bool) (onPort : BitVec 2)
    (uid rootUid : BitVec 64) (s : State) : Out :=
  .next (if !vineOn s || !(portOf s port.val).up then s
    else if !fwd then
      (let s1 := portArrived port.val 0 h.src.toNat s
       if uid = Config.uid then takeNumber port.val node.toNat rootUid s1 else s1)
    else if forMe h s then
      (let s1 := portArrived port.val 0 h.src.toNat s
       if onPort = 0 then s1
       else linkPacket (onPort.toNat - 1) 0x03 (assignWords node.toNat false onPort.toNat uid rootUid)
         (setPort (onPort.toNat - 1) (fun q => { q with neighbour := node.toNat })
           (learnRoute node.toNat onPort.toNat s1)))
    else passOn port.val h 0x03 (assignWords node.toNat true onPort.toNat uid rootUid) s)

/-- ROUTE (R100): the root's table for this node replaces the whole one; a wrong LEN is dropped (R86). -/
def execPktRoute (port : Fin 3) (h : Hdr) (words : List Word) (s : State) : Out :=
  .next (if !vineOn s || !(portOf s port.val).up then s
    else if words.length ≠ 11 then dropPacket port.val 3 4 0 1 s
    else if !forMe h s then passOn port.val h 0x04 words s
    else
      let s1 := portArrived port.val 0 h.src.toNat s
      if h.src = 1 then applyRoute words s1 else s1)

/-- PACKET_FORWARD (R88, R101): the bytes of one packet after its start group. -/
def execPacketForward (port : Fin 3) (bytes : List Byte) (s : State) : Out :=
  .next (if vineOn s then recvBytes port.val bytes s else s)

/-- CREDIT (R89): a return, or the full advertisement at link-up; class 3 is dropped (R85). -/
def execPktCredit (port : Fin 3) (cls : BitVec 2) (init : Bool) (count : Byte) (s : State) : Out :=
  .next (if !vineOn s || !(portOf s port.val).up then s
    else
      let n := count.toNat
      let put (old : Nat) : Nat := if init then n else old + n
      let s1 := bump32 0x13 (16 * port.val + 8) s
      match cls.toNat with
      | 0 => drain port.val (setPort port.val (fun q => { q with credit0 := put q.credit0 }) s1)
      | 1 => drain port.val (setPort port.val (fun q => { q with credit1 := put q.credit1 }) s1)
      | 2 => drain port.val (setPort port.val (fun q => { q with credit2 := put q.credit2 }) s1)
      | _ => vineErr 4 (linkCount port.val 3 s))

/-- RESET (R113): the core resets with the sender's number as sub-cause. -/
def execPktReset (h : Hdr) (s : State) : Out :=
  .next (if vineOn s && forMe h s then
    (let s1 := arrived h.dst.toNat 0 h.src.toNat s
     if coreRuns s then coreReset 6 h.src.toNat s1 else s1)
  else s)

/-- EVENT port down at the root (R103). -/
def execEventPortDown (node : BitVec 6) (port : BitVec 2) (s : State) : Out :=
  .next (takeAtRoot node.toNat (fabricDown node.toNat port.toNat) s)

/-- EVENT port up at the root (R96, R103). -/
def execEventPortUp (node : BitVec 6) (port : BitVec 2) (nbr : BitVec 6) (s : State) : Out :=
  .next (takeAtRoot node.toNat (fabricUp node.toNat port.toNat nbr.toNat) s)

/-- TICK_SEND (R106). -/
def execTickSend (s : State) : Out := .next (sendTick s)

/-- A TICK has a free class 1 buffer to come in by (R90). -/
def tickFits (p : Nat) (s : State) : Bool := decide (owedUnits p 1 s < 4)

/-- TICK (R106, R108): sent on by the forwarder, and followed by a core that is clocked; an unaddressed device and the
root take it in and do nothing with it. -/
def execPktTick (port : Fin 3) (h : Hdr) (origin : BitVec 48) (corr : BitVec 32) (rxFrac : BitVec 6) (s : State) : Out :=
  .next (if !vineOn s || !(portOf s port.val).up then s
    else if !tickFits port.val s then vineErr 3 (linkCount port.val 2 s)
    else if s.vine.nodeId == 0 || isRoot s then portArrived port.val 1 h.src.toNat s
    else
      let s1 := relayTick port.val h origin corr.toNat rxFrac.toNat s
      if clocked s then alignTick port.val origin corr.toNat rxFrac.toNat s1 else s1)

/-- SYNC_TIMEOUT (R108). -/
def execSyncTimeout (s : State) : Out := .next (if clocked s then syncTimeout s else s)

/-- ECHO_SEND (R107). -/
def execEchoSend (s : State) : Out := .next (if vineOn s then sendEchos s else s)

/-- ECHO_REQ (R107). -/
def execPktEchoReq (port : Fin 3) (num : Byte) (sport : BitVec 2) (t1 : BitVec 32) (rxFrac : BitVec 6) (s : State) : Out :=
  .next (if vineOn s && (portOf s port.val).up then
    answerEcho port.val num.toNat sport.toNat t1 rxFrac.toNat (portArrived port.val 1 0 s) else s)

/-- ECHO_RSP (R107). -/
def execPktEchoRsp (port : Fin 3) (_num : Byte) (_aport sport : BitVec 2) (t1 t2 t3 : BitVec 32) (rxFrac : BitVec 6)
    (s : State) : Out :=
  .next (if vineOn s && (portOf s port.val).up then
    takeEcho port.val sport.toNat t1 t2 t3 rxFrac.toNat (portArrived port.val 1 0 s) else s)

end Sys2Proof.Machine
end

