-- ==== Sys2Proof/Machine/Trust.lean ====
section
/-! DEFINITION. The watchdog (R345-R351), reset causes (R342, R343) and attestation (R340, R341). -/

namespace Sys2Proof.Machine

/-- An error of block 0x0C (R352). -/
def trustErr (code : Nat) (s : State) : State := recErr 0x0C code s

/-- An error of block 0x0C that also writes a lees record (R352). -/
def trustErrLees (code : Nat) (s : State) : State := recErrLees 0x0C code [] s

/-- The REV register (R77, R335, R336). -/
def revReg (s : State) : Word :=
  word (0xB100 + if s.boot.phase == .recovery then 0 else s.boot.fwMajor % 16 * 16 + s.boot.fwMinor % 16)

/-! ### The watchdog -/

/-- The watchdog counts: the core is out of reset, in RUN, REST or DOZE (R345, R351). -/
def wdgRuns (s : State) : Bool := coreRuns s && decide (s.pwr.state ≤ 2)

/-- The length of the period in force in TK: 2^PERIOD ms (R345). -/
def wdgLength (s : State) : Nat := 250000 * 2 ^ s.boot.period

/-- The time since the period's start. -/
def wdgElapsed (s : State) : Nat := s.tk - s.boot.wdgFrom

/-- The window is open: the second half of the period (R345). -/
def wdgOpen (s : State) : Bool := coreRuns s && decide (wdgLength s ≤ 2 * wdgElapsed s)

/-- The period has ended without a good serve (R347). -/
def wdgOver (s : State) : Bool := wdgRuns s && decide (wdgLength s ≤ wdgElapsed s)

/-- The expected answer (R346). -/
def wdgExpected (q : Word) (serves : Nat) : Word :=
  (q ^^^ 0xC3A5).rotateLeft (1 + q.toNat % 16) + word (0x0101 * serves)

/-- One step of the Galois LFSR (R346). -/
def wdgLfsr (q : Word) : Word := (q >>> 1) ^^^ (if q.getLsbD 0 then 0xB400 else 0)

/-- A good serve (R346, R348): the count, the next question, and a period of the length last written. -/
def goodServe (s : State) : State :=
  { s with
    boot.serves := (s.boot.serves + 1) % 16, boot.wdgQ := wdgLfsr s.boot.wdgQ
    boot.wdgFrom := s.tk, boot.wdgSeen := false, boot.period := s.boot.periodNext }

/-- The window opens once in each period; the opening raises WDG and may wake the node (R345, R360). -/
def windowOpens (s : State) : State :=
  if wdgRuns s && wdgOpen s && !wdgOver s && !s.boot.wdgSeen then
    wake 9 (raise irqWdg { s with boot.wdgSeen := true })
  else s

/-- A watchdog reset (R347, R350). -/
def wdgReset (sub : Nat) (s : State) : State := coreReset 2 sub s

/-- A write of WDG_ANSWER (R346, R347): expiry first, then the window, then the value. -/
def wdgAnswerOp (a : Word) (s : State) : State :=
  if wdgOver s then wdgReset 3 s
  else if !wdgOpen s then wdgReset 2 s
  else if a = wdgExpected s.boot.wdgQ s.boot.serves then goodServe s
  else wdgReset 1 s

/-- A write of WDG_CTL (R348, R353): PREFUSED is cleared by a 1, and PERIOD is taken while the window is
open, for the next period. -/
def wdgCtlWrite (d : Word) (s : State) : State :=
  let s1 := { s with boot.prefused := s.boot.prefused && !d.getLsbD 6 }
  let p := bits d.toNat 11 8
  if wdgOpen s && decide (p ≤ 13) then { s1 with boot.periodNext := p }
  else raise irqWdg (trustErr 5 { s1 with boot.prefused := true })

/-- WDG_CTL (R353): PERIOD reads the value in force (R5), which a write changes from the next period on (R348). -/
def wdgCtlReg (s : State) : Word :=
  word (s.boot.serves * 4096 + s.boot.period * 256 + atBit (wdgOpen s) 7 + atBit s.boot.prefused 6)

/-! ### Reset causes -/

/-- RST_CAUSE: the cause bits are kept by number as POR, PIN, WDG, SOFT, THERM, RAIL, FAB, BOOTFAIL (R353). -/
def rstCauseReg (s : State) : Word := s.boot.sub ++ s.boot.cause

/-- A write of RST_CAUSE (R343). -/
def rstCauseWrite (d : Word) (s : State) : State :=
  if d = 0xC500 then coreReset 3 0 s
  else if bits d.toNat 15 8 = 0 then
    { s with boot.cause := s.boot.cause &&& ~~~(BitVec.ofNat 8 d.toNat) }
  else trustErr 7 s

/-! ### Attestation -/

/-- The nonce in table 0x92 (R340). -/
def nonceBytes (s : State) : List Byte := unpackWords (twords s 0x92 0 16)

/-- A refused QUOTE, or a reserved code (R340, R353). -/
def quoteRefuse (s : State) : State := trustErr 6 { s with boot.qerr := true }

/-- A write of ATT_CTL (R353): V3EN is stored with every OP. -/
def attCmd (op : Nat) (v3en : Bool) (s : State) : State :=
  let s1 := { s with boot.v3en := v3en }
  match op with
  | 0 => s1
  | 1 => if s1.boot.busy || (nonceBytes s1).all (· == 0) then quoteRefuse s1 else { s1 with boot.busy := true }
  | _ => quoteRefuse s1

/-- Bytes 0 to 183 of the quote (R341). -/
def quoteBody (s : State) : List Byte :=
  [0x4E, 0x51, 0x01, 0x00] ++ s.boot.v.flatten ++ bytesBE 4 s.nvm.bootCount ++ bytesBE 4 s.boot.v3Count
    ++ nonceBytes s ++ [BitVec.ofNat 8 s.vine.nodeId, 0] ++ bytesBE 8 Config.uid.toNat
    ++ bytesBE 2 (revReg s).toNat

/-- The device's private attestation key (R341, log entry 12). -/
def attestKey : Nat := 1 + Config.attestKey % (p256N - 1)

/-- The 64 bytes of the `n`-th signature, r then s (R341, log entry 12). -/
def signature (n : Nat) (body : List Byte) : List Byte :=
  ecdsaSign attestKey (1 + Config.attestNonce n % (p256N - 1)) body

/-- The certificate of the public key, of at most 1,024 bytes (R341). -/
def certBytes : List Byte := (Config.certificate (p256Base attestKey)).take 1024

/-- Table 0x94 (R341, R354): the length in bytes, then the bytes, high byte first. -/
def certWord (a : Nat) : Word :=
  if a = 0 then word certBytes.length
  else certBytes.getD (2 * (a - 1)) 0 ++ certBytes.getD (2 * (a - 1) + 1) 0

/-- The quote is built and signed (R340, R341): table 0x93 holds it, and table 0x92 is cleared. What it
holds is what stands when it is done (log entry 74). -/
def quoteBuilt (s : State) : State :=
  if s.boot.busy then
    let body := quoteBody s
    let s1 := tsetRun 0x93 0 (packWords (body ++ signature s.free body)) { s with free := s.free + 1 }
    { tsetRun 0x92 0 (List.replicate 16 0) s1 with boot.busy := false, boot.done := true }
  else s

/-- A write of ATT_CTL where the core is clocked. -/
def attReg (op : Nat) (v3en : Bool) (s : State) : State := 
  if clocked s then routedOp (.reg 0x34 false (word (op * 8192 + atBit v3en 0))) (attCmd op v3en) s else s

/-- ATT_STAT (R353): SLOT and FALLBACK read 0 while no slot runs (R336). -/
def attStatReg (s : State) : Word :=
  let runs := s.boot.phase == .firmware || s.boot.phase == .up
  word (atBit s.boot.busy 15 + atBit s.boot.done 14 + atBit s.boot.qerr 13 + atBit (isUp s) 12
    + atBit (runs && s.boot.slotB) 11 + atBit (runs && s.boot.fallback) 10)

/-! ### Meanings -/

/-- WDG_WINDOW_OPEN (R345). -/
def execWdgWindowOpen (s : State) : Out := .next (windowOpens s)
/-- WDG_EXPIRY (R347). -/
def execWdgExpiry (s : State) : Out := .next (if wdgOver s then wdgReset 3 s else s)
/-- WDG_ANSWER (R346). -/
def execWdgAnswer (a : Word) (s : State) : Out := .next (if portDecodes s then wdgAnswerOp a s else s)
/-- WDG_PERIOD_WRITE (R348). -/
def execWdgPeriodWrite (data : Word) (s : State) : Out := .next (if portDecodes s then wdgCtlWrite data s else s)
/-- SOFT_RESET (R343). -/
def execSoftReset (s : State) : Out := .next (if portDecodes s then rstCauseWrite 0xC500 s else s)
/-- RST_CAUSE_CLEAR (R343). -/
def execRstCauseClear (mask : Byte) (s : State) : Out :=
  .next (if portDecodes s then rstCauseWrite (word mask.toNat) s else s)
/-- RST_CAUSE_INVALID_WRITE (R343): [15:8] is neither 0x00 nor 0xC5 with [7:0] at 0. -/
def execRstCauseInvalidWrite (data : Word) (s : State) : Out :=
  if data = 0xC500 ∨ bits data.toNat 15 8 = 0 then .fault .malformedOperand
  else .next (if portDecodes s then rstCauseWrite data s else s)
/-- ATT_NONE (R353). -/
def execAttNone (v3en : Bool) (s : State) : Out := .next (attReg 0 v3en s)
/-- QUOTE (R340). -/
def execQuote (v3en : Bool) (s : State) : Out := .next (attReg 1 v3en s)
/-- ATT_RESERVED_OP (R353): codes 2 to 7. -/
def execAttReservedOp (op : BitVec 3) (v3en : Bool) (s : State) : Out :=
  if op.toNat < 2 then .fault .malformedOperand else .next (attReg op.toNat v3en s)
/-- QUOTE_DONE (R341). -/
def execQuoteDone (s : State) : Out := .next (if coreRuns s then quoteBuilt s else s)

end Sys2Proof.Machine
end

