-- ==== Sys2Proof/Machine/Power.lean ====
section
/-! DEFINITION. The power ladder (R355-R370): requests, entry, wake sources, and what a sleep keeps. The exit
from a state is in `Startup`, since an exit from HUSH applies the configuration image again. -/

namespace Sys2Proof.Machine

/-! ### Requests (R358) -/

/-- A block that DOZE and deeper states stop is in use: reason 0x04. -/
def blocksInUse (s : State) : Bool :=
  s.mot.axes.any (·.en) || s.vlv.any (·.running) || s.jet.en != 0 || s.jet.wdacs.any (·.on) || s.ing.hvOn
    || s.enc.any (·.en)

/-- An NVM write or erase is in progress: reason 0x05. -/
def nvmWriting (s : State) : Bool := s.cal.storing.isSome || s.nvm.busy.any (fun o => o.op != 3)

/-- The reason a request for state `t` is refused, the first in the order listed (R358). -/
def pwrReason (s : State) (t : Nat) : Option Nat :=
  if t = 7 then some 1
  else if swathActive s || !s.ing.armq.isEmpty then some 2
  else if s.txn.phase == .validating || s.txn.phase == .prepared then some 3
  else if decide (2 ≤ t) && blocksInUse s then some 4
  else if decide (3 ≤ t) && nvmWriting s then some 5
  else if t == 4 && s.pwr.imageDirty then some 6
  else if decide (5 ≤ t) && !s.boot.seqSelf then some 7
  else if decide (5 ≤ t) && (otherRails s).any (fun r => (railOf s r).st != .off && (railOf s r).st != .fail) then some 8
  else none

/-- The slots that step 2 of R359 writes back. -/
def entrySlots (s : State) : List Nat :=
  (List.range 8).filter (fun f => consEn s f && decide (1000 ≤ pendingPl (consOf s f)))

/-- Steps 1 and 2 of R359: entry begins, wake sources are armed, and for HUSH and deeper the write-backs
start, each to be tried once. -/
def beginEntry (t : Nat) (s : State) : State :=
  let s1 := { s with pwr.entering := some t, pwr.wakeSeen := false, pwr.step3Done := false, pwr.wbFailed := false }
  if 4 ≤ t then
    (entrySlots s1).foldl (fun st f => startWriteback (pendingPl (consOf st f) / 1000) true f st) s1
  else s1

/-- A write of PWR_REQ (R358). While an entry runs a further request has no effect (log entry 34). -/
def pwrReqOp (t : Nat) (s : State) : State :=
  if t = 0 ∨ t = s.pwr.state ∨ s.pwr.entering.isSome then s
  else match pwrReason s t with
    | some r => refusePower r s
    | none => beginEntry t s

/-! ### Entry (R359, R361, R367) -/

/-- A lees record of the ladder: the state and WAKE_SRC (R391). -/
def pwrLees (code t : Nat) (s : State) : State :=
  lees 0x0D code [t, s.pwr.wakeSrc.toNat / 256, s.pwr.wakeSrc.toNat % 256] s

/-- A cask is discarded on the way to HUSH or deeper (R35, R359 step 3). -/
def discardCask (s : State) : State :=
  if txnExists s then rollback 0x85 { s with txn.reason := 0x0C } else s

/-- Step 3 of R359 with the entry record of R367, and the start of step 5. -/
def entryStep3 (t : Nat) (s : State) : State :=
  let s1 := if 4 ≤ t then discardCask s else s
  let s2 := if 3 ≤ t then pwrLees 0x81 t s1 else s1
  { (if 5 ≤ t then drainRails (selfRails s2) s2 else s2) with pwr.step3Done := true }

/-- Every SELF rail is off (R359 step 5). -/
def selfRailsOff (s : State) : Bool := (selfRails s).all (fun r => (railOf s r).st == .off || (railOf s r).st == .fail)

/-- The core and the forwarder lose their supplies; the SELF rails stay parked until a wake (R355, R365). -/
def coreUnpowered (s : State) : State :=
  { vineLost (blocksDown (leesFlush s)) with boot.phase := .supplies, boot.because := 0, rail.selfSeq := .parked }

/-- The node is in state `t` from now on (R355, R361, R369): LAST names the state left, ENTRIES counts CORK and
deeper, and a calibration run is abandoned on the way to DOZE and deeper (R376). -/
def enterState (t : Nat) (s : State) : State :=
  let from_ := s.pwr.state
  let s1 := if 5 ≤ t then coreUnpowered s else if 3 ≤ t then leesFlush s else s
  let s2 := if 3 ≤ t then bump 0x08 4 s1 else s1
  let s3 := if 2 ≤ t then { s2 with cal.run := none } else s2
  let s4 := { s3 with
    pwr.state := t, pwr.last := from_, pwr.entering := none, pwr.wbFailed := false, pwr.step3Done := false
    pwr.since := s.tk }
  if 5 ≤ t then s4 else raise irqPwr s4

/-- A wake event ends the entry (R359, R368). -/
def abortEntry (t : Nat) (s : State) : State :=
  raise irqPwr (pwrLeesCode t { s with
    pwr.entering := none, pwr.aborted := true, pwr.last := t, pwr.wakeSeen := false, pwr.wbFailed := false
    pwr.step3Done := false })
where
  /-- Error 0x02 with its record. -/
  pwrLeesCode (t : Nat) (s : State) : State := recErrLees 0x0D 2 [t] s

/-- A wake event found the SELF rails draining: they finish, and the node starts from step 2 of R326. -/
def abortDrained (t : Nat) (s : State) : State := selfStart (coreUnpowered (abortEntry t s))

/-! ### Wake sources (R360, R361) -/

/-- WAKE_TIME of table 0x08, in ms. -/
def wakeTime (s : State) : Nat := tnat32 s 0x08 1

/-- The wake timer runs out (R361). -/
def wakeTimer (s : State) : State :=
  if decide (1 ≤ s.pwr.state) && !s.pwr.waking && wakeTime s != 0 && decide (s.pwr.since + msTk (wakeTime s) ≤ s.tk) then
    wake 4 s
  else s

/-! ### Meanings -/

/-- PWR_REQ (R358). -/
def execPwrReq (target : BitVec 3) (s : State) : Out := .next (if clocked s then pwrReqOp target.toNat s else s)
/-- WAKE_TIMER_EXPIRY (R361). -/
def execWakeTimerExpiry (s : State) : Out := .next (wakeTimer s)
/-- WAKE_SQUELCH (R360): a driven receiver pair of VA, VB or VC. -/
def execWakeSquelch (port : Fin 3) (s : State) : Out := .next (wake port.val s)
/-- WAKE_NCS (R360). -/
def execWakeNcs (s : State) : Out := .next (wake 3 s)
/-- WAKE_PIN (R360): nWAKE0 or nWAKE1. -/
def execWakePin (pin : Fin 2) (s : State) : Out := .next (wake (5 + pin.val) s)

end Sys2Proof.Machine
end

