-- ==== Sys2Proof/Machine/Regs.lean ====
section
/-! DEFINITION. The register map and table space as the host sees them: what every register and table word
reads (R49, R51, R76, R77, R79, R114, R116 and the register and table references of every chapter), and
what a write to it does. Routing, queues and packets are in `HostPort`. -/

namespace Sys2Proof.Machine

/-! ### Lengths and masks of tables -/

/-- Number of words of the tables that are not cask-able; 0 for a reserved ID (R70). -/
def plainSize (t : Nat) : Nat :=
  match t with
  | 0x00 => 16 | 0x01 => 3 | 0x02 => 130 | 0x03 => 3 | 0x06 => 18 | 0x08 => 5
  | 0x10 => 10 | 0x11 => 6 | 0x12 => 32 | 0x13 => 48 | 0x14 => 512 | 0x15 => 4
  | 0x25 => 576 | 0x40 => 128 | 0x44 => 258 | 0x45 => 84
  | 0x50 => 1056 | 0x51 => 66 | 0x52 => 288 | 0x53 => 128 | 0x54 => 256 | 0x55 => 128 | 0x57 => 35
  | 0x58 => 6144 | 0x59 => 257 | 0x5A => 259 | 0x5B => 12
  | 0x61 => 256 | 0x72 => 128
  | 0x78 => 192 | 0x7A => 34 | 0x7B => 49 | 0x7C => 96 | 0x7D => 50
  | 0x80 => 8192 | 0x81 => 8192 | 0x84 => 5 | 0x85 => 2048 | 0x88 => 65536 | 0x89 => 6
  | 0x90 => 68 | 0x91 => 8 | 0x92 => 16 | 0x93 => 124 | 0x94 => 513
  | 0xA1 => 128 | 0xA3 => 64 | 0xA4 => 1027 | 0xA6 => 5 | 0xA7 => 11
  | _ => 0

/-- Number of words of table `t`; 0 for a reserved ID. -/
def tblLen (t : Nat) : Nat := if caskable t then caskSize t else plainSize t

/-- Table `t` answers (R70, R328, R335): in recovery only the NVM programming tables do. -/
def tblKnown (s : State) (t : Nat) : Bool :=
  match s.boot.phase with
  | .up => tblLen t != 0
  | .recovery => t == 0x84 || t == 0x85
  | _ => false

/-- The bits of a word of a cask-able table that no layout row leaves reserved (R6, R71). -/
def ckMask (t a : Nat) : Nat :=
  match t with
  | 0x20 => if 1024 ≤ a then 0xFFFF else (match a % 4 with | 0 => 0xC3FF | 1 => 0x3F3F | 2 => 0x1F3F | _ => 0)
  | 0x21 => if 256 ≤ a then 0xFFFF else
      (match a % 8 with | 0 => 0xFFF0 | 1 => 0xFF3F | 2 => 0xFFFF | 3 => 0xFFFF | 4 => 0x000F | 5 => 0xFFFF | _ => 0)
  | 0x22 =>
    let o := a % 64
    if o = 0 then 0xC01F else if o ≤ 16 then 0x3FFF
    else if o ≤ 48 then (if o % 2 = 1 then 0xFC00 else 0xFFFF)
    else if o = 63 then 0xFFFF else 0
  | 0x23 => if a % 512 ≤ 289 then 0xFFFF else 0
  | 0x24 => if 32 ≤ a then 0xFFFF else (match a % 4 with | 0 => 0x3FFF | 1 => 0x8000 | _ => 0)
  | 0x41 => if a < 16 then 0x00FF
    else if a < 40 then (match (a - 16) % 3 with | 0 => 0x8000 | 1 => 0x00FF | _ => 0x01FF)
    else if a = 40 ∨ a = 255 then 0xFFFF else if a = 41 then 0x0071 else 0
  | 0x43 => if 2048 ≤ a ∨ a % 2 = 1 then 0xFFFF else 0xF3FF
  | 0x60 => if a = 256 then 0x8007 else if 257 ≤ a then 0xFFFF
    else (match a % 32 with
      | 16 => 0x00FF | 22 => 0x00FF | 23 => 0x1FFF | o => if o ≤ 24 then 0xFFFF else 0)
  | 0x63 => if a % 4 = 0 then 0x8000 else 0xFFFF
  | 0x70 => if 128 ≤ a then 0xFFFF else (match a % 8 with | 5 => 0x0FFF | 6 => 0x00FF | _ => 0xFFFF)
  | 0x71 => (match a % 32 with | 0 => 0x7FF0 | 31 => 0xFFFF | o => if o ≤ 25 then 0xFFFF else 0)
  | 0x79 => if 32 ≤ a then 0xFFFF else (match a % 4 with | 0 => 0xF00F | 1 => 0xFFFF | 2 => 0x003F | _ => 0)
  | 0xA0 => if a % 16 = 0 then 0xFFF0 else if a % 16 ≤ 10 then 0xFFFF else 0
  | 0xA2 => (match a % 16 with
      | 0 => 0xFFF0 | 1 => 0x3F3F | 2 => 0x003F | 3 => 0x1F3F | o => if o ≤ 9 then 0xFFFF else 0)
  | _ => if 0x30 ≤ t ∧ t ≤ 0x37 then
      (match a with | 0 => 0xFC3F | 1 => 0xFF3F | 15 => 0xFFFF | o => if o ≤ 5 then 0xFFFF else 0)
    else 0xFFFF

/-! ### Status words -/

/-- TXN_CTL as it reads (R49). KIND last written is also that of a write refused with NESTED, TAGERR or REFUSED, other
than one with a reserved code (log entry 63). -/
def txnCtlReg (s : State) : Word :=
  let live := s.txn.phase == .validating || s.txn.phase == .prepared || s.txn.phase == .pending
    || s.txn.phase == .stranded || s.txn.phase == .resolving
  let kind := match s.txn.late with
    | some l => if txnExists s then l.1 else s.txn.kindWritten
    | none => if live && s.txn.phase != .resolving then s.txn.kind else s.txn.kindWritten
  word ((if txnExists s then s.txn.tag else 0) * 256 + atBit (txnExists s && s.txn.scope != .localScope) 7
    + atBit s.txn.view 6 + kind % 8 * 8)

/-- TXN_STAT (R46, R49). OPEN reads 1 in the open phase alone: not while a commit is validating, when the cask no longer
takes writes to what it touched (log entry 143). -/
def txnStatReg (s : State) : Word :=
  word (s.txn.fault * 256 + atBit (s.txn.phase == .opened) 7 + atBit (s.txn.phase == .pending) 6
    + atBit (s.txn.phase == .stranded || (txnRoot s && s.txn.strandedMask != 0)) 5 + atBit s.txn.expired 4
    + atBit s.txn.nested 3 + atBit s.txn.busy 2 + atBit s.txn.refused 1 + atBit s.txn.tagerr 0)

/-- The phase number of table 0x06 word 4 (R51). -/
def phaseCode : TxnPhase → Nat
  | .none => 0 | .opened => 1 | .validating => 2 | .prepared => 3 | .pending => 4 | .stranded => 5 | .resolving => 6

/-- What is left of the lease, in ms (R51); how a fraction is rounded is open (log entry 13). -/
def leaseLeftMs (s : State) : Nat :=
  let end_ := if txnMember s then s.txn.lastFromRoot + msTk s.txn.carriedLease else s.txn.leaseEnd
  if s.txn.phase == .opened || (txnMember s && s.txn.phase == .validating) then
    (divOpen 51 ((end_ - s.tk : Nat) : Int) 250000).toNat
  else 0

/-- The port toward a neighbour over a link that is up but not on the tree: the standby port (R102, R114). -/
def standbyPort (s : State) : Nat :=
  if s.vine.treePorts = 0 then 0
  else match [0, 1, 2].find? (fun p => (portOf s p).up && !onTree s p && (portOf s p).neighbour != 0) with
    | some p => p + 1
    | none => 0

/-- FAB_STAT (R114). -/
def fabStatReg (s : State) : Word :=
  let v := s.vine
  word (atBit v.ready 15 + atBit v.sync 14 + atBit v.overflow 13 + atBit v.dualroot 12 + atBit (splitNow s) 11
    + atBit v.failover 10 + atBit v.newlink 9 + atBit v.linkerr 8 + atBit v.operr 7 + standbyPort s * 16
    + atBit (portOf s 0).up 0 + atBit (portOf s 1).up 1 + atBit (portOf s 2).up 2)

/-- BOUNDARY (R49). -/
def boundaryReg (s : State) : Word :=
  word (atBit (swathActive s) 15 + atBit s.bnd.idle 14 + atBit s.bnd.held.isSome 13 + s.bnd.last * 2048
    + atBit s.bnd.lrepl 10 + s.bnd.idleMin)

/-- GATE_STAT (R247): a bit reads 1 while its source is closed for some group. -/
def gateStatReg (s : State) : Word :=
  let groups := List.range 32
  let srcs := (List.range 11).foldl (fun w i => w + atBit (groups.any (fun g => bit (gateBits s g) i)) i) 0
  word (atBit (groups.any (fun g => grEn s g && groupGateOpen s g)) 15 + atBit s.hc.jamWait 11 + srcs)

/-- JET_STAT (R186). -/
def jetStatReg (s : State) : Word :=
  let j := s.jet
  let firing := j.fires.any (fun f => decide (f.start ≤ s.tk) && decide (s.tk < f.fireEnd))
  word (atBit (j.en != 0) 15 + atBit firing 14 + atBit j.refire 13 + atBit j.trunc 12 + atBit j.wclamp 11
    + atBit j.operr 10 + atBit j.stalein 9 + atBit j.curvebad 8 + j.lastGrp % 32)

/-- WAITING (R208): a slot waits for admission, or the carriage waits at its turnaround (R266). -/
def waiting (s : State) : Bool := s.ing.waitFrom.isSome || s.mot.axes.any (·.waitTurn)

/-- INGEST_STAT (R213). -/
def ingestStatReg (s : State) : Word :=
  let i := s.ing
  let slot := match i.active with | some a => a.slot | none => (armHead s).getD 0
  word (atBit i.hvOn 15 + atBit i.throttled 14 + atBit i.overrun 13 + atBit i.hvbad 12 + atBit i.gap 11
    + atBit i.clamped 10 + atBit (waiting s) 9 + atBit i.starved 8 + atBit i.underrun 7 + atBit i.decerr 6
    + atBit i.seqerr 5 + atBit i.cmderr 4 + atBit i.active.isSome 3 + slot % 8)

/-- RAIL_STAT (R324). -/
def railStatReg (s : State) : Word :=
  let r := s.rail
  let shut := r.holdEnd.isSome || r.selfDrain || r.rails.any (fun h => h.pending || h.leaving || h.st == .drain)
  let busy := r.rails.any (fun h => h.st == .wait || h.st == .ramp || h.st == .drain)
  word (atBit r.pfw 15 + atBit r.cmptrip 14 + atBit r.faultev 13 + atBit r.startfail 12 + atBit r.forcedoff 11
    + atBit r.done 10 + atBit r.cmderr 9 + atBit r.cfgbusy 8 + atBit r.cfgerr 7 + atBit shut 6 + atBit busy 5
    + atBit r.selfretry 4 + r.lastRail % 16)

/-- MOT_STAT of the selected axis (R272). -/
def motStatReg (s : State) : Word :=
  let n := selAxis s
  let a := axisOf s n
  word (atBit a.en 15 + atBit (axMoving s n) 14 + atBit a.attgt 13 + atBit a.hold 12 + atBit a.braked 11
    + atBit a.waitTurn 10 + atBit a.cam.isSome 9 + atBit a.fault 8 + atBit a.refused 7 + atBit a.limit 6
    + atBit a.latched 5 + atBit a.clamped 4 + atBit a.sat 3 + atBit a.camerr 2
    + atBit (a.refLevel == some true) 1 + atBit a.refLevel.isSome 0)

/-- VLV_STAT of channel `n`, or of channel 2k for either channel of a pair (R293). -/
def vlvStatOf (s : State) (n : Nat) : Word :=
  let m := vlvMaster s n
  let v := valveOf s m
  word (atBit (vlvEn s m) 15 + atBit v.running 14 + atBit v.faultBr 13 + atBit v.relBr 12 + atBit v.offing 11
    + v.phase % 8 * 256 + atBit v.posact 7 + atBit v.posknown 6 + atBit v.stuck 5 + atBit v.tmo 4
    + atBit v.overcur 3 + atBit v.share 2 + atBit v.refused 1)

/-- CAL_STAT (R393). -/
def calStatReg (s : State) : Word :=
  let c := s.cal
  word (atBit c.run.isSome 15 + atBit (c.staged.contains .trims) 14 + atBit (c.staged.any itemIdle) 13
    + atBit c.forced 12 + atBit c.forceFail 11 + atBit c.forcing 10 + atBit c.noset 9 + atBit c.copybad 8
    + atBit c.storefail 7 + atBit c.refused 6 + atBit c.skipped 5 + atBit c.cfgbad 4 + c.lastTrig % 8)

/-- PWR_STATE (R369). -/
def pwrStateReg (s : State) : Word :=
  word (s.pwr.state * 8192 + s.pwr.last * 1024 + atBit s.pwr.refused 9 + atBit s.pwr.aborted 8 + s.pwr.reason % 16)

/-- HST_STAT (R77). -/
def hstStatReg (s : State) : Word := word (min s.host.crcerr 255 * 256 + s.host.hstFlags.toNat)

/-- ENC_STAT of channel `c` (R137). -/
def encStatReg (s : State) (c : Nat) : Word :=
  let e := encOf s c
  word (atBit (encActive s c) 15 + atBit e.held 14 + atBit e.uncertain 13 + atBit e.inferred 12 + atBit e.idx 11
    + atBit e.overspeed 10 + atBit e.hallbad 9 + atBit e.hallskip 8 + atBit e.stale 7 + atBit e.ssicrc 6
    + atBit e.ssierr 5 + atBit e.ssimono 4 + atBit e.down 3)

/-- GRID_STAT (R159). -/
def gridStatReg (s : State) : Word :=
  word (atBit s.grid.lock 15 + atBit s.grid.openRegion.isSome 14 + atBit s.grid.relaylost 13
    + atBit s.hc.gridClosed 12 + atBit s.grid.cfgbusy 11 + atBit s.grid.cfgerr 10 + atBit (gridNoSync s) 9
    + atBit (tokensOn s) 8)

/-- NVMSTAT (R394). -/
def nvmStatReg (s : State) : Word :=
  word (atBit s.nvm.busy.isSome 15 + atBit s.nvm.done 14 + atBit s.nvm.err 13 + atBit s.nvm.refused 12
    + s.nvm.reason % 16)

/-- HCSTAT (R248). -/
def hcStatReg (s : State) : Word :=
  word (atBit s.hc.cfgbusy 15 + atBit s.hc.cfgerr 14 + atBit s.hc.cmderr 13
    + atBit (s.hc.reads.any (·.busy)) 12 + s.hc.busFault % 16)

/-! ### Table views -/

/-- The index of the newest entry of a ring of `n` that has taken `total` entries. -/
def ringNewest (n total : Nat) : Nat := if total = 0 then 0xFFFF else (total - 1) % n

/-- Entry `k` of such a ring, kept newest first. -/
def ringEntry {α : Type} (n total : Nat) (newestFirst : List α) (k : Nat) : Option α :=
  newestFirst[(ringNewest n total + n - k) % n]?

/-- Table 0x02 (R79). -/
def errHistoryWord (s : State) (a : Nat) : Word :=
  if a = 128 then word (ringNewest 32 s.host.errTotal)
  else if a = 129 then word (sat16 s.host.errTotal)
  else match ringEntry 32 s.host.errTotal s.host.errHist (a / 4) with
    | some e => if a % 4 = 0 then e.1 else wordAt e.2.toNat (a % 4 - 1)
    | none => 0

/-- Table 0x06 (R51). -/
def txnRecordWord (s : State) (a : Nat) : Word :=
  match a with
  | 2 => word (leaseLeftMs s)
  | 3 => word s.txn.reason
  | 4 => word (if resolving s then 6 else phaseCode s.txn.phase)
  | 5 => word s.txn.peer
  | 6 => wordAt s.txn.decLayer.toNat 0
  | 7 => wordAt s.txn.decLayer.toNat 1
  | 8 => s.txn.decSwath
  | 9 => s.txn.decInfo
  | 10 => wordAt s.txn.named.layer.toNat 0
  | 11 => wordAt s.txn.named.layer.toNat 1
  | 12 => s.txn.named.swath
  | 13 => wordAt s.txn.strandedMask 0
  | 14 => wordAt s.txn.strandedMask 1
  | 15 => wordAt s.txn.strandedMask 2
  | 16 => wordAt s.txn.strandedMask 3
  | 17 => word (atBit s.txn.named.next 0)
  | _ => tget s 0x06 a

/-- Table 0x08 (R370). -/
def powerWord (s : State) (a : Nat) : Word :=
  match a with
  | 0 => tget s 0x08 0 ||| 0x0507
  | 3 => word (sat16 s.pwr.slept)
  | _ => tget s 0x08 a

/-- Table 0x10 (R116). -/
def routeWord (s : State) (a : Nat) : Word :=
  match a with
  | 8 => word s.vine.treePorts
  | 9 => word s.vine.parentPort
  | _ => word ((List.range 8).foldl (fun w i => w + s.vine.routes.getD (8 * a + i) 0 * 4 ^ i) 0)

/-- Table 0x11 (R116). -/
def identityWord (s : State) (a : Nat) : Word :=
  match a with
  | 4 => word s.vine.arrivalPort
  | 5 => word s.vine.depth
  | _ => wordAt Config.uid.toNat a

/-- Table 0x14 (R116). -/
def directoryWord (s : State) (a : Nat) : Word :=
  if isRoot s then
    match s.vine.dir.find? (fun e => e.node == a / 8) with
    | some e => (match a % 8 with
      | 4 => word e.parent | 5 => word e.parentPort | 6 => word e.depth | 7 => word e.reach
      | o => wordAt e.uid.toNat o)
    | none => 0
  else 0

/-- Table 0x15 (R116). The last error out of the word's range is open (log entry 14). -/
def syncWord (s : State) (a : Nat) : Word :=
  match a with
  | 0 => if -32768 ≤ s.vine.lastErr ∧ s.vine.lastErr ≤ 32767 then intWord s.vine.lastErr 0
         else word (Config.openValue 116 s.vine.lastErr.natAbs)
  | 1 => word s.vine.inLat
  | _ => tget s 0x15 a

/-- Table 0x25 (R187). It reads zero after a core reset (R184), the code of a WDAC that has not been switched on since
among it, although that is the mid-code (R176, log entry 155). -/
def jetWord (s : State) (a : Nat) : Word :=
  if 258 ≤ a ∧ a < 290 then
    let g := a - 258
    word (atBit (grEn s g) 15 + atBit (inputsOk s g) 14
      + atBit ((List.range 32).any (fun h => match unitTrig s h with | some t => t / 8 == g | none => false)) 13)
  else if 290 ≤ a ∧ a < 298 then
    let d := wdacOf s (a - 290)
    if d.used then word (atBit d.on 15 + atBit d.ready 14 + wdacCode s (a - 290)) else 0
  else if 298 ≤ a ∧ a < 306 then word ((wdacOf s (a - 298)).scale.getD 0)
  else if 512 ≤ a then wordAt (minInterval s ((a - 512) / 2)) (a % 2)
  else tget s 0x25 a

/-- Table 0x44 (R159). -/
def resultWord (s : State) (a : Nat) : Word :=
  if a = 256 then word (ringNewest 32 s.grid.resultTotal)
  else if a = 257 then word (sat16 s.grid.resultTotal)
  else match ringEntry 32 s.grid.resultTotal s.grid.results (a / 8) with
    | some r => (match a % 8 with
      | 0 => wordAt r.layer.toNat 0
      | 1 => wordAt r.layer.toNat 1
      | 2 => r.swath
      | 3 => word (r.state * 16384 + r.pass % 16 * 1024 + atBit r.gated 9 + atBit r.relay 8 + atBit r.reset 7)
      | 7 => word (sat16 r.skipped)
      | o => if r.state = 0 ∨ r.state = 2 then 0 else intWord r.disc (o - 4))
    | none => 0

/-- The number of a slot's state (R214). -/
def slotCode : SlotState → Nat
  | .empty => 0 | .filling => 1 | .armed => 2 | .active => 3 | .done => 4

/-- A slot's place in the arm queue, counted from 1; 0 for a slot that is not in it (log entry 75). -/
def armPlace (s : State) (sl : Nat) : Nat :=
  if s.ing.armq.contains sl then s.ing.armq.idxOf sl + 1 else 0

/-- The time HV_RDY has been low, in µs (R211). -/
def hvLowUs (s : State) : Nat :=
  min ((s.ing.lowTk + (match s.ing.rdyLowFrom with | some t => s.tk - t | none => 0)) / 250) 0xFFFFFFFF

/-- Table 0x45 (R214). -/
def ingestWord (s : State) (a : Nat) : Word :=
  if a = 0 then 0
  else if a = 1 then word s.ing.armq.length
  else if 8 ≤ a ∧ a < 72 then
    let sl := a / 8 - 1
    let x := slotOf s sl
    match a % 8 with
    | 0 => word (slotCode x.st + atBit x.gap 3)
    | 1 => wordAt x.fill 0
    | 2 => wordAt x.fill 1
    | 3 => wordAt x.vplan 0
    | 4 => wordAt x.vplan 1
    | 5 => word (armPlace s sl)
    | _ => 0
  else if a = 72 then wordAt (hvLowUs s) 0
  else if a = 73 then wordAt (hvLowUs s) 1
  else tget s 0x45 a

/-- Table 0x53 (R248). -/
def consWord (s : State) (a : Nat) : Word :=
  let c := consOf s (a / 16)
  match a % 16 with
  | 0 => word (atBit c.auth 15 + atBit c.exhausted 14 + atBit c.low 13 + atBit c.unsynced 12 + atBit c.wbBusy 11)
  | 5 => wordAt c.remain 0
  | 6 => wordAt c.remain 1
  | 7 => wordAt (pendingPl c) 0
  | 8 => wordAt (pendingPl c) 1
  | 9 => wordAt (pendingPl c) 2
  | 10 => tget s 0x53 a
  | 11 => word (sat16 ((s.tk - c.lastSync) / 250000000))
  | o => if o ≤ 4 then wordAt c.cid.toNat (o - 1) else 0

/-- The number of a temperature state (R248). -/
def tempCode : TempState → Nat
  | .normal => 0 | .over => 1 | .under => 2 | .fault => 3

/-- Table 0x55 (R248). -/
def tempWord (s : State) (a : Nat) : Word :=
  let h := tempOf s (a / 4)
  match a % 4 with
  | 0 => intWord h.t 0
  | 1 => word h.raw
  | 2 => word (tempCode h.st)
  | _ => tget s 0x55 a

/-- Table 0x57 (R248). -/
def gateWord (s : State) (a : Nat) : Word :=
  if a < 32 then word (atBit (groupGateOpen s a) 15 + atBit s.hc.jamWait 11 + gateBits s a)
  else tget s 0x57 a

/-- Table 0x5B (R248). -/
def careWord (s : State) (a : Nat) : Word :=
  match a with
  | 0 => 0
  | 1 => hcStatReg s
  | _ => tget s 0x5B a

/-- A number in 2^-32 of its unit as a whole number; how a fraction is rounded is open (log entry 13). -/
def wholeOpen (x : Int) : Int := divOpen 2731 x 4294967296

/-- Table 0x61 (R273); `hi` is what a read of word 5 latched. -/
def axisWord (s : State) (a : Nat) : Word :=
  let n := a / 32
  let x := axisOf s n
  let k := axisKin s n s.tk
  match a % 32 with
  | 5 => intWord (k.x / fx) 0
  | 6 => x.posLatch
  | 7 => intWord (wholeOpen k.v) 0
  | 8 => intWord (wholeOpen k.v) 1
  | 9 => intWord (wholeOpen k.a) 0
  | 10 => intWord (wholeOpen k.a) 1
  | 11 => intWord x.latch 0
  | 12 => intWord x.latch 1
  | 15 => wordAt x.planVmax 0
  | 16 => wordAt x.planVmax 1
  | 17 => if n < 4 then intWord x.dutyA 0 else 0
  | 18 => if n < 4 then intWord x.dutyB 0 else 0
  | 22 => if isPrintAxis s n then word s.mot.permits.length else 0
  | _ => tget s 0x61 a

/-- Table 0x72 (R295). -/
def valveWord (s : State) (a : Nat) : Word :=
  let n := a / 8
  let m := vlvMaster s n
  let v := valveOf s m
  match a % 8 with
  | 0 => vlvStatOf s n
  | 1 => intWord v.i 0
  | 2 => intWord v.r 0
  | 3 => word (if n = m then v.d else v.dPartner)
  | 4 => if v.running then word (sat16 ((s.tk - v.phaseFrom) / 25000)) else 0
  | _ => tget s 0x72 a

/-- The number of a rail's state (R303). -/
def railCode : RailState → Nat
  | .off => 0 | .wait => 1 | .ramp => 2 | .good => 3 | .drain => 4 | .fail => 5

/-- Table 0x78 (R325): MON of rails 10 and 11 is hard-wired. -/
def railCfgWord (s : State) (a : Nat) : Word :=
  if a % 16 = 0 ∧ 160 ≤ a then tget s 0x78 a ||| 0x4000 else tget s 0x78 a

/-- The target mask of table 0x7A word 33 (R325). -/
def railTargets (s : State) : Nat :=
  enableRails.foldl (fun m r => m + atBit (railOf s r).target r) 0

/-- Table 0x7B (R325). -/
def railWord (s : State) (a : Nat) : Word :=
  if a = 48 then tget s 0x7B 48
  else
    let h := railOf s (a / 4)
    match a % 4 with
    | 0 => word (atBit h.uv 15 + atBit h.ov 14 + atBit h.forced 13 + atBit h.target 12
        + atBit (h.vAt.isSome && railSettled s (a / 4)) 11 + atBit h.pending 10 + railCode h.st)
    | 1 => word h.v
    | 2 => word h.code
    | _ => intWord h.s 0

/-- A word of two bytes of the log, high byte first (R394). -/
def leesWord (s : State) (a : Nat) : Word :=
  word ((nvmByte s (0x0D8000 + 2 * a)).toNat * 256 + (nvmByte s (0x0D8000 + 2 * a + 1)).toNat)

/-- Table 0x89 (R394). -/
def leesStateWord (s : State) (a : Nat) : Word :=
  match a, s.nvm.leesNewest with
  | 0, some k => word k
  | 0, none => 0xFFFF
  | 1, _ => word s.nvm.leesOldest
  | 2, some k => wordAt (leesSeqOf (leesLine s k)) 0
  | 3, some k => wordAt (leesSeqOf (leesLine s k)) 1
  | 4, _ => tget s 0x89 4
  | 5, _ => word s.nvm.abandoned
  | _, _ => 0

/-- Table 0x90 (R354). -/
def vintageWord (s : State) (a : Nat) : Word :=
  if a < 64 then
    let v := s.boot.v.getD (a / 16) []
    word ((v.getD (2 * (a % 16)) 0).toNat * 256 + (v.getD (2 * (a % 16) + 1) 0).toNat)
  else if a < 66 then wordAt s.nvm.bootCount (a - 64)
  else wordAt s.boot.v3Count (a - 66)

/-- Table 0xA1 (R137). -/
def encWord (s : State) (a : Nat) : Word :=
  let c := a / 16
  let e := encOf s c
  match a % 16 with
  | 0 => word (atBit e.en 15 + atBit e.rehomeArmed 14)
  | 1 => encStatReg s c
  | 2 => intWord e.count 0
  | 3 => e.latchHi
  | 4 => intWord (encVel s c) 0
  | 5 => intWord (encVel s c) 1
  | 6 => intWord e.lastRev 0
  | 7 => intWord e.lastRev 1
  | 8 => intWord e.rawpos 0
  | 9 => intWord e.rawpos 1
  | 10 => intWord e.ssiOffset 0
  | 11 => intWord e.ssiOffset 1
  | _ => 0

/-- Table 0xA4 (R159). -/
def skipWord (s : State) (a : Nat) : Word :=
  if a = 1024 then word (ringNewest 128 s.grid.skipTotal)
  else if a = 1025 then word (sat16 s.grid.skipTotal)
  else if a = 1026 then word s.grid.skipOver
  else match ringEntry 128 s.grid.skipTotal s.grid.skips (a / 8) with
    | some e => (match a % 8 with
      | 0 => word e.channel | 1 => word e.column | 2 => e.swath | 3 => word (e.pass % 16)
      | 4 => wordAt e.layer.toNat 0 | 5 => wordAt e.layer.toNat 1 | _ => 0)
    | none => 0

/-- Table 0xA7 (R159). -/
def gridWord (s : State) (a : Nat) : Word :=
  match a with
  | 3 => intWord (gridVel s) 0
  | 4 => intWord (gridVel s) 1
  | 5 => gridStatReg s
  | 6 => intWord s.grid.ofs 0
  | 7 => tget s 0xA7 7
  | 8 => tget s 0xA7 8
  | 9 => tget s 0xA7 9
  | 10 =>
    let m := if gridSrc s = 2 then s.grid.rxMism else s.grid.verdictMism
    let e := if gridSrc s = 2 then s.grid.rxEpoch.getD 0 else s.grid.verdictEpoch
    word (atBit m 5 + e % 4 * 8)
  | _ => intWord (gridUnits s) a

/-- Word `a` of table `t`, within its length, outside the cask's view. -/
def tblView (s : State) (t a : Nat) : Word :=
  match t with
  | 0x01 => if a = 0 then wordAt s.tick.toNat 0 else wordAt s.host.timeLatch.toNat (a - 1)
  | 0x02 => errHistoryWord s a
  | 0x06 => txnRecordWord s a
  | 0x08 => powerWord s a
  | 0x10 => routeWord s a
  | 0x11 => identityWord s a
  | 0x12 => if a < 4 then wordAt (groupMask s 0) a else tget s 0x12 a
  | 0x13 => if a % 16 = 12 then word (sat16 (latencyOf s (a / 16))) else tget s 0x13 a
  | 0x14 => directoryWord s a
  | 0x15 => syncWord s a
  | 0x25 => jetWord s a
  | 0x44 => resultWord s a
  | 0x45 => ingestWord s a
  | 0x53 => consWord s a
  | 0x55 => tempWord s a
  | 0x57 => gateWord s a
  | 0x59 => if a = 256 then (match s.hc.learn with | some l => word (0x8000 + l.wf % 64) | none => 0) else tget s 0x59 a
  | 0x5B => careWord s a
  | 0x61 => axisWord s a
  | 0x72 => valveWord s a
  | 0x78 => railCfgWord s a
  | 0x7A => if a = 33 then word (railTargets s) else tget s 0x7A a
  | 0x7B => railWord s a
  | 0x84 => if a = 0 then 0 else if a = 4 then nvmStatReg s else tget s 0x84 a
  | 0x88 => leesWord s a
  | 0x89 => leesStateWord s a
  | 0x90 => vintageWord s a
  | 0x94 => certWord a
  | 0xA1 => encWord s a
  | 0xA4 => skipWord s a
  | 0xA7 => gridWord s a
  | _ => tget s t a

/-- A read of word `a` of table `t` in LIVE or CASK view (R26). -/
def tblValue (s : State) (t a : Nat) (view : Bool) : Word :=
  if caskable t then
    match view, s.txn.cask with
    | true, some k => cellGet tblDefault k.mem (tkey t a)
    | _, _ => tget s t a
  else tblView s t a

/-- What a read latches for the reads that follow it: TICK (R11), a count (R128) and a position (R273). -/
def tblLatch (t a : Nat) (s : State) : State :=
  if t = 0x01 ∧ a = 0 then { s with host.timeLatch := BitVec.ofNat 32 (s.tick.toNat / 65536) }
  else if t = 0xA1 ∧ a % 16 = 2 then setEnc (a / 16) (fun e => { e with latchHi := intWord e.count 1 }) s
  else if t = 0x61 ∧ a % 32 = 5 then
    let hi := intWord ((axisKin s (a / 32) s.tk).x / fx) 1
    setAxis (a / 32) (fun x => { x with posLatch := hi }) s
  else s

/-! ### Table writes -/

/-- A write clears a counter of two words. -/
def clear32 (t a : Nat) (s : State) : State := tset t (a + 1) 0 (tset t a 0 s)

/-- A W1C bit: a 1 clears the flag, a 0 leaves it (R5). -/
def w1c (flag : Bool) (d : Word) (i : Nat) : Bool := flag && !d.getLsbD i

/-- ENC_CTL (R118, R120, R128): both bits are RW, so a 0 in REHOME disarms a rehome (log entry 133). -/
def encCtlWrite (c : Nat) (d : Word) (s : State) : State :=
  encWrite (if d.getLsbD 14 then 2 else 3) c (encWrite (if d.getLsbD 15 then 0 else 1) c s)

/-- ENC_STAT (R137). -/
def encStatWrite (c : Nat) (d : Word) (s : State) : State :=
  setEnc c (fun e => { e with
    uncertain := w1c e.uncertain d 13, inferred := w1c e.inferred d 12, idx := w1c e.idx d 11
    overspeed := w1c e.overspeed d 10, hallbad := w1c e.hallbad d 9, hallskip := w1c e.hallskip d 8
    ssicrc := w1c e.ssicrc d 6, ssierr := w1c e.ssierr d 5, ssimono := w1c e.ssimono d 4 }) s

/-- Table 0xA1 (R137). -/
def encTblWrite (a : Nat) (d : Word) (s : State) : State :=
  match a % 16 with
  | 0 => encCtlWrite (a / 16) d s
  | 1 => encStatWrite (a / 16) d s
  | 2 => setEnc (a / 16) (fun e => { e with stageLo := d }) s
  | 3 => countWriteOp (a / 16) d s
  | _ => s

/-- Table 0x61 (R273). -/
def axisTblWrite (a : Nat) (d : Word) (s : State) : State :=
  match a % 32 with
  | 0 => tset 0x61 a (d &&& 0xE003) s
  | 3 => tset 0x61 a (d &&& 0x8007) s
  | 19 => tset 0x61 a 0 s
  | 20 => tset 0x61 a 0 s
  | 21 => tset 0x61 a 0 s
  | o => if o = 1 ∨ o = 2 ∨ o = 13 ∨ o = 14 then tset 0x61 a d s else s

/-- Table 0x12: mask 0 is read-only, and bits 0 and 63 of a mask are reserved (R116). -/
def groupTblWrite (a : Nat) (d : Word) (s : State) : State :=
  if a < 4 then s
  else tset 0x12 a (if a % 4 = 0 then d &&& 0xFFFE else if a % 4 = 3 then d &&& 0x7FFF else d) s

/-- Table 0x13: a packet count clears as a whole. -/
def linkTblWrite (a : Nat) (s : State) : State :=
  let o := a % 16
  if o ≤ 7 then tset 0x13 a 0 s
  else if o ≤ 11 then clear32 0x13 (a / 2 * 2) s
  else s

/-- Table 0x25 (R187). -/
def jetTblWrite (a : Nat) (s : State) : State :=
  if a < 256 ∨ a = 306 ∨ a = 307 then tset 0x25 a 0 s
  else if a < 258 then clear32 0x25 256 s
  else s

/-- Table 0x5B (R248). -/
def careTblWrite (a : Nat) (d : Word) (s : State) : State :=
  if a = 0 then hcCmd (bits d.toNat 15 12) (bits d.toNat 5 0) s
  else if a = 1 then { s with
    hc.cfgbusy := w1c s.hc.cfgbusy d 15, hc.cfgerr := w1c s.hc.cfgerr d 14, hc.cmderr := w1c s.hc.cmderr d 13 }
  else if a ≤ 9 then tset 0x5B a 0 s
  else s

/-- Table 0x84 (R394). -/
def nvmTblWrite (a : Nat) (d : Word) (s : State) : State :=
  match a with
  | 0 => nvmWrite (bits d.toNat 15 12) (bits d.toNat 2 0) s
  | 4 => { s with
    nvm.done := w1c s.nvm.done d 14, nvm.err := w1c s.nvm.err d 13, nvm.refused := w1c s.nvm.refused d 12 }
  | _ => tset 0x84 a d s

/-- Table 0xA7 (R159). -/
def gridTblWrite (a : Nat) (d : Word) (s : State) : State :=
  if a = 5 then { s with
    grid.relaylost := w1c s.grid.relaylost d 13, grid.cfgbusy := w1c s.grid.cfgbusy d 11
    grid.cfgerr := w1c s.grid.cfgerr d 10 }
  else if 7 ≤ a ∧ a ≤ 9 then tset 0xA7 a 0 s
  else s

/-- A write of a table that is not cask-able. -/
def plainWrite (t a : Nat) (d : Word) (s : State) : State :=
  match t with
  | 0x00 => if a < 8 then tset 0x00 a 0 s else if a < 10 then clear32 0x00 8 s else s
  | 0x06 => if a < 2 then tset 0x06 a d s else s
  | 0x08 => (match a with
    | 0 => tset 0x08 0 (d &&& 0x02F8) s
    | 3 => s
    | 4 => tset 0x08 4 0 s
    | _ => tset 0x08 a d s)
  | 0x12 => groupTblWrite a d s
  | 0x13 => linkTblWrite a s
  | 0x15 => if 2 ≤ a then tset 0x15 a 0 s else s
  | 0x25 => jetTblWrite a s
  | 0x40 => descriptorWrite a d s
  | 0x45 => if a = 0 then ingWrite (bits d.toNat 15 13) (bits d.toNat 2 0) s
      else ingCounter a s
  | 0x51 => hcConfigWriteOp 0x51 a d s
  | 0x52 => hcConfigWriteOp 0x52 a d s
  | 0x53 => if a % 16 = 10 then tset 0x53 a 0 s else s
  | 0x54 => hcConfigWriteOp 0x54 a d s
  | 0x55 => if a % 4 = 3 then tset 0x55 a 0 s else s
  | 0x57 => if 32 ≤ a then tset 0x57 a 0 s else s
  | 0x58 => hcConfigWriteOp 0x58 a d s
  | 0x59 => if a = 256 then s else hcConfigWriteOp 0x59 a d s
  | 0x5A => if a = 256 then tset 0x5A 256 (d &&& 0x003F) s else if a = 258 then tset 0x5A 258 0 s else s
  | 0x5B => careTblWrite a d s
  | 0x61 => axisTblWrite a d s
  | 0x72 => if 5 ≤ a % 8 then tset 0x72 a 0 s else s
  | 0x78 => railConfig 0x78 a d s
  | 0x7A => railConfig 0x7A a d s
  | 0x7B => if a = 48 then tset 0x7B 48 0 s else s
  | 0x7C => railCounter a s
  | 0x84 => nvmTblWrite a d s
  | 0x85 => tset 0x85 a d s
  | 0x89 => if a = 4 then tset 0x89 4 0 s else s
  | 0x92 => tset 0x92 a d s
  | 0xA1 => encTblWrite a d s
  | 0xA3 => tset 0xA3 a 0 s
  | 0xA6 => gridCfgWriteOp a d s
  | 0xA7 => gridTblWrite a d s
  | _ => s

/-- A write of word `a` of table `t`, within its length; a reserved word of a cask-able table ignores it. -/
def tblWrite (t a : Nat) (d : Word) (s : State) : State :=
  if caskable t then (if ckMask t a = 0 then s else ckWrite t a (d &&& word (ckMask t a)) s)
  else plainWrite t a d s

/-! ### The table window (R69-R71) -/

/-- The table selected. -/
def selTable (s : State) : Nat := s.host.tblSel.toNat

/-- INC moves the address on, wrapping (R69). -/
def incAddr (inc : Bool) (s : State) : State :=
  if inc then { s with host.tblAddr := s.host.tblAddr + 1 } else s

/-- An access beyond the table's length (R71). -/
def tableEnd (s : State) : State := recErr 1 9 (hstFlag 0 s)

/-- A read of TBL_DATA. -/
def windowRead (inc view : Bool) (s : State) : Word × State :=
  let t := selTable s
  let a := s.host.tblAddr.toNat
  if !tblKnown s t then (0, s)
  else if tblLen t ≤ a then (0, incAddr inc (tableEnd s))
  else (tblValue s t a view, incAddr inc (tblLatch t a s))

/-- A write of TBL_DATA. -/
def windowWrite (inc : Bool) (d : Word) (s : State) : State :=
  let t := selTable s
  let a := s.host.tblAddr.toNat
  if !tblKnown s t then s
  else if tblLen t ≤ a then incAddr inc (tableEnd s)
  else incAddr inc (tblWrite t a d s)

/-- A write of TBL_SEL: a reserved ID sets BADTBL and is counted (R70). -/
def selectTable (d : Word) (s : State) : State :=
  let s1 := { s with host.tblSel := BitVec.ofNat 8 d.toNat }
  if tblKnown s1 (selTable s1) then s1 else recErr 1 5 (hstFlag 4 (bump 0x00 3 s1))

/-! ### Registers -/

/-- The value of register `a` of a node where it answers (R76); TBL_DATA is read through the window. -/
def regValue (s : State) (a : Nat) : Word :=
  match a with
  | 0x00 => 0x4E56
  | 0x01 => 0x0256
  | 0x02 => revReg s
  | 0x03 => word (atBit s.boot.hsel 15 + s.vine.nodeId % 64)
  | 0x04 => hstStatReg s
  | 0x05 => irqActive s
  | 0x06 => s.host.irqMask
  | 0x08 => txnCtlReg s
  | 0x09 => txnStatReg s
  | 0x0A => word s.txn.lease
  | 0x0B => word s.txn.faultAt
  | 0x0C => word s.host.tblSel.toNat
  | 0x0D => wordAt s.host.tblAddr.toNat 0
  | 0x0E => wordAt s.host.tblAddr.toNat 1
  | 0x10 => s.boot.wdgQ
  | 0x12 => wdgCtlReg s
  | 0x13 => rstCauseReg s
  | 0x14 => pwrStateReg s
  | 0x16 => s.pwr.wakeSrc
  | 0x18 => word (s.vine.portEn % 8 * 256)
  | 0x19 => fabStatReg s
  | 0x1A => word s.vine.fabDst
  | 0x1B => word s.vine.fabGroup
  | 0x1C => wordAt s.bnd.layer.toNat 0
  | 0x1D => wordAt s.bnd.layer.toNat 1
  | 0x1E => s.bnd.swath
  | 0x1F => boundaryReg s
  | 0x20 => gateStatReg s
  | 0x22 => jetStatReg s
  | 0x23 => ingestStatReg s
  | 0x24 => railStatReg s
  | 0x26 => word (atBit s.rail.cmpen 15 + atBit s.rail.force 14 + s.rail.hold % 512)
  | 0x29 => word (s.mot.sel % 8)
  | 0x2A => motStatReg s
  | 0x2C => word (s.vlvSel % 16)
  | 0x2D => vlvStatOf s s.vlvSel
  | 0x30 => word (s.cal.maxDefer % 32 * 256 + s.cal.delta % 256)
  | 0x31 => calStatReg s
  | 0x32 => s.cal.tempDie
  | 0x34 => word (atBit s.boot.v3en 0)
  | 0x35 => attStatReg s
  | 0x38 => s.host.errFirst
  | 0x39 => word s.host.errCount
  | 0x3F => s.host.scratch
  | _ => 0

/-- A read of register `a` with what the read itself changes: CRCERR clears (R77), and a TBL_DATA read moves the
window and latches. -/
def regRead (a : Nat) (inc view : Bool) (s : State) : Word × State :=
  if a = 0x0F then windowRead inc view s
  else if a = 0x04 then (regValue s a, { s with host.crcerr := 0 })
  else (regValue s a, s)

/-- A write of TXN_CTL (R49). -/
def txnCtlWrite (d : Word) (s : State) : State := txnCtl (bits d.toNat 2 0) (txnCtlOf d) s

/-- A write of IRQ_CLR: a bit whose source has an event in the same TK stays set (R72), be it one that this TK has
already seen or one of `coincident`. -/
def irqClear (mask coincident : Word) (s : State) : State :=
  { s with host.irqPend := (s.host.irqPend &&& ~~~mask) ||| (mask &&& (coincident ||| irqNow s)) }

/-- A write of JET_STAT (R186). -/
def jetStatWrite (d : Word) (s : State) : State :=
  { s with
    jet.refire := w1c s.jet.refire d 13, jet.trunc := w1c s.jet.trunc d 12, jet.wclamp := w1c s.jet.wclamp d 11
    jet.operr := w1c s.jet.operr d 10, jet.stalein := w1c s.jet.stalein d 9, jet.curvebad := w1c s.jet.curvebad d 8 }

/-- A write of INGEST_STAT (R213). -/
def ingestStatWrite (d : Word) (s : State) : State :=
  { s with
    ing.throttled := w1c s.ing.throttled d 14, ing.overrun := w1c s.ing.overrun d 13, ing.hvbad := w1c s.ing.hvbad d 12
    ing.gap := w1c s.ing.gap d 11, ing.clamped := w1c s.ing.clamped d 10, ing.starved := w1c s.ing.starved d 8
    ing.underrun := w1c s.ing.underrun d 7, ing.decerr := w1c s.ing.decerr d 6, ing.seqerr := w1c s.ing.seqerr d 5
    ing.cmderr := w1c s.ing.cmderr d 4 }

/-- A write of RAIL_STAT (R312, R324). -/
def railStatWrite (d : Word) (s : State) : State :=
  let s1 := { s with
    rail.faultev := w1c s.rail.faultev d 13, rail.startfail := w1c s.rail.startfail d 12
    rail.forcedoff := w1c s.rail.forcedoff d 11, rail.done := w1c s.rail.done d 10, rail.cmderr := w1c s.rail.cmderr d 9
    rail.cfgbusy := w1c s.rail.cfgbusy d 8, rail.cfgerr := w1c s.rail.cfgerr d 7, rail.selfretry := w1c s.rail.selfretry d 4 }
  if d.getLsbD 15 then pfwClearOp s1 else s1

/-- A write of MOT_STAT (R272). -/
def motStatWrite (d : Word) (s : State) : State :=
  setAxis (selAxis s) (fun a => { a with
    refused := w1c a.refused d 7, limit := w1c a.limit d 6, latched := w1c a.latched d 5, clamped := w1c a.clamped d 4
    sat := w1c a.sat d 3, camerr := w1c a.camerr d 2 }) s

/-- A write of VLV_STAT (R293). -/
def vlvStatWrite (d : Word) (s : State) : State :=
  setValve (vlvMaster s s.vlvSel) (fun v => { v with
    stuck := w1c v.stuck d 5, tmo := w1c v.tmo d 4, overcur := w1c v.overcur d 3, share := w1c v.share d 2
    refused := w1c v.refused d 1 }) s

/-- A write of CAL_STAT (R393). -/
def calStatWrite (d : Word) (s : State) : State :=
  { s with
    cal.forced := w1c s.cal.forced d 12, cal.forceFail := w1c s.cal.forceFail d 11, cal.copybad := w1c s.cal.copybad d 8
    cal.storefail := w1c s.cal.storefail d 7, cal.refused := w1c s.cal.refused d 6, cal.skipped := w1c s.cal.skipped d 5
    cal.cfgbad := w1c s.cal.cfgbad d 4 }

/-- A write of FAB_CTL (R114); before UP only PORT_EN and RESET_NODE act. -/
def fabCtlWrite (d : Word) (s : State) : State := fabReg (bits d.toNat 15 13) (bits d.toNat 10 8) s

/-- A write of an anchor register (R64). -/
def anchorWrite (a : Nat) (d : Word) (s : State) : State :=
  match a with
  | 0x04 => { s with host.hstFlags := s.host.hstFlags &&& ~~~(BitVec.ofNat 8 d.toNat) }
  | 0x06 => { s with host.irqMask := d }
  | 0x07 => irqClear d 0 s
  | 0x08 => txnCtlWrite d s
  | 0x09 => { s with
    txn.expired := w1c s.txn.expired d 4, txn.nested := w1c s.txn.nested d 3, txn.busy := w1c s.txn.busy d 2
    txn.refused := w1c s.txn.refused d 1, txn.tagerr := w1c s.txn.tagerr d 0 }
  | 0x0A => { s with txn.lease := clampNat d.toNat 10 60000 }
  | 0x11 => wdgAnswerOp d s
  | 0x12 => wdgCtlWrite d s
  | 0x13 => rstCauseWrite d s
  | 0x18 => fabCtlWrite d s
  | 0x19 => { s with
    vine.overflow := w1c s.vine.overflow d 13, vine.failover := w1c s.vine.failover d 10
    vine.newlink := w1c s.vine.newlink d 9, vine.linkerr := w1c s.vine.linkerr d 8, vine.operr := w1c s.vine.operr d 7 }
  | 0x1A => { s with vine.fabDst := bits d.toNat 5 0 }
  | 0x1B => { s with vine.fabGroup := bits d.toNat 2 0 }
  | _ => s

/-- A write of a routed register on the node it acts on. -/
def routedWrite (a : Nat) (inc : Bool) (d : Word) (s : State) : State :=
  let n := d.toNat
  match a with
  | 0x0C => selectTable d s
  | 0x0D => { s with host.tblAddr := BitVec.ofNat 24 (s.host.tblAddr.toNat / 65536 * 65536 + n) }
  | 0x0E => { s with host.tblAddr := BitVec.ofNat 24 (n % 256 * 65536 + s.host.tblAddr.toNat % 65536) }
  | 0x0F => windowWrite inc d s
  | 0x14 => { s with pwr.refused := w1c s.pwr.refused d 9, pwr.aborted := w1c s.pwr.aborted d 8 }
  | 0x15 => pwrReqOp (bits n 15 13) s
  | 0x16 => { s with pwr.wakeSrc := s.pwr.wakeSrc &&& ~~~d }
  | 0x1C => declareLayer d s
  | 0x1D => { s with bnd.layerHi := d }
  | 0x1F => { s with bnd.idleMin := max 1 (bits n 7 0) }
  | 0x21 => jetWrite (bits n 15 13) (bits n 4 0) s
  | 0x22 => jetStatWrite d s
  | 0x23 => ingestStatWrite d s
  | 0x24 => railStatWrite d s
  | 0x25 => railWrite (bits n 15 13) (bits n 9 0) s
  | 0x26 => pfwCtl d s
  | 0x28 => motCmd (bits n 15 12) s
  | 0x29 => { s with mot.sel := bits n 2 0 }
  | 0x2A => motStatWrite d s
  | 0x2C => vlvCmd (bits n 15 12) (bits n 11 8) (bits n 3 0) s
  | 0x2D => vlvStatWrite d s
  | 0x30 => calCmd (bits n 15 13) (bits n 12 8) (bits n 7 0) s
  | 0x31 => calStatWrite d s
  | 0x34 => attCmd (bits n 15 13) (d.getLsbD 0) s
  | 0x35 => { s with boot.done := w1c s.boot.done d 14, boot.qerr := w1c s.boot.qerr d 13 }
  | 0x38 => { s with host.errFirst := 0, host.errCount := 0 }
  | 0x3F => { s with host.scratch := d }
  | _ => s

/-! ### One access on this node -/

/-- An access to a reserved address (R76). -/
def reservedAccess (s : State) : State := recErr 1 4 (hstFlag 5 (bump 0x00 4 s))

/-- The status of an access to the table window (R111): 2 while the table selected is reserved. -/
def windowStatus (a : Nat) (rnw : Bool) (before after : State) : Nat :=
  if (a = 0x0F ∧ ¬ tblKnown before (selTable before)) ∨ (a = 0x0C ∧ ¬ rnw ∧ ¬ tblKnown after (selTable after)) then 2 else 0

/-- One access to register `a` of this node: its status (R111), the word read, and the state after it. A
register that does not answer behaves as reserved (R76, R328, R335). -/
def nodeAccess (rnw inc view : Bool) (a : Nat) (d : Word) (s : State) : Nat × Word × State :=
  if !answers s a then (1, 0, reservedAccess s)
  else if rnw then
    let r := regRead a inc view s
    (windowStatus a true s r.2, r.1, r.2)
  else
    let s1 := if isAnchor a then anchorWrite a d s else routedWrite a inc d s
    (windowStatus a false s s1, 0, s1)

/-- A write of a register of this node. -/
def nodeWrite (a : Nat) (inc : Bool) (d : Word) (s : State) : State := (nodeAccess false inc false a d s).2.2

end Sys2Proof.Machine
end

