-- ==== Sys2Proof/Machine/Startup.lean ====
section
/-! DEFINITION. Start-up (R326-R344): VAON power-on, straps, the reference check, the release of the core, the
boot ROM, the firmware's part with the configuration image (R384), what holds the core in reset
(R329, R330, R424), and the exit from a sleep (R356-R367). -/

namespace Sys2Proof.Machine

/-! ### VAON power-on (R326 step 1, R342, R409) -/

/-- Sixteen equal samples give a strap's value; any disagreement gives low (R409). -/
def strapValue (l : List Bool) : Bool := l.all id

/-- The samples of a strap disagree. -/
def strapAmbiguous (l : List Bool) : Bool := !l.all id && l.any id

/-- Word 0 of table 0x03 (R425). -/
def strapsWord (h r q : List Bool) : Word :=
  word (atBit (strapValue h) 15 + atBit (strapValue r) 14 + atBit (strapValue q) 13
    + atBit (strapAmbiguous h) 2 + atBit (strapAmbiguous r) 1 + atBit (strapAmbiguous q) 0)

/-- Table 0x7D as it stands in the NVM is loaded into its table words (R322, R385). -/
def loadDefaults (s : State) : State :=
  s.nvm.defaults.foldl (fun st p => tset 0x7D p.1 p.2 st) s

/-- Rails 0 to 2 of table 0x7D become SELF rails of table 0x78 (R320). -/
def loadSelfRails (s : State) : State :=
  [0, 1, 2].foldl (fun st r => (List.range 10).foldl (fun st2 o =>
    let w := tget s 0x7D (16 * r + o)
    tset 0x78 (16 * r + o) (if o = 0 then w ||| 0x8000 else w) st2) st) s

/-- The groups' rail mask and PFW_CTL as table 0x7D gives them (R322). -/
def loadPfw (s : State) : State :=
  let w := tget s 0x7D 49
  tset 0x7A 32 (tget s 0x7D 48) { s with
    rail.cmpen := w.getLsbD 15, rail.force := false, rail.hold := holdOf w.toNat }

/-- VAON power-on (R326 step 1): everything at its reset value but the NVM, in which a write in progress is cut;
the straps are sampled, and self-sequencing starts where it is strapped. -/
def vaonPowerOn (h r q : List Bool) (s : State) : State :=
  let n := (cutNvm s).nvm
  let s1 : State := { State.reset with
    free := (cutNvm s).free, pending := s.pending
    nvm := { mem := n.mem, keys := n.keys, locked := n.locked, defaults := n.defaults, bootCount := n.bootCount, cut := n.cut }
    boot.hsel := strapValue h, boot.refsel := strapValue r, boot.seqSelf := strapValue q }
  let s2 := loadPfw (loadDefaults (tset 0x03 0 (strapsWord h r q) s1))
  if s2.boot.seqSelf then selfStart (loadSelfRails s2) else s2

/-! ### Steps 2 to 4 -/

/-- The strapped reference in kHz (R8). -/
def strappedRef (s : State) : Nat := if s.boot.refsel then 50000 else 25000

/-- The measured frequency differs from the strapped one by at most 20 % (R410). -/
def refInRange (s : State) (kHz : Nat) : Bool := decide (((kHz : Int) - strappedRef s).natAbs * 5 ≤ strappedRef s)

/-- A check of REFCLK is due: before the PLL starts, every 1 ms (R410). -/
def refcheckDue (s : State) : Bool :=
  s.boot.phase == .pll && !s.boot.refclkOk
    && (match s.boot.lastRefcheck with | none => true | some t => decide (t + msTk 1 ≤ s.tk))

/-- The check of REFCLK (R410, R425). -/
def refclkCheck (kHz : Word) (s : State) : State :=
  if refcheckDue s then
    tset 0x03 1 kHz { s with boot.lastRefcheck := some s.tk, boot.refclkOk := refInRange s kHz.toNat }
  else s

/-- The supplies are good (R326 step 2). -/
def suppliesReady (s : State) : Bool := if s.boot.seqSelf then s.rail.selfSeq == .good else !s.boot.pinLow

/-- Step 2 of R326 ends. -/
def suppliesGood (s : State) : State :=
  if s.boot.phase == .supplies && s.pwr.state == 0 && suppliesReady s then
    { s with boot.phase := .pll, boot.refclkOk := false, boot.lastRefcheck := none }
  else s

/-- The PLL locks (R326 step 3, R329): the core leaves reset unless something holds it. -/
def pllLocks (s : State) : State :=
  if s.boot.phase == .pll && s.boot.refclkOk then
    (if coreHeld s then { s with boot.phase := .held } else coreRelease s)
  else if s.boot.clockLost then tryRelease { s with boot.clockLost := false }
  else s

/-! ### What holds the core in reset -/

/-- The clock supervisor sees REFCLK or lock fail (R329): TK runs, so it is watched, from lock on in RUN and
REST. -/
def clockLoss (s : State) : State :=
  if (coreRuns s || s.boot.phase == .held) && decide (s.pwr.state ≤ 1) && !s.boot.clockLost then
    holdCore 0 1 { s with boot.clockLost := true }
  else s

/-- nRESET goes low (R330, R360): it wakes the node, resets the core, and restarts a failed self-sequencing
(R321). -/
def nresetLow (s : State) : State :=
  if s.boot.pinLow then s
  else
    let s1 := holdCore 1 0 (wake 10 { s with boot.pinLow := true })
    if s1.rail.selfSeq == .failed then selfStart s1 else s1

/-- nRESET is released (R330). -/
def nresetRelease (s : State) : State := tryRelease { s with boot.pinLow := false }

/-- TESTEN goes high (R424): the core is held as by nRESET. -/
def testenRise (s : State) : State := if s.boot.testen then s else holdCore 1 0 { s with boot.testen := true }

/-- TESTEN falls (R424). -/
def testenFall (s : State) : State := tryRelease { s with boot.testen := false }

/-! ### The configuration image (R384) -/

/-- The 64 KiB of the configuration image region. -/
def imageBytes (s : State) : List Byte := nvmBytes s 0x0C0000 65536

/-- The bytes of records that the header declares. -/
def imageLength (bs : List Byte) : Nat := natBE ((bs.drop 8).take 4)

/-- The header and the CRC are valid. -/
def imageValid (bs : List Byte) : Bool :=
  let n := imageLength bs
  (bs.take 4 == [0x4E, 0x43, 0x46, 0x47]) && (bs.getD 4 0 == 1) && decide (n + 16 ≤ bs.length)
    && ((bs.drop 12).take 4 == crc32Bytes ((bs.drop 16).take n))

/-- The records of an image: ID, word address, words. A record cut off by the end ends the list. -/
def imageRecords : Nat → List Byte → List (Nat × Nat × List Word)
  | 0, _ => []
  | fuel + 1, bs =>
    let n := natBE ((bs.drop 4).take 2)
    if bs.length < 6 + 2 * n ∨ bs.length < 6 then []
    else (natBE (bs.take 1), natBE ((bs.drop 1).take 3), packWords ((bs.drop 6).take (2 * n)))
      :: imageRecords fuel (bs.drop (6 + 2 * n))

/-- A write of an image to register `a`: as the host would write it. -/
def imageRegister (a : Nat) (d : Word) (s : State) : State :=
  if [0x04, 0x06, 0x07, 0x08, 0x09, 0x0A, 0x11, 0x12, 0x13, 0x18, 0x19, 0x1A, 0x1B].contains a then anchorWrite a d s
  else routedWrite a false d s

/-- One word of an image: cask-able state goes into the start-up cask, all else takes effect as written. Words
beyond a table's length are ignored (log entry 76). -/
def imageWord (t a : Nat) (d : Word) (x : Cask × State) : Cask × State :=
  if tblLen t ≤ a then x
  else if caskable t then
    (if ckMask t a = 0 then x
     else
      let e := (t, caskEntry t a)
      ({ mem := cellSet tblDefault (tkey t a) (d &&& word (ckMask t a)) x.1.mem
         touched := if x.1.touched.contains e then x.1.touched else x.1.touched ++ [e] }, x.2))
  else (x.1, plainWrite t a d x.2)

/-- A run of words of an image. -/
def imageRun (t : Nat) : Nat → List Word → Cask × State → Cask × State
  | _, [], x => x
  | a, d :: ds, x => imageRun t (a + 1) ds (imageWord t a d x)

/-- One record; a register record of more than one word has no effect, and nothing is applied once a record
has reset the core (log entry 76). -/
def imageRecord (ph : Phase) (x : Cask × State) (r : Nat × Nat × List Word) : Cask × State :=
  if x.2.boot.phase != ph then x
  else if r.1 = 0xFF then
    (match r.2.2 with
     | [d] => (x.1, imageRegister r.2.1 d x.2)
     | _ => x)
  else imageRun r.1 r.2.1 r.2.2 x

/-- CFGBAD. -/
def imageBad (s : State) : State := recErr 0x0E 0x0B (calFlag (fun c => { c with cfgbad := true }) s)

/-- The start-up cask is validated and decanted at once (R384). It is no transaction: table 0x06, the lees log
and V3 are untouched (log entry 77). -/
def imageDecant (k : Cask) (s : State) : State :=
  match caskFault k s with
  | some (t, a, r) => imageBad (txnRefuseAt t a r 0 s)
  | none => afterCask s k.touched { s with tbl := decantCells k s.tbl }

/-- The firmware applies the configuration image (R384). -/
def applyImage (s : State) : State :=
  let bs := imageBytes s
  if imageValid bs then
    let n := imageLength bs
    let rs := imageRecords (n + 1) ((bs.drop 16).take n)
    let x := rs.foldl (imageRecord s.boot.phase) ({ mem := caskCells s.tbl }, s)
    if x.2.boot.phase != s.boot.phase then x.2 else imageDecant x.1 x.2
  else calFlag (fun c => { c with cfgbad := true }) s

/-! ### Steps 5 and 6 (R333-R337, R344) -/

/-- LENGTH in a slot's header. -/
def slotLength (s : State) (b : Bool) : Nat := natBE (nvmBytes s (slotStart b + 8) 4)

/-- A slot is runnable (R333, R334). -/
def slotRunnable (s : State) (b : Bool) : Bool :=
  let n := slotLength s b
  magicOk s b && decide (1 ≤ n) && decide (n ≤ 393184)
    && (nvmBytes s (slotStart b + 16) 4
        == crc32Bytes (nvmBytes s (slotStart b) 16 ++ nvmBytes s (slotStart b + 32) n))

/-- Extends vintage register `n` with a digest (R337). -/
def extendV (n : Nat) (d : List Byte) (s : State) : State :=
  { s with boot.v := modifyNth (fun v => sha256 (v ++ d)) s.boot.v n }

/-- The table of boot records (R354): which slots were found runnable, which one runs, how many were tried,
their SEQ values, and the duration of step 5; how that is rounded is open (log entry 13). -/
def bootRecord (tried : Nat) (runs : Option Bool) (s : State) : State :=
  let w := atBit (runs == some false) 15 + atBit (runs == some true) 14 + atBit (runs == some true) 8 + tried
  let a := slotSeq s false
  let b := slotSeq s true
  tsetRun 0x91 0 [word w, wordAt a 0, wordAt a 1, wordAt b 0, wordAt b 1,
    word (divOpen 354 ((s.tk - s.boot.romFrom : Nat) : Int) 1024).toNat] s

/-- The errors of a start: an NVM write that was cut (R388), a watchdog and a thermal reset (R344). -/
def startErrors (s : State) : State :=
  let s1 := if s.nvm.cut then recErrLees 0x0E 9 [] { s with nvm.cut := false } else s
  let s2 := if s1.boot.because.getLsbD 2 then trustErrLees 4 s1 else s1
  if s2.boot.because.getLsbD 4 then trustErrLees 8 s2 else s2

/-- ROM recovery mode (R335, R342, log entry 78): the errors of the start are recorded; the record of R344 is the
firmware's, and none runs. -/
def enterRecovery (s : State) : State :=
  trustErrLees 3 (startErrors (leesScan { bootRecord 2 none s with
    boot.phase := .recovery, boot.cause := s.boot.cause ||| 0x80, boot.slotB := false, boot.fallback := false }))

/-- The records of a start (R344, R388). -/
def startRecords (s : State) : State :=
  let s3 := startErrors s
  lees 0x0C 0x81 [s3.boot.sub.toNat, s3.boot.cause.toNat, if s3.boot.slotB then 1 else 0,
    s3.boot.fwMajor % 16 * 16 + s3.boot.fwMinor % 16] s3

/-- The calibration set that applies (R381): table 0x80 takes the chosen copy, V2 its digest. -/
def applyCopy (s : State) : State :=
  match chooseCopy s with
  | some b =>
    let bs := nvmBytes s (copyBase b) 16384
    let s1 := extendV 2 (sha256 bs) s
    let s2 := if copyValid s (!b) then s1 else recErrLees 0x0E 3 [] (calFlag (fun c => { c with copybad := true }) s1)
    { tsetRun 0x80 0 (packWords bs) s2 with
      cal.newest := some b, cal.tref := signed 16 (natBE ((bs.drop 12).take 2)), cal.trefSet := true }
  | none => recErrLees 0x0E 4 [] { extendV 2 (sha256 []) s with cal.noset := true }

/-- Step 6 and the start of step 7 (R326, R337, R378): the measurements, the records of the start, the image
and the calibration set, and the start-up run. -/
def enterFirmware (s : State) : State :=
  let s1 := startRecords (leesScan s)
  let s2 := applyImage (applyCopy (extendV 1 (sha256 (imageBytes s1)) s1))
  if s2.boot.phase == .firmware then startRun 1 true [.trims, .sense, .current, .scanner] s2 else s2

/-- The slot that is tried is runnable: it is measured and entered (R334, R336). -/
def runSlot (s : State) : State :=
  let b := s.boot.slotB
  let s1 := extendV 0 (sha256 (nvmBytes s (slotStart b) 393216)) s
  enterFirmware { bootRecord (if s.boot.fallback then 2 else 1) (some b) s1 with
    boot.phase := .firmware, boot.fwFrom := s.tk
    boot.fwMajor := (nvmByte s (slotStart b + 4)).toNat, boot.fwMinor := (nvmByte s (slotStart b + 5)).toNat }

/-- The boot ROM checks one slot (R334, R335). -/
def bootSlotCheck (s : State) : State :=
  if s.boot.phase == .rom then
    let b := s.boot.slotB
    if slotRunnable s b then runSlot s
    else
      let s1 := trustErrLees (if b then 2 else 1) s
      if s.boot.fallback then enterRecovery s1
      else { s1 with boot.slotB := !b, boot.fallback := true }
  else s

/-! ### Step 7 (R326, R378) -/

/-- Start-up is complete: UP sets, and what begins after it begins. -/
def startupComplete (s : State) : State :=
  if s.boot.phase == .firmware && s.cal.run.isNone then
    let dur := (divOpen 354 ((s.tk - s.boot.fwFrom : Nat) : Int) 1024).toNat
    let s1 := tset 0x91 6 (word dur) { s with
      boot.phase := .up, boot.resetSwath := none, bnd.gapFrom := s.tk }
    let s2 := rootStarts (loadCounters (raise irqPwr s1))
    let s3 := startReads ((List.range 32).filter (headEn s2)) s2
    let s4 := ((List.range 8).filter (consEn s3)).foldl (fun st f => startAuth false f st) s3
    startRun 1 false [.headTemp, .samplers, .wdacs] s4
  else s

/-! ### Held writes, and the end of an entry -/

/-- A held write takes effect. -/
def heldCmd (h : Held) (s : State) : State :=
  match h with
  | .enc op c => encOp op c s
  | .jet op t => jetCmd op t s
  | .mot op n => motOp op n s
  | .vlv op p n => vlvOp op p n s
  | .ing op sl => ingCmd op sl s
  | .rail op mask => railCmd op mask s
  | .reg a inc d => nodeWrite a inc d s
  | .tbl t a d => tblWrite t a d s

/-- The exit ends the hold: the writes held take effect in the order written (R359, R362, log entry
34). -/
def runHeld (s : State) : State := s.host.held.foldl (fun st h => heldCmd h st) { s with host.held := [] }

/-- A step of the entry has ended (R359): the node goes on to the next, or is in the state; a failed write-back, or a
wake event, ends the entry. -/
def entryStep (s : State) : State :=
  match s.pwr.entering with
  | none => s
  | some t =>
    if s.hc.cons.any (·.atEntry) then s
    else if s.pwr.wbFailed then runHeld (refusePower 9 s)
    else if !s.pwr.step3Done && s.pwr.wakeSeen then runHeld (abortEntry t s)
    else
      let s1 := if s.pwr.step3Done then s else entryStep3 t s
      if 5 ≤ t && !selfRailsOff s1 then s1
      else if s1.pwr.wakeSeen then (if 5 ≤ t then abortDrained t s1 else runHeld (abortEntry t s1))
      else enterState t s1

/-! ### The exit from a sleep (R356, R363-R367) -/

/-- The length of the sleep in TK. -/
def sleepTk (s : State) : Nat := s.tk - s.pwr.since

/-- TICK advances by 250 for each microsecond of a sleep, timed to within 5 % (R365): the place in that range
is open (log entry 14). -/
def advanceTick (s : State) : State :=
  let us := sleepTk s / 250
  let lo := us * 95 / 100
  let hi := us * 105 / 100
  let t := lo + Config.openValue 365 s.free % (hi - lo + 1)
  { s with tick := s.tick + BitVec.ofNat 48 (250 * t), free := s.free + 1 }

/-- The node is in RUN again (R369, R370): LAST names the state left, SLEPT how long it lasted. -/
def inRun (st : Nat) (s : State) : State :=
  { s with
    pwr.state := 0, pwr.last := st, pwr.waking := false, pwr.wakeAt := none
    pwr.slept := sat16 (sleepTk s / 250000000) }

/-- The watchdog restarts with a full period of the length in force at entry (R351). -/
def freshPeriod (s : State) : State := { s with boot.wdgFrom := s.tk, boot.wdgSeen := false }

/-- What CORK loses and freezes (R351, R364, R365): the swath buffer, and the time a lease has left. -/
def corkExit (s : State) : State :=
  freshPeriod { s with
    swathRam := []
    ing.slots := s.ing.slots.map (fun _ => {}), ing.armq := []
    txn.leaseEnd := s.txn.leaseEnd + sleepTk s, txn.lastFromRoot := s.txn.lastFromRoot + sleepTk s }

/-- The tables whose stored words HUSH retains (R363), beside those of VAON and the forwarder. -/
def hushTable (t : Nat) : Bool := keptTable t || [0x50, 0x53, 0x55, 0x57, 0x80].contains t

/-- The retained image of R363, on a core that is otherwise at its reset values. -/
def hushRetained (s : State) : State :=
  let d := blocksDown s
  { d with
    tick := s.tick, tbl := s.tbl.filter (fun p => hushTable (keyTable p.1)), swathRam := [], bnd := s.bnd
    host := { errHist := s.host.errHist, errTotal := s.host.errTotal, held := s.host.held }
    boot := { s.boot with
      phase := .up, v3en := false, busy := false, done := false, qerr := false, prefused := false, v3Pending := none }
    cal := { samples := s.cal.samples, tempDie := s.cal.tempDie, tref := s.cal.tref, trefSet := s.cal.trefSet, newest := s.cal.newest }
    nvm := { s.nvm with busy := none, done := false, err := false, refused := false, reason := 0 }
    grid := { results := s.grid.results, resultTotal := s.grid.resultTotal, serial := s.grid.serial }
    hc := { cons := s.hc.cons, temps := s.hc.temps, inputs := s.hc.inputs, jamWait := s.hc.jamWait
            tempClosed := s.hc.tempClosed, headidClosed := s.hc.headidClosed, consClosed := s.hc.consClosed
            railClosed := s.hc.railClosed, hostClosed := s.hc.hostClosed, wdgClosed := s.hc.wdgClosed
            txnClosed := s.hc.txnClosed, gridClosed := s.hc.gridClosed } }

/-- The exit record of CORK and HUSH (R367). -/
def exitRecord (st : Nat) (s : State) : State := pwrLees 0x82 st s

/-- What an exit from DOZE, CORK or HUSH ends with: the calibration trigger is evaluated, and an idle boundary that fell
due is recognised before the writes held, an admission among them, take effect (R366). -/
def exitDue (s : State) : State := runHeld (idleBoundary (tempTrigger s))

/-- The exit from the state the node is in (R356, R362-R367), once a wake event has come. -/
def wakeExit (s : State) : State :=
  if !s.pwr.waking then s
  else match s.pwr.state with
    | 0 => { s with pwr.waking := false, pwr.wakeAt := none }
    | 1 => runHeld (inRun 1 s)
    | 2 => exitDue (inRun 2 (advanceTick s))
    | 3 => exitDue (exitRecord 3 (inRun 3 (corkExit (advanceTick s))))
    | 4 => exitDue (applyImage (exitRecord 4 (raise irqPwr (inRun 4 (freshPeriod (hushRetained (advanceTick s)))))))
    | st => selfStart { inRun st s with boot.phase := .supplies, boot.because := 0 }

/-! ### Meanings -/

/-- VAON_POWER_ON (R326, R409): each strap is sampled sixteen times. -/
def execVaonPowerOn (hsel refsel seqSelf : List Bool) (s : State) : Out :=
  if hsel.length = 16 ∧ refsel.length = 16 ∧ seqSelf.length = 16 then .next (vaonPowerOn hsel refsel seqSelf s)
  else .fault .malformedOperand
/-- REFCLK_CHECK (R410). -/
def execRefclkCheck (kHz : Word) (s : State) : Out := .next (refclkCheck kHz s)
/-- SUPPLIES_GOOD (R326). -/
def execSuppliesGood (s : State) : Out := .next (suppliesGood s)
/-- PLL_LOCK (R326). -/
def execPllLock (s : State) : Out := .next (pllLocks s)
/-- BOOT_SLOT_CHECK (R334). -/
def execBootSlotCheck (s : State) : Out := .next (bootSlotCheck s)
/-- STARTUP_COMPLETE (R326). -/
def execStartupComplete (s : State) : Out := .next (startupComplete s)
/-- CLOCK_LOSS (R329). -/
def execClockLoss (s : State) : Out := .next (clockLoss s)
/-- NRESET_LOW (R330). -/
def execNresetLow (s : State) : Out := .next (nresetLow s)
/-- NRESET_RELEASE (R330). -/
def execNresetRelease (s : State) : Out := .next (nresetRelease s)
/-- TESTEN_RISE (R424). -/
def execTestenRise (s : State) : Out := .next (testenRise s)
/-- TESTEN_FALL (R424). -/
def execTestenFall (s : State) : Out := .next (testenFall s)
/-- POWER_STATE_ENTRY (R359). -/
def execPowerStateEntry (s : State) : Out := .next (entryStep s)
/-- WAKE_EXIT (R356). -/
def execWakeExit (s : State) : Out := .next (wakeExit s)

end Sys2Proof.Machine
end

