-- ==== Sys2Proof/Machine/HostPort.lean ====
section
/-! DEFINITION. The host port (R53-R79): frames and responses, the read stream, the routing queue, remote
access (R68, R111, R112), and the accesses a node makes for its own host or for the fabric. -/

namespace Sys2Proof.Machine

/-! ### Typed writes -/

/-- A write that only a decoding port can take in; a routed one ends REST (R362). -/
def typedWrite (a : Nat) (inc : Bool) (d : Word) (s : State) : State := 
  if !portDecodes s then s
  else if isAnchor a then nodeWrite a inc d s
  else routedOp (.reg a inc d) (nodeWrite a inc d) s

/-! ### The stream of read results (R61, R66) -/

/-- Items outstanding: routed writes not completed, and read results not delivered (R66). -/
def outstanding (s : State) : Nat :=
  (s.host.queue.filter (fun q => !q.rnw && !q.barrier)).length + s.host.results.length

/-- A frame beyond the limit of 16 items (R66). -/
def queueOverflow (s : State) : State := recErr 1 7 (hstFlag 2 (bump 0x00 5 s))

/-- A result joins the stream. -/
def pushResult (ready : Bool) (d : Word) (s : State) : State :=
  { s with
    host.results := s.host.results ++ [{ id := s.host.nextId, ready := ready, data := d }]
    host.nextId := s.host.nextId + 1 }

/-- A read of this node by its own host: its result is ready at once. -/
def localRead (a : Nat) (inc view : Bool) (s : State) : State :=
  let r := nodeAccess true inc view a 0 s
  pushResult true r.2.1 r.2.2

/-- A read by the host, within the limit of R66. -/
def hostRead (a : Nat) (inc : Bool) (s : State) : State :=
  if 16 ≤ outstanding s then queueOverflow s else localRead a inc s.txn.view s

/-- A broadcast read (R64): 0x0000 in its place of the stream. -/
def broadcastReadOp (s : State) : State := pushResult true 0 (recErr 1 6 (hstFlag 3 (bump 0x00 7 s)))

/-! ### Frames (R55-R62) -/

/-- The result that an SDO frame carries (R61): the first of the stream, once it is ready. -/
def sdoHead (s : State) : Option ReadItem :=
  match s.host.results with
  | r :: _ => if r.ready then some r else none
  | [] => none

/-- The SDO frame of a frame that begins now (R60). -/
def sdoNow (s : State) : BitVec 32 :=
  let h := sdoHead s
  sdoFrame s.host.crce s.host.lost h.isSome (decide ((if h.isSome then 1 else 0) < s.host.results.length))
    (nIrqLow s) (wdgOpen s) (s.boot.phase == .recovery) (match h with | some r => r.data | none => 0)

/-- A frame that is discarded for a too-short SCK phase (R55). -/
def frameFast (s : State) : State := recErr 1 3 (hstFlag 6 (bump 0x00 2 { s with host.lost := true }))

/-- A frame cut short (R62). -/
def frameShort (s : State) : State := recErr 1 2 (hstFlag 7 (bump 0x00 1 { s with host.lost := true }))

/-- A frame whose CRC does not match (R62). -/
def frameBad (s : State) : State :=
  recErr 1 1 (raise irqHost (bump 0x00 0 { s with
    host.crce := true, host.crcerr := if s.host.crcerr < 255 then s.host.crcerr + 1 else 255 }))

/-- A complete frame (R60): the result it carried leaves the stream, and what LOST counts starts anew. -/
def frameComplete (s : State) : State :=
  { s with
    host.results := if (sdoHead s).isSome then s.host.results.drop 1 else s.host.results
    host.lost := false, host.crce := false }

/-- The registers that a write never changes (R59, R77). A write to one is dropped where its frame executes, also to a
routed one with FAB_DST at another node or at 63: no packet is sent, it takes no place in the queue and ends no REST
(DEDUCED, log entry 146). -/
def readOnly (a : Nat) : Bool := [0x00, 0x01, 0x02, 0x03, 0x05, 0x0B, 0x10, 0x1E, 0x20, 0x32, 0x39].contains a

/-- A routed frame enters the routing queue with its destination (R64, R65); 0 stands for this device. A
broadcast keeps the mask of its group (R112). -/
def enqueue (rnw inc : Bool) (a : Nat) (d : Word) (s : State) : State :=
  let dst := if s.vine.fabDst = s.vine.nodeId then 0 else s.vine.fabDst
  let q : Routed := { id := s.host.nextId, rnw := rnw, inc := inc, view := s.txn.view, addr := a, data := d, dst := dst
                      waitMask := if dst = 63 then groupMask s s.vine.fabGroup else 0 }
  { (if rnw then pushResult false 0 s else { s with host.nextId := s.host.nextId + 1 }) with
    host.queue := s.host.queue ++ [q] }

/-- A TXN_CTL write with an OP is a barrier (R67): it waits for the routed frames before it. -/
def barrierWrite (d : Word) (s : State) : State :=
  if s.host.queue.isEmpty then nodeWrite 0x08 false d s
  else
    let q : Routed := { id := s.host.nextId, rnw := false, inc := false, view := false, addr := 0x08, data := d, dst := 0
                        barrier := true }
    { s with host.nextId := s.host.nextId + 1, host.queue := s.host.queue ++ [q] }

/-- The frame counter of table 0x00 (R79). -/
def countFrame (s : State) : State := bump32 0x00 8 s

/-- The command of a frame executes (R58, R59, R64-R67). -/
def frameExecute (f : BitVec 32) (s : State) : State :=
  let a := frameAddr f
  let d := frameData f
  let rnw := frameRead f
  if !rnw && readOnly a && answers s a then s
  else if (rnw || !isAnchor a) && decide (16 ≤ outstanding s) then queueOverflow s
  else
    let s1 := countFrame s
    if isAnchor a then
      (if rnw then localRead a (frameInc f) s.txn.view s1
       else if a = 0x08 ∧ bits d.toNat 2 0 ≠ 0 then barrierWrite d s1
       else nodeWrite a false d s1)
    else if rnw && s.vine.fabDst == 63 then broadcastReadOp s1
    else enqueue rnw (frameInc f) a d s1

/-- A frame of 32 SCK edges (R55, R58-R62). -/
def frameArrives (f : BitVec 32) (fast : Bool) (s : State) : State :=
  let s1 := { s with host.lastSdo := sdoNow s }
  if fast then frameFast s1
  else if frameCrcOk f then frameExecute f (frameComplete s1)
  else frameBad (frameComplete s1)

/-! ### The routing queue (R65-R68, R111, R112) -/

/-- A remote access that fails (R68). -/
def remoteFails (s : State) : State := recErr 1 8 (hstFlag 1 (bump 0x00 6 s))

/-- An item of the queue completes: a read gets its result, 0x0000 where it failed (R68). -/
def completeItem (q : Routed) (ok : Bool) (d : Word) (s : State) : State :=
  let s1 := { s with
    host.queue := s.host.queue.filter (fun x => x.id != q.id)
    host.results := s.host.results.map (fun r => if r.id = q.id ∧ q.rnw then { r with ready := true, data := if ok then d else 0 } else r) }
  if ok then s1 else remoteFails s1

/-- Two items may act on the same node: the same destination, or a broadcast (R65, log entry 79). -/
def clash (x y : Routed) : Bool := x.dst == y.dst || x.dst == 63 || y.dst == 63

/-- The next item of the queue, if it may start: items start in order, a barrier once every earlier one has
completed, and every other once no earlier one is under way on its destination (R65, R67). -/
def nextItem (s : State) : Option Routed :=
  let started := s.host.queue.takeWhile (·.inFlight)
  match s.host.queue.drop started.length with
  | q :: _ => if (if q.barrier then started.isEmpty else !started.any (clash q)) then some q else none
  | [] => none

/-- Marks an item as sent, with the SEQ its packet carries; it waits 1 ms for its answers (R68, R87). -/
def itemSent (q : Routed) (mask : Nat) (s : State) : State :=
  { s with host.queue := s.host.queue.map (fun x => if x.id = q.id then
      { x with inFlight := true, deadline := s.tk + 250000, waitMask := mask, seq := seqOf q.dst 0 s } else x) }

/-- Word 0 of a REG_WR or REG_RD (R86). -/
def regWord (q : Routed) : Word := word (atBit q.inc 15 + atBit q.view 14 + q.addr % 64)

/-- A broadcast write starts (R112): this node applies it if it is in the group, the others answer. -/
def startBroadcast (q : Routed) (s : State) : State :=
  let own := s.vine.nodeId != 0 && bit q.waitMask s.vine.nodeId
  let rest := if own then q.waitMask - 2 ^ s.vine.nodeId else q.waitMask
  let s1 := if own then (nodeAccess false q.inc q.view q.addr q.data s).2.2 else s
  if rest = 0 then completeItem q true 0 s1
  else broadcast 0x05 0 ([regWord q, q.data] ++ maskWords q.waitMask) (itemSent q rest s1)

/-- A remote access starts; to a node that the routing table does not know it fails at once (R68). -/
def startRemote (q : Routed) (s : State) : State :=
  if routable s q.dst then
    sendTo q.dst (if q.rnw then 0x06 else 0x05) 0 (if q.rnw then [regWord q] else [regWord q, q.data]) (itemSent q 0 s)
  else completeItem q false 0 s

/-- An access of the queue to this node. -/
def startLocal (q : Routed) (s : State) : State :=
  let r := nodeAccess q.rnw q.inc q.view q.addr q.data s
  completeItem q true r.2.1 r.2.2

/-- A routed write other than to PWR_REQ ends REST (R362). -/
def endsRest (rnw : Bool) (a : Nat) (s : State) : Bool := inRest s && !rnw && a != 0x15

/-- The next item of the routing queue starts. A local write that ends REST waits for the exit (R362). -/
def queueStep (s : State) : State :=
  match nextItem s with
  | none => s
  | some q =>
    if q.barrier then nodeWrite 0x08 false q.data (completeItem q true 0 s)
    else if q.dst = 63 then startBroadcast q s
    else if q.dst ≠ 0 then startRemote q s
    else if endsRest q.rnw q.addr s then { s with pwr.waking := true }
    else startLocal q s

/-- The item that an answer of node `n` belongs to: the one whose request carried its SEQ (R87). -/
def awaited (n seq : Nat) (s : State) : Option Routed :=
  s.host.queue.find? (fun q => q.inFlight && q.seq == seq && (q.dst == n || (q.dst == 63 && bit q.waitMask n)))

/-- An answer comes in (R111, R112): any status but 0 is a failure; a broadcast completes with its last
answer. -/
def takeAnswer (n seq status : Nat) (d : Word) (s : State) : State :=
  match awaited n seq s with
  | none => s
  | some q =>
    let bad := q.failed || status != 0
    let rest := q.waitMask - 2 ^ n
    if q.dst = 63 ∧ rest ≠ 0 then
      { s with host.queue := s.host.queue.map (fun x => if x.id = q.id then { x with waitMask := rest, failed := bad } else x) }
    else completeItem q (!bad) d s

/-- The first item whose answers are 1 ms overdue fails (R68, R112). -/
def remoteTimeout (s : State) : State :=
  match s.host.queue.find? (fun q => q.inFlight && decide (q.deadline ≤ s.tk)) with
  | some q => completeItem q false 0 s
  | none => s

/-! ### Accesses of the fabric (R111, R112) -/

/-- An access that came over the fabric. A core in reset or recovery does not take it; an anchor register is
out of its reach and answers as reserved (log entry 80). -/
def fabricAccess (rnw inc view : Bool) (a : Nat) (d : Word) (s : State) : Nat × Word × State :=
  if !coreRuns s || s.boot.phase == .recovery then (3, 0, s)
  else if isAnchor a then (1, 0, reservedAccess s)
  else
    let s1 := if endsRest rnw a s then wakeExit { s with pwr.waking := true } else s
    nodeAccess rnw inc view a d s1

/-- The packet is for this node: addressed to it, or a broadcast with its bit set. -/
def accessForMe (h : Hdr) (mask : Option (BitVec 64)) (s : State) : Bool :=
  match mask with
  | none => forMe h s
  | some m => h.dst == 63 && s.vine.nodeId != 0 && m.getLsbD s.vine.nodeId

/-- A REG_WR or REG_RD is taken in, executed and answered (R111, R112). -/
def takeAccess (port : Nat) (h : Hdr) (mask : Option (BitVec 64)) (rnw inc view : Bool) (a : Nat) (d : Word) (s : State) : State :=
  if vineOn s && (portOf s port).up && accessForMe h mask s then
    let s1 := if mask.isSome then heardFrom h.src.toNat s else portArrived port 0 h.src.toNat s
    let r := fabricAccess rnw inc view a d s1
    respondTo h.src.toNat h.seq.toNat [word r.1, r.2.1] r.2.2
  else s

/-! ### Meanings -/

/-- PARTIAL_FRAME (R62, R55): nCS rises after 1 to 31 SCK edges. -/
def execPartialFrame (edges : BitVec 5) (fast : Bool) (s : State) : Out :=
  .next (if !portDecodes s || edges == 0 then s else if fast then frameFast s else frameShort s)
/-- REGISTER_WRITE (R58): a frame of 32 SCK edges. -/
def execRegisterWrite (frame : BitVec 32) (fast : Bool) (s : State) : Out :=
  .next (if portDecodes s then frameArrives frame fast s else s)
/-- ROUTED_FRAME_EXECUTE (R65). -/
def execRoutedFrameExecute (s : State) : Out := .next (if portDecodes s then queueStep s else s)
/-- REMOTE_TIMEOUT (R68). -/
def execRemoteTimeout (s : State) : Out := .next (if portDecodes s then remoteTimeout s else s)
/-- HST_STAT_READ (R77). -/
def execHstStatRead (s : State) : Out := .next (if portDecodes s then hostRead 0x04 false s else s)
/-- IRQ_CLR_WRITE (R72). -/
def execIrqClrWrite (mask coincident : Word) (s : State) : Out :=
  .next (if portDecodes s then irqClear mask coincident s else s)
/-- IRQ_MASK_WRITE (R72). -/
def execIrqMaskWrite (data : Word) (s : State) : Out := .next (typedWrite 0x06 false data s)
/-- ERR_FIRST_WRITE (R77). -/
def execErrFirstWrite (data : Word) (s : State) : Out := .next (typedWrite 0x38 false data s)
/-- TBL_SEL_WRITE (R70). -/
def execTblSelWrite (data : Word) (s : State) : Out := .next (typedWrite 0x0C false data s)
/-- TBL_DATA_READ (R69). -/
def execTblDataRead (inc : Bool) (s : State) : Out := .next (if portDecodes s then hostRead 0x0F inc s else s)
/-- TBL_DATA_WRITE (R69). -/
def execTblDataWrite (inc : Bool) (data : Word) (s : State) : Out := .next (typedWrite 0x0F inc data s)
/-- BROADCAST_READ (R64): an anchor register is always read locally. -/
def execBroadcastRead (addr : BitVec 6) (s : State) : Out :=
  .next (if !portDecodes s then s
    else if isAnchor addr.toNat then hostRead addr.toNat false s
    else if 16 ≤ outstanding s then queueOverflow s
    else broadcastReadOp s)
/-- RESERVED_ADDRESS_ACCESS (R76): no such event where the address answers. -/
def execReservedAddressAccess (addr : BitVec 6) (rnw : Bool) (s : State) : Out :=
  .next (if !portDecodes s || answers s addr.toNat then s
    else if rnw then hostRead addr.toNat false s
    else typedWrite addr.toNat false 0 s)
/-- REG_WR (R111, R112). -/
def execPktRegWr (port : Fin 3) (h : Hdr) (inc view : Bool) (addr : BitVec 6) (data : Word) (mask : Option (BitVec 64))
    (s : State) : Out :=
  .next (takeAccess port.val h mask false inc view addr.toNat data s)
/-- REG_RD (R111). -/
def execPktRegRd (port : Fin 3) (h : Hdr) (inc view : Bool) (addr : BitVec 6) (s : State) : Out :=
  .next (takeAccess port.val h none true inc view addr.toNat 0 s)
/-- REG_RSP (R111). -/
def execPktRegRsp (h : Hdr) (status data : Word) (s : State) : Out :=
  .next (if vineOn s && forMe h s then
    (let s1 := arrived h.dst.toNat 0 h.src.toNat s
     if portDecodes s then takeAnswer h.src.toNat h.seq.toNat status.toNat data s1 else s1)
  else s)

end Sys2Proof.Machine
end

