-- ==== Sys2Proof/Machine/Tap.lean ====
section
/-! DEFINITION. Boundary scan (R422-R424): the TAP controller of IEEE 1149.1, one TCK cycle at a time, and the
detected voltages of the VIO banks (R407, R425). -/

namespace Sys2Proof.Machine

/-- The next state of the TAP controller (IEEE 1149.1). -/
def tapNext (t : TapState) (tms : Bool) : TapState :=
  match t, tms with
  | .reset, true => .reset
  | .reset, false => .idle
  | .idle, true => .selDr
  | .idle, false => .idle
  | .selDr, true => .selIr
  | .selDr, false => .capDr
  | .capDr, true => .ex1Dr
  | .capDr, false => .shDr
  | .shDr, true => .ex1Dr
  | .shDr, false => .shDr
  | .ex1Dr, true => .updDr
  | .ex1Dr, false => .pauDr
  | .pauDr, true => .ex2Dr
  | .pauDr, false => .pauDr
  | .ex2Dr, true => .updDr
  | .ex2Dr, false => .shDr
  | .updDr, true => .selDr
  | .updDr, false => .idle
  | .selIr, true => .reset
  | .selIr, false => .capIr
  | .capIr, true => .ex1Ir
  | .capIr, false => .shIr
  | .shIr, true => .ex1Ir
  | .shIr, false => .shIr
  | .ex1Ir, true => .updIr
  | .ex1Ir, false => .pauIr
  | .pauIr, true => .ex2Ir
  | .pauIr, false => .pauIr
  | .ex2Ir, true => .updIr
  | .ex2Ir, false => .shIr
  | .updIr, true => .selDr
  | .updIr, false => .idle

/-- The device identification register (R422). -/
def idcode : BitVec 32 := 0x14E56A5B

/-- The number of bits of the boundary register: 745 cells, each with its data and its enable (R423, log entry
81). -/
def cellBits : Nat := 1490

/-- The instruction in effect (R422, R424): unlisted codes act as BYPASS, and so do EXTEST, CLAMP and HIGHZ while
TESTEN is low. -/
def tapInstr (s : State) : Nat :=
  let i := s.tap.ir.toNat
  if i = 1 ∨ i = 2 then i
  else if (i = 0 ∨ i = 4 ∨ i = 5) ∧ s.boot.testen then i
  else 0x3F

/-- The instruction selects the boundary register. -/
def scansCells (s : State) : Bool := tapInstr s == 0 || tapInstr s == 2

/-- What Capture-DR loads, the bit nearest TDO first. The pins' levels are free values (log entry 82). -/
def tapCapture (s : State) : List Bool :=
  if scansCells s then (List.range cellBits).map (fun i => decide (Config.openValue 423 (s.free * 2048 + i) % 2 = 1))
  else if tapInstr s = 1 then (List.range 32).map (fun i => idcode.getLsbD i)
  else [false]

/-- What Capture-IR loads: the two low bits are 01 (IEEE 1149.1), the others are free values (log entry 82). -/
def irCapture (s : State) : BitVec 6 := BitVec.ofNat 6 (Config.openValue 422 s.free % 16 * 4 + 1)

/-- The action of the controller's state at the rising edge of TCK. -/
def tapRise (tdi : Bool) (s : State) : State :=
  match s.tap.st with
  | .capDr => { s with tap.drShift := tapCapture s, free := s.free + 1 }
  | .shDr => { s with tap.drShift := s.tap.drShift.drop 1 ++ [tdi] }
  | .capIr => { s with tap.irShift := irCapture s, free := s.free + 1 }
  | .shIr => { s with tap.irShift := BitVec.ofNat 6 (s.tap.irShift.toNat / 2 + atBit tdi 5) }
  | _ => s

/-- The action of the state entered at the falling edge of TCK: updates, the reset of the instruction, and TDO,
which is driven only while a register shifts. -/
def tapFall (s : State) : State :=
  match s.tap.st with
  | .reset => { s with tap.ir := 0x01, tap.tdo := none }
  | .updIr => { s with tap.ir := s.tap.irShift, tap.tdo := none }
  | .updDr => { s with tap.cells := if scansCells s then s.tap.drShift else s.tap.cells, tap.tdo := none }
  | .shDr => { s with tap.tdo := s.tap.drShift.head? }
  | .shIr => { s with tap.tdo := some (s.tap.irShift.getLsbD 0) }
  | _ => { s with tap.tdo := none }

/-- One TCK cycle (R422). TCK is sampled on TK: without it, or with nTRST low, nothing shifts. -/
def tapCycle (tms tdi ntrst : Bool) (s : State) : State :=
  if !vineOn s then { s with tap.tdo := none }
  else if !ntrst then { s with tap.st := .reset, tap.ir := 0x01, tap.tdo := none }
  else
    let s1 := tapRise tdi s
    tapFall { s1 with tap.st := tapNext s1.tap.st tms }

/-- What the boundary register drives (R424): every pin of the chain while TESTEN is high, unless HIGHZ releases
them; nothing while it is low. -/
def scanDrives (s : State) : Option (List Bool) :=
  if s.boot.testen && tapInstr s != 5 then some s.tap.cells else none

/-- The detected voltages of the banks (R407, R425), refreshed every 1 ms. -/
def bankDetect (banks : Byte) (s : State) : State :=
  if periodDue s.boot.bankAt 250000 s then
    tset 0x03 2 (word banks.toNat) { s with boot.bankAt := some (periodNow s.boot.bankAt 250000 s) }
  else s

/-- VIO_BANK_DETECT (R425). -/
def execVioBankDetect (banks : Byte) (s : State) : Out := .next (bankDetect banks s)
/-- BOUNDARY_SCAN_ACCESS (R422). -/
def execBoundaryScanAccess (tms tdi ntrst : Bool) (s : State) : Out := .next (tapCycle tms tdi ntrst s)

end Sys2Proof.Machine
end

