-- ==== Sys2Proof/Machine/Tick.lean ====
section
/-! DEFINITION. One TK without a command (R8, R10): the clock counts, the position the grid holds moves on, the
sense bursts that are due start, and TICK follows the root's (log entry 3). -/

namespace Sys2Proof.Machine

/-- TICK counts: the core runs on TK (R10, R365). -/
def tickRuns (s : State) : Bool := coreRuns s && decide (s.pwr.state ≤ 1)

/-- A correction of 1 TK is due (R108): the error is at least half a TK, and 64 TK have passed since the last. -/
def correctionDue (s : State) : Bool := decide (32 ≤ s.vine.lag.natAbs) && decide (s.vine.lastCorr + 64 ≤ s.tk)

/-- TICK in the next TK: it advances by 1, or by 2 or 0 where a correction is due (R10, R108). -/
def tickNext (s : State) : State :=
  if !tickRuns s then s
  else if correctionDue s then
    bump 0x15 3 { s with
      tick := if 0 < s.vine.lag then s.tick + 2 else s.tick
      vine.lag := if 0 < s.vine.lag then s.vine.lag - 64 else s.vine.lag + 64, vine.lastCorr := s.tk }
  else { s with tick := s.tick + 1 }

/-- An interval of 1,024 TK has passed without a TICK packet on a node that follows one (R116). The first interval that
counts is the one that ends 2,048 TK after the last TICK packet: the packet due within it may arrive at any point of the
interval before (DESIGN CHOICE, log entry 148). -/
def tickMissed (s : State) : State :=
  let d := s.tk - s.vine.lastTickPkt
  if tickRuns s && !isRoot s && s.vine.nodeId != 0 && decide (2048 ≤ d) && d % 1024 == 0 then bump 0x15 2 s else s

/-- The inputs that are filtered are sampled once per TK (R121), in a core that is clocked. -/
def sampleInputs (s : State) : State := if clocked s then sampleVlv (sampleEnc s) else s

/-- One TK passes. -/
def passTk (s0 : State) : State :=
  let s := axisTicks s0
  let s1 := hvClock (sampleInputs (tickNext { s with grid.pHeld := gridP s, tk := s.tk + 1 }))
  noteForcedTest (stepTicks (vlvTicks (burstStarts (pulseCuts (tickMissed s1)))))

end Sys2Proof.Machine
end

