-- ==== Sys2Proof/Machine/Dispatch.lean ====
section
/-! DEFINITION. What each command does: one arm per constructor, each one call of its meaning. -/

namespace Sys2Proof.Machine

/-- The effect of a command on everything but the queue. -/
def exec (i : Instr) (s : State) : Host.Outcome State Fault Refusal :=
  match i with
  | .vaonPowerOn hsel refsel seqSelf => Sys2Proof.Machine.execVaonPowerOn hsel refsel seqSelf s
  | .refclkCheck kHz => Sys2Proof.Machine.execRefclkCheck kHz s
  | .pllLock => Sys2Proof.Machine.execPllLock s
  | .bootSlotCheck => Sys2Proof.Machine.execBootSlotCheck s
  | .startupComplete => Sys2Proof.Machine.execStartupComplete s
  | .startupCalTimeout => Sys2Proof.Machine.execStartupCalTimeout s
  | .clockLoss => Sys2Proof.Machine.execClockLoss s
  | .nresetLow => Sys2Proof.Machine.execNresetLow s
  | .nresetRelease => Sys2Proof.Machine.execNresetRelease s
  | .testenRise => Sys2Proof.Machine.execTestenRise s
  | .testenFall => Sys2Proof.Machine.execTestenFall s
  | .softReset => Sys2Proof.Machine.execSoftReset s
  | .rstCauseClear mask => Sys2Proof.Machine.execRstCauseClear mask s
  | .wdgWindowOpen => Sys2Proof.Machine.execWdgWindowOpen s
  | .wdgExpiry => Sys2Proof.Machine.execWdgExpiry s
  | .wdgAnswer a => Sys2Proof.Machine.execWdgAnswer a s
  | .wdgPeriodWrite data => Sys2Proof.Machine.execWdgPeriodWrite data s
  | .attNone v3en => Sys2Proof.Machine.execAttNone v3en s
  | .quote v3en => Sys2Proof.Machine.execQuote v3en s
  | .quoteDone => Sys2Proof.Machine.execQuoteDone s
  | .v3Extend => Sys2Proof.Machine.execV3Extend s
  | .partialFrame edges fast => Sys2Proof.Machine.execPartialFrame edges fast s
  | .registerWrite frame fast => Sys2Proof.Machine.execRegisterWrite frame fast s
  | .routedFrameExecute => Sys2Proof.Machine.execRoutedFrameExecute s
  | .remoteTimeout => Sys2Proof.Machine.execRemoteTimeout s
  | .hstStatRead => Sys2Proof.Machine.execHstStatRead s
  | .irqClrWrite mask coincident => Sys2Proof.Machine.execIrqClrWrite mask coincident s
  | .errFirstWrite data => Sys2Proof.Machine.execErrFirstWrite data s
  | .tblSelWrite data => Sys2Proof.Machine.execTblSelWrite data s
  | .tblDataRead inc => Sys2Proof.Machine.execTblDataRead inc s
  | .tblDataWrite inc data => Sys2Proof.Machine.execTblDataWrite inc data s
  | .layerHiWrite data => Sys2Proof.Machine.execLayerHiWrite data s
  | .layerLoWrite data => Sys2Proof.Machine.execLayerLoWrite data s
  | .idleBoundary => Sys2Proof.Machine.execIdleBoundary s
  | .swathEnd => Sys2Proof.Machine.execSwathEnd s
  | .txnNone c => Sys2Proof.Machine.execTxnNone c s
  | .txnBegin c => Sys2Proof.Machine.execTxnBegin c s
  | .txnCommit c => Sys2Proof.Machine.execTxnCommit c s
  | .txnRollback c => Sys2Proof.Machine.execTxnRollback c s
  | .txnAbort c => Sys2Proof.Machine.execTxnAbort c s
  | .validationComplete => Sys2Proof.Machine.execValidationComplete s
  | .leaseExpiry => Sys2Proof.Machine.execLeaseExpiry s
  | .memberLeaseExpiry => Sys2Proof.Machine.execMemberLeaseExpiry s
  | .voteTimeout => Sys2Proof.Machine.execVoteTimeout s
  | .pktBegin h tag lease mask => Sys2Proof.Machine.execPktBegin h tag lease mask s
  | .pktPrepare h tag kind named mask => Sys2Proof.Machine.execPktPrepare h tag kind named mask s
  | .pktReady h tag => Sys2Proof.Machine.execPktReady h tag s
  | .pktRefuse h tag table reason addr => Sys2Proof.Machine.execPktRefuse h tag table reason addr s
  | .pktCommitAt h tag kind late named mask => Sys2Proof.Machine.execPktCommitAt h tag kind late named mask s
  | .pktAbort h tag mask => Sys2Proof.Machine.execPktAbort h tag mask s
  | .eventStranded node tag => Sys2Proof.Machine.execEventStranded node tag s
  | .eventStrandingResolved node tag value => Sys2Proof.Machine.execEventStrandingResolved node tag value s
  | .portUp port nbr => Sys2Proof.Machine.execPortUp port nbr s
  | .portDown loss => Sys2Proof.Machine.execPortDown loss s
  | .fabNone portEn => Sys2Proof.Machine.execFabNone portEn s
  | .fabDiscover portEn => Sys2Proof.Machine.execFabDiscover portEn s
  | .resetNode portEn => Sys2Proof.Machine.execResetNode portEn s
  | .retree portEn => Sys2Proof.Machine.execRetree portEn s
  | .discoveryProbeTimeout => Sys2Proof.Machine.execDiscoveryProbeTimeout s
  | .pktDiscover port h epoch fwd onPort rootUid => Sys2Proof.Machine.execPktDiscover port h epoch fwd onPort rootUid s
  | .pktDiscAck port h a => Sys2Proof.Machine.execPktDiscAck port h a s
  | .pktAssign port h node fwd onPort uid rootUid => Sys2Proof.Machine.execPktAssign port h node fwd onPort uid rootUid s
  | .pktRoute port h words => Sys2Proof.Machine.execPktRoute port h words s
  | .packetForward port bytes => Sys2Proof.Machine.execPacketForward port bytes s
  | .pktCredit port cls init count => Sys2Proof.Machine.execPktCredit port cls init count s
  | .pktRegWr port h inc view addr data mask => Sys2Proof.Machine.execPktRegWr port h inc view addr data mask s
  | .pktRegRd port h inc view addr => Sys2Proof.Machine.execPktRegRd port h inc view addr s
  | .pktRegRsp h status data => Sys2Proof.Machine.execPktRegRsp h status data s
  | .pktReset h => Sys2Proof.Machine.execPktReset h s
  | .eventPortDown node port => Sys2Proof.Machine.execEventPortDown node port s
  | .eventPortUp node port nbr => Sys2Proof.Machine.execEventPortUp node port nbr s
  | .tickSend => Sys2Proof.Machine.execTickSend s
  | .pktTick port h origin corr rxFrac => Sys2Proof.Machine.execPktTick port h origin corr rxFrac s
  | .syncTimeout => Sys2Proof.Machine.execSyncTimeout s
  | .echoSend => Sys2Proof.Machine.execEchoSend s
  | .pktEchoReq port num sport t1 rxFrac => Sys2Proof.Machine.execPktEchoReq port num sport t1 rxFrac s
  | .pktEchoRsp port num aport sport t1 t2 t3 rxFrac => Sys2Proof.Machine.execPktEchoRsp port num aport sport t1 t2 t3 rxFrac s
  | .gridTokenSend => Sys2Proof.Machine.execGridTokenSend s
  | .pktGrid h token => Sys2Proof.Machine.execPktGrid h token s
  | .relayTimeout => Sys2Proof.Machine.execRelayTimeout s
  | .relayMaxExpiry => Sys2Proof.Machine.execRelayMaxExpiry s
  | .encEnable ch => Sys2Proof.Machine.execEncEnable ch s
  | .encDisable ch => Sys2Proof.Machine.execEncDisable ch s
  | .rehome ch => Sys2Proof.Machine.execRehome ch s
  | .encLevelKnown ch pin level => Sys2Proof.Machine.execEncLevelKnown ch pin level s
  | .quadEdge ch a b => Sys2Proof.Machine.execQuadEdge ch a b s
  | .encVelTimeout ch => Sys2Proof.Machine.execEncVelTimeout ch s
  | .indexEvent z => Sys2Proof.Machine.execIndexEvent z s
  | .hallCodeChange ch code => Sys2Proof.Machine.execHallCodeChange ch code s
  | .ssiFrameStart ch dataHigh => Sys2Proof.Machine.execSsiFrameStart ch dataHigh s
  | .ssiFrameEnd ch line rest => Sys2Proof.Machine.execSsiFrameEnd ch line rest s
  | .countWrite ch hi => Sys2Proof.Machine.execCountWrite ch hi s
  | .gridCfgWrite addr data => Sys2Proof.Machine.execGridCfgWrite addr data s
  | .gridCount => Sys2Proof.Machine.execGridCount s
  | .countLate => Sys2Proof.Machine.execCountLate s
  | .unitFire trig => Sys2Proof.Machine.execUnitFire trig s
  | .signatureBurst g slots => Sys2Proof.Machine.execSignatureBurst g slots s
  | .jetNone target => Sys2Proof.Machine.execJetNone target s
  | .enableGroup target => Sys2Proof.Machine.execEnableGroup target s
  | .disableGroup target => Sys2Proof.Machine.execDisableGroup target s
  | .disableAll target => Sys2Proof.Machine.execDisableAll target s
  | .wdacOn target => Sys2Proof.Machine.execWdacOn target s
  | .wdacOff target => Sys2Proof.Machine.execWdacOff target s
  | .wdacGlideComplete w => Sys2Proof.Machine.execWdacGlideComplete w s
  | .energyInputStale g => Sys2Proof.Machine.execEnergyInputStale g s
  | .harvestBlock words => Sys2Proof.Machine.execHarvestBlock words s
  | .pktSwathData port h blk => Sys2Proof.Machine.execPktSwathData port h blk s
  | .heldBlockRelease => Sys2Proof.Machine.execHeldBlockRelease s
  | .descriptorWrite addr data => Sys2Proof.Machine.execDescriptorWrite addr data s
  | .ingestNone slot => Sys2Proof.Machine.execIngestNone slot s
  | .arm slot => Sys2Proof.Machine.execArm slot s
  | .cancel slot => Sys2Proof.Machine.execCancel slot s
  | .hvOn slot => Sys2Proof.Machine.execHvOn slot s
  | .hvOff slot => Sys2Proof.Machine.execHvOff slot s
  | .admission => Sys2Proof.Machine.execAdmission s
  | .admitReadySend => Sys2Proof.Machine.execAdmitReadySend s
  | .eventAdmitReady node sw value floor => Sys2Proof.Machine.execEventAdmitReady node sw value floor s
  | .eventAdmit value => Sys2Proof.Machine.execEventAdmit value s
  | .starved => Sys2Proof.Machine.execStarved s
  | .hcConfigWrite table addr data => Sys2Proof.Machine.execHcConfigWrite table addr data s
  | .gateOpen target => Sys2Proof.Machine.execGateOpen target s
  | .gateClose target => Sys2Proof.Machine.execGateClose target s
  | .jamRearm target => Sys2Proof.Machine.execJamRearm target s
  | .hmRead target => Sys2Proof.Machine.execHmRead target s
  | .hmReadComplete head bytes => Sys2Proof.Machine.execHmReadComplete head bytes s
  | .hmReadRetry head => Sys2Proof.Machine.execHmReadRetry head s
  | .hmbBusFault bus => Sys2Proof.Machine.execHmbBusFault bus s
  | .consAuth target => Sys2Proof.Machine.execConsAuth target s
  | .consAuthReply slot r => Sys2Proof.Machine.execConsAuthReply slot r s
  | .consSync target => Sys2Proof.Machine.execConsSync target s
  | .consWritebackReply slot r => Sys2Proof.Machine.execConsWritebackReply slot r s
  | .consWritebackRetry slot => Sys2Proof.Machine.execConsWritebackRetry slot s
  | .nzReset target => Sys2Proof.Machine.execNzReset target s
  | .tplLearn target => Sys2Proof.Machine.execTplLearn target s
  | .tplLearnEnd => Sys2Proof.Machine.execTplLearnEnd s
  | .headTempSample g code => Sys2Proof.Machine.execHeadTempSample g code s
  | .gateInputLow inp => Sys2Proof.Machine.execGateInputLow inp s
  | .gateDwellExpiry inp => Sys2Proof.Machine.execGateDwellExpiry inp s
  | .motNone => Sys2Proof.Machine.execMotNone s
  | .axisEnable => Sys2Proof.Machine.execAxisEnable s
  | .axisDisable => Sys2Proof.Machine.execAxisDisable s
  | .axisGo => Sys2Proof.Machine.execAxisGo s
  | .axisStop => Sys2Proof.Machine.execAxisStop s
  | .axisQstop => Sys2Proof.Machine.execAxisQstop s
  | .axisHome => Sys2Proof.Machine.execAxisHome s
  | .axisSetPos => Sys2Proof.Machine.execAxisSetPos s
  | .camEngage => Sys2Proof.Machine.execCamEngage s
  | .camDisengage => Sys2Proof.Machine.execCamDisengage s
  | .brakeRelease => Sys2Proof.Machine.execBrakeRelease s
  | .brakeEngage => Sys2Proof.Machine.execBrakeEngage s
  | .axisClearFault => Sys2Proof.Machine.execAxisClearFault s
  | .planStart ax => Sys2Proof.Machine.execPlanStart ax s
  | .planEnd ax => Sys2Proof.Machine.execPlanEnd ax s
  | .permitTake => Sys2Proof.Machine.execPermitTake s
  | .brkDelayExpiry ax => Sys2Proof.Machine.execBrkDelayExpiry ax s
  | .bridgePwmPeriod => Sys2Proof.Machine.execBridgePwmPeriod s
  | .holdEntry ax => Sys2Proof.Machine.execHoldEntry ax s
  | .vlimitStop ax => Sys2Proof.Machine.execVlimitStop ax s
  | .refEdge ax level => Sys2Proof.Machine.execRefEdge ax level s
  | .camEnd ax => Sys2Proof.Machine.execCamEnd ax s
  | .camOverspeed ax => Sys2Proof.Machine.execCamOverspeed ax s
  | .motSupplyFault ax => Sys2Proof.Machine.execMotSupplyFault ax s
  | .vlvNone chan => Sys2Proof.Machine.execVlvNone chan s
  | .vlvOpen profile chan => Sys2Proof.Machine.execVlvOpen profile chan s
  | .vlvClose chan => Sys2Proof.Machine.execVlvClose chan s
  | .vlvOff chan => Sys2Proof.Machine.execVlvOff chan s
  | .vlvOffAll chan => Sys2Proof.Machine.execVlvOffAll chan s
  | .valvePeriod ch code partner => Sys2Proof.Machine.execValvePeriod ch code partner s
  | .pullWindowExpiry ch => Sys2Proof.Machine.execPullWindowExpiry ch s
  | .switchoffTimeout ch => Sys2Proof.Machine.execSwitchoffTimeout ch s
  | .railScanEnd codes => Sys2Proof.Machine.execRailScanEnd codes s
  | .rampTimeout r => Sys2Proof.Machine.execRampTimeout r s
  | .offTimeout r => Sys2Proof.Machine.execOffTimeout r s
  | .pfwHoldExpiry => Sys2Proof.Machine.execPfwHoldExpiry s
  | .marginStep => Sys2Proof.Machine.execMarginStep s
  | .comparatorTrip uv => Sys2Proof.Machine.execComparatorTrip s uv
  | .comparatorRecover uv => Sys2Proof.Machine.execComparatorRecover s uv
  | .railNone mask => Sys2Proof.Machine.execRailNone mask s
  | .railOn mask => Sys2Proof.Machine.execRailOn mask s
  | .railOff mask => Sys2Proof.Machine.execRailOff mask s
  | .railClear mask => Sys2Proof.Machine.execRailClear mask s
  | .railAllOff mask => Sys2Proof.Machine.execRailAllOff mask s
  | .pfwClear => Sys2Proof.Machine.execPfwClear s
  | .railConfigWrite table addr data => Sys2Proof.Machine.execRailConfigWrite table addr data s
  | .railCounterClear addr => Sys2Proof.Machine.execRailCounterClear addr s
  | .selfSeqRetry => Sys2Proof.Machine.execSelfSeqRetry s
  | .pwrReq target => Sys2Proof.Machine.execPwrReq target s
  | .powerStateEntry => Sys2Proof.Machine.execPowerStateEntry s
  | .wakeTimerExpiry => Sys2Proof.Machine.execWakeTimerExpiry s
  | .wakeSquelch port => Sys2Proof.Machine.execWakeSquelch port s
  | .wakeNcs => Sys2Proof.Machine.execWakeNcs s
  | .wakePin pin => Sys2Proof.Machine.execWakePin pin s
  | .wakeExit => Sys2Proof.Machine.execWakeExit s
  | .dieTempSample t => Sys2Proof.Machine.execDieTempSample t s
  | .calNone maxDefer delta => Sys2Proof.Machine.execCalNone maxDefer delta s
  | .calRun maxDefer delta => Sys2Proof.Machine.execCalRun maxDefer delta s
  | .calDiscard maxDefer delta => Sys2Proof.Machine.execCalDiscard maxDefer delta s
  | .calItemDone item result => Sys2Proof.Machine.execCalItemDone item result s
  | .calItemSkip item => Sys2Proof.Machine.execCalItemSkip item s
  | .calStoreDone verified => Sys2Proof.Machine.execCalStoreDone verified s
  | .calMaxdeferExpiry => Sys2Proof.Machine.execCalMaxdeferExpiry s
  | .forcedGapTimeout => Sys2Proof.Machine.execForcedGapTimeout s
  | .nvmErase => Sys2Proof.Machine.execNvmErase s
  | .nvmProgram => Sys2Proof.Machine.execNvmProgram s
  | .nvmRead => Sys2Proof.Machine.execNvmRead s
  | .keyWrite ksel => Sys2Proof.Machine.execKeyWrite ksel s
  | .defaultsWrite => Sys2Proof.Machine.execDefaultsWrite s
  | .nvmLock => Sys2Proof.Machine.execNvmLock s
  | .nvmCommandDone verified => Sys2Proof.Machine.execNvmCommandDone verified s
  | .leesRecordWrite => Sys2Proof.Machine.execLeesRecordWrite s
  | .suppliesGood => Sys2Proof.Machine.execSuppliesGood s
  | .cartridgePollTimeout slot => Sys2Proof.Machine.execCartridgePollTimeout slot s
  | .harvestHuntDiscard w => Sys2Proof.Machine.execHarvestHuntDiscard w s
  | .refLevelKnown ax level => Sys2Proof.Machine.execRefLevelKnown ax level s
  | .valvePositionSense src level code => Sys2Proof.Machine.execValvePositionSense src level code s
  | .vioBankDetect banks => Sys2Proof.Machine.execVioBankDetect banks s
  | .boundaryScanAccess tms tdi ntrst => Sys2Proof.Machine.execBoundaryScanAccess tms tdi ntrst s
  | .txnReservedOp op c => Sys2Proof.Machine.execTxnReservedOp op c s
  | .attReservedOp op v3en => Sys2Proof.Machine.execAttReservedOp op v3en s
  | .fabReservedOp op portEn => Sys2Proof.Machine.execFabReservedOp op portEn s
  | .jetReservedOp op target => Sys2Proof.Machine.execJetReservedOp op target s
  | .motReservedOp op => Sys2Proof.Machine.execMotReservedOp op s
  | .vlvReservedOp op profile chan => Sys2Proof.Machine.execVlvReservedOp op profile chan s
  | .railReservedOp op mask => Sys2Proof.Machine.execRailReservedOp op mask s
  | .calReservedOp op maxDefer delta => Sys2Proof.Machine.execCalReservedOp op maxDefer delta s
  | .hcReservedOp op target => Sys2Proof.Machine.execHcReservedOp op target s
  | .ingestReservedOp op slot => Sys2Proof.Machine.execIngestReservedOp op slot s
  | .nvmReservedOp op ksel => Sys2Proof.Machine.execNvmReservedOp op ksel s
  | .rstCauseInvalidWrite data => Sys2Proof.Machine.execRstCauseInvalidWrite data s
  | .pfwCtlWrite data => Sys2Proof.Machine.execPfwCtlWrite data s
  | .irqMaskWrite data => Sys2Proof.Machine.execIrqMaskWrite data s
  | .broadcastRead addr => Sys2Proof.Machine.execBroadcastRead addr s
  | .reservedAddressAccess addr rnw => Sys2Proof.Machine.execReservedAddressAccess addr rnw s

end Sys2Proof.Machine
end

