-- ==== Sys2Proof/Machine/Pins.lean ====
section
/-! DEFINITION. What the output pins show at the present TK (R405, R406), read from the state: head pins and the bits
sent to the heads (R160, R165-R169, R175), bridge gates, STEP, DIR, EN and brakes (R258-R260, R268, R270), valve gates
(R275, R276, R279), the SSI clock (R132), rail enables and margins (R296, R315), HV_CLK and HV_RDY (R191), nPFW and
nIRQ. While TESTEN is high the boundary register drives the pins of the scan chain instead (R424). -/

namespace Sys2Proof.Machine

/-- The level of a digital output pin; `floating` is high impedance, or a bank without power. -/
inductive Level where
  | low | high | floating
  deriving DecidableEq, Repr

/-- A driven level. -/
def level (b : Bool) : Level := if b then .high else .low

/-- A pin of a VIO bank (R332, R365, R405): its block drives it while the core runs in RUN or REST; at reset and in
DOZE, CORK and HUSH it has its reset level; in STILL and CELLAR its bank has no power. -/
def bankPin (s : State) (reset : Level) (driven : Level) : Level :=
  if 5 ≤ s.pwr.state then .floating else if portDecodes s then driven else reset

/-- `d` TK from TK `a` on take in the present one. -/
def during (s : State) (a d : Nat) : Bool := decide (a ≤ s.tk) && decide (s.tk < a + d)

/-! ### The bits sent to a head (R166-R168) -/

/-- The nozzles of a row of `n` in sending order: `il` sweeps (R168). -/
def nozzleOrder (n il : Nat) : List Nat := (List.range n).map (fun p => p % (n / il) * il + p / (n / il))

/-- The two bits of a code in sending order: the high one first where MSBF is set (R168). -/
def codeBits (msbf : Bool) (x : Nat) : List Bool := if msbf then [bit x 1, bit x 0] else [bit x 0, bit x 1]

/-- The nozzle bits of a column in sending order (R168, R181); `w0` is word 0 of the format table. -/
def nozzleBits (w0 : Nat) (codes : List Nat) : List Bool :=
  let rows := (nozzleOrder codes.length (2 ^ bits w0 11 10)).map (fun n => codeBits (bit w0 14) (codes.getD n 0))
  if bit w0 15 then rows.map (fun r => r.getD 0 false) ++ rows.map (fun r => r.getD 1 false)
  else rows.flatMap (fun r => r)

/-- The low `n` bits of a value, from bit n − 1 down (R167). -/
def fieldBits (n v : Nat) : List Bool := (List.range n).map (fun i => bit v (n - 1 - i))


/-- One frame of mode S: header, nozzle bits, trailer (R167). -/
def frameBits (s : State) (g : Nat) (codes : List Nat) : List Bool :=
  fieldBits (bits (fmtW s g 0) 5 0) (tnat32 s (0x30 + grFormat s g) 2) ++ nozzleBits (fmtW s g 0) codes
    ++ fieldBits (bits (fmtW s g 1) 5 0) (tnat32 s (0x30 + grFormat s g) 4)

/-- Bit `i` of an idle stretch (R181). -/
def idleBit (w0 i : Nat) : Bool :=
  match bits w0 13 12 with
  | 1 => true
  | 2 => i % 2 == 0
  | _ => false

/-! ### Head pins (R160, R165-R169, R183) -/

/-- The last fire of the unit of group `g` that the group took part in. -/
def groupFire (s : State) (g : Nat) : Option Fire := s.jet.fires.find? (fun f => f.groups.contains g)

/-- The address sequence and the pulses of group `g` have not been cut (R183). -/
def uncut (s : State) (f : Fire) (g : Nat) : Bool :=
  (f.chans.filter (fun c => c.channel / 8 == g)).all (fun c => match c.cutAt with
    | some t => decide (s.tk < t)
    | none => true)

/-- The address period of mode P that the present TK lies in, and the TK into it (R169). -/
def addressAt (s : State) (g : Nat) (f : Fire) : Nat × Nat :=
  ((s.tk - f.start) / grAper s g, (s.tk - f.start) % grAper s g)

/-- HGg_LAT (R166, R167, R169): high for LATW TK at a fire. -/
def hgLat (s : State) (g : Nat) : Level :=
  bankPin s .low (level (grEn s g && match groupFire s g with
    | some f => during s f.start (grLatw s g) && (grMode s g != 3 || uncut s f g)
    | none => false))

/-- The column that group `g`'s unit fires next, while a swath is active (R166, R167). -/
def nextColumn (s : State) (g : Nat) : Option (Active × Nat × Int) :=
  match s.ing.active, unitTrig s g with
  | some a, some t =>
    (match a.next.find? (fun p => p.1 == t) with
     | some p => if p.2 ≤ (unitCols s a.slot t).2 then some (a, t, p.2) else none
     | none => none)
  | _, _ => none

/-- The trigger column whose bits the lanes of group `g` send or have sent last, if any, with the TK at which they
started: the next one to fire once its bits have begun, else the one before (R166, R167, log entry 134). -/
def laneColumn (s : State) (g : Nat) : Option Int × Nat :=
  let old := ((laneOf s g).col, (laneOf s g).from_)
  match nextColumn s g with
  | some (a, _, k) => if laneNext s a g ≤ s.tk then (some k, laneNext s a g) else old
  | none => old

/-- The bits of trigger column `k` on the lane of channel `c` (R164, R166, R167); a column of a swath that is over leaves
only their number, which idle follows. -/
def laneBits (s : State) (g c : Nat) (k : Int) : List Bool :=
  let codes := match s.ing.active, unitTrig s g with
    | some a, some t => (present s a t c k).codes
    | _, _ => List.replicate (nozCount s c) 0
  if grMode s g = 1 then nozzleBits (fmtW s g 0) codes else frameBits s g codes

/-- The data bit of a lane of mode S (R167): the frame's, and IDLE from its end until the next frame starts. -/
def serialBit (s : State) (g c : Nat) : Bool :=
  match laneColumn s g with
  | (some k, b) =>
    let l := laneBits s g c k
    if s.tk - b < l.length then l.getD (s.tk - b) false else idleBit (fmtW s g 0) (s.tk - b - l.length)
  | (none, b) => idleBit (fmtW s g 0) (s.tk - b)

/-- The data bit of a lane of mode L, each held for D TK, low outside a shift (R166). -/
def shiftBit (s : State) (g c : Nat) : Bool :=
  match laneColumn s g with
  | (some k, b) => (laneBits s g c k).getD ((s.tk - b) / bitTk s g) false
  | (none, _) => false

/-- HGg_CLK (R166, R169): the data clock of mode L, high in the second half of each bit; the address strobe of mode P. -/
def hgClk (s : State) (g : Nat) : Level :=
  bankPin s .low (level (grEn s g && match grMode s g with
    | 1 =>
      (match laneColumn s g with
       | (some _, b) => during s b (laneTk s g) && decide (bitTk s g / 2 ≤ (s.tk - b) % bitTk s g)
       | (none, _) => false)
    | 3 =>
      (match groupFire s g with
       | some f =>
         let x := addressAt s g f
         decide (f.start ≤ s.tk) && decide (1 ≤ x.1) && decide (x.1 < grNaddr s g) && decide (x.2 < grLatw s g) && uncut s f g
       | none => false)
    | _ => false))

/-- The level of played segments `x` TK after their start (R175). -/
def segsLevel : List (Nat × Nat) → Nat → Bool
  | [], _ => false
  | (v, d) :: l, x => if x < d then v == 1 else segsLevel l (x - d)

/-- The fire pulse of channel `c` at the present TK, whose edges lie `ChanFire.tap` taps later (R165, R166, R169, R175,
R183). -/
def pulseNow (s : State) (c : Nat) : Bool :=
  match groupFire s (c / 8) with
  | some f =>
    (match f.chans.find? (fun x => x.channel == c) with
     | some x => decide (x.from_ ≤ s.tk) && uncut s f (c / 8) && segsLevel x.segs (s.tk - x.from_)
     | none => false)
  | none => false

/-- JCHn_P (R160). -/
def jchP (s : State) (c : Nat) : Level :=
  bankPin s .low (level (grEn s (c / 8) && chUsed s c && match grMode s (c / 8) with
    | 1 => shiftBit s (c / 8) c
    | 2 => serialBit s (c / 8) c
    | 3 => pulseNow s c
    | _ => false))

/-- JCHn_N (R160): the fire pulse of mode L with drive PULSE, the complement of a lane of mode S. -/
def jchN (s : State) (c : Nat) : Level :=
  bankPin s .low (level (grEn s (c / 8) && chUsed s c && match grMode s (c / 8) with
    | 1 => grDrive s (c / 8) == 0 && pulseNow s c
    | 2 => !serialBit s (c / 8) c
    | _ => false))

/-- The code that WDACw's output shows; none while its stage is disabled (R176, R417). -/
def wdacPin (s : State) (w : Nat) : Option Nat := if portDecodes s && (wdacOf s w).on then some (wdacCode s w) else none

/-! ### Bridge axes (R258, R269, R270) -/

/-- The gates of one half-bridge, high side and low side, `x` TK into its period, where it drives for `d` TK with dead time
`dead` (R258): the dead time is taken from the drive time. -/
def halfBridge (d dead x : Nat) : Bool × Bool :=
  if d = 0 then (false, true)
  else if x < dead then (false, false)
  else if x < d then (true, false)
  else if x < d + dead then (false, false)
  else (false, true)

/-- The gates of half-bridges 1 and 2 of a phase of duty `d`, `x` TK into its period (R258). -/
def phaseGates (d : Int) (dead x : Nat) : (Bool × Bool) × (Bool × Bool) :=
  (halfBridge d.toNat dead x, halfBridge (-d).toNat dead x)

/-- The gates of axis `n`'s phases A and B at the present TK. Phase B's period starts 2,560 TK later, so it still plays
the duty before until then; a disabled axis, and one with a supply fault, holds all eight low. -/
def axisGates (s : State) (n : Nat) : List Bool :=
  let a := axisOf s n
  let put (g : (Bool × Bool) × (Bool × Bool)) : List Bool := [g.1.1, g.1.2, g.2.1, g.2.2]
  match s.mot.pwmAt with
  | some t =>
    if a.en && !a.fault then
      let x := s.tk - t
      put (phaseGates a.dutyA (axW s n 22 % 256) x) ++
        put (if x < 2560 then phaseGates a.dutyBOld (axW s n 22 % 256) (x + 2560)
             else phaseGates a.dutyB (axW s n 22 % 256) (x - 2560))
    else List.replicate 8 false
  | none => List.replicate 8 false

/-- Gate `i` of bridge axis `n`: phase A then B, half-bridge 1 then 2, high side then low side (R249, R258, R270). -/
def bridgeGate (s : State) (n i : Nat) : Level := bankPin s .low (level ((axisGates s n).getD i false))

/-! ### Step axes and brakes (R259, R260, R268, R270) -/

/-- AXn_STEP: high for STEPW TK from a step on (R259). -/
def axStep (s : State) (n : Nat) : Level :=
  bankPin s .low (level (match (axisOf s n).step.stepAt with
    | some t => during s t (bits (axW s n 23) 12 8)
    | none => false))

/-- AXn_DIR (R259). -/
def axDir (s : State) (n : Nat) : Level := bankPin s .low (level (axisOf s n).step.dir)

/-- AXn_EN (R260): high impedance until table 0x60 is decanted or written for the axis; then its active level while the
axis is enabled, in hold only where HOLDLVL is 0. -/
def axEn (s : State) (n : Nat) : Level :=
  let a := axisOf s n
  bankPin s .floating (if a.configured then
    level ((a.en && (!a.hold || !bit (axW s n 0) 12)) == bit (axW s n 0) 13) else .floating)

/-- BRKn: low engages the brake (R268). -/
def brk (s : State) (n : Nat) : Level := bankPin s .low (level (!(axisOf s n).braked))

/-! ### Valve gates (R275, R276, R279) -/

/-- The gates of channel `n`, high side and low side (R276): from TK 256 of the period whose duty is in force on, up to
TK 256 of the next. Both channels of a pair follow the period of channel 2k (R279). -/
def valveGates (s : State) (n : Nat) : Bool × Bool :=
  let v := valveOf s (vlvMaster s n)
  let d := if vlvMaster s n = n then v.d else v.dPartner
  let dead := vlvDead s (vlvMaster s n)
  let x := s.tk - v.dutyAt
  if x < 256 + dead then (false, false)
  else if x < 256 + dead + d then (true, false)
  else if x < 256 + 2 * dead + d then (false, false)
  else (false, v.gates == .slow)

/-- VLVn_HS. -/
def vlvHs (s : State) (n : Nat) : Level := bankPin s .low (level (valveGates s n).1)
/-- VLVn_LS. -/
def vlvLs (s : State) (n : Nat) : Level := bankPin s .low (level (valveGates s n).2)

/-! ### Position inputs (R117, R118, R132) -/

/-- ENCn_A of an enabled SSI channel, the clock output: idle high, LEN + 1 cycles of SSI_CLKPER TK from the start of a
frame on, each low first (R132); high impedance, an input, on every other channel (R117, R118). -/
def ssiClk (s : State) (c : Nat) : Level :=
  let x := s.tk - (encOf s c).ssiFrom
  let per := ssiClkper s c
  bankPin s .floating (if (encOf s c).en && encMode s c == 2 then
    level (!((encOf s c).ssiBusy && decide (x < (ssiLen s c + 1) * per) && decide (x % per < (per + 1) / 2)))
    else .floating)

/-! ### Rails, host and Harvest port (R72, R191, R296, R311, R315) -/

/-- RENr, which a core reset and the power states leave as it is (R297). -/
def ren (s : State) (r : Nat) : Level := level (railOf s r).ren

/-- The rail that RMGm serves: the one its enabled entry names, else one that it served last and that walks back (R315, log
entry 165). -/
def rmgRail (s : State) (m : Nat) : Option Nat :=
  if bit (tnat s 0x79 (4 * m)) 15 then some (bits (tnat s 0x79 (4 * m)) 3 0)
  else enableRails.find? (fun r => (railOf s r).rmgBy == some m && (marginEntry s r).isNone && (railOf s r).s != 0)

/-- The current that RMGm sinks, in half microamperes: the step in force of the rail served, MIUNIT to a step (R315). -/
def rmg (s : State) (m : Nat) : Int :=
  match rmgRail s m with
  | some r => (railOf s r).s * 2 ^ bits (tnat s 0x79 (4 * m)) 13 12
  | none => 0

/-- SDO (R53, R54, R60): high impedance while nCS is high; else the bit of the SDO frame that follows `k` rising edges
of SCK since the frame began, most significant bit first. nCS and SCK are the host's: their levels are given, not held
(log entry 147). -/
def sdo (s : State) (nCS : Bool) (k : Nat) : Level :=
  bankPin s .floating (if nCS then .floating else level ((sdoNow s).getLsbD (31 - k % 32)))

/-- TDO (R422): high impedance but while a register shifts, and while the TAP does not answer. -/
def tdo (s : State) : Level :=
  match s.tap.tdo with
  | some b => if vineOn s then level b else .floating
  | none => .floating

/-- nPFW, open drain. -/
def nPfw (s : State) : Level := if nPfwLow s then .low else .floating

/-- nIRQ, open drain (R72). -/
def nIrq (s : State) : Level := bankPin s .floating (if nIrqLow s then .low else .floating)

/-- HV_CLK (R191): TK/2 while the port is enabled, low while it is not. -/
def hvClk (s : State) : Level := bankPin s .low (level (s.ing.hvOn && hvRises s))

/-- HV_RDY (R191). -/
def hvRdyPin (s : State) : Level := bankPin s .low (level s.ing.rdy)

end Sys2Proof.Machine
end

