-- ==== Sys2Proof/WellFormed.lean ====
section
/-! DEFINITION. Well-formed commands: the operand lists that an event of the device can have, and the reserved-code
rows with a code that is reserved (log entry 2). -/

namespace Sys2Proof

/-- The number of bytes of a calibration item (R380). -/
def calItemBytes : CalItem → Nat
  | .trims => 256 | .sense => 8 | .current => 16 | .scanner => 4 | .headTemp => 64 | .samplers => 32 | .wdacs => 32

/-- A command is well formed: straps have sixteen samples (R409), a head record 64 bytes (R219), a sense burst eight
slots (R238), a rail scan twelve codes (R300), a calibration result its item's bytes (R380), an invalid RST_CAUSE write
data that R343 calls invalid, and a reserved-code row a reserved code. -/
def Instr.wf : Instr → Bool
  | .vaonPowerOn h r q => h.length == 16 && r.length == 16 && q.length == 16
  | .refclkCheck _ => true
  | .pllLock => true
  | .bootSlotCheck => true
  | .startupComplete => true
  | .startupCalTimeout => true
  | .clockLoss => true
  | .nresetLow => true
  | .nresetRelease => true
  | .testenRise => true
  | .testenFall => true
  | .softReset => true
  | .rstCauseClear _ => true
  | .wdgWindowOpen => true
  | .wdgExpiry => true
  | .wdgAnswer _ => true
  | .wdgPeriodWrite _ => true
  | .attNone _ => true
  | .quote _ => true
  | .quoteDone => true
  | .v3Extend => true
  | .partialFrame _ _ => true
  | .registerWrite _ _ => true
  | .routedFrameExecute => true
  | .remoteTimeout => true
  | .hstStatRead => true
  | .irqClrWrite _ _ => true
  | .errFirstWrite _ => true
  | .tblSelWrite _ => true
  | .tblDataRead _ => true
  | .tblDataWrite _ _ => true
  | .layerHiWrite _ => true
  | .layerLoWrite _ => true
  | .idleBoundary => true
  | .swathEnd => true
  | .txnNone _ => true
  | .txnBegin _ => true
  | .txnCommit _ => true
  | .txnRollback _ => true
  | .txnAbort _ => true
  | .validationComplete => true
  | .leaseExpiry => true
  | .memberLeaseExpiry => true
  | .voteTimeout => true
  | .pktBegin _ _ _ _ => true
  | .pktPrepare _ _ _ _ _ => true
  | .pktReady _ _ => true
  | .pktRefuse _ _ _ _ _ => true
  | .pktCommitAt _ _ _ _ _ _ => true
  | .pktAbort _ _ _ => true
  | .eventStranded _ _ => true
  | .eventStrandingResolved _ _ _ => true
  | .portUp _ _ => true
  | .portDown _ => true
  | .fabNone _ => true
  | .fabDiscover _ => true
  | .resetNode _ => true
  | .retree _ => true
  | .discoveryProbeTimeout => true
  | .pktDiscover _ _ _ _ _ _ => true
  | .pktDiscAck _ _ _ => true
  | .pktAssign _ _ _ _ _ _ _ => true
  | .pktRoute _ _ _ => true
  | .packetForward _ _ => true
  | .pktCredit _ _ _ _ => true
  | .pktRegWr _ _ _ _ _ _ _ => true
  | .pktRegRd _ _ _ _ _ => true
  | .pktRegRsp _ _ _ => true
  | .pktReset _ => true
  | .eventPortDown _ _ => true
  | .eventPortUp _ _ _ => true
  | .tickSend => true
  | .pktTick _ _ _ _ _ => true
  | .syncTimeout => true
  | .echoSend => true
  | .pktEchoReq _ _ _ _ _ => true
  | .pktEchoRsp _ _ _ _ _ _ _ _ => true
  | .gridTokenSend => true
  | .pktGrid _ _ => true
  | .relayTimeout => true
  | .relayMaxExpiry => true
  | .encEnable _ => true
  | .encDisable _ => true
  | .rehome _ => true
  | .encLevelKnown _ _ _ => true
  | .quadEdge _ _ _ => true
  | .encVelTimeout _ => true
  | .indexEvent _ => true
  | .hallCodeChange _ _ => true
  | .ssiFrameStart _ _ => true
  | .ssiFrameEnd _ _ _ => true
  | .countWrite _ _ => true
  | .gridCfgWrite _ _ => true
  | .gridCount => true
  | .countLate => true
  | .unitFire _ => true
  | .signatureBurst _ slots => slots.length == 8
  | .jetNone _ => true
  | .enableGroup _ => true
  | .disableGroup _ => true
  | .disableAll _ => true
  | .wdacOn _ => true
  | .wdacOff _ => true
  | .wdacGlideComplete _ => true
  | .energyInputStale _ => true
  | .harvestBlock _ => true
  | .pktSwathData _ _ _ => true
  | .heldBlockRelease => true
  | .descriptorWrite _ _ => true
  | .ingestNone _ => true
  | .arm _ => true
  | .cancel _ => true
  | .hvOn _ => true
  | .hvOff _ => true
  | .admission => true
  | .admitReadySend => true
  | .eventAdmitReady _ _ _ _ => true
  | .eventAdmit _ => true
  | .starved => true
  | .hcConfigWrite _ _ _ => true
  | .gateOpen _ => true
  | .gateClose _ => true
  | .jamRearm _ => true
  | .hmRead _ => true
  | .hmReadComplete _ bs => bs.length == 64
  | .hmReadRetry _ => true
  | .hmbBusFault _ => true
  | .consAuth _ => true
  | .consAuthReply _ _ => true
  | .consSync _ => true
  | .consWritebackReply _ _ => true
  | .consWritebackRetry _ => true
  | .nzReset _ => true
  | .tplLearn _ => true
  | .tplLearnEnd => true
  | .headTempSample _ _ => true
  | .gateInputLow _ => true
  | .gateDwellExpiry _ => true
  | .motNone => true
  | .axisEnable => true
  | .axisDisable => true
  | .axisGo => true
  | .axisStop => true
  | .axisQstop => true
  | .axisHome => true
  | .axisSetPos => true
  | .camEngage => true
  | .camDisengage => true
  | .brakeRelease => true
  | .brakeEngage => true
  | .axisClearFault => true
  | .planStart _ => true
  | .planEnd _ => true
  | .permitTake => true
  | .brkDelayExpiry _ => true
  | .bridgePwmPeriod => true
  | .holdEntry _ => true
  | .vlimitStop _ => true
  | .refEdge _ _ => true
  | .camEnd _ => true
  | .camOverspeed _ => true
  | .motSupplyFault _ => true
  | .vlvNone _ => true
  | .vlvOpen _ _ => true
  | .vlvClose _ => true
  | .vlvOff _ => true
  | .vlvOffAll _ => true
  | .valvePeriod _ _ _ => true
  | .pullWindowExpiry _ => true
  | .switchoffTimeout _ => true
  | .railScanEnd codes => codes.length == 12
  | .rampTimeout _ => true
  | .offTimeout _ => true
  | .pfwHoldExpiry => true
  | .marginStep => true
  | .comparatorTrip _ => true
  | .comparatorRecover _ => true
  | .railNone _ => true
  | .railOn _ => true
  | .railOff _ => true
  | .railClear _ => true
  | .railAllOff _ => true
  | .pfwClear => true
  | .railConfigWrite _ _ _ => true
  | .railCounterClear _ => true
  | .selfSeqRetry => true
  | .pwrReq _ => true
  | .powerStateEntry => true
  | .wakeTimerExpiry => true
  | .wakeSquelch _ => true
  | .wakeNcs => true
  | .wakePin _ => true
  | .wakeExit => true
  | .dieTempSample _ => true
  | .calNone _ _ => true
  | .calRun _ _ => true
  | .calDiscard _ _ => true
  | .calItemDone i bs => bs.length == calItemBytes i
  | .calItemSkip _ => true
  | .calStoreDone _ => true
  | .calMaxdeferExpiry => true
  | .forcedGapTimeout => true
  | .nvmErase => true
  | .nvmProgram => true
  | .nvmRead => true
  | .keyWrite _ => true
  | .defaultsWrite => true
  | .nvmLock => true
  | .nvmCommandDone _ => true
  | .leesRecordWrite => true
  | .suppliesGood => true
  | .cartridgePollTimeout _ => true
  | .harvestHuntDiscard _ => true
  | .refLevelKnown _ _ => true
  | .valvePositionSense _ _ _ => true
  | .vioBankDetect _ => true
  | .boundaryScanAccess _ _ _ => true
  | .txnReservedOp op _ => decide (5 ≤ op.toNat)
  | .attReservedOp op _ => decide (2 ≤ op.toNat)
  | .fabReservedOp op _ => decide (4 ≤ op.toNat)
  | .jetReservedOp op _ => decide (6 ≤ op.toNat)
  | .motReservedOp op => decide (13 ≤ op.toNat)
  | .vlvReservedOp op _ _ => decide (5 ≤ op.toNat)
  | .railReservedOp op _ => decide (5 ≤ op.toNat)
  | .calReservedOp op _ _ => decide (3 ≤ op.toNat)
  | .hcReservedOp op _ => decide (op.toNat < 1 ∨ 8 < op.toNat)
  | .ingestReservedOp op _ => decide (5 ≤ op.toNat)
  | .nvmReservedOp op _ => decide (op.toNat < 1 ∨ 6 < op.toNat)
  | .rstCauseInvalidWrite d => d != 0xC500 && bits d.toNat 15 8 != 0
  | .pfwCtlWrite _ => true
  | .irqMaskWrite _ => true
  | .broadcastRead _ => true
  | .reservedAddressAccess _ _ => true

end Sys2Proof
end

