-- ==== Sys2Proof/Safety.lean ====
section
/-! DEFINITION. What the claims mean by a safe run: every waiting command is well formed, the sparse memories are in
canonical form, the lists of like things keep their fixed lengths, a command changes only its own
parts, and the protected region once locked stays as it is. -/

namespace Sys2Proof.Machine

/-- The table words are in canonical form. -/
def tblWf (s : State) : Bool := cellsWf tblDefault 0 s.tbl

/-- The flash bytes are in canonical form. -/
def nvmWf (s : State) : Bool := cellsWf nvmBlank 0 s.nvm.mem

/-- The swath buffer's bytes are in canonical form. -/
def ramWf (s : State) : Bool := cellsWf ramDefault 0 s.swathRam

/-- The start-up image of table 0x7D is in canonical form. -/
def defaultsWf (s : State) : Bool := cellsWf defaultsDefault 0 s.nvm.defaults

/-- An open cask's words are in canonical form. -/
def caskWf (s : State) : Bool :=
  match s.txn.cask with
  | some k => cellsWf tblDefault 0 k.mem
  | none => true

/-- Every addressed memory of the device is in canonical form. -/
def Memory.wf (s : State) : Bool := tblWf s && nvmWf s && ramWf s && defaultsWf s && caskWf s

/-- Every waiting command is well formed. -/
def queueWf (s : State) : Bool := s.pending.all Instr.wf

/-- The protected region is locked and no command that writes it is in progress (R385, R387). -/
def keySafe (s : State) : Bool := s.nvm.locked && s.nvm.busy.all (fun o => o.op != 4 && o.op != 5)

/-- The parts of the device's state. -/
inductive Part where
  | tk | tick | free | tbl | swathRam | host | bnd | txn | vine | enc | grid | jet
  | ing | hc | mot | vlv | vlvSel | rail | boot | pwr | cal | nvm | tap
  deriving DecidableEq, Repr

/-- Two states agree on a part. -/
def Part.same (p : Part) (s t : State) : Prop :=
  match p with
  | .tk => t.tk = s.tk
  | .tick => t.tick = s.tick
  | .free => t.free = s.free
  | .tbl => t.tbl = s.tbl
  | .swathRam => t.swathRam = s.swathRam
  | .host => t.host = s.host
  | .bnd => t.bnd = s.bnd
  | .txn => t.txn = s.txn
  | .vine => t.vine = s.vine
  | .enc => t.enc = s.enc
  | .grid => t.grid = s.grid
  | .jet => t.jet = s.jet
  | .ing => t.ing = s.ing
  | .hc => t.hc = s.hc
  | .mot => t.mot = s.mot
  | .vlv => t.vlv = s.vlv
  | .vlvSel => t.vlvSel = s.vlvSel
  | .rail => t.rail = s.rail
  | .boot => t.boot = s.boot
  | .pwr => t.pwr = s.pwr
  | .cal => t.cal = s.cal
  | .nvm => t.nvm = s.nvm
  | .tap => t.tap = s.tap

/-- The parts of the state that a command may change; it leaves every other part as it is. Tables are one part, the
host port's registers with ERR_FIRST, ERR_COUNT and IRQ_PEND another. The commands that can reset the core, or that
reach any register of the device, come last. -/
def footprint : Instr → List Part
  | .irqClrWrite _ _ => [.host]
  | .encVelTimeout _ => [.enc]
  | .wdacGlideComplete _ => [.jet]
  | .gateDwellExpiry _ => [.hc]
  | .planStart _ | .holdEntry _ | .camEnd _ | .refLevelKnown _ _ => [.mot]
  | .valvePeriod _ _ _ | .valvePositionSense _ _ _ => [.vlv]
  | .comparatorRecover _ | .selfSeqRetry => [.rail]
  | .v3Extend | .suppliesGood => [.boot]
  | .calMaxdeferExpiry => [.cal]
  | .leesRecordWrite => [.nvm]
  | .consWritebackRetry _ => [.free, .hc]
  | .boundaryScanAccess _ _ _ => [.free, .tap]
  | .partialFrame _ _ | .remoteTimeout => [.tbl, .host]
  | .tickSend | .echoSend | .gridTokenSend => [.tbl, .vine]
  | .tplLearnEnd => [.tbl, .hc]
  | .refclkCheck _ | .vioBankDetect _ => [.tbl, .boot]
  | .energyInputStale _ => [.host, .jet]
  | .starved => [.host, .ing]
  | .planEnd _ | .permitTake | .brkDelayExpiry _ | .refEdge _ _ | .camOverspeed _ => [.host, .mot]
  | .wdgPeriodWrite _ => [.host, .boot]
  | .ingestNone _ | .wakeTimerExpiry | .wakeSquelch _ | .wakeNcs | .wakePin _ => [.host, .pwr]
  | .eventAdmit _ => [.txn, .ing]
  | .quoteDone => [.free, .tbl, .boot]
  | .pktCredit _ _ _ _ => [.tbl, .host, .vine]
  | .encLevelKnown _ _ _ | .quadEdge _ _ _ | .hallCodeChange _ _ | .ssiFrameStart _ _ | .ssiFrameEnd _ _ _ =>
    [.tbl, .host, .enc]
  | .relayTimeout | .countLate => [.tbl, .host, .grid]
  | .bridgePwmPeriod => [.tbl, .host, .mot]
  | .pktPrepare _ _ _ _ _ | .eventStranded _ _ | .eventStrandingResolved _ _ _ | .pktEchoReq _ _ _ _ _
    | .pktEchoRsp _ _ _ _ _ _ _ _ => [.tbl, .txn, .vine]
  | .layerHiWrite _ => [.host, .bnd, .pwr]
  | .rehome _ => [.host, .enc, .pwr]
  | .jetNone _ | .enableGroup _ | .disableGroup _ | .disableAll _ | .wdacOn _ | .wdacOff _ | .jetReservedOp _ _ =>
    [.host, .jet, .pwr]
  | .arm _ | .hvOn _ | .hvOff _ => [.host, .ing, .pwr]
  | .gateOpen _ | .jamRearm _ | .consSync _ | .nzReset _ | .tplLearn _ => [.host, .hc, .pwr]
  | .motNone | .axisEnable | .axisDisable | .axisGo | .axisStop | .axisQstop | .axisHome | .axisSetPos
    | .camEngage | .camDisengage | .brakeRelease | .brakeEngage | .axisClearFault | .motReservedOp _ =>
    [.host, .mot, .pwr]
  | .railNone _ | .railOn _ | .railOff _ | .railClear _ | .railAllOff _ | .railReservedOp _ _ | .pfwCtlWrite _ =>
    [.host, .rail, .pwr]
  | .wdgWindowOpen | .attNone _ | .quote _ | .attReservedOp _ _ => [.host, .boot, .pwr]
  | .nvmErase | .nvmProgram | .nvmRead | .keyWrite _ | .defaultsWrite | .nvmLock | .nvmReservedOp _ _ =>
    [.host, .pwr, .nvm]
  | .consAuth _ | .pwrReq _ => [.free, .host, .hc, .pwr]
  | .pktDiscover _ _ _ _ _ _ | .pktAssign _ _ _ _ _ _ _ | .pktRoute _ _ _ | .packetForward _ _
    | .pktRegRsp _ _ _ => [.tbl, .host, .txn, .vine]
  | .hmReadRetry _ => [.tbl, .host, .jet, .hc]
  | .descriptorWrite _ _ => [.tbl, .host, .ing, .pwr]
  | .signatureBurst _ _ => [.tbl, .host, .hc, .nvm]
  | .vlimitStop _ | .motSupplyFault _ => [.tbl, .host, .mot, .nvm]
  | .pullWindowExpiry _ | .switchoffTimeout _ => [.tbl, .host, .vlv, .nvm]
  | .marginStep => [.tbl, .host, .rail, .nvm]
  | .calNone _ _ | .calRun _ _ | .calDiscard _ _ | .calReservedOp _ _ _ => [.tbl, .host, .pwr, .cal]
  | .railCounterClear _ => [.tbl, .host, .pwr, .nvm]
  | .startupCalTimeout | .calItemDone _ _ | .calItemSkip _ | .forcedGapTimeout => [.tbl, .host, .cal, .nvm]
  | .encEnable _ | .encDisable _ | .countWrite _ _ => [.host, .enc, .grid, .pwr]
  | .gateClose _ | .hmRead _ => [.host, .jet, .hc, .pwr]
  | .pfwClear => [.host, .rail, .pwr, .nvm]
  | .nvmCommandDone _ => [.free, .tbl, .host, .pwr, .nvm]
  | .calStoreDone _ => [.free, .tbl, .host, .cal, .nvm]
  | .hcReservedOp _ _ => [.free, .host, .jet, .hc, .pwr]
  | .harvestBlock _ | .heldBlockRelease | .harvestHuntDiscard _ => [.tbl, .swathRam, .host, .vine, .ing]
  | .pktBegin _ _ _ _ => [.tbl, .host, .txn, .vine, .nvm]
  | .indexEvent _ => [.tbl, .host, .enc, .grid, .ing]
  | .hmReadComplete _ _ | .consAuthReply _ _ | .gateInputLow _ => [.tbl, .host, .jet, .hc, .nvm]
  | .relayMaxExpiry => [.host, .grid, .jet, .ing, .hc]
  | .admitReadySend => [.free, .tbl, .host, .vine, .ing, .mot]
  | .pktSwathData _ _ _ => [.tbl, .swathRam, .host, .txn, .vine, .ing]
  | .pktGrid _ _ => [.tbl, .host, .txn, .vine, .grid, .ing]
  | .gridCount => [.tbl, .host, .grid, .jet, .ing, .hc]
  | .gridCfgWrite _ _ => [.tbl, .host, .grid, .jet, .hc, .pwr]
  | .railConfigWrite _ _ _ => [.tbl, .host, .jet, .hc, .rail, .pwr]
  | .hcConfigWrite _ _ _ | .hmbBusFault _ | .consWritebackReply _ _ | .headTempSample _ _
    | .cartridgePollTimeout _ => [.tbl, .host, .jet, .hc, .pwr, .nvm]
  | .vlvNone _ | .vlvOpen _ _ | .vlvClose _ | .vlvOff _ | .vlvOffAll _ | .vlvReservedOp _ _ _ =>
    [.tbl, .host, .vlv, .vlvSel, .pwr, .nvm]
  | .syncTimeout => [.host, .vine, .grid, .jet, .ing, .hc]
  | .eventAdmitReady _ _ _ _ => [.free, .tbl, .host, .txn, .vine, .ing, .mot]
  | .comparatorTrip _ => [.free, .tbl, .host, .rail, .pwr, .cal, .nvm]
  | .discoveryProbeTimeout => [.tbl, .host, .vine, .grid, .jet, .ing, .hc]
  | .rampTimeout _ | .offTimeout _ => [.tbl, .host, .vine, .jet, .hc, .rail, .nvm]
  | .unitFire _ => [.tbl, .host, .grid, .jet, .ing, .hc, .nvm]
  | .pktDiscAck _ _ _ | .eventPortUp _ _ _ => [.tbl, .host, .txn, .vine, .grid, .jet, .ing, .hc]
  | .portUp _ _ | .portDown _ => [.tbl, .host, .vine, .grid, .jet, .ing, .hc, .nvm]
  | .pktTick _ _ _ _ _ => [.tick, .tbl, .host, .txn, .vine, .grid, .jet, .ing, .hc]
  | .admission => [.tbl, .host, .bnd, .grid, .jet, .ing, .hc, .mot, .cal]
  | .eventPortDown _ _ => [.tbl, .host, .txn, .vine, .grid, .jet, .ing, .hc, .nvm]
  | .leaseExpiry | .memberLeaseExpiry | .pktAbort _ _ _ => [.tbl, .host, .txn, .vine, .jet, .hc, .mot, .vlv, .nvm]
  | .pllLock | .nresetRelease | .testenFall => [.tick, .free, .tbl, .host, .bnd, .grid, .hc, .rail, .boot, .nvm]
  | .railScanEnd _ => [.free, .tbl, .host, .vine, .jet, .hc, .rail, .pwr, .cal, .nvm]
  | .startupComplete => [.free, .tbl, .host, .bnd, .vine, .grid, .jet, .ing, .hc, .boot, .cal, .nvm]
  | .txnNone _ | .txnBegin _ | .txnCommit _ | .txnRollback _ | .txnAbort _ | .validationComplete | .voteTimeout
    | .pktReady _ _ | .pktRefuse _ _ _ _ _ | .pktCommitAt _ _ _ _ _ _ | .txnReservedOp _ _ =>
    [.tbl, .host, .txn, .vine, .enc, .grid, .jet, .hc, .mot, .vlv, .boot, .nvm]
  | .idleBoundary => [.free, .tbl, .host, .bnd, .txn, .vine, .enc, .grid, .jet, .hc, .mot, .vlv, .boot, .cal, .nvm]
  | .swathEnd =>
    [.free, .tbl, .host, .bnd, .txn, .vine, .enc, .grid, .jet, .ing, .hc, .mot, .vlv, .boot, .cal, .nvm]
  | .layerLoWrite _ =>
    [.free, .tbl, .host, .bnd, .txn, .vine, .enc, .grid, .jet, .hc, .mot, .vlv, .boot, .pwr, .cal, .nvm]
  | .cancel _ | .ingestReservedOp _ _ =>
    [.free, .tbl, .host, .bnd, .txn, .vine, .enc, .grid, .jet, .ing, .hc, .mot, .vlv, .boot, .pwr, .cal, .nvm]
  | .bootSlotCheck | .clockLoss | .nresetLow | .testenRise | .softReset | .rstCauseClear _ | .wdgExpiry
    | .wdgAnswer _ | .registerWrite _ _ | .routedFrameExecute | .hstStatRead | .errFirstWrite _
    | .tblSelWrite _ | .tblDataRead _ | .tblDataWrite _ _ | .fabNone _ | .fabDiscover _ | .resetNode _
    | .retree _ | .pktReset _ | .pfwHoldExpiry | .powerStateEntry | .dieTempSample _ | .fabReservedOp _ _
    | .rstCauseInvalidWrite _ | .irqMaskWrite _ | .broadcastRead _ | .reservedAddressAccess _ _ =>
    [.tick, .free, .tbl, .host, .bnd, .txn, .vine, .enc, .grid, .jet, .ing, .hc, .mot, .vlv, .vlvSel, .rail,
     .boot, .pwr, .cal, .nvm]
  | .pktRegWr _ _ _ _ _ _ _ | .pktRegRd _ _ _ _ _ | .wakeExit =>
    [.tick, .free, .tbl, .swathRam, .host, .bnd, .txn, .vine, .enc, .grid, .jet, .ing, .hc, .mot, .vlv, .vlvSel,
     .rail, .boot, .pwr, .cal, .nvm]
  | .vaonPowerOn _ _ _ =>
    [.tk, .tick, .free, .tbl, .swathRam, .host, .bnd, .txn, .vine, .enc, .grid, .jet, .ing, .hc, .mot, .vlv,
     .vlvSel, .rail, .boot, .pwr, .cal, .nvm, .tap]

/-- A state in good form: every addressed memory is canonical, and every list of like things has the number of members
the spec gives it (8 position channels of R117, 8 axes of R249, 16 valve channels of R274, 12 rails of R296, 8 WDACs of
R176, 8 swath slots of R195, 3 gating inputs of R235, 32 heads and their temperatures of R218 and R232, 8 fluid slots of
R223, 3 ports of R80, 64 route entries of R99, 4 vintage registers of R337). Every step keeps it. -/
structure WfState (s : State) : Prop where
  /-- Table words. -/
  tbl : tblWf s = true
  /-- Flash bytes. -/
  flash : nvmWf s = true
  /-- Swath buffer. -/
  ram : ramWf s = true
  /-- Start-up image of table 0x7D. -/
  defs : defaultsWf s = true
  /-- An open cask. -/
  cask : caskWf s = true
  /-- Encoder channels. -/
  enc : s.enc.length = 8
  /-- Motion axes. -/
  axes : s.mot.axes.length = 8
  /-- Valve channels. -/
  vlv : s.vlv.length = 16
  /-- Rails. -/
  rails : s.rail.rails.length = 12
  /-- Waveform DACs. -/
  wdacs : s.jet.wdacs.length = 8
  /-- Swath slots. -/
  slots : s.ing.slots.length = 8
  /-- Gate inputs. -/
  inputs : s.hc.inputs.length = 3
  /-- Head temperatures. -/
  temps : s.hc.temps.length = 32
  /-- Head memory reads. -/
  reads : s.hc.reads.length = 32
  /-- Consumable slots. -/
  cons : s.hc.cons.length = 8
  /-- Vine ports. -/
  ports : s.vine.ports.length = 3
  /-- Route entries. -/
  routes : s.vine.routes.length = 64
  /-- Vintage registers, 32 bytes each. -/
  v : s.boot.v.map List.length = List.replicate 4 32

end Sys2Proof.Machine
end

