-- ==== Sys2Proof/Certificates/Slice0/Obligations.lean ====
section
/-! DEFINITION. The statements about the model, one definition each, family by family of the command table: the step
and what every command keeps to, start-up and trust, calibration and NVM, the host port, layers and transactions, the
fabric, position inputs, the grid, the jets, print data, head care, motion, valves, rails, the power ladder and boundary
scan. The small definitions they share stand in front. -/

open Sys2Proof Sys2Proof.Machine

namespace Sys2Proof.Claims

/-- The state `t` right after a core reset of cause `c` with sub-cause `sub` that met the state `s` (R332, R342):
the blocks of the core at their reset values, the tables of the core back at what they read unwritten, VAON and the
forwarder as they were. -/
structure CoreResetDone (c sub : Nat) (s t : State) : Prop where
  /-- The cause bit sets, the others stay (R342). -/
  cause : t.boot.cause = s.boot.cause ||| BitVec.ofNat 8 (2 ^ c)
  /-- SUB is this reset's, unless a coinciding reset of an earlier place in R397 keeps it. -/
  sub : coincides s = false → t.boot.sub = BitVec.ofNat 8 sub
  /-- The core is in reset, or at step 4 of R326 where nothing holds it. -/
  phase : t.boot.phase = if coreHeld s then .held else .rom
  /-- The node is in RUN. -/
  run : t.pwr.state = 0
  /-- Position inputs (R118). -/
  enc : t.enc = List.replicate 8 {}
  /-- Jet channels and WDACs (R184). -/
  jet : t.jet = {}
  /-- Ingest and slots (R196). -/
  ing : t.ing = {}
  /-- Motion: brakes engaged, nothing planned (R270). -/
  mot : t.mot = {}
  /-- Valve gates low (R291). -/
  vlv : t.vlv = List.replicate 16 {}
  /-- No transaction and no cask. -/
  txn : t.txn = {}
  /-- Every group's gate is closed (R234). -/
  gates : ∀ g < 32, groupGateOpen t g = false
  /-- The vintage registers are zero (R337). -/
  v : t.boot.v = List.replicate 4 (List.replicate 32 0)
  /-- The watchdog's period is the default (R350). -/
  period : t.boot.period = 12
  /-- The node number and the routes go on (R332). -/
  node : t.vine.nodeId = s.vine.nodeId ∧ t.vine.routes = s.vine.routes ∧ t.vine.ports = s.vine.ports
  /-- Rails go on (R297). -/
  rails : t.rail.rails = s.rail.rails ∧ t.rail.selfSeq = s.rail.selfSeq
  /-- The keys, the defaults and LOCK stay, where no write of them is cut. -/
  keys : s.nvm.busy = none →
    t.nvm.keys = s.nvm.keys ∧ t.nvm.locked = s.nvm.locked ∧ t.nvm.defaults = s.nvm.defaults
  /-- No NVM write is cut where none is in progress. -/
  flash : s.nvm.busy = none → s.cal.storing = none → leesRuns s = false → t.nvm.mem = s.nvm.mem
  /-- RAIL is closed for the groups that name a rail that is not good (R318). -/
  railGate : ∀ g < 32, grp t.hc.railClosed g =
    (s.rail.selfFault || (List.range 12).any (fun r => bit (tnat s 0x7A g) r && !railGood s r))
  /-- The tables of the core read as unwritten ones. -/
  tables : tblWf s = true → ∀ tb a, a < 2 ^ 24 → keptTable tb = false → tget t tb a = tblDefault (tkey tb a)

/-- A lees record goes into the queue (R314, R389): writing is not barred and the queue has room. -/
def logsFree (s : State) : Bool := !s.rail.barred && decide (s.nvm.leesQ.length < 32)

/-- A lees record as it is queued (R388): the time is TICK[47:16] and the boot number its low byte. -/
def leesRec (s : State) (block code : Nat) (data : List Nat) : LeesRec :=
  { time := s.tick.toNat / 2 ^ 16, boot := s.nvm.bootCount % 256, block := block, code := code, data := data }

/-- The words in force of every cask-able table are as before (R33). -/
def sameInForce (s t : State) : Prop :=
  ∀ tb a, a < 2 ^ 24 → caskable tb = true → tget t tb a = tget s tb a

/-- Port `p` can send a packet of class 0 or 1 at once (R89-R91, R105): the link runs and is not idle, nothing waits, a
credit is left. -/
def canSend (s : State) (p cls : Nat) : Bool :=
  decide (p < 3) && decide (s.pwr.state ≤ 1) && (portOf s p).up && !(portOf s p).idle && (portOf s p).txq.isEmpty
    && (if cls = 0 then decide (1 ≤ (portOf s p).credit0) else decide (1 ≤ (portOf s p).credit1))

/-- The packet that port `p` sent last has these fields (R84). -/
def lastSent (t : State) (p dst type cls : Nat) (words : List Word) : Prop :=
  ∃ k, (portOf t p).sent.getLast? = some k ∧ k.dst = dst ∧ k.src = t.vine.nodeId ∧ k.type = type ∧ k.cls = cls ∧
    k.words = words

/-- The packet that port `p` sent last is the answer to a request: it returns the request's SEQ (R87, R111). -/
def lastAnswer (t : State) (p : Nat) (h : Hdr) (words : List Word) : Prop :=
  ∃ k, (portOf t p).sent.getLast? = some k ∧ k.dst = h.src.toNat ∧ k.src = t.vine.nodeId ∧ k.type = 0x07 ∧ k.cls = 0 ∧
    k.seq = h.seq.toNat ∧ k.words = words

/-- The newest entry of the error history (R78). -/
def newestError (t : State) (tick : BitVec 48) (e : Word) : Prop := t.host.errHist.head? = some (e, tick)

/-- A counter word has counted one more, saturating (R79). -/
def countedOne (s t : State) (tb a : Nat) : Prop := tget t tb a = word (sat16 (tnat s tb a + 1))

/-- Error `code` of a block as the error history and ERR_FIRST hold it (R63). -/
def errWord (block code : Nat) : Word := word (block * 256 + code)

/-- The level that channel `c` takes pin A, B or Z (0 to 2) for after the present TK's sample `x` (R121): the one held for
FILT + 1 samples, else the one of before. -/
def levelAfter (s : State) (c pin : Nat) (x : Bool) : Option Bool :=
  let e := encOf s c
  match pin with
  | 0 => smpLevel (encFilt s c) e.levelA (smpPut x e.smpA)
  | 1 => smpLevel (encFilt s c) e.levelB (smpPut x e.smpB)
  | _ => smpLevel (encFilt s c) e.levelZ (smpPut x e.smpZ)

/-- The sample `z` of Z is the first TK in which the index condition of R129 holds: Z at its active level, and A and B as
ZGATE asks. -/
abbrev indexRises (s : State) (c : Nat) (z : Bool) : Prop :=
  levelAfter s c 2 z = some (!bit (encCfg s c) 10) ∧ zgateHolds s c = true ∧ (encOf s c).idxOn = false

/-- The other position channels are as before. -/
def otherChannels (s t : State) (c : Fin 8) : Prop := ∀ d : Fin 8, d ≠ c → encOf t d = encOf s d

/-- Slot `sl` has taken `data` at its fill mark (R197): the mark moves on, the bytes stand in the swath buffer, and
nothing else in the buffer has changed. -/
def slotTook (s t : State) (sl : Nat) (data : List Byte) : Prop :=
  slotOf t sl = { slotOf s sl with gap := false, fill := (slotOf s sl).fill + data.length } ∧
  (∀ i < data.length, slotByte t sl ((slotOf s sl).fill + i) = (data.getD i 0).toNat) ∧
  (∀ a, a < slotBase s sl + (slotOf s sl).fill ∨ slotBase s sl + (slotOf s sl).fill + data.length ≤ a →
    cellGet ramDefault t.swathRam a = cellGet ramDefault s.swathRam a)

/-- The block fits its slot: the slot is FILLING, of the same swath, and the data begins at the fill mark and stays
within BYTES and the slot (R195-R197). -/
abbrev blockFits (s : State) (b : DataBlock) : Prop :=
  let sl := b.slot.toNat
  (slotOf s sl).st = .filling ∧ tnat s 0x40 (16 * sl + 2) = b.swath.toNat ∧ b.offset.toNat = (slotOf s sl).fill ∧
  (slotOf s sl).fill + 2 * b.data.length ≤ min (descBytes s sl) (slotSize s sl) ∧ slotSize s sl ≠ 0

/-- The words of a Harvest block (R188): SYNC, routing word, SWATH, OFFSET in two words, COUNT, data, and the CHECK that
makes the sum 0xFFFF. -/
def harvestWords (node : BitVec 6) (b : DataBlock) : List Word :=
  let ws := [0xA5C3, word (node.toNat * 1024 + b.slot.toNat * 128 + atBit b.last 6), b.swath]
    ++ wordsBE 2 b.offset.toNat ++ [word b.data.length] ++ b.data
  ws ++ [0xFFFF - sumWords ws]

/-- The state with axis `n` as `a`. -/
def axisTo (s : State) (n : Nat) (a : Axis) : State := setAxis n (fun _ => a) s

/-- A refused command of MOT_CMD (R252): REFUSED, the error, MOT. -/
def motRefused (s : State) (n code : Nat) : State :=
  raise 9 (recErr 9 code (axisTo s n { axisOf s n with refused := true }))

/-- The state with channel `n` as `v`. -/
def valveTo (s : State) (n : Nat) (v : Valve) : State := setValve n (fun _ => v) s

/-- The state with rail `r` as `h`. -/
def railTo (s : State) (r : Nat) (h : RailCh) : State := setRail r (fun _ => h) s

/-- The power state whose row of R360 applies: the one being entered, or the one the node is in. -/
def ladderRow (s : State) : Nat := s.pwr.entering.getD s.pwr.state

/-- A command that is a write of a routed register, or of a table word through the window, as REST holds it (R362). -/
def routedForm (s : State) : Instr → Option Held
  | .encEnable c => some (.enc 0 c) | .encDisable c => some (.enc 1 c) | .rehome c => some (.enc 2 c)
  | .countWrite c d => some (.tbl 0xA1 (16 * c + 3) d)
  | .jetNone g => some (.jet 0 g.toNat) | .enableGroup g => some (.jet 1 g.toNat) | .disableGroup g => some (.jet 2 g.toNat)
  | .wdacOn g => some (.jet 3 g.toNat) | .wdacOff g => some (.jet 4 g.toNat) | .disableAll g => some (.jet 5 g.toNat)
  | .ingestNone g => some (.ing 0 g.toNat) | .arm g => some (.ing 1 g.toNat) | .cancel g => some (.ing 2 g.toNat)
  | .hvOn g => some (.ing 3 g.toNat) | .hvOff g => some (.ing 4 g.toNat)
  | .descriptorWrite a d => some (.tbl 0x40 a d)
  | .gateOpen g => some (.tbl 0x5B 0 (word (0x1000 + g.toNat))) | .gateClose g => some (.tbl 0x5B 0 (word (0x2000 + g.toNat)))
  | .jamRearm g => some (.tbl 0x5B 0 (word (0x3000 + g.toNat))) | .hmRead g => some (.tbl 0x5B 0 (word (0x4000 + g.toNat)))
  | .consAuth g => some (.tbl 0x5B 0 (word (0x5000 + g.toNat))) | .consSync g => some (.tbl 0x5B 0 (word (0x6000 + g.toNat)))
  | .nzReset g => some (.tbl 0x5B 0 (word (0x7000 + g.toNat))) | .tplLearn g => some (.tbl 0x5B 0 (word (0x8000 + g.toNat)))
  | .motNone => some (.mot 0 (s.mot.sel % 8)) | .axisEnable => some (.mot 1 (s.mot.sel % 8))
  | .axisDisable => some (.mot 2 (s.mot.sel % 8)) | .axisGo => some (.mot 3 (s.mot.sel % 8))
  | .axisStop => some (.mot 4 (s.mot.sel % 8)) | .axisQstop => some (.mot 5 (s.mot.sel % 8))
  | .axisHome => some (.mot 6 (s.mot.sel % 8)) | .axisSetPos => some (.mot 7 (s.mot.sel % 8))
  | .camEngage => some (.mot 8 (s.mot.sel % 8)) | .camDisengage => some (.mot 9 (s.mot.sel % 8))
  | .brakeRelease => some (.mot 10 (s.mot.sel % 8)) | .brakeEngage => some (.mot 11 (s.mot.sel % 8))
  | .axisClearFault => some (.mot 12 (s.mot.sel % 8))
  | .vlvNone n => some (.reg 0x2C false (word n.toNat))
  | .vlvOpen p n => some (.reg 0x2C false (word (0x1000 + p.toNat * 256 + n.toNat)))
  | .vlvClose n => some (.reg 0x2C false (word (0x2000 + n.toNat)))
  | .vlvOff n => some (.reg 0x2C false (word (0x3000 + n.toNat)))
  | .vlvOffAll n => some (.reg 0x2C false (word (0x4000 + n.toNat)))
  | .railNone m => some (.rail 0 m.toNat) | .railOn m => some (.rail 1 m.toNat) | .railOff m => some (.rail 2 m.toNat)
  | .railClear m => some (.rail 3 m.toNat) | .railAllOff m => some (.rail 4 m.toNat)
  | .pfwClear => some (.reg 0x24 false 0x8000) | .pfwCtlWrite d => some (.reg 0x26 false d)
  | .railCounterClear a => some (.tbl 0x7C a 0)
  | .attNone v => some (.reg 0x34 false (if v then 1 else 0)) | .quote v => some (.reg 0x34 false (if v then 0x2001 else 0x2000))
  | .nvmErase => some (.tbl 0x84 0 0x1000) | .nvmProgram => some (.tbl 0x84 0 0x2000) | .nvmRead => some (.tbl 0x84 0 0x3000)
  | .keyWrite k => some (.tbl 0x84 0 (word (0x4000 + k.toNat))) | .defaultsWrite => some (.tbl 0x84 0 0x5000)
  | .nvmLock => some (.tbl 0x84 0 0x6000)
  | .calNone m d => some (.reg 0x30 false (word (m.toNat * 256 + d.toNat)))
  | .calRun m d => some (.reg 0x30 false (word (0x2000 + m.toNat * 256 + d.toNat)))
  | .calDiscard m d => some (.reg 0x30 false (word (0x4000 + m.toNat * 256 + d.toNat)))
  | .gridCfgWrite a d => some (.tbl 0xA6 a d)
  | .layerHiWrite d => some (.reg 0x1D false d) | .layerLoWrite d => some (.reg 0x1C false d)
  | .errFirstWrite d => some (.reg 0x38 false d) | .tblSelWrite d => some (.reg 0x0C false d)
  | .tblDataWrite inc d => some (.reg 0x0F inc d)
  | _ => none

end Sys2Proof.Claims

open Sys2Proof.Claims

/-- The command at the front of the queue runs with the rest of the queue. -/
def Obligations.StepRunsTheFrontCommand : Prop :=
  ∀ (c : Instr) (rest : List Instr) (s : State),
    s.pending = c :: rest → step s = exec c { s with pending := rest }

/-- On an empty queue one TK passes (log entry 3): the clock counts, TICK follows it while the core runs in RUN or
REST (R10), and a correction that is due (R108) makes it advance by 2 or by 0. -/
def Obligations.IdleStepPassesOneTk : Prop :=
  ∀ s : State, s.pending = [] → ∃ t, step s = .next t ∧ t.tk = s.tk + 1 ∧ t.pending = [] ∧
    t.tick = (if tickRuns s = false then s.tick
      else if 32 ≤ s.vine.lag.natAbs ∧ s.vine.lastCorr + 64 ≤ s.tk + 1 then (if 0 < s.vine.lag then s.tick + 2 else s.tick)
      else s.tick + 1)

/-- Every command whose operands have the form the spec gives them completes; the others fault. No command of the
table is refused. -/
def Obligations.WellFormedCommandsComplete : Prop :=
  ∀ (c : Instr) (s : State),
    (c.wf = true → ∃ t, exec c s = .next t) ∧ (c.wf = false → exec c s = .fault .malformedOperand)

/-- The state after VAON power-on, straps low: in good form, core in reset with POR set and SUB at 0 (R342), every
gate closed (R234), every WDAC at mid-code and off (R184), every brake engaged (R270), every valve gate off
(R291), IRQ_MASK at 0, LEASE and IDLE_MIN at their reset values, the grid configuration words of R159 at theirs. -/
def Obligations.ResetState : Prop :=
  WfState State.reset ∧ coreRuns State.reset = false ∧ State.reset.boot.cause = 1 ∧ State.reset.boot.sub = 0 ∧
  (∀ g < 32, groupGateOpen State.reset g = false) ∧
  (∀ w ∈ State.reset.jet.wdacs, w.code = 0x2000 ∧ w.on = false) ∧
  (∀ a ∈ State.reset.mot.axes, a.en = false ∧ a.braked = true) ∧
  (∀ v ∈ State.reset.vlv, v.gates = .off ∧ v.running = false) ∧
  (∀ r ∈ State.reset.rail.rails, r.st = .off ∧ r.ren = false) ∧
  State.reset.host.irqMask = 0 ∧ State.reset.txn.lease = 0x01F4 ∧ State.reset.bnd.idleMin = 0x32 ∧
  State.reset.vine.portEn = 7 ∧ State.reset.vine.nodeId = 0 ∧ State.reset.boot.period = 12 ∧
  tget State.reset 0xA6 1 = 0x1C08 ∧ tget State.reset 0xA6 2 = 2 ∧ tget State.reset 0xA6 3 = 0x1000 ∧
  State.reset.pending = []

/-- Every step keeps the good form: canonical memories, and lists of like things of the length the spec gives. -/
def Obligations.StepKeepsGoodForm : Prop :=
  ∀ s t : State, WfState s → step s = .next t → WfState t

/-- A command changes its own parts of the state only: every part that `footprint` does not list for it is as
before (the position channels, the motion axes, the valves, the rails, the NVM, the boundary-scan cells and so
on), and no command touches the queue of waiting commands. -/
def Obligations.CommandsKeepToTheirPartsAndLeaveTheQueue : Prop :=
  (∀ (c : Instr) (s t : State), WfState s → exec c s = .next t → ∀ p : Part, p ∉ footprint c → p.same s t) ∧
  (∀ (c : Instr) (s t : State), WfState s → exec c s = .next t → t.pending = s.pending)

/-- The straps are sampled once, at VAON power-on (R327): the power-on takes what every sample of a strap shows,
and no other command changes what the straps were read as. -/
def Obligations.StrapsAreSampledAtPowerOn : Prop :=
  (∀ (h r q : Bool) (s : State), ∃ t,
    exec (.vaonPowerOn (List.replicate 16 h) (List.replicate 16 r) (List.replicate 16 q)) s = .next t ∧
      t.boot.hsel = h ∧ t.boot.refsel = r ∧ t.boot.seqSelf = q) ∧
  (∀ (c : Instr) (s t : State), WfState s → (∀ h r q, c ≠ .vaonPowerOn h r q) → exec c s = .next t →
    t.boot.hsel = s.boot.hsel ∧ t.boot.refsel = s.boot.refsel ∧ t.boot.seqSelf = s.boot.seqSelf)

/-- LOCK is permanent (R385): once the protected region is locked and no write of it is in progress, no step
changes a key, the start-up image of table 0x7D or the lock. -/
def Obligations.LockedRegionStays : Prop :=
  ∀ s t : State, WfState s → keySafe s = true → step s = .next t →
    keySafe t = true ∧ t.nvm.keys = s.nvm.keys ∧ t.nvm.defaults = s.nvm.defaults

/-- VAON power-on (R326 step 1, R342, R409): the straps take the value of sixteen equal samples, a disagreement
reading as low; RST_CAUSE is POR with SUB 0; the blocks are at their reset values; the NVM stays, but for a write in
progress, which is cut. -/
def Obligations.PowerOnResets : Prop :=
  ∀ (h r q : List Bool) (s : State), h.length = 16 → r.length = 16 → q.length = 16 →
    ∃ t, exec (.vaonPowerOn h r q) s = .next t ∧
      t.boot.hsel = h.all id ∧ t.boot.refsel = r.all id ∧ t.boot.seqSelf = q.all id ∧
      t.boot.cause = 1 ∧ t.boot.sub = 0 ∧ t.boot.phase = .supplies ∧ t.pwr.state = 0 ∧
      t.enc = List.replicate 8 {} ∧ t.jet = {} ∧ t.ing = {} ∧ t.mot = {} ∧ t.vlv = List.replicate 16 {} ∧
      t.txn = {} ∧ t.vine = {} ∧ t.hc = {} ∧
      (s.nvm.busy = none →
        t.nvm.keys = s.nvm.keys ∧ t.nvm.locked = s.nvm.locked ∧ t.nvm.defaults = s.nvm.defaults) ∧
      t.nvm.bootCount = s.nvm.bootCount ∧ t.pending = s.pending ∧
      (s.nvm.busy = none → s.cal.storing = none → leesRuns s = false → t.nvm.mem = s.nvm.mem) ∧
      tget t 0x03 0 = word (atBit (h.all id) 15 + atBit (r.all id) 14 + atBit (q.all id) 13
        + atBit (!h.all id && h.any id) 2 + atBit (!r.all id && r.any id) 1 + atBit (!q.all id && q.any id) 0) ∧
      (q.all id = false → t.rail.selfSeq = .inactive) ∧ (q.all id = true → t.rail.selfSeq = .starting)

/-- Steps 1 to 4 of start-up (R326, R410): the check of REFCLK before the PLL starts stores the measured frequency
and passes within 20 % of the strapped one; good supplies lead to step 3; lock releases the core unless something
holds it. Release starts TICK at 0, the watchdog with its default period and a question that is not 0, the boot
ROM with the slot of the larger SEQ, and increments the boot counter up to 2^32 - 1 (R334, R339, R345, R346). -/
def Obligations.StartUpSteps : Prop :=
  ∀ s : State, WfState s →
    (∀ kHz : Word, s.boot.phase = .pll → s.boot.refclkOk = false →
      (∀ t, s.boot.lastRefcheck = some t → t + 250000 ≤ s.tk) →
      ∃ t, exec (.refclkCheck kHz) s = .next t ∧ tget t 0x03 1 = kHz ∧
        (∀ tb a, tkey tb a ≠ tkey 0x03 1 → tget t tb a = tget s tb a) ∧
        t.boot = { s.boot with
          lastRefcheck := some s.tk
          refclkOk := decide (((kHz.toNat : Int) - (if s.boot.refsel then 50000 else 25000)).natAbs * 5
            ≤ (if s.boot.refsel then 50000 else 25000)) }) ∧
    (s.boot.phase = .supplies → s.pwr.state = 0 →
      (if s.boot.seqSelf = true then s.rail.selfSeq = .good else s.boot.pinLow = false) →
      exec .suppliesGood s = .next { s with
        boot.phase := .pll, boot.refclkOk := false, boot.lastRefcheck := none }) ∧
    (s.boot.phase = .pll → s.boot.refclkOk = true → coreHeld s = true →
      exec .pllLock s = .next { s with boot.phase := .held }) ∧
    (s.boot.phase = .pll → s.boot.refclkOk = true → coreHeld s = false →
      ∃ t, exec .pllLock s = .next t ∧ t.boot.phase = .rom ∧ t.tick = 0 ∧
        t.nvm.bootCount = (if s.nvm.bootCount < 2 ^ 32 - 1 then s.nvm.bootCount + 1 else s.nvm.bootCount) ∧
        t.boot.wdgFrom = s.tk ∧ t.boot.serves = 0 ∧ t.boot.wdgQ ≠ 0 ∧ t.boot.cause = s.boot.cause ∧
        t.boot.slotB = (magicOk s false && magicOk s true && decide (slotSeq s false < slotSeq s true)) ∧
        t.nvm.mem = s.nvm.mem)

/-- The boot ROM tries one slot (R334-R337). One that is not runnable records error 0x01 or 0x02 with its lees record and
gives way to the other, once; where neither is runnable, the node is in ROM recovery mode with BOOTFAIL set, error 0x03
recorded and the vintage registers as they were. A runnable slot extends V0 with its digest and enters the firmware,
which extends V1 with that of the configuration image, valid or not, and then applies the image: `u` is the state that
meets it. Where the image is not valid, CFGBAD sets, and the start-up calibration run begins (R378, R384). Start-up
completes (R326, R328, R378): UP sets and PWR is raised, a root takes number 1 (R93), the second part of the start-up
calibration begins. A start-up run not done after 10,000,000 TK skips every item left, setting SKIPPED and recording
error 0x02 for each, and ends (R378). -/
def Obligations.BootSlotsAndStartUpEnd : Prop :=
  (∀ s : State, WfState s → s.boot.phase = .rom →
    (slotRunnable s s.boot.slotB = false → s.boot.fallback = false → logsFree s = true →
      ∃ t, exec .bootSlotCheck s = .next t ∧ t.boot = { s.boot with slotB := !s.boot.slotB, fallback := true } ∧
        newestError t s.tick (if s.boot.slotB then 0x0C02 else 0x0C01) ∧
        t.nvm.leesQ = s.nvm.leesQ ++ [leesRec s 0x0C (if s.boot.slotB then 2 else 1) []] ∧
        t.nvm.mem = s.nvm.mem ∧ t.tbl = s.tbl) ∧
    (slotRunnable s s.boot.slotB = false → s.boot.fallback = true → s.rail.barred = false → s.nvm.leesQ.length ≤ 16 →
      ∃ t, exec .bootSlotCheck s = .next t ∧ t.boot.phase = .recovery ∧ t.boot.cause = s.boot.cause ||| 0x80 ∧
        t.boot.sub = s.boot.sub ∧ t.boot.v = s.boot.v ∧ t.boot.slotB = false ∧ t.boot.fallback = false ∧
        newestError t s.tick 0x0C03 ∧ t.nvm.mem = s.nvm.mem) ∧
    (slotRunnable s s.boot.slotB = true →
      ∃ u t, exec .bootSlotCheck s = .next t ∧ u.boot.phase = .firmware ∧ u.boot.slotB = s.boot.slotB ∧
        u.boot.fallback = s.boot.fallback ∧ u.boot.cause = s.boot.cause ∧ u.nvm.mem = s.nvm.mem ∧
        u.boot.fwMajor = (nvmByte s (slotStart s.boot.slotB + 4)).toNat ∧
        u.boot.fwMinor = (nvmByte s (slotStart s.boot.slotB + 5)).toNat ∧
        u.boot.v.getD 0 [] = sha256 (s.boot.v.getD 0 [] ++ sha256 (nvmBytes s (slotStart s.boot.slotB) 393216)) ∧
        u.boot.v.getD 1 [] = sha256 (s.boot.v.getD 1 [] ++ sha256 (imageBytes s)) ∧
        u.boot.v.getD 3 [] = s.boot.v.getD 3 [] ∧
        t = (if (applyImage u).boot.phase = .firmware then
          { applyImage u with
            cal.run := some { from_ := (applyImage u).tk, startUp := true, todo := [.trims, .sense, .current, .scanner], results := [] }
            cal.lastTrig := 1 }
          else applyImage u) ∧
        (imageValid (imageBytes s) = false → t.boot = u.boot ∧ t.cal.cfgbad = true ∧ t.tbl = u.tbl ∧
          t.cal.run = some { from_ := s.tk, startUp := true, todo := [.trims, .sense, .current, .scanner], results := [] }))) ∧
  (∀ s : State, WfState s →
    (s.boot.phase = .firmware → s.cal.run = none →
      ∃ t, exec .startupComplete s = .next t ∧ t.boot = { s.boot with phase := .up, resetSwath := none } ∧
        t.host.irqPend.getLsbD 14 = true ∧
        t.vine.nodeId = (if s.boot.hsel then 1 else s.vine.nodeId) ∧ t.bnd = { s.bnd with gapFrom := s.tk } ∧
        t.cal.run = some { from_ := s.tk, startUp := false, todo := [.headTemp, .samplers, .wdacs], results := [] }) ∧
    (∀ r : CalRun, coreRuns s = true → s.cal.run = some r → r.startUp = true → r.todo ≠ [] →
      r.from_ + 10000000 ≤ s.tk →
      ∃ t, exec .startupCalTimeout s = .next t ∧ t.cal.run = none ∧ t.cal.skipped = true ∧
        t.cal.trefSet = true ∧ t.cal.tref = signed 16 s.cal.tempDie.toNat ∧
        t.host.errTotal = s.host.errTotal + r.todo.length ∧
        t.host.errHist = (List.replicate r.todo.length (0x0E02, s.tick) ++ s.host.errHist).take 32 ∧
        t.host.irqPend.getLsbD 13 = true))

/-- What puts a running core in reset and holds it there (R329, R330, R424): clock loss sets POR with SUB 0x01,
nRESET and TESTEN set PIN with SUB 0x00; each holds the core until it has gone. A core in reset starts at step 4
of R326 when the last thing that held it has gone: nRESET high (R330), TESTEN low (R424), lock again (R329). While
something else holds it, only that hold is noted as gone. -/
def Obligations.CoreHoldsAndReleases : Prop :=
  (∀ s : State, WfState s → coreRuns s = true →
    (s.pwr.state ≤ 1 → s.boot.clockLost = false →
      ∃ t, exec .clockLoss s = .next t ∧ t.boot.clockLost = true ∧
        CoreResetDone 0 1 { s with boot.clockLost := true } t) ∧
    (s.boot.pinLow = false → s.rail.selfSeq ≠ .failed → s.pwr.state = 0 → s.pwr.entering = none →
      ∃ t, exec .nresetLow s = .next t ∧ t.boot.pinLow = true ∧
        CoreResetDone 1 0 { s with boot.pinLow := true } t) ∧
    (s.boot.testen = false →
      ∃ t, exec .testenRise s = .next t ∧ t.boot.testen = true ∧
        CoreResetDone 1 0 { s with boot.testen := true } t)) ∧
  (∀ s : State, WfState s → s.boot.phase = .held →
    (∃ t, exec .nresetRelease s = .next t ∧ t.boot.pinLow = false ∧ t.boot.testen = s.boot.testen ∧
      t.boot.phase = (if s.boot.testen || s.boot.hot || s.boot.clockLost then .held else .rom) ∧
      t.boot.cause = s.boot.cause) ∧
    (∃ t, exec .testenFall s = .next t ∧ t.boot.testen = false ∧ t.boot.pinLow = s.boot.pinLow ∧
      t.boot.phase = (if s.boot.pinLow || s.boot.hot || s.boot.clockLost then .held else .rom) ∧
      t.boot.cause = s.boot.cause) ∧
    (s.boot.clockLost = true →
      ∃ t, exec .pllLock s = .next t ∧ t.boot.clockLost = false ∧
        t.boot.phase = (if s.boot.pinLow || s.boot.testen || s.boot.hot then .held else .rom)))

/-- A write to RST_CAUSE (R343): 0xC500 is a soft reset; [15:8] at 0 clears the cause bits written as 1; any other
[15:8] has no effect and records error 0x07. -/
def Obligations.ResetCauseWrites : Prop :=
  ∀ s : State, WfState s → portDecodes s = true →
    (∃ t, exec .softReset s = .next t ∧ CoreResetDone 3 0 s t) ∧
    (∀ m : Byte, exec (.rstCauseClear m) s = .next { s with boot.cause := s.boot.cause &&& ~~~m }) ∧
    (∀ d : Word, d ≠ 0xC500 → d.extractLsb' 8 8 ≠ 0 →
      exec (.rstCauseInvalidWrite d) s = .next (recErr 0x0C 0x07 s))

/-- The watchdog resets the core (R347, R350): SUB is 0x01 for a wrong answer in the open window, 0x02 for any
answer in the closed one, 0x03 when the period ends; WDG then closes every group's gate. -/
def Obligations.WatchdogResets : Prop :=
  ∀ s : State, WfState s → portDecodes s = true →
    (∀ a : Word, 250000 * 2 ^ s.boot.period ≤ 2 * (s.tk - s.boot.wdgFrom) →
      s.tk - s.boot.wdgFrom < 250000 * 2 ^ s.boot.period → a ≠ wdgExpected s.boot.wdgQ s.boot.serves →
      ∃ t, exec (.wdgAnswer a) s = .next t ∧ CoreResetDone 2 1 s t ∧ t.hc.wdgClosed = BitVec.allOnes 32) ∧
    (∀ a : Word, 2 * (s.tk - s.boot.wdgFrom) < 250000 * 2 ^ s.boot.period →
      ∃ t, exec (.wdgAnswer a) s = .next t ∧ CoreResetDone 2 2 s t ∧ t.hc.wdgClosed = BitVec.allOnes 32) ∧
    (250000 * 2 ^ s.boot.period ≤ s.tk - s.boot.wdgFrom →
      ∃ t, exec .wdgExpiry s = .next t ∧ CoreResetDone 2 3 s t ∧ t.hc.wdgClosed = BitVec.allOnes 32)

/-- The window of a period opens once, which raises WDG (R345). PERIOD is taken in the open window, for the next
period; a write in the closed one, or of a code of 14 or 15, leaves it, sets PREFUSED, records error 0x05 and
raises WDG (R348). A taste of the watchdog while its window is open (R346): the expected answer starts a new
period of the length last written, counts the serve modulo 16 and moves the question one step of the LFSR; nothing
else changes. On a period that has started with the question 0x1234 and no serve, the expected answer is 0x323A. -/
def Obligations.WatchdogWindowAndServe : Prop :=
  (∀ s : State,
    (coreRuns s = true → s.pwr.state ≤ 1 → s.pwr.entering = none → s.boot.wdgSeen = false →
      250000 * 2 ^ s.boot.period ≤ 2 * (s.tk - s.boot.wdgFrom) → s.tk - s.boot.wdgFrom < 250000 * 2 ^ s.boot.period →
      exec .wdgWindowOpen s = .next (raise 12 { s with boot.wdgSeen := true })) ∧
    (∀ d : Word, portDecodes s = true → 250000 * 2 ^ s.boot.period ≤ 2 * (s.tk - s.boot.wdgFrom) →
      (d.extractLsb' 8 4).toNat ≤ 13 →
      exec (.wdgPeriodWrite d) s = .next { s with
        boot.periodNext := (d.extractLsb' 8 4).toNat, boot.prefused := s.boot.prefused && !d.getLsbD 6 }) ∧
    (∀ d : Word, portDecodes s = true →
      2 * (s.tk - s.boot.wdgFrom) < 250000 * 2 ^ s.boot.period ∨ 13 < (d.extractLsb' 8 4).toNat →
      exec (.wdgPeriodWrite d) s = .next (raise 12 (recErr 0x0C 0x05 { s with boot.prefused := true })))) ∧
  ((∀ s : State, portDecodes s = true →
    250000 * 2 ^ s.boot.period ≤ 2 * (s.tk - s.boot.wdgFrom) → s.tk - s.boot.wdgFrom < 250000 * 2 ^ s.boot.period →
    exec (.wdgAnswer ((s.boot.wdgQ ^^^ 0xC3A5).rotateLeft (1 + s.boot.wdgQ.toNat % 16) + word (0x0101 * s.boot.serves))) s
      = .next { s with
        boot.serves := (s.boot.serves + 1) % 16
        boot.wdgQ := (s.boot.wdgQ >>> 1) ^^^ (if s.boot.wdgQ.getLsbD 0 then 0xB400 else 0)
        boot.wdgFrom := s.tk, boot.wdgSeen := false, boot.period := s.boot.periodNext }) ∧
  wdgExpected 0x1234 0 = 0x323A)

/-- Attestation (R340, R341, R353, R338): every write of ATT_CTL stores V3EN; a QUOTE is refused while BUSY or
with a nonce of zeros, as a reserved OP is, with QERR and error 0x06; else BUSY sets. The finished quote stands in
table 0x93 byte for byte, its nonce is cleared, DONE sets. A pending V3 extension extends V3 and counts. -/
def Obligations.Attestation : Prop :=
  ∀ s : State, WfState s →
    (∀ v3en : Bool, clocked s = true → inRest s = false →
      exec (.attNone v3en) s = .next { s with boot.v3en := v3en } ∧
      (s.boot.busy = false → (nonceBytes s).any (· != 0) = true →
        exec (.quote v3en) s = .next { s with boot.v3en := v3en, boot.busy := true }) ∧
      (s.boot.busy = true ∨ (nonceBytes s).all (· == 0) = true →
        exec (.quote v3en) s = .next (recErr 0x0C 0x06 { s with boot.v3en := v3en, boot.qerr := true })) ∧
      (∀ op : BitVec 3, 2 ≤ op.toNat →
        exec (.attReservedOp op v3en) s = .next (recErr 0x0C 0x06 { s with boot.v3en := v3en, boot.qerr := true }))) ∧
    (coreRuns s = true → s.boot.busy = true →
      ∃ t, exec .quoteDone s = .next t ∧ t.boot = { s.boot with busy := false, done := true } ∧
        nonceBytes t = List.replicate 32 0 ∧
        (∀ i < 124, tget t 0x93 i = (packWords (quoteBody s ++ signature s.free (quoteBody s))).getD i 0) ∧
        (∀ tb a, a < 2 ^ 24 → tb ≠ 0x92 → tb ≠ 0x93 → tget t tb a = tget s tb a)) ∧
    (∀ d : List Byte, clocked s = true → s.boot.v3Pending = some d →
      ∃ t, exec .v3Extend s = .next t ∧
        t.boot.v.getD 3 [] = sha256 (s.boot.v.getD 3 [] ++ d) ∧ t.boot.v3Count = s.boot.v3Count + 1 ∧
        t.boot.v3Pending = none ∧ (∀ n < 3, t.boot.v.getD n [] = s.boot.v.getD n []))

/-- The commands of table 0x84 that are accepted (R385-R387) start with the operands they find, and change nothing
else: ERASE and PROGRAM in the slot that does not run, in both slots in recovery, and in the configuration image;
READ anywhere; KEY_WRITE of a new key that is neither all 0x00 nor all 0xFF and DEFAULTS_WRITE of sound defaults
before LOCK; LOCK at any time. A reserved OP is refused with reason 0x01 and error 0x07. -/
def Obligations.NvmCommandsStart : Prop :=
  ∀ s : State, nvmAnswers s = true → inRest s = false → s.pwr.entering = none →
    let addr := tnat32 s 0x84 1
    let len := tnat s 0x84 3
    let key := nvmBuffer s 16
    let allowed := (addr < 0x060000 → s.boot.phase = .recovery ∨ s.boot.slotB = true) ∧
      (0x060000 ≤ addr → addr < 0x0C0000 → s.boot.phase = .recovery ∨ s.boot.slotB = false) ∧ addr < 0x0D0000
    let starts (c : Instr) (op ksel : Nat) : Prop := ∃ o, exec c s = .next { s with nvm.busy := some o } ∧
      o.op = op ∧ o.addr = addr ∧ o.len = len ∧ o.ksel = ksel ∧
      o.data = nvmBuffer s (if op = 2 then len else if op = 4 then 16 else 100)
    (s.rail.barred = false → s.nvm.busy = none →
      (allowed → addr % 4096 = 0 → starts .nvmErase 1 0) ∧
      (allowed → addr % 16 = 0 → len % 16 = 0 → 16 ≤ len → len ≤ 4096 → addr / 4096 = (addr + len - 1) / 4096 →
        (nvmBytes s addr len).all (· == 0xFF) = true → starts .nvmProgram 2 0) ∧
      (len ≤ 4096 → addr + len ≤ 0x100000 → starts .nvmRead 3 0) ∧
      (∀ ksel : BitVec 3, s.nvm.locked = false → s.nvm.keys.any (fun k => k.1 == ksel.toNat) = false →
        key.all (· == 0) = false → key.all (· == 0xFF) = false → starts (.keyWrite ksel) 4 ksel.toNat) ∧
      (s.nvm.locked = false → defaultsBad (twords s 0x85 0 50) = false → starts .defaultsWrite 5 0) ∧
      starts .nvmLock 6 0) ∧
    (∀ (op : BitVec 4) (ksel : BitVec 3), op.toNat = 0 ∨ 7 ≤ op.toNat →
      exec (.nvmReservedOp op ksel) s =
        .next (recErr 0x0E 0x07 { s with nvm.refused := true, nvm.reason := 1 }))

/-- A command of table 0x84 that ends verified has done its work (R385, R386): DONE sets, BUSY clears, CAL is
raised; an erased sector reads 0xFF, a programmed range reads the buffer, every other byte of the flash is as it
was; a READ leaves the flash alone and fills the buffer, with zeros for the protected region; KEY_WRITE adds its
key, DEFAULTS_WRITE the image of table 0x7D with its reserved bits at 0, LOCK the lock. A command that fails its
verification sets ERR, and only its target holds values nobody states. A lees record is programmed into the next free line
(R389, R390): its 16 bytes are SEQ, TIME, BOOT, BLOCK, CODE, DATA and the CRC, SEQ steps past 0xFFFFFFFF, and no
other line of its sector changes; where 200 lines of the sector are used and the next sector is not free, that one is
erased, and no line beside. -/
def Obligations.NvmCommandsEndAndLeesRecords : Prop :=
  (∀ (s : State) (o : NvmOp), WfState s → nvmAnswers s = true → s.nvm.busy = some o →
    (∃ t, exec (.nvmCommandDone true) s = .next t ∧ t.nvm.busy = none ∧ t.nvm.done = true ∧
      t.host.irqPend = s.host.irqPend ||| 0x2000 ∧
      (∀ a, nvmByte t a = (if o.op = 1 ∧ o.addr ≤ a ∧ a < o.addr + 4096 then 0xFF
        else if o.op = 2 ∧ o.addr ≤ a ∧ a < o.addr + o.data.length then o.data.getD (a - o.addr) 0 else nvmByte s a)) ∧
      t.nvm.keys = (if o.op = 4 then (o.ksel, o.data) :: s.nvm.keys else s.nvm.keys) ∧
      t.nvm.locked = (s.nvm.locked || o.op == 6) ∧
      (∀ a, cellGet defaultsDefault t.nvm.defaults a = if o.op = 5 ∧ a < 50 then
        (packWords o.data).getD a 0 &&& word (defaultsMask a) else cellGet defaultsDefault s.nvm.defaults a) ∧
      (o.op ≠ 3 → t.tbl = s.tbl) ∧
      (o.op = 3 → o.len ≤ 4096 → ∀ i < o.len, tbyte t 0x85 i =
        (if o.addr + i < 0x0F8000 then (nvmByte s (o.addr + i)).toNat else 0))) ∧
    (o.op ≠ 3 → ∃ t, exec (.nvmCommandDone false) s = .next t ∧ t.nvm.busy = none ∧
      t.nvm.done = true ∧ t.nvm.err = true ∧ (o.op ≠ 4 → t.nvm.keys = s.nvm.keys) ∧
      (o.op ≠ 5 → t.nvm.defaults = s.nvm.defaults) ∧ (o.op ≠ 6 → t.nvm.locked = s.nvm.locked) ∧
      (∀ a, ¬(o.op = 1 ∧ o.addr ≤ a ∧ a < o.addr + 4096) → ¬(o.op = 2 ∧ o.addr ≤ a ∧ a < o.addr + o.len) →
        nvmByte t a = nvmByte s a))) ∧
  (∀ (s : State) (r : LeesRec) (rest : List LeesRec), WfState s → coreRuns s = true → s.boot.phase ≠ .rom →
    s.nvm.leesQ = r :: rest → s.rail.barred = false → (∀ o, s.nvm.busy = some o → o.op ≠ 1) →
    ∃ t k, exec .leesRecordWrite s = .next t ∧ k = leesNextFree s 8192 s.nvm.leesNext ∧ k < 8192 ∧
      t.nvm.leesQ = rest ∧ t.nvm.leesNewest = some k ∧ t.nvm.leesNext = (k + 1) % 8192 ∧
      t.nvm.leesSeq = (if s.nvm.leesSeq + 1 < 0xFFFFFFFF then s.nvm.leesSeq + 1 else 0) ∧
      nvmBytes t (0x0D8000 + 16 * k) 16 =
        (let b := bytesBE 4 s.nvm.leesSeq ++ bytesBE 4 (r.time % 2 ^ 32) ++
            [BitVec.ofNat 8 r.boot, BitVec.ofNat 8 r.block, BitVec.ofNat 8 r.code]
            ++ ((r.data ++ [0, 0, 0, 0]).take 4).map (BitVec.ofNat 8)
         b ++ [BitVec.ofNat 8 (crc8 (b.map (·.toNat)))]) ∧
      (∀ a, a < 0x0D8000 ∨ 0x0F8000 ≤ a → nvmByte t a = nvmByte s a) ∧
      (∀ j < 8192, j ≠ k → nvmBytes t (0x0D8000 + 16 * j) 16 =
        (if 199 ≤ k % 256 ∧ j / 256 = (k / 256 + 1) % 32 ∧ leesFree (leesLine s ((k / 256 + 1) % 32 * 256)) = false
         then List.replicate 16 0xFF else nvmBytes s (0x0D8000 + 16 * j) 16)))

/-- CAL_CTL (R374, R377, R393): every write stores MAXDEFER, 0 as 1, and DELTA; RUN starts a run of every item,
and is refused with REFUSED and error 0x01 while one is in progress, as a reserved OP is; DISCARD leaves nothing
staged. -/
def Obligations.CalibrationCommands : Prop :=
  ∀ (s : State) (m : BitVec 5) (d : Byte), WfState s → clocked s = true → inRest s = false →
    let s1 := { s with cal.maxDefer := max 1 m.toNat, cal.delta := d.toNat }
    let refused := raise 13 (let e := recErr 0x0E 0x01 s1; { e with cal.refused := true })
    exec (.calNone m d) s = .next s1 ∧
    (s.cal.run = none → exec (.calRun m d) s = .next { s1 with
      cal.run := some { from_ := s.tk, startUp := false,
                        todo := [.trims, .sense, .current, .scanner, .headTemp, .samplers, .wdacs], results := [] }
      cal.lastTrig := 3 }) ∧
    (∀ r, s.cal.run = some r → exec (.calRun m d) s = .next refused) ∧
    (∀ op : BitVec 3, 3 ≤ op.toNat → exec (.calReservedOp op m d) s = .next refused) ∧
    (∃ t, exec (.calDiscard m d) s = .next t ∧ t.cal = { s1.cal with staged := [] } ∧
      ∀ tb a, a < 2 ^ 24 → tb ≠ 0x81 → tget t tb a = tget s tb a)

/-- What happens in a calibration run (R371, R372, R377): a measured item leaves the run, or ends it where it was the
last: WDACs in the idle state only, a head temperature of a group that has not fired for 2 s, a sampler that has been
free for 5,000 TK; an item not measured 60 s after the start is skipped with SKIPPED and error 0x02, which ends the run
too where it was the last; the end stores TREF. -/
def Obligations.CalibrationRun : Prop :=
  ∀ (s : State) (r : CalRun) (i : CalItem), WfState s → coreRuns s = true → s.cal.run = some r → i ∈ r.todo →
    (∀ bs : List Byte, bs.length = calItemBytes i → (i = .wdacs → s.bnd.idle = true) →
      (i = .headTemp → ∃ g < 32, ∀ f ∈ s.jet.fires, g ∈ f.groups → f.fireEnd + 500000000 ≤ s.tk) →
      (i = .samplers → ∃ k < 16, ∀ b ∈ s.hc.bursts, b.sampler = some k → b.stop + 5000 ≤ s.tk) →
      (r.todo.filter (· != i) ≠ [] →
        exec (.calItemDone i bs) s = .next { s with
          cal.run := some { r with todo := r.todo.filter (· != i), results := r.results ++ [(i, bs)] } }) ∧
      (r.todo.filter (· != i) = [] →
        ∃ t, exec (.calItemDone i bs) s = .next t ∧ t.cal.run = none ∧ t.cal.trefSet = true ∧
          t.cal.tref = signed 16 s.cal.tempDie.toNat ∧ t.cal.tempDie = s.cal.tempDie)) ∧
    (r.from_ + 15000000000 ≤ s.tk → r.todo.filter (· != i) ≠ [] →
      exec (.calItemSkip i) s = .next (raise 13 (let e := recErr 0x0E 0x02 s; { e with
        cal.skipped := true, cal.run := some { r with todo := r.todo.filter (· != i) } }))) ∧
    (r.from_ + 15000000000 ≤ s.tk → r.todo.filter (· != i) = [] →
      ∃ t, exec (.calItemSkip i) s = .next t ∧ t.cal.run = none ∧ t.cal.skipped = true ∧ t.cal.trefSet = true ∧
        t.cal.tref = signed 16 s.cal.tempDie.toNat ∧ newestError t s.tick 0x0E02)

/-- What happens after a run (R379, R382): a verified store makes its copy the newest set, a failed one sets
STOREFAIL; an idle-boundary result that has waited for CAL_MAXDEFER minutes makes a forced gap due; the hold of a
forced gap whose speed test passed 10,000,000 TK ago ends with FORCEFAIL, and the wait starts anew. The die sensor
(R331, R375), sampled once in each 250,000 TK: TEMP_DIE is the mean of the last 16 samples, whose rounding the spec leaves open (log entry 13),
from the 16th sample on (log entry 58); a mean at the shutdown threshold resets the core with THERM set and holds
it until the mean is 20 °C below. -/
def Obligations.CalibrationAftermathAndDieTemperature : Prop :=
  (∀ s : State,
    (∀ b : Bool, coreRuns s = true → s.cal.storing = some b →
      (∃ t, exec (.calStoreDone true) s = .next t ∧ t.cal = { s.cal with storing := none, newest := some b } ∧
        t.nvm.mem = s.nvm.mem) ∧
      (∃ t, exec (.calStoreDone false) s = .next t ∧ t.cal = { s.cal with storing := none, storefail := true } ∧
        ∀ a, WfState s → a < copyBase b ∨ copyBase b + 16384 ≤ a → nvmByte t a = nvmByte s a)) ∧
    (clocked s = true → s.cal.staged.any (fun i => i != .trims) = true →
      s.cal.stagedFrom + 250000 * (60000 * s.cal.maxDefer) ≤ s.tk →
      exec .calMaxdeferExpiry s = .next { s with cal.forceDue := true }) ∧
    (∀ t0, clocked s = true → s.cal.forceTestAt = some t0 → s.cal.forcing = true → t0 + 10000000 ≤ s.tk →
      ∃ t, exec .forcedGapTimeout s = .next t ∧ t.cal = { s.cal with
        forceFail := true, forcing := false, forceTestAt := none, stagedFrom := s.tk } ∧
        t.host.irqPend.getLsbD 13 = true)) ∧
  (∀ (s : State) (x : Word), WfState s → s.boot.phase ≠ .supplies → s.boot.phase ≠ .pll → s.pwr.state ≤ 1 →
    (∀ t0, s.cal.dieAt = some t0 → t0 + 250000 ≤ s.tk) →
    let l := (signed 16 x.toNat :: s.cal.samples).take 16
    let m := tempMean l
    let at_ := some (periodNow s.cal.dieAt 250000 s)
    (s.cal.samples.length < 15 → exec (.dieTempSample x) s = .next { s with cal.samples := l, cal.dieAt := at_ }) ∧
    (15 ≤ s.cal.samples.length → s.boot.hot = false → s.cal.delta = 0 → m < hotLimit →
      exec (.dieTempSample x) s = .next { s with
        cal.samples := l, cal.dieAt := at_, cal.tempDie := BitVec.ofInt 16 m }) ∧
    (15 ≤ s.cal.samples.length → s.boot.hot = false → hotLimit ≤ m → coreRuns s = true →
      ∃ t, exec (.dieTempSample x) s = .next t ∧ t.boot.hot = true ∧ t.boot.phase = .held ∧
        CoreResetDone 4 0 { s with boot.hot := true, cal.samples := l, cal.tempDie := BitVec.ofInt 16 m } t) ∧
    (15 ≤ s.cal.samples.length → s.boot.hot = true → hotLimit - 320 < m →
      exec (.dieTempSample x) s = .next { s with cal.samples := l, cal.dieAt := at_ }) ∧
    (15 ≤ s.cal.samples.length → s.boot.hot = true → m ≤ hotLimit - 320 → s.boot.phase = .held →
      ∃ t, exec (.dieTempSample x) s = .next t ∧ t.boot.hot = false ∧ t.cal.samples = [] ∧
        t.boot.phase = (if s.boot.pinLow || s.boot.testen || s.boot.clockLost then .held else .rom)))

/-- The host's interrupt and error registers (R72, R76, R77): IRQ_CLR clears the bits written as 1 but those of a
source with an event in the same TK; IRQ_MASK takes what is written; a write to ERR_FIRST clears it and ERR_COUNT;
a read of HST_STAT delivers CRCERR and the flags and clears CRCERR. Nothing else changes. And every recorded error
(R73, R77-R79): while the core runs, ERR_COUNT counts, saturating at 0xFFFF, ERR_FIRST keeps the first block and code
since it was cleared, the error history takes block, code and TICK as its newest of 32 entries, and ERR is raised where
ERR_COUNT has incremented; nothing else changes. -/
def Obligations.HostRegisters : Prop :=
  (∀ (b c : Nat) (s : State), coreRuns s = true →
    let r := if s.host.errCount < 65535 then raise 15 s else s
    recErr b c s = { r with
      host.errFirst := if s.host.errCount = 0 then word (b * 256 + c) else s.host.errFirst
      host.errCount := min 65535 (s.host.errCount + 1)
      host.errHist := (word (b * 256 + c), s.tick) :: s.host.errHist.take 31
      host.errTotal := s.host.errTotal + 1 }) ∧
  ∀ s : State, portDecodes s = true →
    (∀ mask coincident : Word, exec (.irqClrWrite mask coincident) s = .next { s with
      host.irqPend := (s.host.irqPend &&& ~~~mask) |||
        (mask &&& (coincident ||| (if s.host.irqAt = s.tk then s.host.irqSame else 0))) }) ∧
    (∀ n < 16, (raise n s).host.irqPend.getLsbD n = true ∧ (raise n s).host.irqAt = s.tk ∧
      (raise n s).host.irqSame.getLsbD n = true) ∧
    (∀ d : Word, exec (.irqMaskWrite d) s = .next { s with host.irqMask := d }) ∧
    (∀ d : Word, isUp s = true → inRest s = false →
      exec (.errFirstWrite d) s = .next { s with host.errFirst := 0, host.errCount := 0 }) ∧
    (outstanding s < 16 → exec .hstStatRead s = .next { s with
      host.crcerr := 0, host.nextId := s.host.nextId + 1
      host.results := s.host.results ++
        [{ id := s.host.nextId, ready := true, data := word (min s.host.crcerr 255 * 256 + s.host.hstFlags.toNat) }] })

/-- The table window (R69-R71): TBL_SEL selects the table of its low byte; a reserved table ID is counted and sets BADTBL
with error 0x05. A read of TBL_DATA delivers the word and, with INC, moves the address on; beyond the table's length it
delivers 0x0000 with TBLEND and error 0x09; of a reserved table it delivers 0x0000 and changes nothing. A write reaches
the word selected (shown for a nonce word of table 0x92), beyond the length it is ignored with TBLEND and error 0x09, and
of a reserved table it is ignored. -/
def Obligations.TableWindow : Prop :=
  ∀ (s : State) (inc : Bool), WfState s → clocked s = true →
    let a := s.host.tblAddr.toNat
    let tb := s.host.tblSel.toNat
    let step := if inc then s.host.tblAddr + 1 else s.host.tblAddr
    (∀ d : Word, inRest s = false → tblLen (d.toNat % 256) ≠ 0 →
      exec (.tblSelWrite d) s = .next { s with host.tblSel := d.setWidth 8 }) ∧
    (∀ d : Word, inRest s = false → tblLen (d.toNat % 256) = 0 →
      ∃ t, exec (.tblSelWrite d) s = .next t ∧ t.host.tblSel = d.setWidth 8 ∧
        t.host.hstFlags = s.host.hstFlags ||| 0x10 ∧ countedOne s t 0x00 3 ∧ newestError t s.tick 0x0105 ∧
        (∀ tb' a', tkey tb' a' ≠ tkey 0x00 3 → tget t tb' a' = tget s tb' a') ∧
        t = { s with host := t.host, tbl := t.tbl }) ∧
    (outstanding s < 16 → tblLen tb = 0 → exec (.tblDataRead inc) s = .next { s with
      host.nextId := s.host.nextId + 1
      host.results := s.host.results ++ [{ id := s.host.nextId, ready := true, data := 0 }] }) ∧
    (∀ d : Word, inRest s = false → tblLen tb = 0 → exec (.tblDataWrite inc d) s = .next s) ∧
    (outstanding s < 16 → a < tblLen tb → ∃ t, exec (.tblDataRead inc) s = .next t ∧ t.host.tblAddr = step ∧
      t.tbl = s.tbl ∧ t.host.results = s.host.results ++
        [{ id := s.host.nextId, ready := true, data := tblValue s tb a s.txn.view }]) ∧
    (outstanding s < 16 → tblLen tb ≠ 0 → tblLen tb ≤ a →
      ∃ t, exec (.tblDataRead inc) s = .next t ∧ t.host.tblAddr = step ∧ t.host.hstFlags.getLsbD 0 = true ∧
        t.host.errHist.head? = some (0x0109, s.tick) ∧ t.tbl = s.tbl ∧
        t.host.results = s.host.results ++ [{ id := s.host.nextId, ready := true, data := 0 }]) ∧
    (∀ d : Word, inRest s = false → tb = 0x92 → a < 16 → ∃ t, exec (.tblDataWrite inc d) s = .next t ∧
      tget t 0x92 a = d ∧ t.host = { s.host with tblAddr := step } ∧
      ∀ tb' a', tkey tb' a' ≠ tkey 0x92 a → tget t tb' a' = tget s tb' a') ∧
    (∀ d : Word, inRest s = false → tblLen tb ≠ 0 → tblLen tb ≤ a → ∃ t, exec (.tblDataWrite inc d) s = .next t ∧
      t.tbl = s.tbl ∧ t.host.tblAddr = step ∧ t.host.errHist.head? = some (0x0109, s.tick))

/-- Frames that are not executed (R55, R62): one cut short sets SHORT, is counted and records error 0x02; one with
too short a phase sets SCKFAST, is counted and records error 0x03; both set LOST and raise HOST, and leave the stream of
results and the routing queue as they are; nCS without an SCK edge does nothing. A complete frame whose CRC-8 does not
match sets CRCE and counts in CRCERR up to 255, raises HOST and records error 0x01. None touches anything outside the
host port's registers, counters and history. What a broadcast read and an access to a reserved address do (R64,
R76): the read of a routed register with FAB_DST at 63 delivers 0x0000 in its place, is counted, sets BCREAD and
records error 0x06; a reserved address, read or written, is counted, sets RSVD and records error 0x04, and a read
of it delivers 0x0000. A 17th outstanding item is refused with QOVF and error 0x07 (R66). -/
def Obligations.FramesDiscardedAndAccessesRefused : Prop :=
  (∀ (s : State), WfState s → portDecodes s = true →
    (∀ fast : Bool, exec (.partialFrame 0 fast) s = .next s) ∧
    (∀ edges : BitVec 5, edges ≠ 0 → ∃ t, exec (.partialFrame edges false) s = .next t ∧
      t.host.lost = true ∧ t.host.hstFlags = s.host.hstFlags ||| 0x80 ∧ t.host.irqPend.getLsbD 0 = true ∧
      countedOne s t 0x00 1 ∧ newestError t s.tick 0x0102 ∧ t.host.results = s.host.results ∧
      t.host.queue = s.host.queue ∧ t.host.crcerr = s.host.crcerr ∧
      (∀ tb a, tkey tb a ≠ tkey 0x00 1 → tget t tb a = tget s tb a) ∧
      t = { s with host := t.host, tbl := t.tbl }) ∧
    (∀ edges : BitVec 5, edges ≠ 0 → ∃ t, exec (.partialFrame edges true) s = .next t ∧
      t.host.lost = true ∧ t.host.hstFlags = s.host.hstFlags ||| 0x40 ∧ t.host.irqPend.getLsbD 0 = true ∧
      countedOne s t 0x00 2 ∧ newestError t s.tick 0x0103 ∧ t.host.results = s.host.results ∧
      t.host.queue = s.host.queue ∧ t.host.crcerr = s.host.crcerr ∧
      (∀ tb a, tkey tb a ≠ tkey 0x00 2 → tget t tb a = tget s tb a) ∧
      t = { s with host := t.host, tbl := t.tbl }) ∧
    (∀ f : BitVec 32, ∃ t, exec (.registerWrite f true) s = .next t ∧
      t.host.lost = true ∧ t.host.hstFlags = s.host.hstFlags ||| 0x40 ∧ countedOne s t 0x00 2 ∧
      newestError t s.tick 0x0103 ∧ t.host.results = s.host.results ∧ t.host.queue = s.host.queue ∧
      t = { s with host := t.host, tbl := t.tbl }) ∧
    (∀ f : BitVec 32, frameCrcOk f = false → ∃ t, exec (.registerWrite f false) s = .next t ∧
      t.host.crce = true ∧ t.host.lost = false ∧ t.host.crcerr = (if s.host.crcerr < 255 then s.host.crcerr + 1 else 255) ∧
      tget t 0x00 0 = word (sat16 (tnat s 0x00 0 + 1)) ∧ t.host.errHist.head? = some (0x0101, s.tick) ∧
      t.host.queue = s.host.queue ∧
      t.host.irqPend = s.host.irqPend ||| (if s.host.errCount < 65535 then 0x8001 else 0x0001) ∧
      t.host.lastSdo = sdoNow s ∧
      t = { s with host := t.host, tbl := t.tbl })) ∧
  (∀ (s : State) (a : BitVec 6), WfState s → portDecodes s = true →
    (isAnchor a.toNat = false → outstanding s < 16 →
      ∃ t, exec (.broadcastRead a) s = .next t ∧ t.host.hstFlags = s.host.hstFlags ||| 0x08 ∧
        tget t 0x00 7 = word (sat16 (tnat s 0x00 7 + 1)) ∧ t.host.errHist.head? = some (0x0106, s.tick) ∧
        t.host.results = s.host.results ++ [{ id := s.host.nextId, ready := true, data := 0 }] ∧
        t.host.queue = s.host.queue) ∧
    (isAnchor a.toNat = false → 16 ≤ outstanding s →
      ∃ t, exec (.broadcastRead a) s = .next t ∧ t.host.hstFlags = s.host.hstFlags ||| 0x04 ∧ countedOne s t 0x00 5 ∧
        newestError t s.tick 0x0107 ∧ t.host.results = s.host.results ∧ t.host.queue = s.host.queue) ∧
    (answers s a.toNat = false →
      (outstanding s < 16 → ∃ t, exec (.reservedAddressAccess a true) s = .next t ∧
        t.host.hstFlags = s.host.hstFlags ||| 0x20 ∧ tget t 0x00 4 = word (sat16 (tnat s 0x00 4 + 1)) ∧
        t.host.errHist.head? = some (0x0104, s.tick) ∧
        t.host.results = s.host.results ++ [{ id := s.host.nextId, ready := true, data := 0 }]) ∧
      (inRest s = false → ∃ t, exec (.reservedAddressAccess a false) s = .next t ∧
        t.host.hstFlags = s.host.hstFlags ||| 0x20 ∧ tget t 0x00 4 = word (sat16 (tnat s 0x00 4 + 1)) ∧
        t.host.errHist.head? = some (0x0104, s.tick) ∧ t.host.results = s.host.results)))

/-- The frame that is executed (R56-R58, R60, R61, R65): a write of IRQ_MASK with its CRC takes effect on this
device whatever FAB_DST says; a write of SCRATCH joins the routing queue for FAB_DST with its data, and a read
holds a place in the stream of results; a 17th outstanding item is discarded with QOVF and error 0x07. A result
that the frame carried leaves the stream. -/
def Obligations.FramesExecuted : Prop :=
  ∀ (s : State) (f : BitVec 32), WfState s → portDecodes s = true → frameCrcOk f = true →
    let results := (if (sdoHead s).isSome then s.host.results.drop 1 else s.host.results)
    let full := decide (16 ≤ outstanding { s with host.results := results })
    let dst := if s.vine.fabDst = s.vine.nodeId then 0 else s.vine.fabDst
    (f.extractLsb' 24 8 = 0x06 → ∃ t, exec (.registerWrite f false) s = .next t ∧
      t.host.irqMask = f.extractLsb' 8 16 ∧ t.host.results = results ∧ t.host.queue = s.host.queue ∧
      t.host.lost = false ∧ t.host.crce = false ∧ t.host.lastSdo = sdoNow s) ∧
    (f.extractLsb' 24 8 = 0x3F → full = false →
      ∃ t q, exec (.registerWrite f false) s = .next t ∧ t.host.queue = s.host.queue ++ [q] ∧ q.rnw = false ∧
        q.addr = 0x3F ∧ q.data = f.extractLsb' 8 16 ∧ q.dst = dst ∧ q.inFlight = false ∧ t.host.results = results ∧
        t.host.scratch = s.host.scratch) ∧
    (f.extractLsb' 24 8 = 0xBF → full = false → s.vine.fabDst ≠ 63 →
      ∃ t q, exec (.registerWrite f false) s = .next t ∧ t.host.queue = s.host.queue ++ [q] ∧ q.rnw = true ∧
        q.addr = 0x3F ∧ q.dst = dst ∧
        t.host.results = results ++ [{ id := s.host.nextId, ready := false, data := 0 }]) ∧
    (f.extractLsb' 24 8 = 0x3F → full = true →
      ∃ t, exec (.registerWrite f false) s = .next t ∧ t.host.queue = s.host.queue ∧
        t.host.hstFlags.getLsbD 2 = true ∧ t.host.errHist.head? = some (0x0107, s.tick))

/-- The routing queue (R65, R68): a write to this node's SCRATCH executes and leaves the queue; an access to a
node that the routing table knows is sent and waits 1 ms; to one that it does not know it fails at once, as an
answer 1 ms overdue does: REMERR, the counter, error 0x08, and a read gets 0x0000. Accesses over the fabric
(R111-R113): REG_WR and REG_RD of SCRATCH act on the node addressed and are answered, with the request's SEQ, with status 0 and the
word read; of an anchor register, as of a reserved one, with status 1; in reset or recovery with status 3 and no
effect. An answer completes the access whose request carried its SEQ, a status other than 0 failing it. RESET resets the core
with the sender's number as sub-cause. -/
def Obligations.RoutedAndRemoteAccesses : Prop :=
  (∀ (s : State) (q : Routed) (rest : List Routed), WfState s → clocked s = true → s.host.queue = q :: rest →
    (∀ x ∈ rest, x.id ≠ q.id) → q.barrier = false →
    let stream (d : Word) : List ReadItem :=
      s.host.results.map (fun r => if r.id = q.id ∧ q.rnw = true then { r with ready := true, data := d } else r)
    let failed (t : State) : Prop := t.host.queue = rest ∧ t.host.results = stream 0 ∧
      t.host.hstFlags = s.host.hstFlags ||| 0x02 ∧ tget t 0x00 6 = word (sat16 (tnat s 0x00 6 + 1)) ∧
      t.host.errHist.head? = some (0x0108, s.tick)
    (q.inFlight = false → q.dst = 0 → q.rnw = false → q.addr = 0x3F → inRest s = false →
      exec .routedFrameExecute s = .next { s with
        host.scratch := q.data, host.queue := rest, host.results := s.host.results }) ∧
    (q.inFlight = false → q.dst ≠ 0 → q.dst ≠ 63 → routable s q.dst = true →
      ∃ t, exec .routedFrameExecute s = .next t ∧
        t.host.queue = { q with inFlight := true, deadline := s.tk + 250000, waitMask := 0, seq := seqOf q.dst 0 s } :: rest ∧
        t.host.scratch = s.host.scratch ∧ t.host.results = s.host.results) ∧
    (q.inFlight = false → q.dst ≠ 0 → q.dst ≠ 63 → routable s q.dst = false →
      ∃ t, exec .routedFrameExecute s = .next t ∧ failed t) ∧
    (q.inFlight = true → q.deadline ≤ s.tk → ∃ t, exec .remoteTimeout s = .next t ∧ failed t)) ∧
  (∀ (s : State) (p : Fin 3) (h : Hdr) (r : Nat), WfState s → vineOn s = true → (portOf s p).up = true → forMe h s = true →
    h.src ≠ h.dst → routeOf s h.src.toNat = r + 1 → canSend s r 0 = true →
    (∀ (inc view : Bool) (d : Word), isUp s = true → s.pwr.state = 0 →
      (∃ t, exec (.pktRegWr p h inc view 0x3F d none) s = .next t ∧ t.host.scratch = d ∧
        lastAnswer t r h [0, 0]) ∧
      (∃ t, exec (.pktRegRd p h inc view 0x3F) s = .next t ∧ t.host.scratch = s.host.scratch ∧
        lastAnswer t r h [0, s.host.scratch])) ∧
    (∀ (inc view : Bool) (d : Word), coreRuns s = true → s.boot.phase ≠ .recovery →
      (∃ t, exec (.pktRegWr p h inc view 0x06 d none) s = .next t ∧ t.host.irqMask = s.host.irqMask ∧
        lastAnswer t r h [1, 0]) ∧
      (∃ t, exec (.pktRegRd p h inc view 0x06) s = .next t ∧ lastAnswer t r h [1, 0])) ∧
    (∀ (inc view : Bool) (a : BitVec 6) (d : Word), coreRuns s = false ∨ s.boot.phase = .recovery →
      (∃ t, exec (.pktRegWr p h inc view a d none) s = .next t ∧ t.host = s.host ∧
        lastAnswer t r h [3, 0])) ∧
    (∀ (st d : Word) (q : Routed) (rest : List Routed), portDecodes s = true → s.host.queue = q :: rest →
      (∀ x ∈ rest, x.id ≠ q.id) → q.inFlight = true → q.dst = h.src.toNat → q.dst ≠ 63 → q.failed = false →
      q.seq = h.seq.toNat →
      let stream (v : Word) : List ReadItem :=
        s.host.results.map (fun i => if i.id = q.id ∧ q.rnw = true then { i with ready := true, data := v } else i)
      ∃ t, exec (.pktRegRsp h st d) s = .next t ∧ t.host.queue = rest ∧
        (st = 0 → t.host.results = stream d ∧ t.host.hstFlags = s.host.hstFlags) ∧
        (st ≠ 0 → t.host.results = stream 0 ∧ t.host.hstFlags = s.host.hstFlags ||| 0x02 ∧ newestError t s.tick 0x0108)) ∧
    (coreRuns s = true → ∃ t, exec (.pktReset h) s = .next t ∧
      CoreResetDone 6 h.src.toNat (arrived h.dst.toNat 0 h.src.toNat s) t))

/-- Layers (R13, R18): a write of LAYER_HI is staged; one of LAYER_LO declares the two together. While no swath is
active the declaration takes effect at once with a layer boundary; while one is active it is held, replacing one
already held with LREPL set. The idle boundary (R16): once the gap has lasted IDLE_MIN with no swath active, the
node is idle and raises BOUND; before that, or once it is idle, the event does nothing. -/
def Obligations.LayersAndIdle : Prop :=
  (∀ s : State, WfState s → clocked s = true → inRest s = false →
    (∀ d : Word, exec (.layerHiWrite d) s = .next { s with bnd.layerHi := d }) ∧
    (∀ d : Word, swathActive s = true → exec (.layerLoWrite d) s = .next { s with
      bnd.held := some (s.bnd.layerHi ++ d), bnd.lrepl := s.bnd.lrepl || s.bnd.held.isSome }) ∧
    (∀ d : Word, swathActive s = false → ∃ t, exec (.layerLoWrite d) s = .next t ∧
      t.bnd = { s.bnd with layer := s.bnd.layerHi ++ d, lrepl := false, last := 2 } ∧
      t.host.irqPend.getLsbD 3 = true ∧ t.swathRam = s.swathRam ∧ t.ing = s.ing ∧ t.rail = s.rail)) ∧
  (∀ s : State, WfState s →
    (clocked s = true → swathActive s = false → s.bnd.idle = false → s.bnd.gapFrom + 250000 * s.bnd.idleMin ≤ s.tk →
      ∃ t, exec .idleBoundary s = .next t ∧ t.bnd = { s.bnd with idle := true, last := 3 } ∧
        t.host.irqPend.getLsbD 3 = true ∧ t.cal.forcing = false ∧ t.ing = s.ing) ∧
    (swathActive s = true ∨ s.bnd.idle = true ∨ s.tk < s.bnd.gapFrom + 250000 * s.bnd.idleMin →
      exec .idleBoundary s = .next s))

/-- BEGIN (R23, R24, R27, R40): with no transaction it opens one with this tag, its cask a copy of every cask-able
table and its lease at full length, clears the fault values and writes lees record 0x81; with one it only sets
NESTED. With BCAST it is refused with reason 0x07 on a node that is not the root. -/
def Obligations.TransactionBegins : Prop :=
  ∀ (s : State) (c : TxnCtl), WfState s → portDecodes s = true →
    (s.txn.phase = .none → c.bcast = false → logsFree s = true →
      exec (.txnBegin c) s = .next { s with
        nvm.leesQ := s.nvm.leesQ ++ [leesRec s 0x02 0x81 [c.tag.toNat, s.txn.kind, 0]]
        txn := { s.txn with
          view := c.view, kindWritten := c.kind.toNat, phase := .opened, scope := .localScope, tag := c.tag.toNat
          bcast := false, group := 0, late := none, strandedMask := 0, fault := 0, faultAt := 0, reason := 0, peer := 0
          cask := some { mem := caskCells s.tbl, touched := [] }, leaseEnd := s.tk + 250000 * s.txn.lease } }) ∧
    (∀ tb a, a < 2 ^ 24 → caskable tb = true → cellGet tblDefault (caskCells s.tbl) (tkey tb a) = tget s tb a) ∧
    (s.txn.phase ≠ .none → exec (.txnBegin c) s = .next { s with
      txn.view := c.view, txn.kindWritten := c.kind.toNat, txn.nested := true }) ∧
    (s.txn.phase = .none → c.bcast = true → isRoot s = false → exec (.txnBegin c) s = .next { s with
      txn.view := c.view, txn.kindWritten := c.kind.toNat
      txn.refused := true, txn.fault := 0, txn.faultAt := 0, txn.reason := 7, txn.peer := 0 }) ∧
    (s.txn.phase = .none → c.bcast = true → isRoot s = true →
      ∃ t, exec (.txnBegin c) s = .next t ∧ t.txn.phase = .opened ∧ t.txn.scope = .root ∧ t.txn.tag = c.tag.toNat ∧
        t.txn.group = groupMask s s.vine.fabGroup ∧ t.txn.leaseEnd = s.tk + 250000 * s.txn.lease ∧
        t.txn.cask.isSome = bit (groupMask s s.vine.fabGroup) 1)

/-- Writes to cask-able tables (R24, R25, R39): with an open transaction a write goes into its cask, touches its
entry and renews the lease, and what is in force stays; without one, and while the block of the entry runs, it is
discarded with BUSY. A write of OP NONE with the open transaction's tag renews the lease; any write sets VIEW.
What a TXN_CTL write is refused for (R27, R29, R49, R50): a reserved OP or KIND with reason 0x05, COMMIT, ROLLBACK
and ABORT without a transaction with reason 0x06, on a member with 0x07, a COMMIT of a transaction that is not
open with 0x0A; another transaction's tag sets TAGERR. Apart from VIEW, the KIND written and the lees record 0x83 of a
refused COMMIT (R36; its fields: log entry 139) nothing else changes. A root that is resolving takes a COMMIT as the
late COMMIT of R47. -/
def Obligations.TransactionWritesAndRefusals : Prop :=
  (∀ (s : State) (inc : Bool) (d : Word), WfState s → clocked s = true →
    let tb := s.host.tblSel.toNat
    let a := s.host.tblAddr.toNat
    let addr := if inc then s.host.tblAddr + 1 else s.host.tblAddr
    (∀ k : Cask, inRest s = false → caskable tb = true → a < tblLen tb → ckMask tb a ≠ 0 → s.txn.cask = some k → s.txn.phase = .opened →
      s.txn.scope ≠ .member →
      ∃ k', exec (.tblDataWrite inc d) s = .next { s with
          host.tblAddr := addr, txn.cask := some k', txn.leaseEnd := s.tk + 250000 * s.txn.lease } ∧
        (∀ key, cellGet tblDefault k'.mem key =
          if key = tkey tb a then d &&& word (ckMask tb a) else cellGet tblDefault k.mem key) ∧
        (∀ e, e ∈ k'.touched ↔ e ∈ k.touched ∨ e = (tb, caskEntry tb a))) ∧
    (inRest s = false → caskable tb = true → a < tblLen tb → ckMask tb a ≠ 0 → s.txn.cask = none → entryIdle s tb (caskEntry tb a) = false →
      exec (.tblDataWrite inc d) s = .next { s with host.tblAddr := addr, txn.busy := true }) ∧
    (∀ c : TxnCtl, exec (.txnNone c) s = .next (if s.txn.phase = .opened ∧ c.tag.toNat = s.txn.tag ∧ s.txn.scope ≠ .member
      then { s with txn.view := c.view, txn.leaseEnd := s.tk + 250000 * s.txn.lease } else { s with txn.view := c.view }))) ∧
  (∀ (s : State) (c : TxnCtl), portDecodes s = true →
    let refused (k r : Nat) : Host.Outcome State Fault Refusal := .next { s with
      txn.view := c.view, txn.kindWritten := k
      txn.refused := true, txn.fault := 0, txn.faultAt := 0, txn.reason := r, txn.peer := 0 }
    let w := c.kind.toNat
    let rcd (r : Nat) : List LeesRec := s.nvm.leesQ ++ [leesRec s 0x02 0x83 [c.tag.toNat, w, r]]
    let refusedCommit (k r : Nat) : Host.Outcome State Fault Refusal := .next { s with
      nvm.leesQ := rcd r, txn.view := c.view, txn.kindWritten := k
      txn.refused := true, txn.fault := 0, txn.faultAt := 0, txn.reason := r, txn.peer := 0 }
    (∀ op : BitVec 3, 5 ≤ op.toNat → exec (.txnReservedOp op c) s = refused s.txn.kindWritten 5) ∧
    (logsFree s = true → 5 ≤ w → exec (.txnCommit c) s = refusedCommit s.txn.kindWritten 5) ∧
    (s.txn.phase = .none → (logsFree s = true → w < 5 → exec (.txnCommit c) s = refusedCommit w 6) ∧
      exec (.txnRollback c) s = refused w 6 ∧ exec (.txnAbort c) s = refused w 6) ∧
    (s.txn.phase ≠ .none → c.tag.toNat = s.txn.tag → s.txn.scope = .member →
      (logsFree s = true → w < 5 → exec (.txnCommit c) s = refusedCommit w 7) ∧
      exec (.txnRollback c) s = refused w 7 ∧ exec (.txnAbort c) s = refused w 7) ∧
    (s.txn.phase ≠ .none → c.tag.toNat ≠ s.txn.tag →
      let t := { s with txn.view := c.view, txn.kindWritten := w, txn.tagerr := true }
      (logsFree s = true → w < 5 → exec (.txnCommit c) s = .next { t with nvm.leesQ := rcd s.txn.reason }) ∧
      exec (.txnRollback c) s = .next t ∧ exec (.txnAbort c) s = .next t) ∧
    (s.txn.phase ∉ [.none, .opened, .resolving] → c.tag.toNat = s.txn.tag → s.txn.scope ≠ .member →
      (s.txn.scope = .root → s.txn.strandedMask = 0) → logsFree s = true → w < 5 →
      exec (.txnCommit c) s = refusedCommit w 10) ∧
    (s.txn.phase ≠ .none → s.txn.scope = .root → s.txn.strandedMask ≠ 0 → c.tag.toNat = s.txn.tag → w < 5 →
      ∃ t, exec (.txnCommit c) s = .next t ∧ t.txn.phase = s.txn.phase ∧ t.txn.cask = s.txn.cask ∧
        t.txn.late = some (w, BitVec.ofNat 32 (if w = 3 then tnat32 s 0x06 0 else 0)) ∧
        t.txn.fault = 0 ∧ t.txn.reason = 0 ∧ t.txn.strandedMask = s.txn.strandedMask))

/-- COMMIT of a local transaction (R28-R32): validation starts; its end finds a fault, and the transaction is open
again with its cask, refused with the table, the word and the reason of the fault, BUSY too for reason 0x04, and
its lease renewed; or finds none, and the decant waits for its boundary. With KIND NOW the decant takes place:
every word of every table touched takes the cask's value, every other table stays, and the record of the decant is
kept with TXN raised. (Table 0x43 is left out: entries that substitution had no room for are written into it
again.) -/
def Obligations.LocalCommit : Prop :=
  ∀ (s : State) (c : TxnCtl) (k : Cask), WfState s → portDecodes s = true → s.txn.scope = .localScope →
    s.txn.cask = some k →
    (s.txn.phase = .opened → c.tag.toNat = s.txn.tag → c.kind.toNat < 5 → exec (.txnCommit c) s = .next { s with
      txn.view := c.view, txn.kindWritten := c.kind.toNat, txn.leaseEnd := s.tk + 250000 * s.txn.lease
      txn.kind := c.kind.toNat, txn.phase := .validating, txn.validUntil := s.tk + 250000 }) ∧
    (∀ tb a r, s.txn.phase = .validating → judgeCask k s = some (tb, a, r) → logsFree s = true →
      exec .validationComplete s = .next { s with
        nvm.leesQ := s.nvm.leesQ ++ [leesRec s 0x02 0x83 [s.txn.tag, s.txn.kind, r]]
        txn := { s.txn with
          busy := s.txn.busy || r == 4, refused := true, fault := tb, faultAt := if tb = 0 then 0 else a, reason := r
          peer := 0, phase := .opened, leaseEnd := s.tk + 250000 * s.txn.lease } }) ∧
    (s.txn.phase = .validating → judgeCask k s = none → s.txn.kind = 1 → logsFree s = true →
      exec .validationComplete s = .next { s with
        nvm.leesQ := s.nvm.leesQ ++ [leesRec s 0x02 0x82 [s.txn.tag, 1, 0]]
        txn := { s.txn with
          phase := .pending, fault := 0, faultAt := 0, reason := 0, peer := 0
          target := if BitVec.ofNat 32 (tnat32 s 0x06 0) ≤ s.bnd.layer then 0 else BitVec.ofNat 32 (tnat32 s 0x06 0) } }) ∧
    (s.txn.phase = .validating → judgeCask k s = none → s.txn.kind = 4 →
      ∃ t, exec .validationComplete s = .next t ∧ t.txn.phase = .none ∧ t.txn.cask = none ∧
        t.host.irqPend.getLsbD 1 = true ∧ t.txn.decLayer = s.bnd.layer ∧ t.txn.decSwath = s.bnd.swath ∧
        t.txn.decInfo = word (s.txn.tag * 256 + 4) ∧
        ∀ tb a, a < 2 ^ 24 → caskable tb = true → tb ≠ 0x43 →
          tget t tb a = if hasT k.touched [tb] then cellGet tblDefault k.mem (tkey tb a) else tget s tb a)

/-- The ends of a transaction without a decant (R33, R34, R41): ROLLBACK and ABORT by the host, ABORT from the
root, and a lease that has run out, which sets EXPIRED and raises TXN. The cask is gone and what is in force
stays. Before its time is up an expiry does nothing. -/
def Obligations.TransactionDiscards : Prop :=
  ∀ s : State, WfState s → s.txn.phase ≠ .none → s.txn.phase ≠ .resolving →
    let gone (t : State) : Prop := t.txn.cask = none ∧ t.txn.phase = (if s.txn.scope = .root ∧ s.txn.strandedMask ≠ 0 then
      .resolving else .none) ∧ sameInForce s t
    (∀ c : TxnCtl, portDecodes s = true → c.tag.toNat = s.txn.tag → s.txn.scope ≠ .member →
      (∃ t, exec (.txnRollback c) s = .next t ∧ gone t) ∧ (∃ t, exec (.txnAbort c) s = .next t ∧ gone t)) ∧
    (∀ (h : Hdr) (mask : BitVec 64), clocked s = true → h.dst = 63 → h.src = 1 → s.vine.nodeId ≠ 0 → isRoot s = false →
      mask.getLsbD s.vine.nodeId = true → s.txn.scope = .member →
      ∃ t, exec (.pktAbort h (BitVec.ofNat 8 s.txn.tag) mask) s = .next t ∧ (s.txn.tag < 256 → gone t)) ∧
    (coreRuns s = true → s.pwr.state ≤ 2 → s.txn.phase = .opened → s.txn.scope ≠ .member → s.txn.leaseEnd ≤ s.tk →
      ∃ t, exec .leaseExpiry s = .next t ∧ gone t ∧ t.txn.expired = true ∧ t.host.irqPend.getLsbD 1 = true) ∧
    (s.tk < s.txn.leaseEnd → exec .leaseExpiry s = .next s) ∧
    (coreRuns s = true → s.pwr.state ≤ 2 → s.txn.phase = .opened ∨ s.txn.phase = .validating → s.txn.scope = .member →
      s.txn.lastFromRoot + 250000 * s.txn.carriedLease < s.tk →
      ∃ t, exec .memberLeaseExpiry s = .next t ∧ gone t ∧ t.txn.expired = true ∧ t.host.irqPend.getLsbD 1 = true) ∧
    (s.tk ≤ s.txn.lastFromRoot + 250000 * s.txn.carriedLease → exec .memberLeaseExpiry s = .next s)

/-- A member of a fabric-wide transaction (R40-R47): BEGIN opens it with a cask and the lease it carries; PREPARE
starts validation for the named boundary; COMMIT_AT on a prepared node makes the decant pending; a late COMMIT_AT
gives a stranded node the boundary it decants at. A prepared node that meets its named boundary first is stranded,
and its gate is closed for every group. The root of a fabric-wide transaction (R44, R45, R47): a vote is kept
until every node of the group has voted; with the last one, or 10 ms after PREPARE, it decides. A refusal, or a
vote that is missing, ends the transaction with the fault of the lowest-numbered node that refused; no refusal
commits. A node that reports itself stranded keeps the transaction, which is then resolving, and the last one to
resolve ends it. (NAMED_LAYER 0 with KIND LAYER, which names no boundary: log entry 137.) -/
def Obligations.GroupTransactions : Prop :=
  (∀ (s : State) (h : Hdr) (tag : Byte) (mask : BitVec 64), WfState s → clocked s = true → h.dst = 63 → h.src = 1 →
    s.vine.nodeId ≠ 0 → isRoot s = false → mask.getLsbD s.vine.nodeId = true →
    (∀ lease : Word, s.txn.phase = .none → logsFree s = true →
      ∃ t, exec (.pktBegin h tag lease mask) s = .next t ∧ t.txn.phase = .opened ∧ t.txn.scope = .member ∧
        t.txn.tag = tag.toNat ∧ t.txn.carriedLease = lease.toNat ∧ t.txn.lastFromRoot = s.tk ∧
        t.txn.cask = some { mem := caskCells t.tbl, touched := [] } ∧ sameInForce s t) ∧
    (∀ lease : Word, s.txn.phase ≠ .none → ∃ t, exec (.pktBegin h tag lease mask) s = .next t ∧
      t.txn = { s.txn with nested := true, lastFromRoot := s.tk }) ∧
    (∀ (kind : BitVec 3) (n : Named), s.txn.scope = .member → s.txn.tag = tag.toNat → s.txn.phase = .opened →
      ∃ t, exec (.pktPrepare h tag kind n mask) s = .next t ∧ t.txn = { s.txn with
        lastFromRoot := s.tk, kind := kind.toNat, named := n, phase := .validating, validUntil := s.tk + 250000
        present := false, stage := namedStage { s with txn.kind := kind.toNat, txn.named := n } }) ∧
    (∀ (kind : BitVec 3) (n : Named), s.txn.scope = .member → s.txn.tag = tag.toNat →
      (s.txn.phase = .prepared → s.txn.present = false →
        ∃ t, exec (.pktCommitAt h tag kind false n mask) s = .next t ∧
          t.txn = { s.txn with lastFromRoot := s.tk, phase := .pending }) ∧
      (s.txn.phase = .stranded → kind = 1 →
        ∃ t, exec (.pktCommitAt h tag kind true n mask) s = .next t ∧
          t.txn = { s.txn with lastFromRoot := s.tk, late := some (1, n.layer) })) ∧
    (∀ d : Word, s.txn.scope = .member → s.txn.phase = .prepared → s.txn.late = none → s.txn.collecting = false → s.txn.present = false →
      s.txn.kind = 1 → s.txn.stage ≠ 3 → s.txn.named.layer ≠ 0 → swathActive s = false → inRest s = false →
      s.txn.named.layer ≤ s.bnd.layerHi ++ d →
      ∃ t, exec (.layerLoWrite d) s = .next t ∧ t.txn.phase = .stranded ∧ t.hc.txnClosed = true ∧
        ∀ g < 32, groupGateOpen t g = false)) ∧
  (∀ s : State, WfState s → clocked s = true → isRoot s = true → s.vine.nodeId = 1 → s.txn.scope = .root →
    (∀ (h : Hdr), s.txn.collecting = true → s.txn.tag < 256 → h.dst = 1 → h.src.toNat ∈ voters s → h.src ≠ 1 →
      (∃ m ∈ voters s, m ≠ h.src.toNat ∧ ∀ p ∈ s.txn.votes, p.1 ≠ m) →
      (∃ t, exec (.pktReady h (BitVec.ofNat 8 s.txn.tag)) s = .next t ∧
        t.txn = { s.txn with votes := assocSet h.src.toNat .ready s.txn.votes }) ∧
      (∀ (tb r : Byte) (a : Word), ∃ t, exec (.pktRefuse h (BitVec.ofNat 8 s.txn.tag) tb r a) s = .next t ∧
        t.txn = { s.txn with votes := assocSet h.src.toNat (.refuse tb.toNat r.toNat a.toNat) s.txn.votes })) ∧
    (∀ n tb a r, s.txn.collecting = true → s.txn.voteEnd ≤ s.tk → firstRefusal s = some (n, tb, a, r) →
      ∃ t, exec .voteTimeout s = .next t ∧ t.txn.refused = true ∧ t.txn.peer = n ∧ t.txn.reason = r ∧ t.txn.fault = tb ∧
        t.txn.faultAt = (if tb = 0 then 0 else a) ∧ t.txn.collecting = false ∧ t.txn.cask = none ∧
        t.txn.phase = (if s.txn.strandedMask = 0 then .none else .resolving) ∧ sameInForce s t) ∧
    (s.txn.collecting = true → s.txn.voteEnd ≤ s.tk → firstRefusal s = none → s.txn.present = false →
      ∃ t, exec .voteTimeout s = .next t ∧ t.txn = { s.txn with
        collecting := false, phase := .pending, fault := 0, faultAt := 0, reason := 0, peer := 0 }) ∧
    (∀ node : BitVec 6, s.txn.tag < 256 → bit s.txn.group node.toNat = true → node ≠ 1 →
      ∃ t, exec (.eventStranded node (BitVec.ofNat 8 s.txn.tag)) s = .next t ∧ t.txn = { s.txn with
        strandedMask := s.txn.strandedMask ||| 2 ^ node.toNat
        phase := if s.txn.phase = .none then .resolving else s.txn.phase } ∧ resolving t = true) ∧
    (∀ (node : BitVec 6) (v : Word), s.txn.tag < 256 → s.txn.phase = .resolving → s.txn.strandedMask = 2 ^ node.toNat →
      node ≠ 1 → v = 1 ∨ v = 2 →
      ∃ t, exec (.eventStrandingResolved node (BitVec.ofNat 8 s.txn.tag) v) s = .next t ∧
        t.txn = { s.txn with strandedMask := 0, phase := .none }))

/-- Ports (R83, R86, R87, R89, R105, R107): one that comes up takes its neighbour's number, sends CREDIT for 16, 4 and 64
buffers of its three classes, numbered in turn, and starts eight echoes; one that goes down loses its credits and its
queue, is counted, sets LINKERR and records error 0x01; four invalid code groups count as such too. A neighbour's end
that goes to electrical idle leaves the port its credits and its place. PORT_EN at 0 takes a port down. A numbered node
reports its ports to the root. FAB_CTL (R94, R103, R113, R114): DISCOVER and RETREE on a node that is not the root, and a reserved OP,
set OPERR and record error 0x0B; RESET_NODE resets the core of this node with its number as sub-cause, or sends
RESET to the node addressed; on the root RETREE chooses the tree anew, and DISCOVER probes the first port that is
up, or is done at once: then no node but the root is reachable (R104). -/
def Obligations.PortsAndFabricCommands : Prop :=
  (∀ (s : State) (p : Fin 3) (nbr : BitVec 6), WfState s → vineOn s = true → isRoot s = false →
    ((portOf s p).up = false → (portOf s p).idle = false → s.vine.portEn.testBit p = true → s.vine.nodeId = 0 →
      let k := seqOf 0 0 s
      ∃ t, exec (.portUp p nbr) s = .next t ∧ portOf t p = { portOf s p with
          up := true, neighbour := nbr.toNat, credit0 := 0, credit1 := 0, credit2 := 0, txq := [], latencies := []
          echoLeft := 8, echoNext := s.tk + 1024
          sent := (portOf s p).sent ++ [(k, 0x0110), ((k + 1) % 256, 0x4104), (((k + 1) % 256 + 1) % 256, 0x8140)].map (fun w =>
            { dst := 0, src := 0, type := 0x0A, cls := 0, seq := w.1, words := [w.2] }) } ∧
        (∀ q : Fin 3, q ≠ p → portOf t q = portOf s q) ∧ (coreRuns s = true → t.host.irqPend.getLsbD 2 = true)) ∧
    (∀ r, (portOf s p).up = false → (portOf s p).idle = false → s.vine.portEn.testBit p = true → s.vine.nodeId ≠ 0 → routeOf s 1 = r + 1 →
      r ≠ p → canSend s r 0 = true → ∃ t, exec (.portUp p nbr) s = .next t ∧ (portOf t p).up = true ∧
        lastSent t r 1 0x09 0 [word ((if nbr = 0 then 3 else 2) * 256 + p + 1), word nbr.toNat]) ∧
    (∀ c : DownCause, c ≠ .idle → (portOf s p).up = true → s.vine.nodeId = 0 →
      ∃ t, exec (.portDown ⟨p, c⟩) s = .next t ∧ (portOf t p).up = false ∧ (portOf t p).credit0 = 0 ∧
        (portOf t p).credit1 = 0 ∧ (portOf t p).credit2 = 0 ∧ (portOf t p).txq = [] ∧ t.vine.linkerr = true ∧
        countedOne s t 0x13 (16 * p + 5) ∧
        tget t 0x13 (16 * p + 7) = word (sat16 (tnat s 0x13 (16 * p + 7) + (portOf s p).txq.length)) ∧
        tget t 0x13 (16 * p) = word (sat16 (tnat s 0x13 (16 * p) + if c = .codes then 4 else 0)) ∧
        (coreRuns s = true → newestError t s.tick 0x0301)) ∧
    ((portOf s p).up = true → ∃ t, exec (.portDown ⟨p, .idle⟩) s = .next t ∧
      portOf t p = { portOf s p with idle := true } ∧ (∀ q : Fin 3, q ≠ p → portOf t q = portOf s q) ∧
      t = { s with vine.ports := t.vine.ports }) ∧
    (∀ m : BitVec 3, portDecodes s = true → ∃ t, exec (.fabNone m) s = .next t ∧ t.vine.portEn = m.toNat ∧
      ∀ q : Fin 3, (portOf t q).up = ((portOf s q).up && m.getLsbD q))) ∧
  (∀ s : State, WfState s → portDecodes s = true →
    (isRoot s = false → let t := recErr 3 0x0B { s with vine.portEn := 7, vine.operr := true }
      exec (.fabDiscover 7) s = .next t ∧ exec (.retree 7) s = .next t) ∧
    (∀ op : BitVec 3, 4 ≤ op.toNat →
      exec (.fabReservedOp op 7) s = .next (recErr 3 0x0B { s with vine.portEn := 7, vine.operr := true })) ∧
    (s.vine.fabDst = 0 ∨ (s.vine.fabDst = s.vine.nodeId ∧ s.vine.nodeId ≠ 63) →
      ∃ t, exec (.resetNode 7) s = .next t ∧ CoreResetDone 6 s.vine.nodeId { s with vine.portEn := 7 } t) ∧
    (∀ r, s.vine.fabDst ≠ 0 → s.vine.fabDst ≠ s.vine.nodeId → s.vine.fabDst ≠ 63 → routeOf s s.vine.fabDst = r + 1 →
      canSend s r 0 = true →
      ∃ t, exec (.resetNode 7) s = .next t ∧ lastSent t r s.vine.fabDst 0x0B 0 [] ∧ t.boot = s.boot) ∧
    (isUp s = true → isRoot s = true → s.vine.nodeId = 1 → s.vine.ready = true → s.vine.disc = none →
      ∃ t, exec (.retree 7) s = .next t ∧ t.vine.links = chooseStandby s.vine.links ∧ t.vine.ready = true) ∧
    (∀ p, isUp s = true → isRoot s = true → s.vine.nodeId = 1 → canSend s p 0 = true → (∀ q < p, (portOf s q).up = false) →
      ∃ t, exec (.fabDiscover 7) s = .next t ∧ t.vine.ready = false ∧ t.vine.epoch = (s.vine.epoch + 1) % 256 ∧
        t.vine.links = [] ∧ t.vine.disc = some { stack := [(1, p + 1)], probe := some (1, p + 1), deadline := s.tk + 25000 } ∧
        lastSent t p 0 0x01 0 (word ((s.vine.epoch + 1) % 256 * 256 + (p + 1)) :: wordsBE 4 Config.uid.toNat)) ∧
    (isUp s = true → isRoot s = true → s.vine.nodeId = 1 → (∀ q : Fin 3, (portOf s q).up = false) →
      ∃ t, exec (.fabDiscover 7) s = .next t ∧ t.vine.ready = true ∧ t.vine.disc = none ∧ t.vine.sync = true ∧
        ∀ e ∈ t.vine.dir, e.node ≠ 1 →
          ∃ e0 ∈ s.vine.dir, e0.node = e.node ∧ e0.uid = e.uid ∧ e.reach = (if e0.reach = 0 then 0 else 2)))

/-- A device of the fabric (R86, R94, R97, R100): DISCOVER is answered with DISC_ACK, or sent on by the node it
instructs; ASSIGN with this device's UID gives it its number, its root and the port toward it; ROUTE from the root
replaces the whole routing table, and is dropped with error 0x04 at another length. -/
def Obligations.DeviceIsNumbered : Prop :=
  ∀ (s : State) (p : Fin 3) (h : Hdr), WfState s → vineOn s = true → (portOf s p).up = true →
    (∀ (epoch : Byte) (on : BitVec 2) (root : BitVec 64), isRoot s = false → canSend s p 0 = true →
      ∃ t, exec (.pktDiscover p h epoch false on root) s = .next t ∧ (portOf t p).neighbour = h.src.toNat ∧
        lastSent t p 1 0x02 0 (wordsBE 4 Config.uid.toNat ++ [word (s.vine.nodeId * 256 + (p + 1)), word (epoch.toNat * 256)]
          ++ wordsBE 4 (if s.vine.nodeId = 0 then 0 else s.vine.rootUid.toNat))) ∧
    (∀ (epoch : Byte) (q : Fin 3) (root : BitVec 64), forMe h s = true → canSend s q 0 = true →
      ∃ t, exec (.pktDiscover p h epoch true (BitVec.ofNat 2 (q + 1)) root) s = .next t ∧
        lastSent t q 0 0x01 0 (word (epoch.toNat * 256 + (q + 1)) :: wordsBE 4 root.toNat)) ∧
    (∀ (n : BitVec 6) (on : BitVec 2) (root : BitVec 64), ∃ t, exec (.pktAssign p h n false on Config.uid root) s = .next t ∧
      t.vine.nodeId = n.toNat ∧ t.vine.rootUid = root ∧ t.vine.arrivalPort = p + 1 ∧ t.vine.parentPort = p + 1 ∧
      t.vine.ready = true ∧ t.vine.routes = s.vine.routes) ∧
    (∀ (n : BitVec 6) (on : BitVec 2) (uid root : BitVec 64), uid ≠ Config.uid →
      ∃ t, exec (.pktAssign p h n false on uid root) s = .next t ∧ t.vine.nodeId = s.vine.nodeId ∧
        t.vine.rootUid = s.vine.rootUid) ∧
    (∀ ws : List Word, ws.length = 11 → forMe h s = true → h.src = 1 → ∃ t, exec (.pktRoute p h ws) s = .next t ∧
      t.vine.routes.length = 64 ∧
      (∀ n < 64, t.vine.routes.getD n 0 = (ws.getD (n / 8) 0).toNat / 4 ^ (n % 8) % 4) ∧
      t.vine.treePorts = (ws.getD 8 0).toNat % 8 ∧ t.vine.parentPort = (ws.getD 9 0).toNat % 4 ∧
      t.vine.depth = (ws.getD 10 0).toNat % 64) ∧
    (∀ ws : List Word, ws.length ≠ 11 → coreRuns s = true → ∃ t, exec (.pktRoute p h ws) s = .next t ∧
      t.vine.routes = s.vine.routes ∧ countedOne s t 0x13 (16 * p + 3) ∧ newestError t s.tick 0x0304)

/-- The root's discovery (R94, R96, R103): the answer of a new device gets the lowest free number and a directory
entry; no answer in 100 µs moves the probe on; a link that fails leaves the tree, a standby link taking its place;
a port that comes up with an unnumbered neighbour is probed, and a link that comes back is up again. -/
def Obligations.RootDiscovers : Prop :=
  ∀ s : State, WfState s → vineOn s = true → rootUp s = true →
    (∀ (p : Fin 3) (h : Hdr) (a : DiscAck) (d : Disc) (np : Nat × Nat) (num : Nat), (portOf s p).up = true →
      s.vine.disc = some d → d.probe = some np → d.known = false → s.vine.waiting = [] → a.epoch.toNat = s.vine.epoch → a.root = false →
      a.node = 0 → s.vine.dualroot = false → 2 ≤ num → num ≤ 62 → (∀ e ∈ s.vine.dir, e.uid ≠ a.uid ∧ e.node ≠ num) →
      (∀ m, 2 ≤ m → m < num → ∃ e ∈ s.vine.dir, e.node = m) →
      ∃ t, exec (.pktDiscAck p h a) s = .next t ∧ num ∈ t.vine.found ∧ ∃ e ∈ t.vine.dir, e.node = num ∧ e.uid = a.uid) ∧
    (∀ d : Disc, s.vine.disc = some d → d.probe.isSome = true →
      (s.tk < d.deadline → exec .discoveryProbeTimeout s = .next s) ∧
      (d.deadline ≤ s.tk → ∃ t, exec .discoveryProbeTimeout s = .next t ∧
        ((∃ d', t.vine.disc = some d' ∧ d'.probe.isSome = true ∧ d'.deadline = s.tk + 25000) ∨
         (t.vine.disc = none ∧ t.vine.ready = true)))) ∧
    (∀ (n : BitVec 6) (p : BitVec 2) (l : Link), s.vine.disc = none → s.vine.ready = true →
      linkAt n.toNat p.toNat s = some l → l.up = true →
      let ls := changeLink l (fun x => { x with up := false }) s.vine.links
      ∃ t, exec (.eventPortDown n p) s = .next t ∧
        t.vine.links = (if l.standby then ls else activateStandby 64 ls) ∧
        (l.standby = false → activateStandby 64 ls ≠ ls → t.vine.failover = true)) ∧
    (∀ (n : BitVec 6) (p : BitVec 2), s.vine.disc = none → s.vine.ready = true →
      (∃ t, exec (.eventPortUp n p 0) s = .next t ∧
        t.vine.disc = some { known := true, probe := some (n.toNat, p.toNat), deadline := s.tk + 25000 }) ∧
      (∀ (nbr : BitVec 6) (l : Link), nbr ≠ 0 → linkAt n.toNat p.toNat s = some l → l.up = false →
        ∃ t, exec (.eventPortUp n p nbr) s = .next t ∧ ∃ l' ∈ t.vine.links, l'.up = true ∧ l'.nodeA = l.nodeA ∧
          l'.portA = l.portA ∧ l'.nodeB = l.nodeB ∧ l'.portB = l.portB))

/-- Encoding of packets (R84): the bytes of a packet carry a CRC that matches them, and every field and every word
is read back from them, for every value the fields of the header can hold. -/
def Obligations.PacketsReadBack : Prop :=
  ∀ k : Packet, k.dst < 64 → k.src < 64 → k.type < 32 → k.cls < 4 → k.seq < 256 → k.words.length < 1024 →
    packetCrcOk (packetBytes k) = true ∧ packetOf (packetBytes k) = { k with owe := none, rx := none }

/-- The forwarder (R84, R85, R88-R91, R99): a packet with a wrong CRC is dropped, counted and recorded as error
0x02; one of the wrong form is dropped, counted and recorded as error 0x04; one for another node leaves by the routing
table as it came; one for this node is left to its own command. CREDIT adds to, or sets, the credits of its class and
lets what waits go; a class of 3 is dropped with error 0x04. -/
def Obligations.Forwarding : Prop :=
  ∀ (s : State) (p : Fin 3), WfState s → vineOn s = true → (portOf s p).up = true →
    (∀ bs : List Byte, packetCrcOk bs = false → ∃ t, exec (.packetForward p bs) s = .next t ∧ t.vine.linkerr = true ∧
      countedOne s t 0x13 (16 * p + 1) ∧ (coreRuns s = true → newestError t s.tick 0x0302)) ∧
    (∀ k : Packet, k.dst < 64 → k.src < 64 → k.type < 32 → k.cls < 2 → k.seq < 256 → k.words.length < 1024 →
      k.type ∉ [0x0A, 0x10, 0x11, 0x12] → k.owe = none → k.rx = none → packetFormOk k = true → noBuffer p k s = false →
      s.vine.nodeId ≠ 0 → eventReserved s k = false →
      (∀ r, k.dst ≠ 0 → k.dst ≠ 63 → k.dst ≠ s.vine.nodeId → routeOf s k.dst = r + 1 → r ≠ p → canSend s r k.cls = true →
        ∃ t k', exec (.packetForward p (packetBytes k)) s = .next t ∧ (portOf t r).sent.getLast? = some k' ∧
          { k' with owe := none } = k) ∧
      (k.dst = s.vine.nodeId → exec (.packetForward p (packetBytes k)) s = .next s)) ∧
    (∀ k : Packet, k.dst < 64 → k.src < 64 → k.type < 32 → k.cls < 4 → k.seq < 256 → k.words.length < 1024 →
      packetFormOk k = false → ∃ t, exec (.packetForward p (packetBytes k)) s = .next t ∧ t.vine.linkerr = true ∧
        countedOne s t 0x13 (16 * p + 3) ∧ (coreRuns s = true → newestError t s.tick 0x0304)) ∧
    (∀ n : Byte, (portOf s p).txq = [] →
      (∃ t, exec (.pktCredit p 0 false n) s = .next t ∧ (portOf t p).credit0 = (portOf s p).credit0 + n.toNat) ∧
      (∃ t, exec (.pktCredit p 1 true n) s = .next t ∧ (portOf t p).credit1 = n.toNat) ∧
      (∃ t, exec (.pktCredit p 2 false n) s = .next t ∧ (portOf t p).credit2 = (portOf s p).credit2 + n.toNat)) ∧
    (∀ (n : Byte) (k : Packet), (portOf s p).txq = [k] → k.cls = 0 → k.type < 0x10 → k.type ≠ 0x0A → k.owe = none →
      (portOf s p).idle = false → (portOf s p).credit0 = 0 → 1 ≤ n.toNat →
      ∃ t, exec (.pktCredit p 0 false n) s = .next t ∧ (portOf t p).sent = (portOf s p).sent ++ [k] ∧
        (portOf t p).txq = [] ∧ (portOf t p).credit0 + 1 = n.toNat) ∧
    (∀ (init : Bool) (n : Byte), coreRuns s = true → ∃ t, exec (.pktCredit p 3 init n) s = .next t ∧
      t.vine.ports = s.vine.ports ∧ countedOne s t 0x13 (16 * p + 3) ∧ newestError t s.tick 0x0304)

/-- The time of the fabric (R106-R108): the root sends TICK every 1,024 TK on its tree ports, with its TICK at the
transmission, which is at most 420 TK later (R92). A node sends it on with the latency of its link and its residence time
added to CORR, and compares it with its own TICK: without SYNC and outside a swath it takes the root's value, else the difference is worked off;
SYNC sets at the sixteenth good packet and clears at the fourth bad one, or 65,536 TK after the last. Echoes go
out at their time, are answered, and give a link's latency to within half a unit (which way a half rounds is open,
log entry 13). -/
def Obligations.FabricTime : Prop :=
  ∀ s : State, WfState s →
    (∀ p, rootUp s = true → s.vine.ready = true → s.vine.lastTickPkt + 1024 ≤ s.tk →
      onTree s p = true → canSend s p 1 = true → ∃ t d, exec .tickSend s = .next t ∧ t.vine.lastTickPkt = s.tk ∧
        d ≤ 420 * 64 ∧ lastSent t p 63 0x10 1 (wordsBE 3 ((s.tick.toNat * 64 + d) / 64) ++ [0, 0])) ∧
    (s.tk < s.vine.lastTickPkt + 1024 → exec .tickSend s = .next s) ∧
    (∀ (p : Fin 3) (h : Hdr) (origin : BitVec 48) (corr : BitVec 32) (rx : BitVec 6), vineOn s = true → clocked s = true →
      s.vine.nodeId ≠ 0 → isRoot s = false → (portOf s p).up = true → owedUnits p 1 s < 4 →
      let e := tickError p origin corr.toNat rx.toNat s
      ∃ t, exec (.pktTick p h origin corr rx) s = .next t ∧ t.vine.lastErr = e ∧ t.vine.lastTickPkt = s.tk ∧
        (∀ q, q ≠ p.val → onTree s q = true → canSend s q 1 = true →
          ∃ k d, (portOf t q).sent.getLast? = some k ∧ d ≤ 420 * 64 ∧ k.type = 0x10 ∧ k.dst = 63 ∧ k.src = h.src.toNat ∧
            k.words = wordsBE 3 origin.toNat ++ wordsBE 2 ((corr.toNat + latencyOf s p) % 2 ^ 32 + (d - rx.toNat))) ∧
        (s.vine.sync = true ∨ swathActive s = true → t.tick = s.tick ∧ t.vine.lag = e) ∧
        (s.vine.sync = false → swathActive s = false →
          t.tick = s.tick + BitVec.ofInt 48 (divOpen 1081 e 64) ∧ t.vine.lag = 0) ∧
        t.vine.sync = (if s.vine.sync then decide (e.natAbs ≤ 128 ∨ s.vine.bad + 1 < 4)
          else decide (e.natAbs ≤ 128 ∧ 16 ≤ s.vine.good + 1))) ∧
    (clocked s = true → isRoot s = false → s.vine.sync = true → s.vine.lastTickPkt + 65536 ≤ s.tk →
      ∃ t, exec .syncTimeout s = .next t ∧ t.vine = { s.vine with sync := false, good := 0, bad := 0 }) ∧
    (∀ p : Fin 3, vineOn s = true → canSend s p 1 = true → (portOf s p).echoNext ≤ s.tk →
      ∃ t k, exec .echoSend s = .next t ∧ (portOf t p).echoLeft = (portOf s p).echoLeft - 1 ∧
        (portOf t p).echoNext = s.tk + (if 1 < (portOf s p).echoLeft then 1024 else 65536) ∧
        (portOf t p).sent.getLast? = some k ∧ k.type = 0x11 ∧ k.cls = 1 ∧ k.dst = 0 ∧
        ∃ d ≤ 420 * 64, (k.words.drop 1).take 2 = wordsBE 2 (s.tick.toNat * 64 + d)) ∧
    (∀ (p : Fin 3) (num : Byte) (sport : BitVec 2) (t1 : BitVec 32) (rx : BitVec 6), vineOn s = true → canSend s p 1 = true →
      ∃ t k, exec (.pktEchoReq p num sport t1 rx) s = .next t ∧ (portOf t p).sent.getLast? = some k ∧ k.type = 0x12 ∧
        k.words.take 5 = word (num.toNat * 256 + (p + 1) * 4 + sport.toNat)
          :: (wordsBE 2 t1.toNat ++ wordsBE 2 (s.tick.toNat % 2 ^ 26 * 64 + rx.toNat)) ∧
        ∃ d ≤ 420 * 64, (k.words.drop 5).take 2 = wordsBE 2 (s.tick.toNat * 64 + d)) ∧
    (∀ (p : Fin 3) (num : Byte) (aport sport : BitVec 2) (t1 t2 t3 : BitVec 32) (rx : BitVec 6), vineOn s = true →
      (portOf s p).up = true → let d := (BitVec.ofNat 32 (stampOf s rx.toNat) - t1 - (t3 - t2)).toNat
      ∃ t, exec (.pktEchoRsp p num aport sport t1 t2 t3 rx) s = .next t ∧
        (sport.toNat ≠ p + 1 → (portOf t p).latencies = (portOf s p).latencies) ∧
        (sport.toNat = p + 1 → ∃ l : Nat, (portOf t p).latencies = (l :: (portOf s p).latencies).take 8 ∧
          2 * l ≤ d + 1 ∧ d ≤ 2 * l + 1))

/-- Position channels (R118-R122, R125, R127-R129): EN starts a channel over and keeps its count, clearing it
keeps count and velocity; a level becomes known; 2^24 TK without a count make the velocity 0; a write of the count
loads it, saturated at the soft limits; an armed rehome loads at the next index, and a revolution beyond the
tolerance sets IDX, counts and is recorded as error 1. -/
def Obligations.PositionChannels : Prop :=
  ∀ (s : State) (c : Fin 8), WfState s → clocked s = true → let e := encOf s c
    (e.en = false → s.pwr.entering = none → inRest s = false → ∃ t, exec (.encEnable c) s = .next t ∧ encOf t c = { e with
        en := true, counted := false, intervals := [], ssiGood := [], stale := true, prevIndex := none, broken := false
        levelA := none, levelB := none, levelZ := none, hallLast := none, ssiBusy := false, lastEdge := none
        idxOn := false, velHeld := none
        smpA := { e.smpA with n := 1 }, smpB := { e.smpB with n := 1 }, smpZ := { e.smpZ with n := 1 } } ∧
      otherChannels s t c ∧ t.tbl = s.tbl ∧ t.host = s.host) ∧
    (e.en = true → s.pwr.entering = none → inRest s = false → ∃ t, exec (.encDisable c) s = .next t ∧
      encOf t c = { e with en := false, velFrozen := encVel s c, ssiBusy := false } ∧ encVel t c = encVel s c ∧
      otherChannels s t c ∧ t.tbl = s.tbl ∧ t.host = s.host) ∧
    (s.pwr.entering = none → inRest s = false → ∃ t, exec (.rehome c) s = .next t ∧ encOf t c = { e with rehomeArmed := true } ∧ otherChannels s t c ∧
      t = { s with enc := t.enc }) ∧
    (∀ (pin : Fin 3) (l : Bool), e.en = true →
      let known (i : Fin 3) (old : Option Bool) (x : Sampler) : Option Bool :=
        if pin = i ∧ old = none then smpHeld (max (encFilt s c + 1) 4) (smpPut l x) else old
      ∃ t, exec (.encLevelKnown c pin l) s = .next t ∧ (encOf t c).levelA = known 0 e.levelA e.smpA ∧
        (encOf t c).levelB = known 1 e.levelB e.smpB ∧ (encOf t c).levelZ = known 2 e.levelZ e.smpZ ∧
        (encOf t c).count = e.count ∧ otherChannels s t c) ∧
    (e.en = true → 16777216 < s.tk - e.lastCount → encMode s c ≠ 2 → ∃ t, exec (.encVelTimeout c) s = .next t ∧
      encOf t c = { e with velZero := true } ∧ encVel t c = 0 ∧ otherChannels s t c ∧ t = { s with enc := t.enc }) ∧
    (∀ hi : Word, inRest s = false → encMode s c ≠ 2 → let n := signed 32 (hi.toNat * 65536 + e.stageLo.toNat)
      ∃ t, exec (.countWrite c hi) s = .next t ∧ (encOf t c).count = clampInt n (softLimits s c).1 (softLimits s c).2 ∧
        (encOf t c).held = decide (clampInt n (softLimits s c).1 (softLimits s c).2 ≠ n) ∧
        t.grid = (if isGridSource s c then { s.grid with ofs := 0, lastG := (encOf t c).count } else s.grid) ∧
        otherChannels s t c ∧ t.tbl = s.tbl ∧ ((encOf t c).held = false → t.host = s.host)) ∧
    (∀ z : Bool, encActive s c = true → encMode s c = 0 → ¬ indexRises s c z →
      ∃ t, exec (.indexEvent ⟨c, z⟩) s = .next t ∧ (encOf t c).count = e.count ∧ (encOf t c).prevIndex = e.prevIndex ∧
        (encOf t c).levelZ = levelAfter s c 2 z ∧ t = { s with enc := t.enc }) ∧
    (∀ z : Bool, encActive s c = true → indexRises s c z → encMode s c = 0 → e.prevIndex = none → e.rehomeArmed = true →
      isGridSource s c = false → let n := tint32 s 0xA0 (16 * c + 9)
      ∃ t, exec (.indexEvent ⟨c, z⟩) s = .next t ∧ (encOf t c).rehomeArmed = false ∧ (encOf t c).uncertain = false ∧
        (encOf t c).count = clampInt n (softLimits s c).1 (softLimits s c).2 ∧ (encOf t c).prevIndex = some (encOf t c).count) ∧
    (∀ (z : Bool) (p : Int) (lines : Nat), encActive s c = true → indexRises s c z → encMode s c = 0 → e.prevIndex = some p →
      e.rehomeArmed = false → isGridSource s c = false → bit (encCfg s c) 11 = true → e.broken = false →
      lines = tnat32 s 0xA0 (16 * c + 2) → lines ≠ 0 →
      (tnat s 0xA0 (16 * c + 1) < ((e.count - p).natAbs : Int) - 4 * lines ∨
        tnat s 0xA0 (16 * c + 1) < (4 * lines : Int) - (e.count - p).natAbs) →
      ∃ t, exec (.indexEvent ⟨c, z⟩) s = .next t ∧ encOf t c = { e with
          smpZ := smpPut z e.smpZ, levelZ := levelAfter s c 2 z, idxOn := true
          lastRev := e.count - p, idx := true, prevIndex := some e.count } ∧
        countedOne s t 0xA3 (8 * c) ∧ newestError t s.tick (errWord 4 (c * 32 + 1)))

/-- How the channels count (R121, R123, R124, R126, R127, R130-R133, R136), once a level has been held for FILT + 1
samples: a quadrature edge of A or B counts by its direction and REV, up to the soft limits, and one less than 10 TK after
the last sets OVERSPEED and is counted as one; both at once are counted as a double edge and set UNCERTAIN; Hall codes
count by their place in the sequence, an illegal one sets HALLBAD, a skip HALLSKIP; samples that change no filtered level
count nothing. A readout of an SSI channel starts with its data high, and a frame without a fault gives the count, one
with a fault, in its CRC, its error bit or its monoflop, sets its flag, its counter and its error, and STALE. -/
def Obligations.PositionCounting : Prop :=
  ∀ (s : State) (c : Fin 8), WfState s → clocked s = true → encActive s c = true →
    let e := encOf s c
    let inLimits (n : Int) : Prop := (softLimits s c).1 ≤ n ∧ n ≤ (softLimits s c).2
    let slow : Prop := ∀ k, e.lastEdge = some k → 10 ≤ s.tk - k
    (∀ x y : Bool, encMode s c = 0 → levelAfter s c 0 x = e.levelA → levelAfter s c 1 y = e.levelB →
      ∃ t, exec (.quadEdge c x y) s = .next t ∧ (encOf t c).count = e.count ∧ (encOf t c).levelA = e.levelA ∧
        (encOf t c).levelB = e.levelB ∧ t = { s with enc := t.enc }) ∧
    (∀ x y a b : Bool, encMode s c = 0 → levelAfter s c 0 x = some a → levelAfter s c 1 y = some b →
      (e.levelA = some a ↔ e.levelB ≠ some b) → slow →
      let up := if e.levelA ≠ some a then a != b else a == b
      let d : Int := if up != encRev s c then 1 else -1
      let m := if 0 < d then min (e.count + d) (softLimits s c).2 else max (e.count + d) (softLimits s c).1
      ∃ t, exec (.quadEdge c x y) s = .next t ∧ (encOf t c).levelA = some a ∧ (encOf t c).levelB = some b ∧
        (encOf t c).count = m ∧ (encOf t c).lastEdge = some s.tk ∧
        (encOf t c).down = decide (d < 0) ∧ (encOf t c).lastCount = s.tk ∧ otherChannels s t c ∧ t.tbl = s.tbl ∧
        (m = e.count + d → t.host = s.host ∧ (encOf t c).held = e.held) ∧
        (m ≠ e.count + d → (encOf t c).held = true)) ∧
    (∀ (x y a b : Bool) (k : Nat), encMode s c = 0 → levelAfter s c 0 x = some a → levelAfter s c 1 y = some b →
      (e.levelA ≠ some a ∨ e.levelB ≠ some b) → e.lastEdge = some k →
      s.tk - k < 10 → ∃ t, exec (.quadEdge c x y) s = .next t ∧ (encOf t c).overspeed = true ∧
        countedOne s t 0xA3 (8 * c + 3)) ∧
    (∀ x y a b : Bool, encMode s c = 0 → levelAfter s c 0 x = some a → levelAfter s c 1 y = some b →
      e.levelA ≠ some a → e.levelB ≠ some b → bit (encCfg s c) 13 = false → slow →
      ∃ t, exec (.quadEdge c x y) s = .next t ∧ encOf t c = { e with
          smpA := smpPut x e.smpA, smpB := smpPut y e.smpB, idxOn := (encOf t c).idxOn
          levelA := some a, levelB := some b, uncertain := true, lastEdge := some s.tk } ∧
        countedOne s t 0xA3 (8 * c + 1) ∧ newestError t s.tick (errWord 4 (c * 32 + 2)) ∧ otherChannels s t c) ∧
    (∀ x code : BitVec 3, encMode s c = 1 → (∀ i < 3, levelAfter s c i (x.getLsbD (2 - i)) = some (code.getLsbD (2 - i))) →
      (e.rawpos = code.toNat → ∃ t, exec (.hallCodeChange c x) s = .next t ∧ (encOf t c).count = e.count ∧
        t = { s with enc := t.enc }) ∧
      (∀ l : Nat, e.rawpos ≠ code.toNat → hallPlace code.toNat ≠ 6 → hallPlace l ≠ 6 → e.hallLast = some l →
        let m := (hallPlace code.toNat + 6 - hallPlace l) % 6
        (m = 1 ∨ m = 5 → let d : Int := if (m == 1) != encRev s c then 1 else -1
          inLimits (e.count + d) → ∃ t, exec (.hallCodeChange c x) s = .next t ∧ (encOf t c).count = e.count + d ∧
            (encOf t c).hallLast = some code.toNat ∧ (encOf t c).rawpos = code.toNat ∧ t.host = s.host) ∧
        (m ≠ 1 → m ≠ 5 → ∃ t, exec (.hallCodeChange c x) s = .next t ∧ (encOf t c).count = e.count ∧
          (encOf t c).hallskip = true ∧ (encOf t c).uncertain = true ∧ countedOne s t 0xA3 (8 * c + 1) ∧
          newestError t s.tick (errWord 4 (c * 32 + 5)))) ∧
      (e.rawpos ≠ code.toNat → code = 0 ∨ code = 7 → ∃ t, exec (.hallCodeChange c x) s = .next t ∧
        (encOf t c).count = e.count ∧ (encOf t c).hallbad = true ∧ countedOne s t 0xA3 (8 * c + 4) ∧
        newestError t s.tick (errWord 4 (c * 32 + 4)))) ∧
    (encMode s c = 2 → e.ssiNext ≤ s.tk →
      (∃ t, exec (.ssiFrameStart c true) s = .next t ∧ otherChannels s t c ∧ t.host = s.host ∧
        encOf t c = { e with
          ssiBusy := true, ssiFrom := e.ssiNext, ssiNext := e.ssiNext + 250 * tnat s 0xA2 (16 * c + 9) }) ∧
      (∃ t, exec (.ssiFrameStart c false) s = .next t ∧ (encOf t c).stale = true ∧ (encOf t c).ssimono = true ∧
        (encOf t c).ssiBusy = false ∧ countedOne s t 0xA3 (8 * c + 7) ∧ newestError t s.tick (errWord 4 (c * 32 + 8)))) ∧
    (∀ (runs : List (Nat × Bool)) (rest : Bool), let line := runs ++ [(0, rest)]
      encMode s c = 2 → e.ssiBusy = true → ssiEndTk s c line ≤ s.tk → let fr := ssiBits s c line
      let bad (t : State) : Prop := exec (.ssiFrameEnd c runs rest) s = .next t ∧ (encOf t c).count = e.count ∧
        (encOf t c).stale = true ∧ (encOf t c).ssiBusy = false
      ((ssiMonoflop s c line).2 = true → ssiCrcBad s c fr = false → ssiErrBad s c fr = false →
        inLimits (ssiPosition s c fr + e.ssiOffset) →
        ∃ t, exec (.ssiFrameEnd c runs rest) s = .next t ∧ (encOf t c).count = ssiPosition s c fr + e.ssiOffset ∧
          (encOf t c).rawpos = ssiPosition s c fr ∧ (encOf t c).stale = false ∧ (encOf t c).ssiBusy = false ∧
          t.host = s.host ∧ t.tbl = s.tbl) ∧
      ((ssiMonoflop s c line).2 = true → ssiCrcBad s c fr = true → ssiErrBad s c fr = false →
        ∃ t, bad t ∧ (encOf t c).ssicrc = true ∧ countedOne s t 0xA3 (8 * c + 5) ∧
          newestError t s.tick (errWord 4 (c * 32 + 6))) ∧
      ((ssiMonoflop s c line).2 = true → ssiErrBad s c fr = true →
        ∃ t, bad t ∧ (encOf t c).ssierr = true ∧ countedOne s t 0xA3 (8 * c + 6) ∧
          newestError t s.tick (errWord 4 (c * 32 + 7))) ∧
      ((ssiMonoflop s c line).2 = false →
        ∃ t, bad t ∧ (encOf t c).ssimono = true ∧ countedOne s t 0xA3 (8 * c + 7) ∧
          newestError t s.tick (errWord 4 (c * 32 + 8))))

/-- The grid on its counts (R140, R142, R147, R148): a write of table 0xA6 is refused while a swath is active or
where the value is not allowed, with its flag and error 0x09. Four regular intervals give LOCK; under LOCK a count
in its window moves P to 64 times the count; one that is early or late opens a suspect region with error 0x01 or
0x02; one against the direction has error 0x03, and opens a region in a swath, while outside one LOCK ends; the count that
closes the region works a slip within SLIP_MAX into GRID_OFS, and a larger one ends LOCK with
error 0x04 and makes the swath BAD. -/
def Obligations.GridOnCounts : Prop :=
  ∀ s : State, WfState s → clocked s = true →
    (∀ (a : Fin 5) (d : Word), inRest s = false →
      (swathActive s = true → exec (.gridCfgWrite a d) s = .next (recErr 5 9 { s with grid.cfgbusy := true })) ∧
      (swathActive s = false → gridCfgOk s a d.toNat = false →
        exec (.gridCfgWrite a d) s = .next (recErr 5 9 { s with grid.cfgerr := true })) ∧
      (swathActive s = false → gridCfgOk s a d.toNat = true → ∃ t, exec (.gridCfgWrite a d) s = .next t ∧
        tget t 0xA6 a = word (gridCfgKeep a d.toNat) ∧ t.vine = s.vine ∧ t.enc = s.enc ∧
        ∀ tb b, tkey tb b ≠ tkey 0xA6 a → tget t tb b = tget s tb b)) ∧
    (countIsLate s = true → ∃ t, exec .countLate s = .next t ∧ countedOne s t 0xA7 8 ∧ newestError t s.tick 0x0502 ∧
      t.grid = { s.grid with
        openRegion := some { id := s.grid.nextRegion, start := gridUnits s, relay := false, swaths := [] }
        regions := s.grid.regions ++ [{ id := s.grid.nextRegion, start := gridUnits s, relay := false, swaths := [] }]
        nextRegion := s.grid.nextRegion + 1 }) ∧
    (gridSrc s = 1 → encActive s (gridUnit s) = true → (encOf s (gridUnit s)).count ≠ s.grid.lastG →
      let e := encOf s (gridUnit s)
      let tc := s.tk - (encFilt s (gridUnit s) + 3)
      let g := e.count + s.grid.ofs
      let turned := { s with grid.lastDown := e.down }
      (∀ l, s.grid.lock = false → s.grid.dirDown = e.down → s.grid.lastStamp = some l → inWindow s (tc - l) = true →
        exec .gridCount s = .next { s with
          grid.base := 64 * g * 65536, grid.tb := tc, grid.intervals := ((tc - l) :: s.grid.intervals).take 4
          grid.lock := decide (4 ≤ (((tc - l) :: s.grid.intervals).take 4).length)
          grid.lastDown := e.down, grid.lastStamp := some tc, grid.lastG := e.count }) ∧
      (s.grid.lock = true → s.grid.openRegion = none → s.grid.dirDown = e.down → inWindow s (tc - s.grid.tb) = true →
        winLo s * (tavg s).1 ≤ (tc - s.grid.tb) * 16 * (tavg s).2 → exec .gridCount s = .next { s with
          grid.base := 64 * g * 65536, grid.tb := tc, grid.intervals := ((tc - s.grid.tb) :: s.grid.intervals).take 4
          grid.lastDown := e.down, grid.lastStamp := some tc, grid.lastG := e.count }) ∧
      (s.grid.lock = true → s.grid.openRegion = none → s.grid.dirDown = e.down →
        (tc - s.grid.tb) * 16 * (tavg s).2 < winLo s * (tavg s).1 → ∃ t, exec .gridCount s = .next t ∧
          t.grid.openRegion = some { id := s.grid.nextRegion, start := gridUnits turned, relay := false, swaths := [] } ∧
          t.grid.base = s.grid.base ∧ t.grid.lock = true ∧ newestError t s.tick 0x0501) ∧
      (s.grid.lock = true → s.grid.openRegion = none → s.grid.dirDown ≠ e.down → ∃ t, exec .gridCount s = .next t ∧
        newestError t s.tick 0x0503 ∧
        (swathActive s = true → t.grid.lock = true ∧ t.grid.base = s.grid.base ∧
          t.grid.openRegion = some { id := s.grid.nextRegion, start := gridUnits turned, relay := false, swaths := [] }) ∧
        (swathActive s = false → t.grid.lock = false ∧ t.grid.openRegion = none ∧ t.grid.dirDown = e.down ∧
          t.grid.base = 64 * g * 65536 ∧ t.grid.tb = tc)) ∧
      (∀ r l, s.grid.lock = true → s.grid.openRegion = some r → s.grid.dirDown = e.down → s.grid.lastStamp = some l →
        s.grid.tb ≤ l → inWindow s (tc - l) = true →
        let slip := roundDivTowardZero (gridPred turned tc - 64 * g * 65536) 4194304
        (slip.natAbs ≤ tnat s 0xA6 2 % 16 → ∃ t, exec .gridCount s = .next t ∧ t.grid.openRegion = none ∧
          t.grid.lock = true ∧ t.grid.ofs = s.grid.ofs + slip ∧ t.grid.base = 64 * (g + slip) * 65536 ∧ t.grid.tb = tc ∧
          t.ing = s.ing ∧ t.host = s.host) ∧
        (tnat s 0xA6 2 % 16 < slip.natAbs → ∃ t, exec .gridCount s = .next t ∧ t.grid.openRegion = none ∧
          t.grid.lock = false ∧ newestError t s.tick 0x0504 ∧
          ∀ a, s.ing.active = some a → t.hc.gridClosed = true ∧ ∃ b, t.ing.active = some b ∧ b.rcd.state = 3 ∧
            b.rcd.gated = true)))

/-- Verdicts and the relay of the grid (R151, R154-R157): an index of the source clears the suspicion of the
regions it covers, or makes their swaths BAD; tokens go out every 64 TICK with their fields; one that the relaying
node sends becomes the grid's line, an older one and one of another node change nothing; RELAY_TMO without a token
opens a region with error 0x06, and RELAY_MAX records error 0x07 and closes the gate of a swath in flight, which is BAD. -/
def Obligations.GridVerdictsAndRelay : Prop :=
  ∀ s : State, WfState s → clocked s = true →
    (∀ (c : Fin 8) (z : Bool) (r : Region) (n : Nat) (a : Active), isGridSource s c = true → encActive s c = true →
      indexRises s c z → encMode s c = 0 → (encOf s c).rehomeArmed = false → s.grid.regions = [r] → r.relay = false →
      r.swaths = [n] → r.firedIn = [n] → s.ing.active = some a → a.rcd.serial = n → a.rcd.state = 1 →
      a.rcd.doubts = [r.id] → a.rcd.lasting = false →
      (indexVerdict s c = some false → ∃ t b, exec (.indexEvent ⟨c, z⟩) s = .next t ∧ t.ing.active = some b ∧
        b.rcd = { a.rcd with doubts := [], state := 2 } ∧ t.grid.regions = [] ∧
        t.grid.verdictEpoch = (s.grid.verdictEpoch + 1) % 4 ∧ t.grid.verdictMism = false) ∧
      (indexVerdict s c = some true → ∃ t b, exec (.indexEvent ⟨c, z⟩) s = .next t ∧ t.ing.active = some b ∧
        b.rcd = { a.rcd with state := 3, disc := r.start } ∧ newestError t s.tick 0x0505 ∧
        t.grid.verdictMism = true)) ∧
    (∀ p, tokensOn s = true → s.tick.toNat % 64 = 0 → onTree s p = true → canSend s p 1 = true → s.grid.verdictEpoch < 4 →
      ∃ t, exec .gridTokenSend s = .next t ∧ lastSent t p 63 0x13 1 (tokenWords s) ∧ tokenOf (tokenWords s) = {
        stamp := s.tick.extractLsb' 6 9, sus := s.grid.openRegion.isSome, mism := s.grid.verdictMism
        epoch := BitVec.ofNat 2 s.grid.verdictEpoch, pos := BitVec.ofInt 19 (gridUnits s)
        vel := BitVec.ofInt 16 (clampInt (roundDiv (gridVel s) 64) (-32768) 32767) }) ∧
    (∀ (h : Hdr) (k : Token), h.src.toNat ≠ relayNode s ∨ gridSrc s ≠ 2 →
      ∃ t, exec (.pktGrid h k) s = .next t ∧ t.grid = s.grid ∧ t.ing = s.ing) ∧
    (∀ (h : Hdr) (k : Token), s.vine.nodeId ≠ 0 → h.src.toNat = relayNode s → gridSrc s = 2 → s.grid.openRegion = none →
      k.sus = false → s.grid.rxEpoch = some k.epoch.toNat →
      let back := (s.tick.toNat + 32768 - k.stamp.toNat * 64) % 32768
      let own := (s.grid.base + s.grid.tokenVel * 64 * ((s.tk : Int) - back - s.grid.tb)) / 65536
      let ahead (o : Nat) : Nat := (s.tick.toNat + 2 ^ 49 - back - o) % 2 ^ 48
      ((∀ o, s.grid.tokenTs = some o → 0 < ahead o ∧ ahead o < 2 ^ 47) → ∃ t, exec (.pktGrid h k) s = .next t ∧ t.grid = { s.grid with
        base := nearestMod k.pos.toNat own 524288 * 65536 + k.vel.toInt * 64 * back, tb := s.tk, tokenVel := k.vel.toInt
        tokenTs := some ((s.tick.toNat + 2 ^ 48 - back) % 2 ^ 48), lastToken := s.tk, lost := false, lostOut := false
        rxMism := k.mism }) ∧
      (∀ o, s.grid.tokenTs = some o → ahead o = 0 ∨ 2 ^ 47 ≤ ahead o →
        ∃ t, exec (.pktGrid h k) s = .next t ∧ t.grid = s.grid)) ∧
    (gridSrc s = 2 → s.grid.lost = false → tnat s 0xA6 3 ≤ s.tk - s.grid.lastToken →
      ∃ t, exec .relayTimeout s = .next t ∧ t.grid.lost = true ∧ t.grid.relaylost = true ∧
        t.grid.lossStart = gridUnits s ∧ newestError t s.tick 0x0506 ∧
        ∃ r, t.grid.openRegion = some r ∧ r.relay = true) ∧
    (∀ a, gridSrc s = 2 → s.grid.lost = true → s.grid.lostOut = false → s.ing.active = some a →
      relayMaxTk s ≤ s.tk - s.grid.lastToken → ∃ t b, exec .relayMaxExpiry s = .next t ∧ t.grid.lostOut = true ∧
        t.hc.gridClosed = true ∧ newestError t s.tick 0x0507 ∧ t.ing.active = some b ∧ b.rcd.state = 3 ∧
        b.rcd.relay = true ∧ b.rcd.gated = true) ∧
    (gridSrc s = 2 → s.grid.lost = true → s.grid.lostOut = false → s.ing.active = none →
      relayMaxTk s ≤ s.tk - s.grid.lastToken → ∃ t, exec .relayMaxExpiry s = .next t ∧
        t.grid = { s.grid with lostOut := true } ∧ newestError t s.tick 0x0507 ∧ t.ing = s.ing)

/-- JET_CTL and its WDACs (R176, R180, R182, R183, R186): ENABLE_GROUP enables a valid group whose samples have
come, and whose WDAC is ready, outside a swath, its lanes beginning anew, and is refused else; of a disabled group the
pulses of the fires that still run are cut, and no other channel's; WDAC_ON, of a WDAC that no enabled group selects and
whose waveform and entry are in order, and WDAC_OFF glide for 25,000 TK, to level 0 of the waveform and READY, or to
mid-code and off; a refusal, a reserved OP too, sets OPERR and records error 0x04; an input of a group in service that has
not been refreshed for 1 ms sets STALEIN and records error 0x05. -/
def Obligations.JetCommands : Prop :=
  ∀ (s : State) (w : BitVec 5), WfState s → clocked s = true → s.pwr.entering = none → inRest s = false →
    let g := w.toNat
    let refused (i : Instr) : Prop := ∃ t, exec i s = .next t ∧ t.jet = { s.jet with operr := true, lastGrp := t.jet.lastGrp } ∧
      newestError t s.tick 0x0604 ∧ t.tbl = s.tbl
    (exec (.jetNone w) s = .next s) ∧
    (swathActive s = false → groupValid s g = true → inputsOk s g = true →
      (grDrive s g = 1 → (wdacOf s (grWdac s g)).ready = true) → ∃ t, exec (.enableGroup w) s = .next t ∧
        t = { s with jet.en := t.jet.en, jet.lanes := t.jet.lanes } ∧ laneOf t g = { group := g, from_ := s.tk } ∧
        (∀ h, h ≠ g → laneOf t h = laneOf s h) ∧ ∀ h < 32, grEn t h = (h == g || grEn s h)) ∧
    (swathActive s = true ∨ groupValid s g = false ∨ inputsOk s g = false ∨
      (grDrive s g = 1 ∧ (wdacOf s (grWdac s g)).ready = false) → refused (.enableGroup w)) ∧
    (∃ t, exec (.disableGroup w) s = .next t ∧ t = { s with jet.en := t.jet.en, jet.fires := t.jet.fires } ∧
      (∀ h < 32, grEn t h = (h != g && grEn s h)) ∧
      ∀ (i j : Nat) (f : Fire) (c : ChanFire), s.jet.fires[i]? = some f → f.chans[j]? = some c →
        ∃ f' c', t.jet.fires[i]? = some f' ∧ f'.trig = f.trig ∧ f'.chans[j]? = some c' ∧
          (c.channel / 8 = g → s.tk < f.fireEnd → c'.cutAt = some (c.cutAt.getD s.tk)) ∧
          (c.channel / 8 ≠ g ∨ f.fireEnd ≤ s.tk → c' = c)) ∧
    (∃ t, exec (.disableAll w) s = .next t ∧ t = { s with jet.en := 0, jet.fires := t.jet.fires } ∧
      ∀ (i j : Nat) (f : Fire) (c : ChanFire), s.jet.fires[i]? = some f → f.chans[j]? = some c → c.channel < 256 →
        ∃ f' c', t.jet.fires[i]? = some f' ∧ f'.chans[j]? = some c' ∧
          (s.tk < f.fireEnd → c'.cutAt = some (c.cutAt.getD s.tk)) ∧ (f.fireEnd ≤ s.tk → c' = c)) ∧
    (g ≤ 7 → wdacBusy s g = false → waveOk s 1 (wdacWf s g) = true → (wdacSelected s g = true → wdacFaults s g = []) →
      exec (.wdacOn w) s = .next (setWdac g (fun d => { d with
        on := true, ready := false, glideUp := true, glideEnd := some (s.tk + 25000), code := 0x2000, playFrom := none
        glideTo := playLevel s (wdacWf s g) 0 (if ampcor s g then d.scale else none), used := true }) s)) ∧
    (g ≤ 7 → wdacBusy s g = false → (wdacOf s g).on = true →
      exec (.wdacOff w) s = .next (setWdac g (fun d => { d with
        ready := false, glideUp := false, glideEnd := some (s.tk + 25000), code := wdacCode s g, glideTo := 0x2000
        playFrom := none }) s)) ∧
    (g ≤ 7 → wdacBusy s g = false → (wdacOf s g).on = false → exec (.wdacOff w) s = .next s) ∧
    (7 < g ∨ wdacBusy s g = true → refused (.wdacOn w) ∧ refused (.wdacOff w)) ∧
    (g ≤ 7 → waveOk s 1 (wdacWf s g) = false ∨ (wdacSelected s g = true ∧ wdacFaults s g ≠ []) → refused (.wdacOn w)) ∧
    (∀ op : BitVec 3, 6 ≤ op.toNat → refused (.jetReservedOp op w)) ∧
    (∀ (v : Fin 8) (e : Nat), (wdacOf s v).glideEnd = some e →
      (e ≤ s.tk → exec (.wdacGlideComplete v) s = .next (setWdac v (fun d => if d.glideUp then
          { d with glideEnd := none, ready := true, code := d.glideTo }
        else { d with glideEnd := none, on := false, code := d.glideTo }) s)) ∧
      (s.tk < e → exec (.wdacGlideComplete v) s = .next s)) ∧
    (∀ h : Fin 32, grMode s h ≠ 0 → s.jet.staleAt = [] →
      let vAt := (s.rail.rails.getD (grSupply s h) {}).vAt.getD 0
      ((tempOf s h).at_ + 250000 ≤ s.tk ∨ vAt + 250000 ≤ s.tk → ∃ t, exec (.energyInputStale h) s = .next t ∧
        t.jet = { s.jet with stalein := true, lastGrp := h.val, staleAt := [(h.val, s.tk)] } ∧
        newestError t s.tick 0x0605 ∧ t.tbl = s.tbl) ∧
      (s.tk < (tempOf s h).at_ + 250000 → s.tk < vAt + 250000 → exec (.energyInputStale h) s = .next s))

/-- The fire of a unit (R144, R145, R150, R163, R164, R172, R183), at a target that P reaches, of records in
order: where a member of an enabled group has a code other than 0, the columns presented are noted as the unit's last fire
with their codes, for the groups that are enabled and whose gate is open; none is issued inside the refire guard, which
sets REFIRE with error 0x01 and lasts at least for MIN_INTERVAL and to the end of the fire itself, and none where no
enabled group of open gate has a code other than 0. In a suspect region SKIP issues none, and logs a skip for each channel
of those that would have fired, and GATE shuts the gate of every group. The unit's next target is the next column, and no
other target of it falls due in the same TK (R146). -/
def Obligations.UnitFires : Prop :=
  ∀ (s : State) (trig : Fin 256) (a : Active) (k : Int), WfState s → clocked s = true → s.ing.active = some a →
    a.next.find? (fun p => p.1 == trig.val) = some (trig.val, k) → k ≤ (unitCols s a.slot trig).2 →
    reached s a.slot (target s a.slot trig k) = true →
    let place := firePlace s trig (target s a.slot trig k)
    let ps := (unitMembers s trig).map (fun c => present s a trig c k)
    let live := ((unitGroups s trig).filter (grEn s)).filter (groupGateOpen s)
    let suspect := s.grid.openRegion.isSome || (gridSrc s == 1 && !s.grid.lock)
    let moved (t : State) : Prop := ∃ b, t.ing.active = some b ∧ b.slot = a.slot ∧
      b.next = a.next.map (fun p => if p.1 = trig.val then (p.1, p.2 + 1) else p) ∧
      b.gone.contains (trig.val, s.tk) = true
    let unfired (t : State) : Prop := t.jet = { s.jet with lanes := t.jet.lanes }
    let held := ∃ f, lastFire s trig = some f ∧ place.1 < f.guardEnd
    let drops (gs : List Nat) : List Presented :=
      ps.filter (fun p => gs.contains (p.channel / 8) && p.codes.any (fun c => c != 0))
    (a.gone.contains (trig.val, s.tk) = true → exec (.unitFire trig) s = .next s) ∧
    (a.gone.contains (trig.val, s.tk) = false → suspect = false →
      (∀ p ∈ ps, p.skipped = 0 ∧ p.under = false ∧ p.bad = false) →
      (drops live ≠ [] → ¬ held → ∃ t f, exec (.unitFire trig) s = .next t ∧ moved t ∧ lastFire t trig = some f ∧
        f.column = k ∧ f.start = place.1 ∧ f.tap = place.2.2 ∧ f.groups = live ∧
        place.1 + refireGuard s trig ≤ f.guardEnd ∧ f.fireEnd ≤ f.guardEnd ∧
        f.chans.map (fun c => (c.channel, c.column, c.codes, c.from_, c.tap)) =
          (ps.filter (fun p => live.contains (p.channel / 8))).map (fun p => (p.channel, p.column, p.codes,
            s.tk + (place.2.1 + trimOf s p.channel) / 32, (place.2.1 + trimOf s p.channel) % 32)) ∧
        (∀ u : Fin 256, u ≠ trig → (lastFire t u).map (fun f => (f.column, f.start, f.guardEnd)) =
          (lastFire s u).map (fun f => (f.column, f.start, f.guardEnd)))) ∧
      (held → drops ((unitGroups s trig).filter (grEn s)) ≠ [] → ∃ t, exec (.unitFire trig) s = .next t ∧ moved t ∧
        t.jet.fires = s.jet.fires ∧ t.jet.refire = true ∧ newestError t s.tick 0x0601) ∧
      (drops live = [] → ¬ held → ∃ t, exec (.unitFire trig) s = .next t ∧ moved t ∧ unfired t) ∧
      (drops ((unitGroups s trig).filter (grEn s)) = [] → ∃ t, exec (.unitFire trig) s = .next t ∧ moved t ∧ unfired t)) ∧
    (a.gone.contains (trig.val, s.tk) = false → suspect = true →
      (gridPolicy s = 1 → ∃ t, exec (.unitFire trig) s = .next t ∧ moved t ∧ unfired t ∧
        t.grid.skipTotal = s.grid.skipTotal + (drops live).length) ∧
      (gridPolicy s = 2 → ∃ t, exec (.unitFire trig) s = .next t ∧ moved t ∧ t.grid.gatePolicy = true ∧
        ∀ g < 32, groupGateOpen t g = false))

/-- Print data on its way into a slot (R188-R193, R196-R198): a Harvest block, or a SWATH_DATA packet, for a
FILLING slot of its swath goes in at the fill mark; a packet that starts elsewhere sets GAP with error 0x03, and one whose
slot is EMPTY or DONE is held, with THROTTLED set; a block that is found bad at its CHECK word (its sum, a bit of its routing word, or
NWORDS above 508) sets HVBAD with error 0x02 and leaves nothing; a word at a rising edge before which HV_RDY was low at
all four edges sets OVERRUN with error 0x01; HV_RDY follows the FIFO at each edge; a word between blocks is discarded and
counted, and SYNC starts one; a held block goes in once its slot is FILLING. A descriptor write makes a slot FILLING, and
is refused while it is ARMED or ACTIVE. HV_ON and HV_OFF switch the port and keep the FIFO and a block in progress. -/
def Obligations.SwathDataArrives : Prop :=
  ∀ (s : State) (b : DataBlock), WfState s → clocked s = true →
    let ready : Prop := s.ing.hvOn = true ∧ s.ing.hvBuf = [] ∧ s.ing.hvSkip = 0 ∧ s.ing.rdy = true ∧
      s.ing.rdyEdges.any (fun r => r) = true ∧ s.ing.rdyLowFrom = none
    (ready → s.ing.fifo = [] → b.data.length ≤ 508 → blockFits s b →
      ∃ t, exec (.harvestBlock ((harvestWords 0 b).map some)) s = .next t ∧
        slotTook s t b.slot.toNat (unpackWords b.data) ∧ t.ing.hvBuf = [] ∧ t.ing.fifo = [] ∧ t.host = s.host ∧
        t.tbl = s.tbl) ∧
    (∀ ws : List Word, ready → s.ing.fifo = [] → ws.length = 7 + (ws.getD 5 0).toNat → ws.getD 0 0 = 0xA5C3 →
      508 < (ws.getD 5 0).toNat ∨ sumWords ws ≠ 0xFFFF ∨ bits (ws.getD 1 0).toNat 5 0 ≠ 0 →
      ∃ t, exec (.harvestBlock (ws.map some)) s = .next t ∧ t.ing.hvbad = true ∧ t.ing.hvBuf = [] ∧ t.ing.fifo = [] ∧
        t.ing.slots = s.ing.slots ∧ t.swathRam = s.swathRam ∧ countedOne s t 0x45 75 ∧ newestError t s.tick 0x0702) ∧
    (∀ w : Word, s.ing.hvOn = true → (∀ r ∈ s.ing.rdyEdges, r = false) →
      ∃ t, exec (.harvestBlock [some w]) s = .next t ∧ t.ing.overrun = true ∧ t.ing.hvBuf = s.ing.hvBuf ∧
        t.ing.slots = s.ing.slots ∧ t.ing.fifo = s.ing.fifo ∧ countedOne s t 0x45 74 ∧ newestError t s.tick 0x0701) ∧
    (s.ing.hvOn = true → ∃ t, exec (.harvestBlock [none]) s = .next t ∧ t.ing.rdy = decide (8 ≤ hvFree s) ∧
      t.ing.rdyEdges = (s.ing.rdy :: s.ing.rdyEdges).take 4 ∧ t.ing.hvBuf = s.ing.hvBuf ∧ t.ing.fifo = s.ing.fifo ∧
      t.tbl = s.tbl ∧ (s.ing.rdy = true → hvFree s < 8 → t.ing.throttled = true ∧ t.ing.rdyLowFrom = some s.tk)) ∧
    (∀ w : Word, ready → 8 ≤ hvFree s → ∃ t, exec (.harvestHuntDiscard w) s = .next t ∧
      t = { s with tbl := t.tbl, ing.hvBuf := t.ing.hvBuf, ing.rdyEdges := (true :: s.ing.rdyEdges).take 4 } ∧
      (w ≠ 0xA5C3 → t.ing.hvBuf = [] ∧ countedOne s t 0x45 80) ∧
      (w = 0xA5C3 → t.ing.hvBuf = [w] ∧ t.tbl = s.tbl)) ∧
    (∀ (p : Fin 3) (h : Hdr), s.vine.nodeId ≠ 0 → h.dst.toNat = s.vine.nodeId → s.ing.vineHeld = [] →
      (portOf s p).used2 + blockUnits b ≤ 64 → (bulkSeq h s).1 = false → slotSize s b.slot.toNat ≠ 0 →
      (blockFits s b → ∃ t, exec (.pktSwathData p h b) s = .next t ∧ slotTook s t b.slot.toNat (unpackWords b.data) ∧
        t.host = s.host) ∧
      ((slotOf s b.slot.toNat).st = .filling → tnat s 0x40 (16 * b.slot.toNat + 2) = b.swath.toNat →
        b.offset.toNat ≠ (slotOf s b.slot.toNat).fill → ∃ t, exec (.pktSwathData p h b) s = .next t ∧ t.ing.gap = true ∧
          slotOf t b.slot.toNat = { slotOf s b.slot.toNat with gap := true } ∧ t.swathRam = s.swathRam ∧
          countedOne s t 0x45 76 ∧ newestError t s.tick 0x0703) ∧
      ((slotOf s b.slot.toNat).st = .empty ∨ (slotOf s b.slot.toNat).st = .done →
        ∃ t, exec (.pktSwathData p h b) s = .next t ∧ t.ing.vineHeld = [(p.val, b)] ∧ t.ing.throttled = true ∧ t.swathRam = s.swathRam)) ∧
    (s.ing.fifo = [(0, b)] → s.ing.vineHeld = [] → blockFits s b → ∃ t, exec .heldBlockRelease s = .next t ∧
      slotTook s t b.slot.toNat (unpackWords b.data) ∧ t.ing.fifo = []) ∧
    (∀ (a : Fin 128) (d : Word), inRest s = false → a.val % 16 ≠ 14 →
      let st := (slotOf s (a.val / 16)).st
      (st = .armed ∨ st = .active → ∃ t, exec (.descriptorWrite a d) s = .next t ∧ t.ing.cmderr = true ∧
        newestError t s.tick 0x0705 ∧ t.tbl = s.tbl ∧ t.ing.slots = s.ing.slots) ∧
      (st = .filling → ∃ t, exec (.descriptorWrite a d) s = .next t ∧ tget t 0x40 a = d &&& descMask (a.val % 16) ∧
        t = { s with tbl := t.tbl }) ∧
      (st = .empty ∨ st = .done → ∃ t, exec (.descriptorWrite a d) s = .next t ∧
        tget t 0x40 a = d &&& descMask (a.val % 16) ∧
        slotOf t (a.val / 16) = { slotOf s (a.val / 16) with st := .filling, fill := 0, gap := false })) ∧
    (∀ sl : BitVec 3, s.pwr.entering = none → inRest s = false →
      exec (.hvOn sl) s = .next (if s.ing.hvOn then s else { s with ing.hvOn := true, ing.rdyLowFrom := some s.tk }) ∧
      exec (.hvOff sl) s = .next (if s.ing.hvOn then { s with
        ing.hvOn := false, ing.rdy := false, ing.rdyEdges := [], ing.rdyLowFrom := none
        ing.lowTk := s.ing.lowTk + (match s.ing.rdyLowFrom with | some t => s.tk - t | none => 0) } else s) ∧
      exec (.ingestNone sl) s = .next s)

/-- A swath from ARM to its end (R199, R206-R208): ARM queues a FILLING slot whose descriptor passes its checks,
and is refused else; the head of the queue is admitted in the gap at the speed of the test, its LAYER and speed
agreeing, with CLAMPED below VREQ; a wrong LAYER sets SEQERR once; CANCEL empties the queue of the slot, or ends
the swath in flight as BAD, discarded at P; the swath's end, with every unit past its last column and every fire
completed, writes its record, makes the slot DONE and opens the gap with a boundary; 1 s without admission sets
STARVED. (Shown for a grid without a RELAY loss in progress, which marks the swath at its admission.) -/
def Obligations.SwathLife : Prop :=
  ∀ (s : State) (w : BitVec 3), WfState s → clocked s = true → let sl := w.toNat
    let ready : Prop := s.pwr.entering = none ∧ inRest s = false
    let refused (i : Instr) : Prop := ∃ t, exec i s = .next t ∧ t.ing = { s.ing with cmderr := true } ∧
      newestError t s.tick 0x0705 ∧ t.tbl = s.tbl
    (ready → slotSize s sl ≠ 0 → armOk s sl = true → ∃ t, exec (.arm w) s = .next t ∧ t.ing.armq = s.ing.armq ++ [sl] ∧
      slotOf t sl = { slotOf s sl with st := .armed } ∧ t.tbl = s.tbl ∧ t.host = s.host) ∧
    (ready → slotSize s sl = 0 ∨ armOk s sl = false → refused (.arm w)) ∧
    (ready → slotSize s sl = 0 → refused (.cancel w)) ∧
    (∀ op : BitVec 3, ready → 5 ≤ op.toNat → refused (.ingestReservedOp op w)) ∧
    (ready → slotSize s sl ≠ 0 → (slotOf s sl).st = .armed → ∃ t, exec (.cancel w) s = .next t ∧
      slotOf t sl = { slotOf s sl with st := .done } ∧ sl ∉ t.ing.armq ∧ t.tbl = s.tbl ∧ t.host = s.host) ∧
    (∀ a, ready → slotSize s sl ≠ 0 → (slotOf s sl).st = .active → s.ing.active = some a → a.slot = sl →
      ∃ t, exec (.cancel w) s = .next t ∧ t.ing.active = none ∧ (slotOf t sl).st = .done ∧ t.bnd.inGap = true ∧
        t.bnd.gapFrom = s.tk ∧ t.grid.results.head? = some { a.rcd with state := 3, disc := gridUnits s }) ∧
    (∀ a, s.ing.active = some a → a.slot < 8 → swathOver s = true → ∃ t, exec .swathEnd s = .next t ∧ t.ing.active = none ∧
      (slotOf t a.slot).st = .done ∧ t.grid.results.head? = some a.rcd ∧ t.grid.resultTotal = s.grid.resultTotal + 1 ∧
      t.bnd.lastEnd = some (a.rcd.layer, a.rcd.swath) ∧ t.bnd.inGap = true ∧ t.bnd.gapFrom = s.tk ∧
      t.bnd.layer = s.bnd.held.getD s.bnd.layer ∧ t.bnd.last = (if s.bnd.held.isSome then 2 else 1) ∧
      t.host.irqPend.getLsbD 3 = true) ∧
    (s.ing.active.isSome = true → swathOver s = false → exec .swathEnd s = .next s) ∧
    (armHead s = some sl → gapOpen s = true → (slotOf s sl).st = .armed →
      (descLayer s sl = s.bnd.layer → speedPass s sl = true → descFabric s sl = false →
        gridSrc s ≠ 2 ∨ s.grid.lostOut = false →
        ∃ t, exec .admission s = .next t ∧ t.ing.active = some (newActive s sl) ∧
          slotOf t sl = { slotOf s sl with st := .active, vplan := speedOf s sl } ∧ sl ∉ t.ing.armq ∧
          t.bnd = { s.bnd with swath := tget s 0x40 (16 * sl + 2), inGap := false, idle := false } ∧
          t.host.irqPend.getLsbD 6 = true ∧
          (speedOf s sl < descVreq s sl → t.ing.clamped = true ∧ countedOne s t 0x45 83) ∧
          (printAxisOn s = true → s.mot.permits.length < 8 → t.mot.permits = s.mot.permits ++ [speedOf s sl])) ∧
      (descLayer s sl = s.bnd.layer → speedPass s sl = false → exec .admission s = .next s) ∧
      (descLayer s sl ≠ s.bnd.layer → s.ing.seqSeen ≠ some (sl, s.bnd.layer) → ∃ t, exec .admission s = .next t ∧
        t.ing = { s.ing with seqerr := true, seqSeen := some (sl, s.bnd.layer) } ∧ newestError t s.tick 0x0708)) ∧
    (∀ k, s.ing.waitFrom = some k → s.ing.starveDone = false → k + 250000000 ≤ s.tk → ∃ t, exec .starved s = .next t ∧
      t.ing = { s.ing with starved := true, starveDone := true } ∧ newestError t s.tick 0x0709 ∧ t.tbl = s.tbl)

/-- Admission over a fabric (R209): a node reports its FABRIC head slot that could be admitted with its speed and
its floor; the root, with every report and no floor above the least speed, sends that speed in ADMIT to all, and
sends nothing else; a node with a FABRIC head takes the speed, and is admitted at it. (Argument of ADMIT: open,
log entry 14.) -/
def Obligations.FabricAdmission : Prop :=
  ∀ (s : State) (sl : Nat), WfState s → clocked s = true →
    (∀ r, isRoot s = false → fabricHead s = some sl → gapOpen s = true → descLayer s sl = s.bnd.layer →
      speedPass s sl = true → s.ing.lastReport = none → routeOf s 1 = r + 1 → canSend s r 0 = true →
      let v := min (speedOf s sl / 64) 0xFFFF
      ∃ t, exec .admitReadySend s = .next t ∧ t.ing.lastReport = some (v, ceilDiv (speedFloor s sl) 64) ∧
        lastSent t r 1 0x09 0 [word (0x40 * 256 + tnat s 0x40 (16 * sl + 2) % 256), word v,
          word (ceilDiv (speedFloor s sl) 64)]) ∧
    (∀ (n : BitVec 6) (sw : Byte) (v f : Word) (p : Nat), isRoot s = true → s.vine.nodeId = 1 → s.ing.reports = [] →
      admitNodes s = [n.toNat] →
      onTree s p = true → canSend s p 0 = true →
      (f.toNat ≤ v.toNat → ∃ t k, exec (.eventAdmitReady n sw v f) s = .next t ∧ t.ing.reports = [] ∧
        (portOf t p).sent.getLast? = some k ∧ k.type = 0x09 ∧ k.dst = 63 ∧ k.words.drop 1 = [v]) ∧
      (v.toNat < f.toNat → ∃ t, exec (.eventAdmitReady n sw v f) s = .next t ∧
        t.ing.reports = [(n.toNat, sw.toNat, v.toNat, f.toNat)])) ∧
    (∀ v : Word, s.vine.nodeId = 0 → exec (.eventAdmit v) s = .next s) ∧
    (∀ v : Word, isRoot s = false → s.vine.nodeId ≠ 0 → (∃ t, exec (.eventAdmit v) s = .next t ∧
      t.ing = (if (fabricHead s).isSome then { s.ing with admitValue := some v.toNat } else s.ing))) ∧
    (∀ v, sl < 8 → armHead s = some sl → gapOpen s = true → descLayer s sl = s.bnd.layer → speedPass s sl = true →
      descFabric s sl = true → s.ing.admitValue = some v → gridSrc s ≠ 2 ∨ s.grid.lostOut = false →
      ∃ t, exec .admission s = .next t ∧
        t.ing.active = some (newActive s sl) ∧ (slotOf t sl).vplan = 64 * v ∧ (slotOf t sl).st = .active) ∧
    (armHead s = some sl → gapOpen s = true → descLayer s sl = s.bnd.layer → speedPass s sl = true →
      descFabric s sl = true → s.ing.admitValue = none → exec .admission s = .next s)

/-- The gates and the configuration of head care (R215, R216, R234, R235): a configuration write is refused while
a swath is active or where it breaks a limit, with its flag and error 0x0A, else stored; OPEN clears HOST and WDG
of the groups named, CLOSE sets HOST and shuts them; a gating input that goes low shuts every group at once,
counts and records error 0x08, and opens again after its dwell, JAM only by JAM_REARM; the fourth low sample in a row
makes its level known; a reserved OP sets CMDERR and records error 0x09. -/
def Obligations.HeadCareGates : Prop :=
  ∀ s : State, WfState s → clocked s = true →
    let refused (i : Instr) : Prop := exec i s = .next (recErr 8 9 { s with hc.cmderr := true })
    (∀ (tb : Byte) (a : BitVec 24) (d : Word), inRest s = false → tb.toNat ∈ [0x51, 0x52, 0x54, 0x58, 0x59] →
      let v := d &&& word (hcMask tb.toNat a.toNat)
      (swathActive s = true → exec (.hcConfigWrite tb a d) s = .next (recErr 8 0x0A { s with hc.cfgbusy := true })) ∧
      (swathActive s = false → hcSize tb.toNat ≤ a.toNat → exec (.hcConfigWrite tb a d) s = .next s) ∧
      (swathActive s = false → a.toNat < hcSize tb.toNat →
        hcBreaks (tset tb.toNat a.toNat v s) tb.toNat a.toNat v.toNat = true →
        exec (.hcConfigWrite tb a d) s = .next (recErr 8 0x0A { s with hc.cfgerr := true })) ∧
      (swathActive s = false → a.toNat < hcSize tb.toNat →
        hcBreaks (tset tb.toNat a.toNat v s) tb.toNat a.toNat v.toNat = false →
        ∃ t, exec (.hcConfigWrite tb a d) s = .next t ∧ tget t tb.toNat a.toNat = v)) ∧
    (∀ w : BitVec 6, inRest s = false → ∃ t, exec (.gateOpen w) s = .next t ∧
      t = { s with hc.hostClosed := t.hc.hostClosed, hc.wdgClosed := t.hc.wdgClosed } ∧
      ∀ g < 32, grp t.hc.hostClosed g = (grp s.hc.hostClosed g && decide (g ∉ hcTargets 32 w.toNat)) ∧
        grp t.hc.wdgClosed g = (grp s.hc.wdgClosed g && decide (g ∉ hcTargets 32 w.toNat))) ∧
    (∀ w : BitVec 6, inRest s = false → ∃ t, exec (.gateClose w) s = .next t ∧
      (∀ g < 32, grp t.hc.hostClosed g = (grp s.hc.hostClosed g || decide (g ∈ hcTargets 32 w.toNat))) ∧
      (∀ g ∈ hcTargets 32 w.toNat, groupGateOpen t g = false) ∧ t.tbl = s.tbl) ∧
    (∀ w : BitVec 6, inRest s = false → (s.hc.jamWait = true → ∃ t, exec (.jamRearm w) s = .next t ∧ inputClosed t 2 = false ∧
        t.hc.jamWait = false ∧ t.host = s.host) ∧
      (s.hc.jamWait = false → inputClosed s 2 = true → refused (.jamRearm w)) ∧
      (s.hc.jamWait = false → inputClosed s 2 = false → exec (.jamRearm w) s = .next s)) ∧
    (∀ i : Fin 3, inputClosed s i = false → logsFree s = true → ∃ t, exec (.gateInputLow i) s = .next t ∧
      (∀ g < 32, groupGateOpen t g = false) ∧ countedOne s t 0x57 (32 + i) ∧ newestError t s.tick 0x0808 ∧
      t.host.irqPend.getLsbD 4 = true ∧ (i = 2 → t.nvm.leesQ = s.nvm.leesQ ++ [leesRec s 8 8 [2]])) ∧
    (∀ i : Fin 3, let g := s.hc.inputs.getD i {}
      g.lowRun = 3 → g.lowAt + 1 = s.tk → ∃ t, exec (.gateInputLow i) s = .next t ∧
        (t.hc.inputs.getD i {}).known = true ∧ (t.hc.inputs.getD i {}).low = true) ∧
    (∀ i : Fin 3, inputClosed s i = true →
      (dwellStart (s.hc.inputs.getD i {}) + dwellTk s i ≤ s.tk → ∃ t, exec (.gateDwellExpiry i) s = .next t ∧
        inputClosed t i = (i == 2) ∧ t.hc.jamWait = (s.hc.jamWait || i == 2) ∧ t.host = s.host) ∧
      (s.tk < dwellStart (s.hc.inputs.getD i {}) + dwellTk s i → exec (.gateDwellExpiry i) s = .next s)) ∧
    (∀ (op : BitVec 4) (w : BitVec 6), inRest s = false → op.toNat < 1 ∨ 8 < op.toNat → refused (.hcReservedOp op w))

/-- Head records and head temperatures (R217, R219, R221, R222, R232, R233): HM_READ starts the reads of the
enabled heads named, whose groups HEADID shuts; a record is stored with its verdict; an attempt that fails is
repeated after 1 ms, up to three times, then error 0x01; a bus fault is counted and fails the attempt. After a read the
head is sent the sense register (R238). A temperature sample, one in each period of the scan, gives T of its calibrated
code; the eighth one in a row above the upper limit shuts TEMP with error 0x06, and eight in the band with the dwell open
it. -/
def Obligations.HeadRecordsAndTemperature : Prop :=
  ∀ (s : State) (h : Fin 32), WfState s → clocked s = true → let r := s.hc.reads.getD h {}
    (∀ w : BitVec 6, inRest s = false → (swathActive s = true ∨ hcTargets 32 w.toNat = [] →
        exec (.hmRead w) s = .next (recErr 8 9 { s with hc.cmderr := true })) ∧
      (swathActive s = false → h.val ∈ hcTargets 32 w.toNat → headEn s h = true → ∃ t, exec (.hmRead w) s = .next t ∧
        (t.hc.reads.getD h {}).busy = true ∧ t.tbl = s.tbl ∧
        ∀ g < 32, headOf s g = some h.val → grp t.hc.headidClosed g = true ∧ groupGateOpen t g = false)) ∧
    (∀ bs : List Byte, bs.length = 64 → r.busy = true → r.active = true → r.retryAt = none → let f := recordFault s h bs
      ∃ t, exec (.hmReadComplete h bs) s = .next t ∧ t.hc.reads.getD h {} = { sent := senseWrite s h } ∧
        (∀ i < 32, tget t 0x50 (32 * h + i) = (packWords bs).getD i 0) ∧
        tget t 0x50 (1024 + h) = word ((if f = 0 then 0x8000 else 0) + 0x4000 + f) ∧
        (f ≠ 0 → ∀ g < 32, headOf s g = some h.val → groupGateOpen t g = false)) ∧
    (r.busy = true → r.active = true → r.retryAt = none → r.tries < 3 → exec (.hmReadRetry h) s = .next { s with
      hc.reads := modifyNth (fun r => { r with tries := r.tries + 1, retryAt := some (s.tk + 250000) }) s.hc.reads h }) ∧
    (r.busy = true → r.active = true → r.retryAt = none → 3 ≤ r.tries → ∃ t, exec (.hmReadRetry h) s = .next t ∧
      t.hc.reads.getD h {} = { sent := r.sent } ∧ tget t 0x50 (1024 + h) = 0x4001 ∧ newestError t s.tick 0x0801) ∧
    (∀ k, r.busy = true → r.active = true → r.retryAt = some k → k ≤ s.tk → exec (.hmReadRetry h) s = .next { s with
      hc.reads := modifyNth (fun r => { r with retryAt := none }) s.hc.reads h }) ∧
    (∀ b : Fin 5, b.val < 4 → headBus s h = b.val → r.busy = true → r.active = true → r.retryAt = none → r.tries < 3 →
      (∀ k < h.val, (s.hc.reads.getD k {}).active = false) → ∃ t, exec (.hmbBusFault b) s = .next t ∧
        countedOne s t 0x5B (2 + b) ∧ t.hc.busFault = s.hc.busFault ||| 2 ^ b.val ∧
        t.hc.reads.getD h {} = { r with tries := r.tries + 1, retryAt := some (s.tk + 250000) }) ∧
    (∀ (code : BitVec 12) (k : Nat), (tempOf s h).scanAt = some k → s.tk < k + tempPeriod s →
      exec (.headTempSample h code) s = .next s) ∧
    (∀ code : BitVec 12, 15 < code.toNat → code.toNat < 4080 → let x := tempOf s h
      let T := tempW s h 1 + (calibratedCode (tempCal s h) code.toNat : Int) * tempW s h 2 / 4096
      (∀ k, x.scanAt = some k → k + tempPeriod s ≤ s.tk) →
      (T ≤ tempW s h 4 → tempW s h 3 ≤ T → x.st = .normal → ∃ t, exec (.headTempSample h code) s = .next t ∧
        (tempOf t h).t = T ∧ (tempOf t h).valid = true ∧ (tempOf t h).at_ = s.tk ∧ (tempOf t h).st = .normal ∧
        (tempOf t h).overRun = 0 ∧ (tempOf t h).underRun = 0 ∧ t.tbl = s.tbl) ∧
      (tempW s h 4 < T → x.st ≠ .over → x.overRun = 7 → logsFree s = true → ∃ t, exec (.headTempSample h code) s = .next t ∧
        (tempOf t h).st = .over ∧ countedOne s t 0x55 (4 * h + 3) ∧ newestError t s.tick 0x0806 ∧
        groupGateOpen t h = false ∧ t.nvm.leesQ = s.nvm.leesQ ++ [leesRec s 8 6 [h.val]]) ∧
      (tempW s h 3 + 8 ≤ T → T ≤ tempW s h 4 - 8 → x.st ≠ .normal → x.bandRun = 7 → tempEn s h = true →
        dwellTk s 3 ≤ s.tk - x.bandFrom → ∃ t, exec (.headTempSample h code) s = .next t ∧ (tempOf t h).st = .normal ∧
          grp t.hc.tempClosed h = false))

/-- Consumables (R225, R226, R228-R231): CONS_AUTH sends a fresh nonce; a reply whose MAC
verifies makes the slot AUTH with its CID and REMAIN, EXHAUSTED and LOW following from them, a swapped cartridge
starting with nothing pending; one that does not verify, or 20 ms of polling, ends AUTH with error 0x03 and shuts
CONS; CONS_SYNC asks for a write-back; a write-back that verifies takes its volume off, and one that fails is
tried again after 10 ms with a fresh nonce, up to three times, then UNSYNCED with error 0x04; a reply of another CID also
clears AUTH and shuts CONS. (What an unwritten key does is log entry 42's; nonces are free values, entry 11.) -/
def Obligations.Consumables : Prop :=
  ∀ (s : State) (f : Fin 8), WfState s → clocked s = true → let c := consOf s f
    let w : BitVec 6 := BitVec.ofNat 6 f.val
    let failed (t : State) : Prop := (consOf t f).auth = false ∧ (consOf t f).authBusy = false ∧
      (∀ g < 32, fluidEn s g = true → fluidOf s g = f.val → groupGateOpen t g = false) ∧ newestError t s.tick 0x0803 ∧
      t.host.irqPend.getLsbD 8 = true ∧ t.nvm.leesQ = s.nvm.leesQ ++ [leesRec s 8 3 [f.val]]
    let retried (t : State) : Prop := countedOne s t 0x53 (16 * f + 10) ∧
      consOf t f = { c with wbTries := c.wbTries + 1, wbRetryAt := some (s.tk + 2500000) }
    (inRest s = false → consEn s f = true → ∃ t, exec (.consAuth w) s = .next t ∧ t.free = s.free + 1 ∧ consOf t f = { c with
      authBusy := true, byCommand := true, nonce := Config.random s.free, pollFrom := s.tk
      sent := 0x01 :: bytesBE 16 (Config.random s.free).toNat }) ∧
    (inRest s = false → consEn s f = false → exec (.consAuth w) s = .next (recErr 8 9 { s with hc.cmderr := true })) ∧
    (inRest s = false → c.auth = true → ∃ t, exec (.consSync w) s = .next t ∧ consOf t f = { c with syncReq := true } ∧
      t = { s with hc.cons := t.hc.cons }) ∧
    (inRest s = false → c.auth = false → exec (.consSync w) s = .next (recErr 8 9 { s with hc.cmderr := true })) ∧
    (∀ r : CartReply, c.authBusy = true →
      (macOk s f 0x81 r = true → let p := if c.byCommand = true ∧ c.seen = true ∧ c.cid ≠ r.cid then 0 else c.pending10
        ∃ t, exec (.consAuthReply f r) s = .next t ∧ consOf t f = { c with
          auth := true, authBusy := false, cid := r.cid, seen := true, remain := r.remain.toNat, pending10 := p
          exhausted := decide (r.remain.toNat * 1000 ≤ p / 10)
          low := decide (r.remain.toNat * 1000 ≤ p / 10 + lowMark s f * 1000) }) ∧
      (macOk s f 0x81 r = false → logsFree s = true → ∃ t, exec (.consAuthReply f r) s = .next t ∧ failed t)) ∧
    (c.authBusy = true → c.pollFrom + 5000000 ≤ s.tk → logsFree s = true →
      ∃ t, exec (.cartridgePollTimeout f) s = .next t ∧ failed t) ∧
    (s.tk < c.pollFrom + 5000000 → exec (.cartridgePollTimeout f) s = .next s) ∧
    (∀ r : CartReply, c.wbBusy = true → c.wbRetryAt = none →
      (macOk s f 0x82 r = true → c.cid = r.cid → r.remain.toNat = c.remain - c.wbDec → ∃ t,
        exec (.consWritebackReply f r) s = .next t ∧ (consOf t f).wbBusy = false ∧ (consOf t f).remain = r.remain.toNat ∧
        (consOf t f).pending10 = c.pending10 - c.wbDec * 10000 ∧ (consOf t f).lastSync = s.tk ∧
        (consOf t f).unsynced = false ∧ (consOf t f).unsyncedClosed = false) ∧
      (macOk s f 0x82 r = false → c.cid = r.cid → c.atEntry = false → c.wbTries < 3 → ∃ t,
        exec (.consWritebackReply f r) s = .next t ∧ retried t) ∧
      (c.cid ≠ r.cid → c.atEntry = false → c.wbTries < 3 → ∃ t, exec (.consWritebackReply f r) s = .next t ∧
        countedOne s t 0x53 (16 * f + 10) ∧
        consOf t f = { c with auth := false, wbTries := c.wbTries + 1, wbRetryAt := some (s.tk + 2500000) } ∧
        ∀ g < 32, fluidEn s g = true → fluidOf s g = f.val → groupGateOpen t g = false) ∧
      (macOk s f 0x82 r = false → c.cid = r.cid → c.atEntry = false → 3 ≤ c.wbTries → logsFree s = true → ∃ t,
        exec (.consWritebackReply f r) s = .next t ∧ consOf t f = { c with wbBusy := false, unsynced := true } ∧
        newestError t s.tick 0x0804 ∧ t.host.irqPend.getLsbD 8 = true)) ∧
    (∀ k, c.wbBusy = true → c.wbRetryAt = some k → k ≤ s.tk → ∃ t, exec (.consWritebackRetry f) s = .next t ∧
      consOf t f = { c with
        wbRetryAt := none, nonce := Config.random s.free, pollFrom := s.tk
        sent := consMessage s f (Config.random s.free) (some c.wbDec) })

/-- Nozzle signatures (R216, R240-R242, R245): a burst's slot, corrected by its sampler's offset (R380), is compared with its template; the verdict joins the
nozzle's history of eight, and a nozzle with SIGLIM bad verdicts is declared out with error 0x0B; a slot with a
saturated sample is not judged, only counted. NZ_RESET clears the histories and waits of its groups; TPL_LEARN
learns for 1 s, then the templates become the rounded means of what was taken. -/
def Obligations.NozzleSignatures : Prop :=
  ∀ s : State, WfState s → clocked s = true →
    (∀ w : BitVec 6, inRest s = false → (swathActive s = false → hcTargets 32 w.toNat ≠ [] → exec (.nzReset w) s = .next { s with
        hc.nozzles := s.hc.nozzles.map (fun z =>
          if z.channel / 8 ∈ hcTargets 32 w.toNat then { z with wait := 0, history := [] } else z) }) ∧
      (swathActive s = true → exec (.nzReset w) s = .next (recErr 8 9 { s with hc.cmderr := true })) ∧
      (s.hc.learn = none → exec (.tplLearn w) s = .next { s with
        hc.learn := some { wf := w.toNat, until_ := s.tk + 250000000 } }) ∧
      (s.hc.learn.isSome = true → exec (.tplLearn w) s = .next (recErr 8 9 { s with hc.cmderr := true }))) ∧
    (∀ l : Learn, s.hc.learn = some l → l.wf < 64 → l.sums.length = 3 → (∀ u ∈ l.sums, u.length ≤ 64) →
      (l.until_ ≤ s.tk → ∃ t, exec .tplLearnEnd s = .next t ∧ t.hc = { s.hc with learn := none } ∧
        ∀ x, 1 ≤ x → x ≤ 3 → ∀ i < 64, templateByte t l.wf x i =
          if l.counts.getD (x - 1) 0 ≠ 0 ∧ i < (l.sums.getD (x - 1) []).length then
            (roundDiv ((l.sums.getD (x - 1) []).getD i 0) (l.counts.getD (x - 1) 0)).toNat % 256
          else templateByte s l.wf x i) ∧
      (s.tk < l.until_ → (∃ k ∈ l.counts, k < 64) → exec .tplLearnEnd s = .next s)) ∧
    (∀ (g : Fin 32) (slots : List (List Byte)) (b : Burst) (row : Nat × Nat × Nat), slots.length = 8 →
      (∀ l ∈ slots, l.length = sigLen s g) → s.hc.bursts = [b] → b.group = g.val → b.sampler.isSome = true → b.stop ≤ s.tk →
      b.rows = some row :: List.replicate 7 none → s.hc.learn = none →
      let slot := samplerBytes s b (slots.getD 0 [])
      let z := nozzleOf s (8 * g) row.1
      let bad := decide (tnat s 0x59 (8 * g + 2) < slotSad s row.2.1 row.2.2 slot)
      let hist := (bad :: z.history).take 8
      let out := decide (max 1 (bits (tnat s 0x59 (8 * g + 3)) 3 0) ≤ (hist.filter id).length) && !outNow s (8 * g) row.1
      ((∃ x ∈ slot, x = 0 ∨ x = 255) → ∃ t, exec (.signatureBurst g slots) s = .next t ∧ countedOne s t 0x5B 8 ∧
        t.hc = { s.hc with bursts := [] }) ∧
      ((∀ x ∈ slot, x ≠ 0 ∧ x ≠ 255) → ∃ t, exec (.signatureBurst g slots) s = .next t ∧ t.hc.bursts = [] ∧
        nozzleOf t (8 * g) row.1 = { z with history := hist, fires := 0 } ∧
        (out = false → t.hc.prepared = s.hc.prepared) ∧
        (out = true → logsFree s = true → newestError t s.tick 0x080B ∧ ∃ e, t.hc.prepared = s.hc.prepared ++ [e] ∧
          e.channel = 8 * g.val ∧ e.nozzle = row.1)))

/-- The drive of an axis (R252, R261, R263, R264, R268, R269), by the commands of MOT_CMD on the axis selected:
ENABLE and CLEAR_FAULT with the brake's delay, out of hold, DISABLE at rest, the brake commands, HOME and SET_POS, which
has a plan before its t0 made anew, and CAM_ENGAGE, which a prepared transaction that touches axis or cam holds (R43); what
is refused sets REFUSED with error 0x01 and MOT, the reserved OPs too. The brake's delay ends,
hold is entered after the standstill, a supply fault cuts the axis with error 0x05. (Duties between ENABLE and the first
PWM period, the standstill counted anew, a GO that CAM_ENGAGE discards: log entries 130 and 161.) -/
def Obligations.AxisDrive : Prop :=
  ∀ (s : State) (n : Fin 8), WfState s → clocked s = true → s.mot.sel = n.val →
    let ready : Prop := s.pwr.entering = none ∧ inRest s = false
    let a := axisOf s n
    let delay := s.tk + 250000 * axW s n 24
    let go (i : Instr) (a' : Axis) : Prop := exec i s = .next (axisTo s n a')
    let refused (i : Instr) : Prop := exec i s = .next (motRefused s n 1)
    (ready →
      (exec .motNone s = .next s) ∧ (∀ op : BitVec 4, 13 ≤ op.toNat → refused (.motReservedOp op)) ∧
      (a.en = false → a.fault = false → go .axisEnable { a with
        en := true, restFrom := s.tk, hold := false, dutyA := 0, dutyB := 0, dutyBOld := 0
        drive := if brkAuto s n then .enabling delay else .on }) ∧
      (a.en = true ∨ a.fault = true → refused .axisEnable) ∧
      (a.en = true → disableRuns a = true → exec .axisDisable s = .next s) ∧
      (a.en = true → disableRuns a = false → axMoving s n = false → brkAuto s n = true → go .axisDisable { a with
        next := none, heldGo := none, heldCam := none, goWait := none, waitTurn := false, braked := true
        drive := .brakeWait delay }) ∧
      (a.en = true → disableRuns a = false → axMoving s n = false → brkAuto s n = false → go .axisDisable { a with
        next := none, heldGo := none, heldCam := none, goWait := none, waitTurn := false, braked := true
        en := false, hold := false, drive := .off }) ∧
      (a.en = false → exec .axisDisable s = .next s ∧ refused .axisGo ∧ refused .axisStop ∧ refused .axisQstop ∧
        refused .axisHome ∧ refused .brakeRelease ∧ refused .camEngage) ∧
      (a.en = true → go .brakeRelease { a with braked := false } ∧ go .axisHome { a with homeArmed := true }) ∧
      (axMoving s n = false → go .brakeEngage { a with braked := true } ∧
        let x := tint32 s 0x61 (32 * n + 13) * 4294967296
        (a.next = none → go .axisSetPos { a with
          x := x, xofs := if n.val < 4 then a.xofs + (a.x - x) else a.xofs
          step := { a.step with pos := tint32 s 0x61 (32 * n + 13) } }) ∧
        (∀ p, a.next = some p → p.byGo = true → p.mode ≠ 2 → ∃ t q, exec .axisSetPos s = .next t ∧ (axisOf t n).x = x ∧
          (axisOf t n).next = some q ∧ q.t0 = p.t0 ∧ q.endX = limitTarget t n p.target * 4294967296 ∧ q.endV = 0)) ∧
      (axMoving s n = true → refused .brakeEngage ∧ refused .axisSetPos ∧ refused .camEngage) ∧
      (supplyBad s n = false → a.en = false ∨ disableRuns a = true → go .axisClearFault { a with fault := false }) ∧
      (a.fault = true → supplyBad s n = false → a.en = true → disableRuns a = false → go .axisClearFault { a with
        fault := false, restFrom := s.tk, hold := false, dutyA := 0, dutyB := 0, dutyBOld := 0
        drive := if brkAuto s n then .enabling delay else .on }) ∧
      (a.en = true → supplyBad s n = true → refused .axisClearFault) ∧
      (a.en = true → axMoving s n = false → let k := bits (tnat s 0x61 (32 * n)) 1 0
        let w := tnat s 0x61 (32 * n + 3)
        let c : Cam := { table := k, encoder := bit w 15, unit := bits w 2 0, morigin := 0, sorigin := 0 }
        let b : Axis := { a with hold := false, next := none, heldGo := none, goWait := none, waitTurn := false }
        camValid s k = true → (c.encoder = true ∨ c.unit ≠ n.val) →
        (axisHeld s n = false → camHeld s k = false → go .camEngage { b with
          heldCam := none
          cam := some { c with morigin := masterPos s c s.tk, sorigin := a.x - camPoint s k 0 * 4294967296 } }) ∧
        (axisHeld s n = true ∨ camHeld s k = true → go .camEngage { b with
          heldCam := some c, restFrom := if a.hold then s.tk else a.restFrom })) ∧
      (a.cam = none → refused .camDisengage)) ∧
    (∀ k, a.drive = .enabling k → a.heldGo = none → k ≤ s.tk → go (.brkDelayExpiry n) { a with
      drive := .on, braked := false }) ∧
    (∀ k, a.drive = .brakeWait k → k ≤ s.tk → go (.brkDelayExpiry n) { a with drive := .off, en := false, hold := false }) ∧
    (a.en = true → a.fault = false → a.plan = none → a.next = none → a.cam = none → a.v = 0 →
      a.restFrom + 250000 * (if axW s n 15 = 0 then 200 else axW s n 15) ≤ s.tk →
      go (.holdEntry n) { a with hold := true }) ∧
    (a.en = true → a.fault = false → supplyBad s n = true → logsFree s = true →
      ∃ t, exec (.motSupplyFault n) s = .next t ∧ newestError t s.tick 0x0905 ∧ t.host.irqPend.getLsbD 9 = true ∧
        t.nvm.leesQ = s.nvm.leesQ ++ [leesRec s 9 5 [n.val]] ∧ axisOf t n = { a with
          x := axisX s n, v := 0, fault := true, braked := true, plan := none, next := none, cam := none
          heldGo := none, heldCam := none, goWait := none, waitTurn := false, hold := false
          drive := match a.drive with
            | .disabling => .brakeWait delay
            | .brakeWait k => .brakeWait k
            | _ => .on } ∧
        ∀ m : Fin 8, m ≠ n → axisOf t m = axisOf s m)

/-- Profiles (R253-R257, R262-R266): GO plans from its t0 to the target, which the virtual limits bound with LIMIT
and error 0x03; a swath GO waits for a permit, out of hold, and takes the first; STOP and QSTOP bring the axis to rest; at
t0 the plan takes over, unless a prepared transaction holds an axis at rest (R43), and at its end the axis stands where the
plan ends, with ATTGT and MOT. A virtual limit ahead stops the axis; a reference edge latches the position that stood at
the pin edge; a cam ends at MSPAN, or with CAMERR and error 0x07 above VMAX, and not else; a PWM period begins once in
5,120 TK, and its duties stay within their limit. (The standstill after a waiting GO: log entry 161.) -/
def Obligations.AxisProfiles : Prop :=
  ∀ (s : State) (n : Fin 8), WfState s → clocked s = true → s.mot.sel = n.val →
    let ready : Prop := s.pwr.entering = none ∧ inRest s = false
    let a := axisOf s n
    let m := stagedMove s n
    let others (t : State) : Prop := ∀ k : Fin 8, k ≠ n → axisOf t k = axisOf s k
    (ready → goRefused s n = false → m.mode = 0 → m.swath = false → axisHeld s n = false → a.drive = .on →
      let x := limitTarget s n m.target
      ∃ t p, exec .axisGo s = .next t ∧ others t ∧ p.t0 = s.tk + (if a.hold then 5120 else 2500) ∧
        p.endX = x * 4294967296 ∧ p.endV = 0 ∧ axisOf t n = { a with
          mode := 0, target := x, next := some p, hold := false, goWait := none, heldGo := none, heldCam := none
          waitTurn := false, planVmax := axW32 s n 1, limit := a.limit || decide (x ≠ m.target) } ∧
        (x = m.target → t.host = s.host) ∧ (x ≠ m.target → newestError t s.tick 0x0903)) ∧
    (ready → goRefused s n = true → exec .axisGo s = .next (motRefused s n 1)) ∧
    (ready → goRefused s n = false → m.mode = 1 → axMoving s n = true → exec .axisGo s = .next (motRefused s n 2)) ∧
    (ready → goRefused s n = false → m.mode = 0 → m.swath = true → axisHeld s n = false → a.drive = .on → a.plan = none →
      s.mot.permits = [] → exec .axisGo s = .next (axisTo s n { a with
        goWait := some m, waitTurn := true, heldGo := none, heldCam := none, hold := false
        restFrom := if a.hold then s.tk else a.restFrom, next := if a.next.any (·.byGo) then none else a.next })) ∧
    (∀ v rest mv, waitingAxis s = some (n.val, mv) → axisHeld s n = false → s.mot.permits = v :: rest →
      let cl := v * 1000 * tnat32 s 0x60 257 / 4194304
      ∃ t, exec .permitTake s = .next t ∧ others t ∧ t.mot.permits = rest ∧ (axisOf t n).goWait = none ∧
        (axisOf t n).waitTurn = false ∧ (axisOf t n).planVmax = min cl (axW32 s n 1) ∧
        (∃ p, (axisOf t n).next = some p ∧ p.cap = some cl ∧ p.t0 = s.tk + (if a.hold then 5120 else 2500)) ∧
        (cl < axW32 s n 1 → (axisOf t n).clamped = true)) ∧
    (ready → a.en = true → a.cam = none →
      (∃ p, exec .axisStop s = .next (axisTo s n { a with
        mode := 0, target := p.endX / 4294967296, next := some p, hold := false, goWait := none, heldGo := none
        heldCam := none, waitTurn := false }) ∧ p.t0 = s.tk + (if a.hold then 5120 else 2500) ∧ p.endV = 0) ∧
      (∃ p, exec .axisQstop s = .next (axisTo s n { a with
        mode := 0, target := p.endX / 4294967296, plan := some p, next := none, goWait := none, heldGo := none
        heldCam := none, waitTurn := false, attgt := false }) ∧ p.t0 = s.tk ∧ p.endV = 0 ∧ p.qstop = true)) ∧
    (ready → a.en = true → disableRuns a = false → a.plan.isSome = true → a.cam = none → ∃ t p, exec .axisDisable s = .next t ∧ others t ∧
      (axisOf t n).drive = .disabling ∧ (axisOf t n).next = some p ∧ p.endV = 0) ∧
    (∀ c, a.cam = some c → ready → ∃ t p, exec .camDisengage s = .next t ∧ others t ∧ (axisOf t n).cam = none ∧
      (axisOf t n).next = some p ∧ p.endV = 0 ∧ (axisOf t n).mode = 0) ∧
    (∀ p, a.next = some p → p.t0 ≤ s.tk → axMoving s n = true ∨ axisHeld s n = false →
      exec (.planStart n) s = .next (axisTo s n { a with plan := some p, next := none, attgt := false })) ∧
    (axMoving s n = false → axisHeld s n = true → exec (.planStart n) s = .next s) ∧
    (∀ p, a.plan = some p → a.attgt = false → p.segs ≠ [] → segsDur p.segs ≤ (s.tk - p.t0) * 65536 → p.endV = 0 →
      a.drive = .on → a.heldGo = none → exec (.planEnd n) s = .next (raise 9 (axisTo s n { a with
        attgt := true, plan := none, x := (clampPos { x := p.endX, v := 0, a := 0 }).x, v := 0, restFrom := s.tk }))) ∧
    (∀ p lim, a.plan = some p → a.cam = none → a.mode = 2 → limitReached s n = some lim → ∃ t, exec (.vlimitStop n) s = .next t ∧
      others t ∧ (axisOf t n).limit = true ∧ countedOne s t 0x61 (32 * n + 21) ∧ (axisOf t n).mode = 0 ∧
      (canStopAt s n lim = true → ∃ q, (axisOf t n).plan = some q ∧ q.endX = lim * 4294967296 ∧ q.endV = 0) ∧
      (canStopAt s n lim = false → logsFree s = true → newestError t s.tick 0x0904 ∧
        ∃ q, (axisOf t n).plan = some q ∧ q.qstop = true)) ∧
    (∀ l : Bool, let x := smpPut l a.smpRef
      exec (.refLevelKnown n l) s = .next (axisTo s n { a with
        smpRef := x, refLevel := match a.refLevel with | some y => some y | none => smpFirst (refFilt s n) x }) ∧
      (∀ y, a.refLevel = some y → smpLevel (refFilt s n) (some y) x = some y →
        exec (.refEdge n l) s = .next (axisTo s n { a with smpRef := x })) ∧
      (a.refLevel = some (!l) → smpLevel (refFilt s n) (some (!l)) x = some l → a.homeArmed = true →
        bits (axW s n 0) 10 9 = (if l then 0 else 1) → bit (axW s n 0) 8 = false →
        exec (.refEdge n l) s = .next (raise 9 (axisTo s n { a with
          smpRef := x, refLevel := some l, latched := true, homeArmed := false
          latch := a.past.getD (refFilt s n + 2) 0 / 4294967296 })))) ∧
    (∀ c, a.cam = some c →
      (bit (tnat s 0x63 (4 * c.table)) 15 = false → camSpan s c.table * 4294967296 ≤ masterPos s c s.tk - c.morigin →
        exec (.camEnd n) s = .next (axisTo s n { a with
          cam := none, x := axisX s n, v := 0, mode := 0, target := axisX s n / 4294967296, restFrom := s.tk })) ∧
      ((axW32 s n 1 : Int) * 4294967296 < (axisKin s n s.tk).v.natAbs →
        ∃ t, exec (.camOverspeed n) s = .next t ∧ others t ∧ (axisOf t n).cam = none ∧ (axisOf t n).camerr = true ∧
          newestError t s.tick 0x0907) ∧
      ((axisKin s n s.tk).v.natAbs ≤ (axW32 s n 1 : Int) * 4294967296 → exec (.camOverspeed n) s = .next s)) ∧
    (∀ k, s.mot.pwmAt = some k → s.tk < k + 5120 → exec .bridgePwmPeriod s = .next s) ∧
    (n.val < 4 → a.en = true → a.fault = false → (∀ k, s.mot.pwmAt = some k → k + 5120 ≤ s.tk) →
      ∃ t, exec .bridgePwmPeriod s = .next t ∧
      let lim : Int := 5120 - 2 * (axW s n 22 % 256 : Nat)
      (axisOf t n).dutyA ≤ lim ∧ -lim ≤ (axisOf t n).dutyA ∧ (axisOf t n).dutyB ≤ lim ∧ -lim ≤ (axisOf t n).dutyB ∧
      (axisOf t n).x = a.x ∧ (axisOf t n).plan = a.plan)

/-- VLV_CMD (R282, R293, R294): every write sets CHAN; NONE does nothing more; OPEN starts the profile at phase 0
with r and the integrator at 0, and is refused while the channel runs, is not enabled, holds a fault or is an odd
channel of a pair, or the profile does not fit it; it is held while a prepared transaction touches channel or profile
(R43); CLOSE waits for the next TK 256; OFF and OFF_ALL lower the gates and enter switch-off at once; a reserved OP and a
refused OPEN set REFUSED, record error 0x01 and raise VLV. -/
def Obligations.ValveCommands : Prop :=
  ∀ (s : State) (n p : BitVec 4), WfState s → clocked s = true → s.pwr.entering = none → inRest s = false →
    let s1 := { s with vlvSel := n.toNat }
    let v := valveOf s n.toNat
    let m := vlvMaster s n.toNat
    let refused := raise 10 (recErr 0x0A 1 (valveTo s1 n.toNat { v with refused := true }))
    let pw := tnat s 0x71 (32 * p.toNat + 1)
    (exec (.vlvNone n) s = .next s1) ∧
    (∀ op : BitVec 4, 5 ≤ op.toNat → exec (.vlvReservedOp op p n) s = .next refused) ∧
    (v.running = true ∨ v.heldOpen.isSome = true ∨ vlvEn s n.toNat = false ∨ v.stuck = true ∨ v.tmo = true ∨
        v.overcur = true ∨ v.share = true ∨ (m ≠ n.toNat) ∨ profCheck s p.toNat = false ∨
        (∃ i < profPhases s p.toNat, vlvLimit s n.toNat ≤ phTarget s p.toNat i) ∨
        (vlvPossrc s n.toNat = 0 ∧ (pw ≠ 0 ∨
          ∃ i < profPhases s p.toNat, phEnd s p.toNat i = 1 ∨ phEnd s p.toNat i = 2)) →
      exec (.vlvOpen p n) s = .next refused) ∧
    (openRefused s n.toNat p.toNat = false → valveHeld s n.toNat p.toNat = true →
      exec (.vlvOpen p n) s = .next (valveTo s1 n.toNat { v with heldOpen := some p.toNat })) ∧
    (openRefused s n.toNat p.toNat = false → valveHeld s n.toNat p.toNat = false →
      exec (.vlvOpen p n) s = .next (valveTo s1 n.toNat { v with
        running := true, faultBr := false, relBr := false, offing := false, profile := p.toNat, phase := 0
        phaseFrom := s.tk, rampFrom := 0, r := 0, acc := 0, curRun := 0, ocRun := 0, shareRun := 0
        closePend := false, heldOpen := none, seenInactive := v.posknown && !v.posact
        checkEnd := if pw = 0 then none else some (s.tk + pw * 25000) })) ∧
    (v.heldOpen = none → v.running = true → v.offing = false → v.faultBr = false → v.relBr = false →
      exec (.vlvClose n) s = .next (valveTo s1 n.toNat { v with closePend := true })) ∧
    (v.heldOpen = none → v.running = false → exec (.vlvClose n) s = .next s1) ∧
    (v.heldOpen.isSome = true → exec (.vlvClose n) s = .next (valveTo s1 n.toNat { v with heldOpen := none })) ∧
    (let w := valveOf s m
     (w.running = true → w.offing = false → exec (.vlvOff n) s = .next (valveTo s1 m { w with
       heldOpen := none, offing := true, offFrom := s.tk, gates := .off, d := 0, dPartner := 0, acc := 0, r := 0
       closePend := false, idleRun := 0 })) ∧
     (w.running = false ∨ w.offing = true → exec (.vlvOff n) s = .next (valveTo s1 m { w with heldOpen := none }))) ∧
    (∃ t, exec (.vlvOffAll n) s = .next t ∧ t = { s1 with vlv := t.vlv } ∧
      ∀ k < 16, vlvMaster s k = k → (valveOf s k).running = true → (valveOf t k).offing = true ∧
        ((valveOf s k).offing = false → (valveOf t k).gates = .off ∧ (valveOf t k).d = 0))

/-- Supervision of the valve channels (R276, R277, R282-R288, R292), shown for a channel that is not one of a pair:
outside the TK its period starts in, every 50 µs, a sample does nothing, and in it only the sample is kept; 100 TK later its
conversion result is judged, where the second sample in a row at the limit switches off with error 0x04, and the second low
one taken in switch-off ends that with VLV raised; 256 TK after the start the phase is judged, one of END time that has
lasted DUR gives way to the next or to switch-off, and the duty of the period stays within the limit. No other channel
changes. A movement check that ran out, and a switch-off longer than 50 ms, record errors 0x02 and 0x06 with their lees
records; a position pin is filtered, a valve-position input judged with its hysteresis. (A movement check that runs out in
switch-off, log entry 163; the converters, entry 158.) -/
def Obligations.ValveSupervision : Prop :=
  ∀ (s : State) (n : Fin 16), WfState s → clocked s = true → vlvPaired s n = false → logsFree s = true →
    let v := valveOf s n
    let others (t : State) : Prop := ∀ m : Fin 16, m ≠ n → valveOf t m = valveOf s m
    let logged (t : State) (code : Nat) : Prop := newestError t s.tick (word (0x0A00 + code)) ∧
      t.nvm.leesQ = s.nvm.leesQ ++ [leesRec s 0x0A code [n.val]] ∧ t.host.irqPend.getLsbD 10 = true
    (∀ c d : BitVec 10,
      (s.tick.toNat % 12500 ≠ 3125 * (n.val % 4) → exec (.valvePeriod n c d) s = .next s) ∧
      (s.tick.toNat % 12500 = 3125 * (n.val % 4) → v.sample = none → exec (.valvePeriod n c d) s = .next (valveTo s n { v with
        sample := some { at_ := s.tk, code := c.toNat, partner := d.toNat, known := v.posknown, act := v.posact } }))) ∧
    (∀ p, v.sample = some p → s.tk = p.at_ + 100 → let t := vlvTick n s
      (v.running = true → v.offing = false → v.ocRun = 1 → (vlvLimit s n : Int) ≤ vlvAmps s n p.code →
        others t ∧ logged t 4 ∧ (valveOf t n).overcur = true ∧ (valveOf t n).offing = true ∧
        (valveOf t n).gates = .off ∧ (valveOf t n).d = 0 ∧ (valveOf t n).offFrom = s.tk) ∧
      (v.offing = true → v.idleRun = 1 → v.offFrom ≤ p.at_ → vlvCode s n p.code ≤ 4 →
        vlvAmps s n p.code < (vlvLimit s n : Int) → others t ∧
        (valveOf t n).running = false ∧ (valveOf t n).offing = false ∧ (valveOf t n).gates = .off ∧ t.tbl = s.tbl ∧
        t.host.irqPend.getLsbD 10 = true)) ∧
    (∀ p, v.sample = some p → s.tk = p.at_ + 256 → v.running = true → v.offing = false → let t := vlvTick n s
      others t ∧ (valveOf t n).sample = none ∧
      ((valveOf t n).d : Int) ≤ 12500 - 256 - 2 * (vlvW s n 6 % 256 : Nat) ∧
      (v.kept = none → v.shareRun < 8 → v.closePend = false → phEnd s v.profile v.phase = 0 →
        phDur s v.profile v.phase * 25000 ≤ s.tk - v.phaseFrom →
        (phLast s v.profile v.phase = false → v.phase + 1 < profPhases s v.profile →
          (valveOf t n).phase = v.phase + 1 ∧ (valveOf t n).phaseFrom = s.tk) ∧
        (phLast s v.profile v.phase = true ∨ profPhases s v.profile ≤ v.phase + 1 →
          (valveOf t n).offing = true ∧ (valveOf t n).gates = .off ∧ (valveOf t n).offFrom = s.tk))) ∧
    (∀ k, v.checkEnd = some k →
      (s.tk < k → exec (.pullWindowExpiry n) s = .next s) ∧
      (k ≤ s.tk → v.running = true → ∃ t, exec (.pullWindowExpiry n) s = .next t ∧ others t ∧ logged t 2 ∧
        (valveOf t n).stuck = true ∧ countedOne s t 0x72 (8 * n + 5) ∧ (valveOf t n).checkEnd = none ∧
        (v.offing = true → (valveOf t n).offing = true ∧ (valveOf t n).offFrom = v.offFrom) ∧
        (v.kept = none → v.offing = false → v.faultBr = false → v.relBr = false → let f := profFault s v.profile
          (valveOf t n).faultBr = true ∧ (f = 0 → (valveOf t n).offing = true ∧ (valveOf t n).gates = .off) ∧
          (f ≠ 0 → (valveOf t n).phase = f - 1 ∧ (valveOf t n).phaseFrom = s.tk)))) ∧
    (v.offing = true → (v.offFrom + 12500000 ≤ s.tk → ∃ t, exec (.switchoffTimeout n) s = .next t ∧ others t ∧ logged t 6 ∧
        (valveOf t n).running = false ∧ (valveOf t n).offing = false ∧ (valveOf t n).gates = .off) ∧
      (s.tk < v.offFrom + 12500000 → exec (.switchoffTimeout n) s = .next s)) ∧
    (∀ (l : Bool) (c : BitVec 12), let x := smpPut l v.smpPos
      let pol := vlvPospol s n
      let lev := if v.posknown then smpLevel (vlvFilt s n) (some (v.posact == pol)) x else smpFirst (vlvFilt s n) x
      exec (.valvePositionSense (.pin n) l c) s = .next (valveTo s n (if vlvPossrc s n = 1 then
        { v with smpPos := x, posknown := lev.isSome, posact := lev == some pol } else { v with smpPos := x }))) ∧
    (∀ (i : Fin 8) (l : Bool) (c : BitVec 12), let pol := vlvPospol s n
      let thr := vlvW s n 5 % 4096
      let hys := 8 * bits (vlvW s n 0) 3 0
      let code := calibratedCode (senseCal s) c.toNat
      ∃ t, exec (.valvePositionSense (.ain i) l c) s = .next t ∧ t = { s with vlv := t.vlv } ∧
        (vlvPossrc s n ≠ 2 ∨ bits (vlvW s n 0) 11 9 ≠ i.val ∨ (∃ k, v.posAt = some k ∧ s.tk < k + 24000) →
          valveOf t n = v) ∧
        (vlvPossrc s n = 2 → bits (vlvW s n 0) 11 9 = i.val → (∀ k, v.posAt = some k → k + 24000 ≤ s.tk) →
          (c.toNat ≤ 15 ∨ 4080 ≤ c.toNat → (valveOf t n).posknown = false ∧ (valveOf t n).posact = false) ∧
          (15 < c.toNat → c.toNat < 4080 → (valveOf t n).posknown = true ∧
            (thr + hys < code → (valveOf t n).posact = pol) ∧
            (code ≤ thr + hys → code + hys < thr → (valveOf t n).posact = !pol) ∧
            (code ≤ thr + hys → thr ≤ code + hys → (valveOf t n).posact = v.posact))))

/-- RAIL_CTL, PFW_CTL, the clear of PFW, and the writes of the rail tables (R305, R308, R312, R318, R319, R324):
NONE does nothing; ON puts the rails in the target; OFF takes them and their dependants out of it, to drain from the next
scan end on, CLEAR ends FAIL, ALLOFF takes all but the SELF rails; a refused command sets CMDERR with error 0x07 and RAIL.
PFW clears only where no trip and no flag stands. FORCE that makes nPFW low raises RAIL (R73). A write for a SELF rail is refused with CFGERR, one for a rail that is not OFF or FAIL
with CFGBUSY, both with error 0x06. -/
def Obligations.RailCommands : Prop :=
  ∀ (s : State) (mask : BitVec 10), WfState s → clocked s = true → s.pwr.entering = none → inRest s = false →
    let rs := railsOf mask.toNat
    let refused (i : Instr) : Prop := exec i s = .next (raise 11 (recErr 0x0B 7 { s with rail.cmderr := true }))
    let drained (h : RailCh) : RailCh := { h with
      target := false, pending := false, leaving := h.leaving || h.st == .ramp || h.st == .good
      st := if h.st = .wait then .off else h.st }
    let gives (i : Instr) (f : Nat → RailCh → RailCh) : Prop := ∃ t, exec i s = .next t ∧
      t = { s with rail.rails := t.rail.rails } ∧ ∀ r < 12, railOf t r = f r (railOf s r)
    exec (.railNone mask) s = .next s ∧ (∀ op : BitVec 3, 5 ≤ op.toNat → refused (.railReservedOp op mask)) ∧
    (onRefused s rs = true → refused (.railOn mask)) ∧
    (onRefused s rs = false → gives (.railOn mask) fun r h => if r ∈ rs then { h with target := true } else h) ∧
    (rs.any (railSelf s) = true → refused (.railOff mask)) ∧
    (rs.any (railSelf s) = false → gives (.railOff mask) fun r h =>
      if r ∈ railDependants s rs ∧ r < 10 ∧ railSelf s r = false then drained h else h) ∧
    (gives (.railClear mask) fun r h => if r ∈ rs ∧ h.st = .fail then { h with st := .off } else h) ∧
    (gives (.railAllOff mask) fun r h => if r < 10 ∧ railSelf s r = false then drained h else h) ∧
    (s.rail.cmptrip = true ∨ (∃ r < 12, (railOf s r).uv = true ∨ (railOf s r).ov = true) → exec .pfwClear s = .next s) ∧
    (s.rail.cmptrip = false → (∀ r < 12, (railOf s r).uv = false ∧ (railOf s r).ov = false) →
      exec .pfwClear s = .next { s with
        rail.pfw := false, rail.barred := false, nvm.leesQ := s.nvm.leesQ ++ s.nvm.barredQ, nvm.barredQ := [] }) ∧
    (∀ d : Word, let s1 : State := { s with
        rail.cmpen := d.getLsbD 15, rail.force := d.getLsbD 14, rail.hold := min 500 (max 1 (d.toNat % 512)) }
      exec (.pfwCtlWrite d) s =
        .next (if s.rail.pfw = false ∧ s.rail.force = false ∧ d.getLsbD 14 = true then raise 11 s1 else s1)) ∧
    (∀ (r : Fin 12) (o : Fin 10) (d : Word), let i := Instr.railConfigWrite 0x78 (BitVec.ofNat 24 (16 * r + o)) d
      let no (s1 : State) : Prop := exec i s = .next (raise 11 (recErr 0x0B (16 * r + 6) s1))
      (railSelf s r = true ∨ railWordBad r o d.toNat = true → no { s with rail.cfgerr := true }) ∧
      (railSelf s r = false → railWordBad r o d.toNat = false → r.val < 10 →
        ((railOf s r).st ≠ .off → (railOf s r).st ≠ .fail → no { s with rail.cfgbusy := true }) ∧
        ((railOf s r).st = .off ∨ (railOf s r).st = .fail →
          exec i s = .next (tset 0x78 (16 * r + o) (word (railKeep r o d.toNat)) s))) ∧
      (railSelf s r = false → railWordBad r o d.toNat = false → 10 ≤ r.val →
        ((∃ q < 10, bit (railDeps s q) r = true ∧ (railOf s q).ren = true) → no { s with rail.cfgbusy := true }) ∧
        ((∀ q < 10, bit (railDeps s q) r = true → (railOf s q).ren = false) →
          exec i s = .next (tset 0x78 (16 * r + o) (word (railKeep r o d.toNat)) s)))) ∧
    (∀ (g : Fin 32) (d : Word), let i := Instr.railConfigWrite 0x7A (BitVec.ofNat 24 g) d
      (swathActive s = true → exec i s = .next (raise 11 (recErr 0x0B 6 { s with rail.cfgbusy := true }))) ∧
      (swathActive s = false → ∃ t, exec i s = .next t ∧ tget t 0x7A g = d &&& 0x0FFF ∧ t.rail = s.rail ∧
        grp t.hc.railClosed g = (s.rail.selfFault || (List.range 12).any fun r => d.getLsbD r && !railGood s r))) ∧
    (∀ a : Fin 96, (5 ≤ a.val % 8 → exec (.railCounterClear a) s = .next s) ∧
      (a.val % 8 < 5 → logsFree s = true → ∃ t, exec (.railCounterClear a) s = .next t ∧ tget t 0x7C a = 0 ∧
        t.nvm.leesQ = s.nvm.leesQ ++ [leesRec s 0x0B (16 * (a.val / 8) + 10) [a.val, 0, 0]] ∧ t.rail = s.rail ∧ t.host = s.host))

/-- What the rail block does by itself (R299, R300, R303, R304, R306, R308-R312, R315, R321): a scan end, once in each
scan period, takes in each rail's voltage, from its calibrated code, makes a rail that qualifies GOOD, starts one with no
dependencies, has one that was taken out of the target leave GOOD, and declares an under-voltage
with PFW, FAULTEV, RAIL, its counter and the groups' RAIL gate; start failures, forced offs and comparator trips
record their errors; the hold of a fault takes its set out of the target, or resets the core for a SELF rail; margins walk
one step each 25,000 TK; CMPTRIP clears once RMON11 has stood above the threshold for 25,000 TK; the retry of
self-sequencing starts. (The level that the comparator's two commands carry, and the grid of the margin steps: log entry
165.) -/
def Obligations.RailSupervision : Prop :=
  ∀ (s : State) (r : Fin 10), WfState s → isUp s = true → s.pwr.state ≤ 4 → railSelf s r = false →
    let h := railOf s r
    let filt := if tnat s 0x78 (16 * r + 9) % 16 = 0 then 2 else tnat s 0x78 (16 * r + 9) % 16
    let counted (t : State) (i : Nat) : Prop := countedOne s t 0x7C (8 * r + i) ∧ t.host.irqPend.getLsbD 11 = true
    (∀ codes : List (BitVec 12), codes.length = 12 → s.tk < s.rail.lastScan + scanPeriod s →
      exec (.railScanEnd codes) s = .next s) ∧
    (∀ codes : List (BitVec 12), codes.length = 12 → s.rail.lastScan + scanPeriod s ≤ s.tk →
      ∃ t, exec (.railScanEnd codes) s = .next t ∧
      let code (q : Nat) : Nat := (codes.getD q 0).toNat
      let v (q : Nat) : Nat := calibratedCode (railCal s) (code q) * tnat s 0x78 (16 * q + 1) / 4096
      (∀ q < 12, (railOf t q).code = code q ∧ (railOf t q).v = v q ∧ (railOf t q).vAt = some s.tk) ∧
      t.rail.lastScan ≤ s.tk ∧ s.tk < t.rail.lastScan + scanPeriod s ∧
      (h.leaving = true → h.st = .good → (railOf t r).leaving = false ∧ (railOf t r).st ≠ .good ∧ (railOf t r).st ≠ .ramp) ∧
      (h.leaving = false → h.st = .ramp → filt ≤ h.goodRun + 1 → railSet s r = true → railGoodThr s r ≤ v r → (v r : Int) ≤ railOv s r →
        (railOf t r).st = .good) ∧
      (h.leaving = false → h.st = .off → h.target = true → railDeps s r = 0 → (∀ q < 12, q ≠ r.val → (railOf s q).st = .off) →
        (railOf t r).st = .ramp ∧ (railOf t r).ren = true ∧ (railOf t r).renAt = s.tk) ∧
      (h.st = .good → h.uv = false → filt ≤ h.lowRun + 1 → (v r : Int) < railUv s r →
        (railOf t r).uv = true ∧ t.rail.pfw = true ∧ t.rail.faultev = true ∧ counted t 0 ∧
        (railFact s r ≠ 2 → t.rail.holdEnd.isSome = true) ∧
        ∀ g < 32, bit (tnat s 0x7A g) r = true → grp t.hc.railClosed g = true)) ∧
    (logsFree s = true → (h.st = .ramp → h.ren = true → h.renAt + 250000 * tnat s 0x78 (16 * r + 7) ≤ s.rail.lastScan →
        ∃ t, exec (.rampTimeout r) s = .next t ∧ counted t 2 ∧ newestError t s.tick (word (0x0B03 + 16 * r)) ∧
          (railOf t r).st = .fail ∧ (railOf t r).ren = false ∧ (railOf t r).target = false ∧ t.rail.startfail = true) ∧
      (h.ren = false → h.everOn = true → h.wasOff = false → h.forced = false →
        h.renAt + 250000 * tnat s 0x78 (16 * r + 8) ≤ s.rail.lastScan →
        ∃ t, exec (.offTimeout r) s = .next t ∧ counted t 3 ∧ newestError t s.tick (word (0x0B04 + 16 * r)) ∧
          (railOf t r).forced = true ∧ t.rail.forcedoff = true)) ∧
    (∀ k, s.rail.holdEnd = some k → (s.tk < k → exec .pfwHoldExpiry s = .next s) ∧
      (k ≤ s.tk → s.rail.selfFault = false → ∃ t, exec .pfwHoldExpiry s = .next t ∧ t.rail.holdEnd = none ∧
        t = { s with rail.holdEnd := none, rail.rails := t.rail.rails } ∧
        (h.pending = false → railOf t r = h) ∧ (h.pending = true → (railOf t r).target = false ∧
          (railOf t r).pending = false ∧ (h.st = .ramp ∨ h.st = .good → (railOf t r).leaving = true))) ∧
      (k ≤ s.tk → s.rail.selfFault = true → ∃ t, exec .pfwHoldExpiry s = .next t ∧ coreRuns t = false ∧
        t.boot.cause.getLsbD 5 = true ∧ t.rail.selfDrain = true ∧ (h.st = .good → (railOf t r).leaving = true))) ∧
    (s.rail.lastScan < s.rail.marginAt + 25000 → exec .marginStep s = .next s) ∧
    (s.rail.marginAt + 25000 ≤ s.rail.lastScan → ∃ t, exec .marginStep s = .next t ∧ let aim := marginTarget s r
      t.rail.marginAt ≤ s.rail.lastScan ∧ s.rail.lastScan < t.rail.marginAt + 25000 ∧
      (railOf t r).s = (if h.st = .good then (if h.s < aim then h.s + 1 else if aim < h.s then h.s - 1 else h.s) else h.s) ∧
      (railOf t r).st = h.st ∧ (railOf t r).v = h.v) ∧
    (∀ uv : BitVec 21, let thr := tnat s 0x7A 32 % 256 * 1200000
      (uv.toNat * 256 < thr →
        (s.rail.cmptrip = false → s.rail.cmpen = true → ∃ t, exec (.comparatorTrip uv) s = .next t ∧
          t.rail.pfw = true ∧ t.rail.cmptrip = true ∧ t.rail.barred = true ∧ t.rail.cmpAbove = none ∧
          countedOne s t 0x7C 88 ∧ newestError t s.tick 0x0BB5 ∧ t.host.irqPend.getLsbD 11 = true ∧ t.nvm.busy = none ∧
          t.rail.rails = s.rail.rails) ∧
        (s.rail.cmpen = false ∨ s.rail.cmptrip = true →
          exec (.comparatorTrip uv) s = .next { s with rail.cmpAbove := none }) ∧
        exec (.comparatorRecover uv) s = .next s) ∧
      (thr ≤ uv.toNat * 256 → exec (.comparatorTrip uv) s = .next s ∧
        (s.rail.cmpAbove = none → exec (.comparatorRecover uv) s = .next { s with rail.cmpAbove := some s.tk }) ∧
        (∀ k, s.rail.cmpAbove = some k → exec (.comparatorRecover uv) s =
          .next (if k + 25000 ≤ s.tk then { s with rail.cmptrip := false } else s)))) ∧
    (∀ k, s.rail.selfSeq = .retryWait k → (s.tk < k → exec .selfSeqRetry s = .next s) ∧
      (k ≤ s.tk → ∃ t, exec .selfSeqRetry s = .next t ∧ t.rail.selfSeq = .retrying ∧ t.rail.selfretry = true ∧
        t = { s with rail.rails := t.rail.rails, rail.selfSeq := .retrying, rail.selfretry := true, rail.selfErr := true } ∧
        ∀ q < 10, railOf t q = if railSelf s q = true then { railOf s q with target := true } else railOf s q))

/-- The power ladder (R355-R362, R364, R369): a request for RUN or for the present state changes nothing; one that
is refused sets REFUSED and its reason, the first that applies, with error 0x01 and PWR; one taken begins the
entry. The entry ends in the state, with LAST, unless a wake event came: then ABORTED, with error 0x02. A wake
source that acts sets its bit and wakes the node, one that does not act changes nothing; the exit leads to RUN, or
from the deepest states to a start-up. An entry holds the commands of the checked blocks, and REST ends with any
routed write, which is held; the exit runs both. -/
def Obligations.PowerLadder : Prop :=
  ∀ s : State, WfState s →
    let quiet : Prop := (∀ f < 8, (consOf s f).atEntry = false) ∧ s.pwr.step3Done = false ∧ s.pwr.wbFailed = false
    let refused (t : BitVec 3) (why : Nat) : Prop := exec (.pwrReq t) s = .next (raise 14 (recErr 0x0D 1 { s with
      pwr.refused := true, pwr.reason := why, pwr.wbFailed := false }))
    let wakes (i : Instr) (b : Nat) (acts : Bool) : Prop := (acts = false → exec i s = .next s) ∧
      (acts = true → s.pwr.waking = false → exec i s = .next
        (let s1 := raise 14 { s with pwr.wakeSrc := s.pwr.wakeSrc ||| word (2 ^ b) }
         if s.pwr.entering = none then { s1 with pwr.waking := true, pwr.wakeAt := some s.tk }
         else { s1 with pwr.wakeSeen := true }))
    let row := ladderRow s
    let en (b : Nat) : Bool := bit (tnat s 0x08 0) b
    (clocked s = true → s.pwr.entering = none →
      (∀ t : BitVec 3, t = 0 ∨ t.toNat = s.pwr.state → exec (.pwrReq t) s = .next s) ∧ refused 7 1 ∧
      (∀ t : BitVec 3, t ≠ 0 → t ≠ 7 → t.toNat ≠ s.pwr.state →
        (swathActive s = true ∨ s.ing.armq ≠ [] → refused t 2) ∧
        (swathActive s = false → s.ing.armq = [] → (s.txn.phase = .validating ∨ s.txn.phase = .prepared → refused t 3) ∧
          (s.txn.phase ≠ .validating → s.txn.phase ≠ .prepared →
            (2 ≤ t.toNat → blocksInUse s = true → refused t 4) ∧
            (3 ≤ t.toNat → blocksInUse s = false → nvmWriting s = true → refused t 5) ∧
            (t.toNat = 4 → blocksInUse s = false → nvmWriting s = false → s.pwr.imageDirty = true → refused t 6) ∧
            (5 ≤ t.toNat → blocksInUse s = false → nvmWriting s = false → s.boot.seqSelf = false → refused t 7) ∧
            (pwrReason s t.toNat = none → ∃ x, exec (.pwrReq t) s = .next x ∧ x.pwr.entering = some t.toNat ∧
              x.pwr.state = s.pwr.state ∧ x.pwr.wakeSeen = false) ∧
            (t.toNat = 1 ∨ (t.toNat = 2 ∧ blocksInUse s = false) ∨
                (t.toNat = 3 ∧ blocksInUse s = false ∧ nvmWriting s = false) →
              exec (.pwrReq t) s = .next { s with
                pwr.entering := some t.toNat, pwr.wakeSeen := false, pwr.step3Done := false, pwr.wbFailed := false }))))) ∧
    (∀ c h, routedForm s c = some h → clocked s = true → s.pwr.state = 1 → s.pwr.entering = none →
      exec c s = .next { s with host.held := s.host.held ++ [h], pwr.waking := true }) ∧
    (∀ w : BitVec 5, clocked s = true → s.pwr.entering.isSome = true →
      exec (.enableGroup w) s = .next { s with host.held := s.host.held ++ [.jet 1 w.toNat] }) ∧
    (s.pwr.entering = none → exec .powerStateEntry s = .next s) ∧
    (s.pwr.entering = some 1 → quiet → s.pwr.wakeSeen = false → exec .powerStateEntry s = .next (raise 14 { s with
      pwr.state := 1, pwr.last := s.pwr.state, pwr.entering := none, pwr.wbFailed := false, pwr.since := s.tk })) ∧
    (s.pwr.entering = some 2 → quiet → s.pwr.wakeSeen = false → exec .powerStateEntry s = .next (raise 14 { s with
      cal.run := none, pwr.state := 2, pwr.last := s.pwr.state, pwr.entering := none, pwr.wbFailed := false
      pwr.since := s.tk })) ∧
    (∀ n, 3 ≤ n → n ≤ 4 → s.pwr.entering = some n → quiet → s.pwr.wakeSeen = false → s.rail.barred = false →
      s.nvm.busy = none →
      ∃ t, exec .powerStateEntry s = .next t ∧ t.pwr.state = n ∧ t.pwr.last = s.pwr.state ∧ t.pwr.entering = none ∧
        t.nvm.leesQ = [] ∧ t.host.irqPend.getLsbD 14 = true ∧ t.cal.run = none ∧ t.boot = s.boot) ∧
    (∀ n, 5 ≤ n → s.pwr.entering = some n → quiet → s.pwr.wakeSeen = false → selfRails s = [] →
      ∃ t, exec .powerStateEntry s = .next t ∧ t.pwr.state = n ∧ t.pwr.last = s.pwr.state ∧ t.boot.phase = .supplies ∧
        coreRuns t = false ∧ t.ing.slots = ({} : Ingest).slots) ∧
    (∀ n, s.pwr.entering = some n → quiet → s.pwr.wakeSeen = true → s.host.held = [] →
      exec .powerStateEntry s = .next (raise 14 (recErrLees 0x0D 2 [n] { s with
        pwr.entering := none, pwr.aborted := true, pwr.last := n, pwr.wakeSeen := false, pwr.wbFailed := false }))) ∧
    (∀ p : Fin 3, wakes (.wakeSquelch p) p.val (decide (2 ≤ row) && (if p = 0 then row != 5 else decide (row ≤ 4)))) ∧
    wakes .wakeNcs 3 (en 3 && decide (2 ≤ row) && decide (row ≤ 4)) ∧
    (∀ p : Fin 2, wakes (.wakePin p) (5 + p.val) (en (5 + p.val) && decide (1 ≤ row))) ∧
    (s.pwr.entering = none → s.pwr.waking = false → 1 ≤ s.pwr.state → tnat32 s 0x08 1 ≠ 0 →
      (s.tk < s.pwr.since + 250000 * tnat32 s 0x08 1 → exec .wakeTimerExpiry s = .next s) ∧
      (s.pwr.since + 250000 * tnat32 s 0x08 1 ≤ s.tk → wakes .wakeTimerExpiry 4 (en 4 && decide (row ≤ 5)))) ∧
    (s.pwr.waking = false → exec .wakeExit s = .next s) ∧
    (s.pwr.waking = true → let us := (s.tk - s.pwr.since) / 250
      let slept := sat16 ((s.tk - s.pwr.since) / 250000000)
      let awake : State := { s with
        pwr.state := 0, pwr.last := 1, pwr.waking := false, pwr.wakeAt := none, pwr.slept := slept }
      (s.pwr.state = 1 → s.host.held = [] → exec .wakeExit s = .next awake) ∧
      (∀ w : BitVec 5, s.pwr.state = 1 → s.pwr.entering = none → isUp s = true → s.host.held = [.jet 1 w.toNat] →
        exec .wakeExit s = exec (.enableGroup w) { awake with host.held := [] }) ∧
      (∀ n, 2 ≤ n → n ≤ 4 → s.pwr.state = n → s.host.held = [] → (n = 4 → imageValid (imageBytes s) = false) → ∃ t k, exec .wakeExit s = .next t ∧ t.pwr.state = 0 ∧ t.pwr.last = n ∧
        t.pwr.slept = slept ∧ t.pwr.waking = false ∧ us * 95 / 100 ≤ k ∧ k ≤ us * 105 / 100 ∧
        t.tick = s.tick + BitVec.ofNat 48 (250 * k) ∧ (3 ≤ n → t.swathRam = []) ∧ t.rail.rails = s.rail.rails) ∧
      (5 ≤ s.pwr.state → ∃ t, exec .wakeExit s = .next t ∧ t.pwr.state = 0 ∧ t.pwr.last = s.pwr.state ∧
        t.boot.phase = .supplies ∧ t.rail.selfSeq = .starting))

/-- The VIO banks' detector and boundary scan (R407, R422-R424, R425): the detector's code goes, once each millisecond, to
its word of table 0x03 and no other word changes; five TCK cycles with TMS high reset the controller from any state; nTRST low
resets it at once; a cycle moves the controller, its registers and TDO and nothing else of the device; IDCODE is
loaded after a reset; with TESTEN low the boundary instructions act as BYPASS. -/
def Obligations.BanksAndBoundaryScan : Prop :=
  ∀ (s : State) (tms tdi : Bool), WfState s →
    (∀ b : Byte, (∀ k, s.boot.bankAt = some k → k + 250000 ≤ s.tk) → ∃ t, exec (.vioBankDetect b) s = .next t ∧
      t = { s with tbl := t.tbl, boot.bankAt := t.boot.bankAt } ∧ (∃ k, t.boot.bankAt = some k ∧ k ≤ s.tk ∧ s.tk < k + 250000) ∧
      tget t 0x03 2 = word b.toNat ∧ ∀ tb a, a < 2 ^ 24 → ¬ (tb = 3 ∧ a = 2) → tget t tb a = tget s tb a) ∧
    (∀ (b : Byte) (k : Nat), s.boot.bankAt = some k → s.tk < k + 250000 → exec (.vioBankDetect b) s = .next s) ∧
    (∀ st : TapState, tapNext (tapNext (tapNext (tapNext (tapNext st true) true) true) true) true = .reset) ∧
    (vineOn s = false → exec (.boundaryScanAccess tms tdi true) s = .next { s with tap.tdo := none }) ∧
    (vineOn s = true →
      exec (.boundaryScanAccess tms tdi false) s = .next { s with tap.st := .reset, tap.ir := 1, tap.tdo := none } ∧
      (∃ t, exec (.boundaryScanAccess tms tdi true) s = .next t ∧ t = { s with tap := t.tap, free := t.free } ∧
        t.tap.st = tapNext s.tap.st tms ∧ (t.tap.st = .reset → t.tap.ir = 1) ∧
        (t.tap.st ≠ .shDr → t.tap.st ≠ .shIr → t.tap.tdo = none) ∧
        (s.tap.st = .capDr → tms = false →
          (s.tap.ir = 1 → t.tap.tdo = some true ∧
            t.tap.drShift = (List.range 32).map fun i => (0x14E56A5B : BitVec 32).getLsbD i) ∧
          (3 ≤ s.tap.ir.toNat → s.boot.testen = false → t.tap.drShift = [false]) ∧
          (s.tap.ir = 0 → s.boot.testen = false → t.tap.drShift = [false])) ∧
        (s.tap.st = .shDr → t.tap.drShift = s.tap.drShift.tail ++ [tdi]) ∧
        (s.tap.st = .shIr → t.tap.irShift.toNat = s.tap.irShift.toNat / 2 + (if tdi then 32 else 0)) ∧
        (s.tap.st = .capIr → t.tap.irShift.toNat % 4 = 1) ∧
        (t.tap.st = .updIr → t.tap.ir = t.tap.irShift)))

/-- The output pins. In core reset with its banks powered the device drives every head pin, bridge gate, AXn_STEP,
AXn_DIR, BRKn and valve gate low, HV_RDY low, AXn_EN and nIRQ to high impedance (R184, R191, R270, R291, R332). The two
gates of a valve channel are never high together (R275), nor those of a half-bridge (R258). HGg_LAT of an enabled group
of mode L or S is high for LATW TK from a fire the group took part in (R166, R167). JCHn_N is the complement of JCHn_P
in mode S and low in mode P (R160). AXn_EN is high impedance until table 0x60 reaches the axis, then it has its active
level exactly while the axis is enabled and in hold only where HOLDLVL is 0 (R260). SDO is high impedance while nCS
is high (R53). The sending order visits each nozzle of the row once and sends two bits of each (R168). -/
def Obligations.OutputPins : Prop :=
  (∀ (s : State) (n i : Nat), coreRuns s = false → s.pwr.state < 5 →
    jchP s n = Level.low ∧ jchN s n = Level.low ∧ hgClk s n = Level.low ∧ hgLat s n = Level.low ∧ bridgeGate s n i = Level.low ∧
    axStep s n = Level.low ∧ axDir s n = Level.low ∧ brk s n = Level.low ∧ vlvHs s n = Level.low ∧ vlvLs s n = Level.low ∧
    hvRdyPin s = Level.low ∧ axEn s n = Level.floating ∧ nIrq s = Level.floating) ∧
  (∀ (s : State) (n j : Nat), ¬ (vlvHs s n = Level.high ∧ vlvLs s n = Level.high) ∧
    ¬ (bridgeGate s n (2 * j) = Level.high ∧ bridgeGate s n (2 * j + 1) = Level.high)) ∧
  (∀ (s : State) (g : Nat) (f : Fire), portDecodes s = true → grEn s g = true → groupFire s g = some f →
    grMode s g ≠ 3 → (hgLat s g = Level.high ↔ f.start ≤ s.tk ∧ s.tk < f.start + grLatw s g)) ∧
  (∀ (s : State) (n : Nat), portDecodes s = true → grEn s (n / 8) = true → chUsed s n = true →
    (grMode s (n / 8) = 2 → (jchN s n = Level.high ↔ jchP s n = Level.low)) ∧
    (grMode s (n / 8) = 3 → jchN s n = Level.low)) ∧
  (∀ (s : State) (n : Nat), portDecodes s = true →
    ((axisOf s n).configured = false → axEn s n = Level.floating) ∧
    ((axisOf s n).configured = true →
      (axEn s n = level (bit (axW s n 0) 13) ↔
        (axisOf s n).en = true ∧ ((axisOf s n).hold = true → bit (axW s n 0) 12 = false)))) ∧
  (∀ (s : State) (k : Nat), sdo s true k = Level.floating) ∧
  (∀ n il : Nat, 0 < il → il ∣ n → (nozzleOrder n il).Perm (List.range n)) ∧
  (∀ (w0 : Nat) (codes : List Nat), (nozzleBits w0 codes).length = 2 * codes.length)
end

