-- ==== Sys2Proof/Laws/Memory.lean ====
section
/-! SUPPORT. Sparse memories: reading after writing, and that every operation keeps the canonical form. -/

namespace Sys2Proof.Machine

set_option Elab.async false

variable {α : Type} [DecidableEq α] {d : Nat → α}

/-- A canonical memory stays canonical when the lower bound of its keys goes down. -/
theorem cellsWf_mono {lo lo' : Nat} (h : lo' ≤ lo) : ∀ {m : List (Nat × α)}, cellsWf d lo m = true → cellsWf d lo' m = true
  | [], _ => rfl
  | (a, v) :: m, hm => by
    simp only [cellsWf, Bool.and_eq_true, decide_eq_true_eq] at hm ⊢
    exact ⟨⟨h.trans hm.1.1, hm.1.2⟩, hm.2⟩

/-- A key below the bound of a canonical memory reads its default. -/
theorem cellGet_below {lo k : Nat} (hk : k < lo) : ∀ {m : List (Nat × α)}, cellsWf d lo m = true → cellGet d m k = d k
  | [], _ => rfl
  | (a, v) :: m, hm => by
    simp only [cellsWf, Bool.and_eq_true, decide_eq_true_eq] at hm
    have h1 : a ≠ k := by omega
    have h2 : k < a := by omega
    simp [cellGet, h1, h2]

/-- A write keeps the canonical form. -/
theorem cellSet_wf {k : Nat} {v : α} : ∀ {m : List (Nat × α)} {lo : Nat}, lo ≤ k → cellsWf d lo m = true →
    cellsWf d lo (cellSet d k v m) = true
  | [], lo, hk, _ => by
    unfold cellSet
    split
    · rfl
    · simp [cellsWf, *]
  | (a, w) :: m, lo, hk, hm => by
    have hm' := hm
    simp only [cellsWf, Bool.and_eq_true, decide_eq_true_eq] at hm
    unfold cellSet
    split
    · split
      · exact hm'
      · simp only [cellsWf, Bool.and_eq_true, decide_eq_true_eq]
        exact ⟨⟨hk, ‹_›⟩, ⟨by omega, hm.1.2⟩, hm.2⟩
    · split
      · split
        · exact cellsWf_mono (by omega) hm.2
        · simp only [cellsWf, Bool.and_eq_true, decide_eq_true_eq]
          have hak : a = k := ‹_›
          exact ⟨⟨hk, ‹_›⟩, hak ▸ hm.2⟩
      · simp only [cellsWf, Bool.and_eq_true, decide_eq_true_eq]
        exact ⟨hm.1, cellSet_wf (by omega) hm.2⟩

/-- A run of writes keeps the canonical form. -/
theorem cellSetRun_wf : ∀ {vs : List α} {k : Nat} {m : List (Nat × α)}, cellsWf d 0 m = true →
    cellsWf d 0 (cellSetRun d k vs m) = true
  | [], _, _, h => h
  | _ :: vs, _, _, h => cellSetRun_wf (vs := vs) (cellSet_wf (Nat.zero_le _) h)

/-- Leaving out entries keeps the canonical form. -/
theorem cellsWf_filter {p : Nat × α → Bool} : ∀ {m : List (Nat × α)} {lo : Nat}, cellsWf d lo m = true →
    cellsWf d lo (m.filter p) = true
  | [], _, _ => rfl
  | (a, v) :: m, lo, hm => by
    simp only [cellsWf, Bool.and_eq_true, decide_eq_true_eq] at hm
    rw [List.filter_cons]
    split
    · simp only [cellsWf, Bool.and_eq_true, decide_eq_true_eq]
      exact ⟨hm.1, cellsWf_filter hm.2⟩
    · exact cellsWf_filter (cellsWf_mono (by omega) hm.2)

/-- A key reads what was written to it. -/
theorem cellGet_cellSet_same {k : Nat} {v : α} : ∀ {m : List (Nat × α)} {lo : Nat}, cellsWf d lo m = true →
    cellGet d (cellSet d k v m) k = v
  | [], _, _ => by
    unfold cellSet
    split
    · simp [cellGet, *]
    · simp [cellGet]
  | (a, w) :: m, lo, hm => by
    simp only [cellsWf, Bool.and_eq_true, decide_eq_true_eq] at hm
    unfold cellSet
    split
    · split
      · have : a ≠ k := by omega
        simp [cellGet, *]
      · simp [cellGet]
    · split
      · have hak : a = k := ‹_›
        split
        · have hv : v = d k := ‹_›
          rw [cellGet_below (lo := a + 1) (by omega) hm.2, hv]
        · simp [cellGet]
      · have h1 : a ≠ k := ‹_›
        have h2 : ¬ k < a := ‹_›
        simp only [cellGet, h1, h2, if_false]
        exact cellGet_cellSet_same hm.2

/-- Every other key reads as before. -/
theorem cellGet_cellSet_other {k k' : Nat} {v : α} (hne : k' ≠ k) : ∀ {m : List (Nat × α)} {lo : Nat},
    cellsWf d lo m = true → cellGet d (cellSet d k v m) k' = cellGet d m k'
  | [], _, _ => by
    unfold cellSet
    split
    · rfl
    · simp [cellGet, Ne.symm hne]
  | (a, w) :: m, lo, hm => by
    simp only [cellsWf, Bool.and_eq_true, decide_eq_true_eq] at hm
    unfold cellSet
    split
    · have hka : k < a := ‹_›
      split
      · rfl
      · by_cases h : k' < k
        · have h3 : a ≠ k' := by omega
          have h4 : k' < a := by omega
          simp [cellGet, Ne.symm hne, h, h3, h4]
        · simp [cellGet, Ne.symm hne, h]
    · split
      · have hak : a = k := ‹_›
        have ha : a ≠ k' := by rw [hak]; exact Ne.symm hne
        by_cases h : k' < a
        · have hb : cellGet d m k' = d k' := cellGet_below (lo := a + 1) (by omega) hm.2
          split
          · simp [cellGet, ha, h, hb]
          · simp [cellGet, ← hak, ha, h]
        · split
          · simp [cellGet, ha, h]
          · simp [cellGet, ← hak, ha, h]
      · by_cases h1 : a = k'
        · simp [cellGet, h1]
        · by_cases h2 : k' < a
          · simp [cellGet, h1, h2]
          · simp only [cellGet, h1, h2, if_false]
            exact cellGet_cellSet_other hne hm.2

/-- Two canonical memories that read alike are the same list. -/
theorem cells_ext : ∀ {m n : List (Nat × α)} {lo : Nat}, cellsWf d lo m = true → cellsWf d lo n = true →
    (∀ k, cellGet d m k = cellGet d n k) → m = n
  | [], [], _, _, _, _ => rfl
  | [], (b, w) :: n, _, _, hn, h => by
    simp only [cellsWf, Bool.and_eq_true, decide_eq_true_eq] at hn
    have := h b
    simp [cellGet] at this
    exact absurd this.symm hn.1.2
  | (a, v) :: m, [], _, hm, _, h => by
    simp only [cellsWf, Bool.and_eq_true, decide_eq_true_eq] at hm
    have := h a
    simp [cellGet] at this
    exact absurd this hm.1.2
  | (a, v) :: m, (b, w) :: n, lo, hm, hn, h => by
    simp only [cellsWf, Bool.and_eq_true, decide_eq_true_eq] at hm hn
    have hab : a = b := by
      rcases Nat.lt_trichotomy a b with hlt | heq | hgt
      · have := h a
        have hne : b ≠ a := by omega
        simp [cellGet, hne, hlt] at this
        exact absurd this hm.1.2
      · exact heq
      · have := h b
        have hne : a ≠ b := by omega
        simp [cellGet, hne, hgt] at this
        exact absurd this.symm hn.1.2
    subst hab
    have hv : v = w := by
      have := h a
      simpa [cellGet] using this
    subst hv
    have hrest : m = n := by
      refine cells_ext hm.2 hn.2 (fun k => ?_)
      by_cases hk : k < a + 1
      · rw [cellGet_below hk hm.2, cellGet_below hk hn.2]
      · have := h k
        have h1 : a ≠ k := by omega
        have h2 : ¬ k < a := by omega
        simpa [cellGet, h1, h2] using this
    rw [hrest]

end Sys2Proof.Machine
end

