-- ==== Sys2Proof/Laws/State.lean ====
section
/-! SUPPORT. What the shared updates leave alone: one lemma for each field and each update. -/

namespace Sys2Proof.Machine

set_option Elab.async false

variable (s : State)

@[simp] theorem tset_tk (t a : Nat) (v : Word) : (tset t a v s).tk = s.tk := rfl
@[simp] theorem tset_tick (t a : Nat) (v : Word) : (tset t a v s).tick = s.tick := rfl
@[simp] theorem tset_free (t a : Nat) (v : Word) : (tset t a v s).free = s.free := rfl
@[simp] theorem tset_swathRam (t a : Nat) (v : Word) : (tset t a v s).swathRam = s.swathRam := rfl
@[simp] theorem tset_host (t a : Nat) (v : Word) : (tset t a v s).host = s.host := rfl
@[simp] theorem tset_bnd (t a : Nat) (v : Word) : (tset t a v s).bnd = s.bnd := rfl
@[simp] theorem tset_txn (t a : Nat) (v : Word) : (tset t a v s).txn = s.txn := rfl
@[simp] theorem tset_vine (t a : Nat) (v : Word) : (tset t a v s).vine = s.vine := rfl
@[simp] theorem tset_enc (t a : Nat) (v : Word) : (tset t a v s).enc = s.enc := rfl
@[simp] theorem tset_grid (t a : Nat) (v : Word) : (tset t a v s).grid = s.grid := rfl
@[simp] theorem tset_jet (t a : Nat) (v : Word) : (tset t a v s).jet = s.jet := rfl
@[simp] theorem tset_ing (t a : Nat) (v : Word) : (tset t a v s).ing = s.ing := rfl
@[simp] theorem tset_hc (t a : Nat) (v : Word) : (tset t a v s).hc = s.hc := rfl
@[simp] theorem tset_mot (t a : Nat) (v : Word) : (tset t a v s).mot = s.mot := rfl
@[simp] theorem tset_vlv (t a : Nat) (v : Word) : (tset t a v s).vlv = s.vlv := rfl
@[simp] theorem tset_vlvSel (t a : Nat) (v : Word) : (tset t a v s).vlvSel = s.vlvSel := rfl
@[simp] theorem tset_rail (t a : Nat) (v : Word) : (tset t a v s).rail = s.rail := rfl
@[simp] theorem tset_boot (t a : Nat) (v : Word) : (tset t a v s).boot = s.boot := rfl
@[simp] theorem tset_pwr (t a : Nat) (v : Word) : (tset t a v s).pwr = s.pwr := rfl
@[simp] theorem tset_cal (t a : Nat) (v : Word) : (tset t a v s).cal = s.cal := rfl
@[simp] theorem tset_nvm (t a : Nat) (v : Word) : (tset t a v s).nvm = s.nvm := rfl
@[simp] theorem tset_tap (t a : Nat) (v : Word) : (tset t a v s).tap = s.tap := rfl
@[simp] theorem tset_pending (t a : Nat) (v : Word) : (tset t a v s).pending = s.pending := rfl

@[simp] theorem tsetRun_tk (t a : Nat) (vs : List Word) : (tsetRun t a vs s).tk = s.tk := rfl
@[simp] theorem tsetRun_tick (t a : Nat) (vs : List Word) : (tsetRun t a vs s).tick = s.tick := rfl
@[simp] theorem tsetRun_free (t a : Nat) (vs : List Word) : (tsetRun t a vs s).free = s.free := rfl
@[simp] theorem tsetRun_swathRam (t a : Nat) (vs : List Word) : (tsetRun t a vs s).swathRam = s.swathRam := rfl
@[simp] theorem tsetRun_host (t a : Nat) (vs : List Word) : (tsetRun t a vs s).host = s.host := rfl
@[simp] theorem tsetRun_bnd (t a : Nat) (vs : List Word) : (tsetRun t a vs s).bnd = s.bnd := rfl
@[simp] theorem tsetRun_txn (t a : Nat) (vs : List Word) : (tsetRun t a vs s).txn = s.txn := rfl
@[simp] theorem tsetRun_vine (t a : Nat) (vs : List Word) : (tsetRun t a vs s).vine = s.vine := rfl
@[simp] theorem tsetRun_enc (t a : Nat) (vs : List Word) : (tsetRun t a vs s).enc = s.enc := rfl
@[simp] theorem tsetRun_grid (t a : Nat) (vs : List Word) : (tsetRun t a vs s).grid = s.grid := rfl
@[simp] theorem tsetRun_jet (t a : Nat) (vs : List Word) : (tsetRun t a vs s).jet = s.jet := rfl
@[simp] theorem tsetRun_ing (t a : Nat) (vs : List Word) : (tsetRun t a vs s).ing = s.ing := rfl
@[simp] theorem tsetRun_hc (t a : Nat) (vs : List Word) : (tsetRun t a vs s).hc = s.hc := rfl
@[simp] theorem tsetRun_mot (t a : Nat) (vs : List Word) : (tsetRun t a vs s).mot = s.mot := rfl
@[simp] theorem tsetRun_vlv (t a : Nat) (vs : List Word) : (tsetRun t a vs s).vlv = s.vlv := rfl
@[simp] theorem tsetRun_vlvSel (t a : Nat) (vs : List Word) : (tsetRun t a vs s).vlvSel = s.vlvSel := rfl
@[simp] theorem tsetRun_rail (t a : Nat) (vs : List Word) : (tsetRun t a vs s).rail = s.rail := rfl
@[simp] theorem tsetRun_boot (t a : Nat) (vs : List Word) : (tsetRun t a vs s).boot = s.boot := rfl
@[simp] theorem tsetRun_pwr (t a : Nat) (vs : List Word) : (tsetRun t a vs s).pwr = s.pwr := rfl
@[simp] theorem tsetRun_cal (t a : Nat) (vs : List Word) : (tsetRun t a vs s).cal = s.cal := rfl
@[simp] theorem tsetRun_nvm (t a : Nat) (vs : List Word) : (tsetRun t a vs s).nvm = s.nvm := rfl
@[simp] theorem tsetRun_tap (t a : Nat) (vs : List Word) : (tsetRun t a vs s).tap = s.tap := rfl
@[simp] theorem tsetRun_pending (t a : Nat) (vs : List Word) : (tsetRun t a vs s).pending = s.pending := rfl

@[simp] theorem bump_tk (t a : Nat) : (bump t a s).tk = s.tk := rfl
@[simp] theorem bump_tick (t a : Nat) : (bump t a s).tick = s.tick := rfl
@[simp] theorem bump_free (t a : Nat) : (bump t a s).free = s.free := rfl
@[simp] theorem bump_swathRam (t a : Nat) : (bump t a s).swathRam = s.swathRam := rfl
@[simp] theorem bump_host (t a : Nat) : (bump t a s).host = s.host := rfl
@[simp] theorem bump_bnd (t a : Nat) : (bump t a s).bnd = s.bnd := rfl
@[simp] theorem bump_txn (t a : Nat) : (bump t a s).txn = s.txn := rfl
@[simp] theorem bump_vine (t a : Nat) : (bump t a s).vine = s.vine := rfl
@[simp] theorem bump_enc (t a : Nat) : (bump t a s).enc = s.enc := rfl
@[simp] theorem bump_grid (t a : Nat) : (bump t a s).grid = s.grid := rfl
@[simp] theorem bump_jet (t a : Nat) : (bump t a s).jet = s.jet := rfl
@[simp] theorem bump_ing (t a : Nat) : (bump t a s).ing = s.ing := rfl
@[simp] theorem bump_hc (t a : Nat) : (bump t a s).hc = s.hc := rfl
@[simp] theorem bump_mot (t a : Nat) : (bump t a s).mot = s.mot := rfl
@[simp] theorem bump_vlv (t a : Nat) : (bump t a s).vlv = s.vlv := rfl
@[simp] theorem bump_vlvSel (t a : Nat) : (bump t a s).vlvSel = s.vlvSel := rfl
@[simp] theorem bump_rail (t a : Nat) : (bump t a s).rail = s.rail := rfl
@[simp] theorem bump_boot (t a : Nat) : (bump t a s).boot = s.boot := rfl
@[simp] theorem bump_pwr (t a : Nat) : (bump t a s).pwr = s.pwr := rfl
@[simp] theorem bump_cal (t a : Nat) : (bump t a s).cal = s.cal := rfl
@[simp] theorem bump_nvm (t a : Nat) : (bump t a s).nvm = s.nvm := rfl
@[simp] theorem bump_tap (t a : Nat) : (bump t a s).tap = s.tap := rfl
@[simp] theorem bump_pending (t a : Nat) : (bump t a s).pending = s.pending := rfl

@[simp] theorem bumpBy_tk (t a n : Nat) : (bumpBy t a n s).tk = s.tk := rfl
@[simp] theorem bumpBy_tick (t a n : Nat) : (bumpBy t a n s).tick = s.tick := rfl
@[simp] theorem bumpBy_free (t a n : Nat) : (bumpBy t a n s).free = s.free := rfl
@[simp] theorem bumpBy_swathRam (t a n : Nat) : (bumpBy t a n s).swathRam = s.swathRam := rfl
@[simp] theorem bumpBy_host (t a n : Nat) : (bumpBy t a n s).host = s.host := rfl
@[simp] theorem bumpBy_bnd (t a n : Nat) : (bumpBy t a n s).bnd = s.bnd := rfl
@[simp] theorem bumpBy_txn (t a n : Nat) : (bumpBy t a n s).txn = s.txn := rfl
@[simp] theorem bumpBy_vine (t a n : Nat) : (bumpBy t a n s).vine = s.vine := rfl
@[simp] theorem bumpBy_enc (t a n : Nat) : (bumpBy t a n s).enc = s.enc := rfl
@[simp] theorem bumpBy_grid (t a n : Nat) : (bumpBy t a n s).grid = s.grid := rfl
@[simp] theorem bumpBy_jet (t a n : Nat) : (bumpBy t a n s).jet = s.jet := rfl
@[simp] theorem bumpBy_ing (t a n : Nat) : (bumpBy t a n s).ing = s.ing := rfl
@[simp] theorem bumpBy_hc (t a n : Nat) : (bumpBy t a n s).hc = s.hc := rfl
@[simp] theorem bumpBy_mot (t a n : Nat) : (bumpBy t a n s).mot = s.mot := rfl
@[simp] theorem bumpBy_vlv (t a n : Nat) : (bumpBy t a n s).vlv = s.vlv := rfl
@[simp] theorem bumpBy_vlvSel (t a n : Nat) : (bumpBy t a n s).vlvSel = s.vlvSel := rfl
@[simp] theorem bumpBy_rail (t a n : Nat) : (bumpBy t a n s).rail = s.rail := rfl
@[simp] theorem bumpBy_boot (t a n : Nat) : (bumpBy t a n s).boot = s.boot := rfl
@[simp] theorem bumpBy_pwr (t a n : Nat) : (bumpBy t a n s).pwr = s.pwr := rfl
@[simp] theorem bumpBy_cal (t a n : Nat) : (bumpBy t a n s).cal = s.cal := rfl
@[simp] theorem bumpBy_nvm (t a n : Nat) : (bumpBy t a n s).nvm = s.nvm := rfl
@[simp] theorem bumpBy_tap (t a n : Nat) : (bumpBy t a n s).tap = s.tap := rfl
@[simp] theorem bumpBy_pending (t a n : Nat) : (bumpBy t a n s).pending = s.pending := rfl

@[simp] theorem bump32_tk (t a : Nat) : (bump32 t a s).tk = s.tk := rfl
@[simp] theorem bump32_tick (t a : Nat) : (bump32 t a s).tick = s.tick := rfl
@[simp] theorem bump32_free (t a : Nat) : (bump32 t a s).free = s.free := rfl
@[simp] theorem bump32_swathRam (t a : Nat) : (bump32 t a s).swathRam = s.swathRam := rfl
@[simp] theorem bump32_host (t a : Nat) : (bump32 t a s).host = s.host := rfl
@[simp] theorem bump32_bnd (t a : Nat) : (bump32 t a s).bnd = s.bnd := rfl
@[simp] theorem bump32_txn (t a : Nat) : (bump32 t a s).txn = s.txn := rfl
@[simp] theorem bump32_vine (t a : Nat) : (bump32 t a s).vine = s.vine := rfl
@[simp] theorem bump32_enc (t a : Nat) : (bump32 t a s).enc = s.enc := rfl
@[simp] theorem bump32_grid (t a : Nat) : (bump32 t a s).grid = s.grid := rfl
@[simp] theorem bump32_jet (t a : Nat) : (bump32 t a s).jet = s.jet := rfl
@[simp] theorem bump32_ing (t a : Nat) : (bump32 t a s).ing = s.ing := rfl
@[simp] theorem bump32_hc (t a : Nat) : (bump32 t a s).hc = s.hc := rfl
@[simp] theorem bump32_mot (t a : Nat) : (bump32 t a s).mot = s.mot := rfl
@[simp] theorem bump32_vlv (t a : Nat) : (bump32 t a s).vlv = s.vlv := rfl
@[simp] theorem bump32_vlvSel (t a : Nat) : (bump32 t a s).vlvSel = s.vlvSel := rfl
@[simp] theorem bump32_rail (t a : Nat) : (bump32 t a s).rail = s.rail := rfl
@[simp] theorem bump32_boot (t a : Nat) : (bump32 t a s).boot = s.boot := rfl
@[simp] theorem bump32_pwr (t a : Nat) : (bump32 t a s).pwr = s.pwr := rfl
@[simp] theorem bump32_cal (t a : Nat) : (bump32 t a s).cal = s.cal := rfl
@[simp] theorem bump32_nvm (t a : Nat) : (bump32 t a s).nvm = s.nvm := rfl
@[simp] theorem bump32_tap (t a : Nat) : (bump32 t a s).tap = s.tap := rfl
@[simp] theorem bump32_pending (t a : Nat) : (bump32 t a s).pending = s.pending := rfl

@[simp] theorem raise_tk (n : Nat) : (raise n s).tk = s.tk := rfl
@[simp] theorem raise_tick (n : Nat) : (raise n s).tick = s.tick := rfl
@[simp] theorem raise_free (n : Nat) : (raise n s).free = s.free := rfl
@[simp] theorem raise_tbl (n : Nat) : (raise n s).tbl = s.tbl := rfl
@[simp] theorem raise_swathRam (n : Nat) : (raise n s).swathRam = s.swathRam := rfl
@[simp] theorem raise_bnd (n : Nat) : (raise n s).bnd = s.bnd := rfl
@[simp] theorem raise_txn (n : Nat) : (raise n s).txn = s.txn := rfl
@[simp] theorem raise_vine (n : Nat) : (raise n s).vine = s.vine := rfl
@[simp] theorem raise_enc (n : Nat) : (raise n s).enc = s.enc := rfl
@[simp] theorem raise_grid (n : Nat) : (raise n s).grid = s.grid := rfl
@[simp] theorem raise_jet (n : Nat) : (raise n s).jet = s.jet := rfl
@[simp] theorem raise_ing (n : Nat) : (raise n s).ing = s.ing := rfl
@[simp] theorem raise_hc (n : Nat) : (raise n s).hc = s.hc := rfl
@[simp] theorem raise_mot (n : Nat) : (raise n s).mot = s.mot := rfl
@[simp] theorem raise_vlv (n : Nat) : (raise n s).vlv = s.vlv := rfl
@[simp] theorem raise_vlvSel (n : Nat) : (raise n s).vlvSel = s.vlvSel := rfl
@[simp] theorem raise_rail (n : Nat) : (raise n s).rail = s.rail := rfl
@[simp] theorem raise_boot (n : Nat) : (raise n s).boot = s.boot := rfl
@[simp] theorem raise_pwr (n : Nat) : (raise n s).pwr = s.pwr := rfl
@[simp] theorem raise_cal (n : Nat) : (raise n s).cal = s.cal := rfl
@[simp] theorem raise_nvm (n : Nat) : (raise n s).nvm = s.nvm := rfl
@[simp] theorem raise_tap (n : Nat) : (raise n s).tap = s.tap := rfl
@[simp] theorem raise_pending (n : Nat) : (raise n s).pending = s.pending := rfl

@[simp] theorem recErr_tk (b c : Nat) : (recErr b c s).tk = s.tk := by unfold recErr; split <;> rfl
@[simp] theorem recErr_tick (b c : Nat) : (recErr b c s).tick = s.tick := by unfold recErr; split <;> rfl
@[simp] theorem recErr_free (b c : Nat) : (recErr b c s).free = s.free := by unfold recErr; split <;> rfl
@[simp] theorem recErr_tbl (b c : Nat) : (recErr b c s).tbl = s.tbl := by unfold recErr; split <;> rfl
@[simp] theorem recErr_swathRam (b c : Nat) : (recErr b c s).swathRam = s.swathRam := by unfold recErr; split <;> rfl
@[simp] theorem recErr_bnd (b c : Nat) : (recErr b c s).bnd = s.bnd := by unfold recErr; split <;> rfl
@[simp] theorem recErr_txn (b c : Nat) : (recErr b c s).txn = s.txn := by unfold recErr; split <;> rfl
@[simp] theorem recErr_vine (b c : Nat) : (recErr b c s).vine = s.vine := by unfold recErr; split <;> rfl
@[simp] theorem recErr_enc (b c : Nat) : (recErr b c s).enc = s.enc := by unfold recErr; split <;> rfl
@[simp] theorem recErr_grid (b c : Nat) : (recErr b c s).grid = s.grid := by unfold recErr; split <;> rfl
@[simp] theorem recErr_jet (b c : Nat) : (recErr b c s).jet = s.jet := by unfold recErr; split <;> rfl
@[simp] theorem recErr_ing (b c : Nat) : (recErr b c s).ing = s.ing := by unfold recErr; split <;> rfl
@[simp] theorem recErr_hc (b c : Nat) : (recErr b c s).hc = s.hc := by unfold recErr; split <;> rfl
@[simp] theorem recErr_mot (b c : Nat) : (recErr b c s).mot = s.mot := by unfold recErr; split <;> rfl
@[simp] theorem recErr_vlv (b c : Nat) : (recErr b c s).vlv = s.vlv := by unfold recErr; split <;> rfl
@[simp] theorem recErr_vlvSel (b c : Nat) : (recErr b c s).vlvSel = s.vlvSel := by unfold recErr; split <;> rfl
@[simp] theorem recErr_rail (b c : Nat) : (recErr b c s).rail = s.rail := by unfold recErr; split <;> rfl
@[simp] theorem recErr_boot (b c : Nat) : (recErr b c s).boot = s.boot := by unfold recErr; split <;> rfl
@[simp] theorem recErr_pwr (b c : Nat) : (recErr b c s).pwr = s.pwr := by unfold recErr; split <;> rfl
@[simp] theorem recErr_cal (b c : Nat) : (recErr b c s).cal = s.cal := by unfold recErr; split <;> rfl
@[simp] theorem recErr_nvm (b c : Nat) : (recErr b c s).nvm = s.nvm := by unfold recErr; split <;> rfl
@[simp] theorem recErr_tap (b c : Nat) : (recErr b c s).tap = s.tap := by unfold recErr; split <;> rfl
@[simp] theorem recErr_pending (b c : Nat) : (recErr b c s).pending = s.pending := by unfold recErr; split <;> rfl

@[simp] theorem lees_tk (b c : Nat) (d : List Nat) : (lees b c d s).tk = s.tk := by unfold lees recErr; (repeat' split) <;> rfl
@[simp] theorem lees_tick (b c : Nat) (d : List Nat) : (lees b c d s).tick = s.tick := by unfold lees recErr; (repeat' split) <;> rfl
@[simp] theorem lees_free (b c : Nat) (d : List Nat) : (lees b c d s).free = s.free := by unfold lees recErr; (repeat' split) <;> rfl
@[simp] theorem lees_swathRam (b c : Nat) (d : List Nat) : (lees b c d s).swathRam = s.swathRam := by unfold lees recErr; (repeat' split) <;> rfl
@[simp] theorem lees_bnd (b c : Nat) (d : List Nat) : (lees b c d s).bnd = s.bnd := by unfold lees recErr; (repeat' split) <;> rfl
@[simp] theorem lees_txn (b c : Nat) (d : List Nat) : (lees b c d s).txn = s.txn := by unfold lees recErr; (repeat' split) <;> rfl
@[simp] theorem lees_vine (b c : Nat) (d : List Nat) : (lees b c d s).vine = s.vine := by unfold lees recErr; (repeat' split) <;> rfl
@[simp] theorem lees_enc (b c : Nat) (d : List Nat) : (lees b c d s).enc = s.enc := by unfold lees recErr; (repeat' split) <;> rfl
@[simp] theorem lees_grid (b c : Nat) (d : List Nat) : (lees b c d s).grid = s.grid := by unfold lees recErr; (repeat' split) <;> rfl
@[simp] theorem lees_jet (b c : Nat) (d : List Nat) : (lees b c d s).jet = s.jet := by unfold lees recErr; (repeat' split) <;> rfl
@[simp] theorem lees_ing (b c : Nat) (d : List Nat) : (lees b c d s).ing = s.ing := by unfold lees recErr; (repeat' split) <;> rfl
@[simp] theorem lees_hc (b c : Nat) (d : List Nat) : (lees b c d s).hc = s.hc := by unfold lees recErr; (repeat' split) <;> rfl
@[simp] theorem lees_mot (b c : Nat) (d : List Nat) : (lees b c d s).mot = s.mot := by unfold lees recErr; (repeat' split) <;> rfl
@[simp] theorem lees_vlv (b c : Nat) (d : List Nat) : (lees b c d s).vlv = s.vlv := by unfold lees recErr; (repeat' split) <;> rfl
@[simp] theorem lees_vlvSel (b c : Nat) (d : List Nat) : (lees b c d s).vlvSel = s.vlvSel := by unfold lees recErr; (repeat' split) <;> rfl
@[simp] theorem lees_rail (b c : Nat) (d : List Nat) : (lees b c d s).rail = s.rail := by unfold lees recErr; (repeat' split) <;> rfl
@[simp] theorem lees_boot (b c : Nat) (d : List Nat) : (lees b c d s).boot = s.boot := by unfold lees recErr; (repeat' split) <;> rfl
@[simp] theorem lees_pwr (b c : Nat) (d : List Nat) : (lees b c d s).pwr = s.pwr := by unfold lees recErr; (repeat' split) <;> rfl
@[simp] theorem lees_cal (b c : Nat) (d : List Nat) : (lees b c d s).cal = s.cal := by unfold lees recErr; (repeat' split) <;> rfl
@[simp] theorem lees_tap (b c : Nat) (d : List Nat) : (lees b c d s).tap = s.tap := by unfold lees recErr; (repeat' split) <;> rfl
@[simp] theorem lees_pending (b c : Nat) (d : List Nat) : (lees b c d s).pending = s.pending := by unfold lees recErr; (repeat' split) <;> rfl

@[simp] theorem hstFlag_tk (i : Nat) : (hstFlag i s).tk = s.tk := rfl
@[simp] theorem hstFlag_tick (i : Nat) : (hstFlag i s).tick = s.tick := rfl
@[simp] theorem hstFlag_free (i : Nat) : (hstFlag i s).free = s.free := rfl
@[simp] theorem hstFlag_tbl (i : Nat) : (hstFlag i s).tbl = s.tbl := rfl
@[simp] theorem hstFlag_swathRam (i : Nat) : (hstFlag i s).swathRam = s.swathRam := rfl
@[simp] theorem hstFlag_bnd (i : Nat) : (hstFlag i s).bnd = s.bnd := rfl
@[simp] theorem hstFlag_txn (i : Nat) : (hstFlag i s).txn = s.txn := rfl
@[simp] theorem hstFlag_vine (i : Nat) : (hstFlag i s).vine = s.vine := rfl
@[simp] theorem hstFlag_enc (i : Nat) : (hstFlag i s).enc = s.enc := rfl
@[simp] theorem hstFlag_grid (i : Nat) : (hstFlag i s).grid = s.grid := rfl
@[simp] theorem hstFlag_jet (i : Nat) : (hstFlag i s).jet = s.jet := rfl
@[simp] theorem hstFlag_ing (i : Nat) : (hstFlag i s).ing = s.ing := rfl
@[simp] theorem hstFlag_hc (i : Nat) : (hstFlag i s).hc = s.hc := rfl
@[simp] theorem hstFlag_mot (i : Nat) : (hstFlag i s).mot = s.mot := rfl
@[simp] theorem hstFlag_vlv (i : Nat) : (hstFlag i s).vlv = s.vlv := rfl
@[simp] theorem hstFlag_vlvSel (i : Nat) : (hstFlag i s).vlvSel = s.vlvSel := rfl
@[simp] theorem hstFlag_rail (i : Nat) : (hstFlag i s).rail = s.rail := rfl
@[simp] theorem hstFlag_boot (i : Nat) : (hstFlag i s).boot = s.boot := rfl
@[simp] theorem hstFlag_pwr (i : Nat) : (hstFlag i s).pwr = s.pwr := rfl
@[simp] theorem hstFlag_cal (i : Nat) : (hstFlag i s).cal = s.cal := rfl
@[simp] theorem hstFlag_nvm (i : Nat) : (hstFlag i s).nvm = s.nvm := rfl
@[simp] theorem hstFlag_tap (i : Nat) : (hstFlag i s).tap = s.tap := rfl
@[simp] theorem hstFlag_pending (i : Nat) : (hstFlag i s).pending = s.pending := rfl

@[simp] theorem setEnc_tk (c : Nat) (f : Enc → Enc) : (setEnc c f s).tk = s.tk := rfl
@[simp] theorem setEnc_tick (c : Nat) (f : Enc → Enc) : (setEnc c f s).tick = s.tick := rfl
@[simp] theorem setEnc_free (c : Nat) (f : Enc → Enc) : (setEnc c f s).free = s.free := rfl
@[simp] theorem setEnc_tbl (c : Nat) (f : Enc → Enc) : (setEnc c f s).tbl = s.tbl := rfl
@[simp] theorem setEnc_swathRam (c : Nat) (f : Enc → Enc) : (setEnc c f s).swathRam = s.swathRam := rfl
@[simp] theorem setEnc_host (c : Nat) (f : Enc → Enc) : (setEnc c f s).host = s.host := rfl
@[simp] theorem setEnc_bnd (c : Nat) (f : Enc → Enc) : (setEnc c f s).bnd = s.bnd := rfl
@[simp] theorem setEnc_txn (c : Nat) (f : Enc → Enc) : (setEnc c f s).txn = s.txn := rfl
@[simp] theorem setEnc_vine (c : Nat) (f : Enc → Enc) : (setEnc c f s).vine = s.vine := rfl
@[simp] theorem setEnc_grid (c : Nat) (f : Enc → Enc) : (setEnc c f s).grid = s.grid := rfl
@[simp] theorem setEnc_jet (c : Nat) (f : Enc → Enc) : (setEnc c f s).jet = s.jet := rfl
@[simp] theorem setEnc_ing (c : Nat) (f : Enc → Enc) : (setEnc c f s).ing = s.ing := rfl
@[simp] theorem setEnc_hc (c : Nat) (f : Enc → Enc) : (setEnc c f s).hc = s.hc := rfl
@[simp] theorem setEnc_mot (c : Nat) (f : Enc → Enc) : (setEnc c f s).mot = s.mot := rfl
@[simp] theorem setEnc_vlv (c : Nat) (f : Enc → Enc) : (setEnc c f s).vlv = s.vlv := rfl
@[simp] theorem setEnc_vlvSel (c : Nat) (f : Enc → Enc) : (setEnc c f s).vlvSel = s.vlvSel := rfl
@[simp] theorem setEnc_rail (c : Nat) (f : Enc → Enc) : (setEnc c f s).rail = s.rail := rfl
@[simp] theorem setEnc_boot (c : Nat) (f : Enc → Enc) : (setEnc c f s).boot = s.boot := rfl
@[simp] theorem setEnc_pwr (c : Nat) (f : Enc → Enc) : (setEnc c f s).pwr = s.pwr := rfl
@[simp] theorem setEnc_cal (c : Nat) (f : Enc → Enc) : (setEnc c f s).cal = s.cal := rfl
@[simp] theorem setEnc_nvm (c : Nat) (f : Enc → Enc) : (setEnc c f s).nvm = s.nvm := rfl
@[simp] theorem setEnc_tap (c : Nat) (f : Enc → Enc) : (setEnc c f s).tap = s.tap := rfl
@[simp] theorem setEnc_pending (c : Nat) (f : Enc → Enc) : (setEnc c f s).pending = s.pending := rfl

@[simp] theorem setAxis_tk (n : Nat) (f : Axis → Axis) : (setAxis n f s).tk = s.tk := rfl
@[simp] theorem setAxis_tick (n : Nat) (f : Axis → Axis) : (setAxis n f s).tick = s.tick := rfl
@[simp] theorem setAxis_free (n : Nat) (f : Axis → Axis) : (setAxis n f s).free = s.free := rfl
@[simp] theorem setAxis_tbl (n : Nat) (f : Axis → Axis) : (setAxis n f s).tbl = s.tbl := rfl
@[simp] theorem setAxis_swathRam (n : Nat) (f : Axis → Axis) : (setAxis n f s).swathRam = s.swathRam := rfl
@[simp] theorem setAxis_host (n : Nat) (f : Axis → Axis) : (setAxis n f s).host = s.host := rfl
@[simp] theorem setAxis_bnd (n : Nat) (f : Axis → Axis) : (setAxis n f s).bnd = s.bnd := rfl
@[simp] theorem setAxis_txn (n : Nat) (f : Axis → Axis) : (setAxis n f s).txn = s.txn := rfl
@[simp] theorem setAxis_vine (n : Nat) (f : Axis → Axis) : (setAxis n f s).vine = s.vine := rfl
@[simp] theorem setAxis_enc (n : Nat) (f : Axis → Axis) : (setAxis n f s).enc = s.enc := rfl
@[simp] theorem setAxis_grid (n : Nat) (f : Axis → Axis) : (setAxis n f s).grid = s.grid := rfl
@[simp] theorem setAxis_jet (n : Nat) (f : Axis → Axis) : (setAxis n f s).jet = s.jet := rfl
@[simp] theorem setAxis_ing (n : Nat) (f : Axis → Axis) : (setAxis n f s).ing = s.ing := rfl
@[simp] theorem setAxis_hc (n : Nat) (f : Axis → Axis) : (setAxis n f s).hc = s.hc := rfl
@[simp] theorem setAxis_vlv (n : Nat) (f : Axis → Axis) : (setAxis n f s).vlv = s.vlv := rfl
@[simp] theorem setAxis_vlvSel (n : Nat) (f : Axis → Axis) : (setAxis n f s).vlvSel = s.vlvSel := rfl
@[simp] theorem setAxis_rail (n : Nat) (f : Axis → Axis) : (setAxis n f s).rail = s.rail := rfl
@[simp] theorem setAxis_boot (n : Nat) (f : Axis → Axis) : (setAxis n f s).boot = s.boot := rfl
@[simp] theorem setAxis_pwr (n : Nat) (f : Axis → Axis) : (setAxis n f s).pwr = s.pwr := rfl
@[simp] theorem setAxis_cal (n : Nat) (f : Axis → Axis) : (setAxis n f s).cal = s.cal := rfl
@[simp] theorem setAxis_nvm (n : Nat) (f : Axis → Axis) : (setAxis n f s).nvm = s.nvm := rfl
@[simp] theorem setAxis_tap (n : Nat) (f : Axis → Axis) : (setAxis n f s).tap = s.tap := rfl
@[simp] theorem setAxis_pending (n : Nat) (f : Axis → Axis) : (setAxis n f s).pending = s.pending := rfl

@[simp] theorem setValve_tk (n : Nat) (f : Valve → Valve) : (setValve n f s).tk = s.tk := rfl
@[simp] theorem setValve_tick (n : Nat) (f : Valve → Valve) : (setValve n f s).tick = s.tick := rfl
@[simp] theorem setValve_free (n : Nat) (f : Valve → Valve) : (setValve n f s).free = s.free := rfl
@[simp] theorem setValve_tbl (n : Nat) (f : Valve → Valve) : (setValve n f s).tbl = s.tbl := rfl
@[simp] theorem setValve_swathRam (n : Nat) (f : Valve → Valve) : (setValve n f s).swathRam = s.swathRam := rfl
@[simp] theorem setValve_host (n : Nat) (f : Valve → Valve) : (setValve n f s).host = s.host := rfl
@[simp] theorem setValve_bnd (n : Nat) (f : Valve → Valve) : (setValve n f s).bnd = s.bnd := rfl
@[simp] theorem setValve_txn (n : Nat) (f : Valve → Valve) : (setValve n f s).txn = s.txn := rfl
@[simp] theorem setValve_vine (n : Nat) (f : Valve → Valve) : (setValve n f s).vine = s.vine := rfl
@[simp] theorem setValve_enc (n : Nat) (f : Valve → Valve) : (setValve n f s).enc = s.enc := rfl
@[simp] theorem setValve_grid (n : Nat) (f : Valve → Valve) : (setValve n f s).grid = s.grid := rfl
@[simp] theorem setValve_jet (n : Nat) (f : Valve → Valve) : (setValve n f s).jet = s.jet := rfl
@[simp] theorem setValve_ing (n : Nat) (f : Valve → Valve) : (setValve n f s).ing = s.ing := rfl
@[simp] theorem setValve_hc (n : Nat) (f : Valve → Valve) : (setValve n f s).hc = s.hc := rfl
@[simp] theorem setValve_mot (n : Nat) (f : Valve → Valve) : (setValve n f s).mot = s.mot := rfl
@[simp] theorem setValve_vlvSel (n : Nat) (f : Valve → Valve) : (setValve n f s).vlvSel = s.vlvSel := rfl
@[simp] theorem setValve_rail (n : Nat) (f : Valve → Valve) : (setValve n f s).rail = s.rail := rfl
@[simp] theorem setValve_boot (n : Nat) (f : Valve → Valve) : (setValve n f s).boot = s.boot := rfl
@[simp] theorem setValve_pwr (n : Nat) (f : Valve → Valve) : (setValve n f s).pwr = s.pwr := rfl
@[simp] theorem setValve_cal (n : Nat) (f : Valve → Valve) : (setValve n f s).cal = s.cal := rfl
@[simp] theorem setValve_nvm (n : Nat) (f : Valve → Valve) : (setValve n f s).nvm = s.nvm := rfl
@[simp] theorem setValve_tap (n : Nat) (f : Valve → Valve) : (setValve n f s).tap = s.tap := rfl
@[simp] theorem setValve_pending (n : Nat) (f : Valve → Valve) : (setValve n f s).pending = s.pending := rfl

@[simp] theorem setRail_tk (r : Nat) (f : RailCh → RailCh) : (setRail r f s).tk = s.tk := rfl
@[simp] theorem setRail_tick (r : Nat) (f : RailCh → RailCh) : (setRail r f s).tick = s.tick := rfl
@[simp] theorem setRail_free (r : Nat) (f : RailCh → RailCh) : (setRail r f s).free = s.free := rfl
@[simp] theorem setRail_tbl (r : Nat) (f : RailCh → RailCh) : (setRail r f s).tbl = s.tbl := rfl
@[simp] theorem setRail_swathRam (r : Nat) (f : RailCh → RailCh) : (setRail r f s).swathRam = s.swathRam := rfl
@[simp] theorem setRail_host (r : Nat) (f : RailCh → RailCh) : (setRail r f s).host = s.host := rfl
@[simp] theorem setRail_bnd (r : Nat) (f : RailCh → RailCh) : (setRail r f s).bnd = s.bnd := rfl
@[simp] theorem setRail_txn (r : Nat) (f : RailCh → RailCh) : (setRail r f s).txn = s.txn := rfl
@[simp] theorem setRail_vine (r : Nat) (f : RailCh → RailCh) : (setRail r f s).vine = s.vine := rfl
@[simp] theorem setRail_enc (r : Nat) (f : RailCh → RailCh) : (setRail r f s).enc = s.enc := rfl
@[simp] theorem setRail_grid (r : Nat) (f : RailCh → RailCh) : (setRail r f s).grid = s.grid := rfl
@[simp] theorem setRail_jet (r : Nat) (f : RailCh → RailCh) : (setRail r f s).jet = s.jet := rfl
@[simp] theorem setRail_ing (r : Nat) (f : RailCh → RailCh) : (setRail r f s).ing = s.ing := rfl
@[simp] theorem setRail_hc (r : Nat) (f : RailCh → RailCh) : (setRail r f s).hc = s.hc := rfl
@[simp] theorem setRail_mot (r : Nat) (f : RailCh → RailCh) : (setRail r f s).mot = s.mot := rfl
@[simp] theorem setRail_vlv (r : Nat) (f : RailCh → RailCh) : (setRail r f s).vlv = s.vlv := rfl
@[simp] theorem setRail_vlvSel (r : Nat) (f : RailCh → RailCh) : (setRail r f s).vlvSel = s.vlvSel := rfl
@[simp] theorem setRail_boot (r : Nat) (f : RailCh → RailCh) : (setRail r f s).boot = s.boot := rfl
@[simp] theorem setRail_pwr (r : Nat) (f : RailCh → RailCh) : (setRail r f s).pwr = s.pwr := rfl
@[simp] theorem setRail_cal (r : Nat) (f : RailCh → RailCh) : (setRail r f s).cal = s.cal := rfl
@[simp] theorem setRail_nvm (r : Nat) (f : RailCh → RailCh) : (setRail r f s).nvm = s.nvm := rfl
@[simp] theorem setRail_tap (r : Nat) (f : RailCh → RailCh) : (setRail r f s).tap = s.tap := rfl
@[simp] theorem setRail_pending (r : Nat) (f : RailCh → RailCh) : (setRail r f s).pending = s.pending := rfl

@[simp] theorem setVine_tk (f : Vine → Vine) : (setVine f s).tk = s.tk := rfl
@[simp] theorem setVine_tick (f : Vine → Vine) : (setVine f s).tick = s.tick := rfl
@[simp] theorem setVine_free (f : Vine → Vine) : (setVine f s).free = s.free := rfl
@[simp] theorem setVine_tbl (f : Vine → Vine) : (setVine f s).tbl = s.tbl := rfl
@[simp] theorem setVine_swathRam (f : Vine → Vine) : (setVine f s).swathRam = s.swathRam := rfl
@[simp] theorem setVine_host (f : Vine → Vine) : (setVine f s).host = s.host := rfl
@[simp] theorem setVine_bnd (f : Vine → Vine) : (setVine f s).bnd = s.bnd := rfl
@[simp] theorem setVine_txn (f : Vine → Vine) : (setVine f s).txn = s.txn := rfl
@[simp] theorem setVine_enc (f : Vine → Vine) : (setVine f s).enc = s.enc := rfl
@[simp] theorem setVine_grid (f : Vine → Vine) : (setVine f s).grid = s.grid := rfl
@[simp] theorem setVine_jet (f : Vine → Vine) : (setVine f s).jet = s.jet := rfl
@[simp] theorem setVine_ing (f : Vine → Vine) : (setVine f s).ing = s.ing := rfl
@[simp] theorem setVine_hc (f : Vine → Vine) : (setVine f s).hc = s.hc := rfl
@[simp] theorem setVine_mot (f : Vine → Vine) : (setVine f s).mot = s.mot := rfl
@[simp] theorem setVine_vlv (f : Vine → Vine) : (setVine f s).vlv = s.vlv := rfl
@[simp] theorem setVine_vlvSel (f : Vine → Vine) : (setVine f s).vlvSel = s.vlvSel := rfl
@[simp] theorem setVine_rail (f : Vine → Vine) : (setVine f s).rail = s.rail := rfl
@[simp] theorem setVine_boot (f : Vine → Vine) : (setVine f s).boot = s.boot := rfl
@[simp] theorem setVine_pwr (f : Vine → Vine) : (setVine f s).pwr = s.pwr := rfl
@[simp] theorem setVine_cal (f : Vine → Vine) : (setVine f s).cal = s.cal := rfl
@[simp] theorem setVine_nvm (f : Vine → Vine) : (setVine f s).nvm = s.nvm := rfl
@[simp] theorem setVine_tap (f : Vine → Vine) : (setVine f s).tap = s.tap := rfl
@[simp] theorem setVine_pending (f : Vine → Vine) : (setVine f s).pending = s.pending := rfl

@[simp] theorem setPort_tk (p : Nat) (f : Port → Port) : (setPort p f s).tk = s.tk := rfl
@[simp] theorem setPort_tick (p : Nat) (f : Port → Port) : (setPort p f s).tick = s.tick := rfl
@[simp] theorem setPort_free (p : Nat) (f : Port → Port) : (setPort p f s).free = s.free := rfl
@[simp] theorem setPort_tbl (p : Nat) (f : Port → Port) : (setPort p f s).tbl = s.tbl := rfl
@[simp] theorem setPort_swathRam (p : Nat) (f : Port → Port) : (setPort p f s).swathRam = s.swathRam := rfl
@[simp] theorem setPort_host (p : Nat) (f : Port → Port) : (setPort p f s).host = s.host := rfl
@[simp] theorem setPort_bnd (p : Nat) (f : Port → Port) : (setPort p f s).bnd = s.bnd := rfl
@[simp] theorem setPort_txn (p : Nat) (f : Port → Port) : (setPort p f s).txn = s.txn := rfl
@[simp] theorem setPort_enc (p : Nat) (f : Port → Port) : (setPort p f s).enc = s.enc := rfl
@[simp] theorem setPort_grid (p : Nat) (f : Port → Port) : (setPort p f s).grid = s.grid := rfl
@[simp] theorem setPort_jet (p : Nat) (f : Port → Port) : (setPort p f s).jet = s.jet := rfl
@[simp] theorem setPort_ing (p : Nat) (f : Port → Port) : (setPort p f s).ing = s.ing := rfl
@[simp] theorem setPort_hc (p : Nat) (f : Port → Port) : (setPort p f s).hc = s.hc := rfl
@[simp] theorem setPort_mot (p : Nat) (f : Port → Port) : (setPort p f s).mot = s.mot := rfl
@[simp] theorem setPort_vlv (p : Nat) (f : Port → Port) : (setPort p f s).vlv = s.vlv := rfl
@[simp] theorem setPort_vlvSel (p : Nat) (f : Port → Port) : (setPort p f s).vlvSel = s.vlvSel := rfl
@[simp] theorem setPort_rail (p : Nat) (f : Port → Port) : (setPort p f s).rail = s.rail := rfl
@[simp] theorem setPort_boot (p : Nat) (f : Port → Port) : (setPort p f s).boot = s.boot := rfl
@[simp] theorem setPort_pwr (p : Nat) (f : Port → Port) : (setPort p f s).pwr = s.pwr := rfl
@[simp] theorem setPort_cal (p : Nat) (f : Port → Port) : (setPort p f s).cal = s.cal := rfl
@[simp] theorem setPort_nvm (p : Nat) (f : Port → Port) : (setPort p f s).nvm = s.nvm := rfl
@[simp] theorem setPort_tap (p : Nat) (f : Port → Port) : (setPort p f s).tap = s.tap := rfl
@[simp] theorem setPort_pending (p : Nat) (f : Port → Port) : (setPort p f s).pending = s.pending := rfl

@[simp] theorem setSlot_tk (sl : Nat) (f : Slot → Slot) : (setSlot sl f s).tk = s.tk := rfl
@[simp] theorem setSlot_tick (sl : Nat) (f : Slot → Slot) : (setSlot sl f s).tick = s.tick := rfl
@[simp] theorem setSlot_free (sl : Nat) (f : Slot → Slot) : (setSlot sl f s).free = s.free := rfl
@[simp] theorem setSlot_tbl (sl : Nat) (f : Slot → Slot) : (setSlot sl f s).tbl = s.tbl := rfl
@[simp] theorem setSlot_swathRam (sl : Nat) (f : Slot → Slot) : (setSlot sl f s).swathRam = s.swathRam := rfl
@[simp] theorem setSlot_host (sl : Nat) (f : Slot → Slot) : (setSlot sl f s).host = s.host := rfl
@[simp] theorem setSlot_bnd (sl : Nat) (f : Slot → Slot) : (setSlot sl f s).bnd = s.bnd := rfl
@[simp] theorem setSlot_txn (sl : Nat) (f : Slot → Slot) : (setSlot sl f s).txn = s.txn := rfl
@[simp] theorem setSlot_vine (sl : Nat) (f : Slot → Slot) : (setSlot sl f s).vine = s.vine := rfl
@[simp] theorem setSlot_enc (sl : Nat) (f : Slot → Slot) : (setSlot sl f s).enc = s.enc := rfl
@[simp] theorem setSlot_grid (sl : Nat) (f : Slot → Slot) : (setSlot sl f s).grid = s.grid := rfl
@[simp] theorem setSlot_jet (sl : Nat) (f : Slot → Slot) : (setSlot sl f s).jet = s.jet := rfl
@[simp] theorem setSlot_hc (sl : Nat) (f : Slot → Slot) : (setSlot sl f s).hc = s.hc := rfl
@[simp] theorem setSlot_mot (sl : Nat) (f : Slot → Slot) : (setSlot sl f s).mot = s.mot := rfl
@[simp] theorem setSlot_vlv (sl : Nat) (f : Slot → Slot) : (setSlot sl f s).vlv = s.vlv := rfl
@[simp] theorem setSlot_vlvSel (sl : Nat) (f : Slot → Slot) : (setSlot sl f s).vlvSel = s.vlvSel := rfl
@[simp] theorem setSlot_rail (sl : Nat) (f : Slot → Slot) : (setSlot sl f s).rail = s.rail := rfl
@[simp] theorem setSlot_boot (sl : Nat) (f : Slot → Slot) : (setSlot sl f s).boot = s.boot := rfl
@[simp] theorem setSlot_pwr (sl : Nat) (f : Slot → Slot) : (setSlot sl f s).pwr = s.pwr := rfl
@[simp] theorem setSlot_cal (sl : Nat) (f : Slot → Slot) : (setSlot sl f s).cal = s.cal := rfl
@[simp] theorem setSlot_nvm (sl : Nat) (f : Slot → Slot) : (setSlot sl f s).nvm = s.nvm := rfl
@[simp] theorem setSlot_tap (sl : Nat) (f : Slot → Slot) : (setSlot sl f s).tap = s.tap := rfl
@[simp] theorem setSlot_pending (sl : Nat) (f : Slot → Slot) : (setSlot sl f s).pending = s.pending := rfl

@[simp] theorem setConsSlot_tk (k : Nat) (f : Cons → Cons) : (setConsSlot k f s).tk = s.tk := rfl
@[simp] theorem setConsSlot_tick (k : Nat) (f : Cons → Cons) : (setConsSlot k f s).tick = s.tick := rfl
@[simp] theorem setConsSlot_free (k : Nat) (f : Cons → Cons) : (setConsSlot k f s).free = s.free := rfl
@[simp] theorem setConsSlot_tbl (k : Nat) (f : Cons → Cons) : (setConsSlot k f s).tbl = s.tbl := rfl
@[simp] theorem setConsSlot_swathRam (k : Nat) (f : Cons → Cons) : (setConsSlot k f s).swathRam = s.swathRam := rfl
@[simp] theorem setConsSlot_host (k : Nat) (f : Cons → Cons) : (setConsSlot k f s).host = s.host := rfl
@[simp] theorem setConsSlot_bnd (k : Nat) (f : Cons → Cons) : (setConsSlot k f s).bnd = s.bnd := rfl
@[simp] theorem setConsSlot_txn (k : Nat) (f : Cons → Cons) : (setConsSlot k f s).txn = s.txn := rfl
@[simp] theorem setConsSlot_vine (k : Nat) (f : Cons → Cons) : (setConsSlot k f s).vine = s.vine := rfl
@[simp] theorem setConsSlot_enc (k : Nat) (f : Cons → Cons) : (setConsSlot k f s).enc = s.enc := rfl
@[simp] theorem setConsSlot_grid (k : Nat) (f : Cons → Cons) : (setConsSlot k f s).grid = s.grid := rfl
@[simp] theorem setConsSlot_jet (k : Nat) (f : Cons → Cons) : (setConsSlot k f s).jet = s.jet := rfl
@[simp] theorem setConsSlot_ing (k : Nat) (f : Cons → Cons) : (setConsSlot k f s).ing = s.ing := rfl
@[simp] theorem setConsSlot_mot (k : Nat) (f : Cons → Cons) : (setConsSlot k f s).mot = s.mot := rfl
@[simp] theorem setConsSlot_vlv (k : Nat) (f : Cons → Cons) : (setConsSlot k f s).vlv = s.vlv := rfl
@[simp] theorem setConsSlot_vlvSel (k : Nat) (f : Cons → Cons) : (setConsSlot k f s).vlvSel = s.vlvSel := rfl
@[simp] theorem setConsSlot_rail (k : Nat) (f : Cons → Cons) : (setConsSlot k f s).rail = s.rail := rfl
@[simp] theorem setConsSlot_boot (k : Nat) (f : Cons → Cons) : (setConsSlot k f s).boot = s.boot := rfl
@[simp] theorem setConsSlot_pwr (k : Nat) (f : Cons → Cons) : (setConsSlot k f s).pwr = s.pwr := rfl
@[simp] theorem setConsSlot_cal (k : Nat) (f : Cons → Cons) : (setConsSlot k f s).cal = s.cal := rfl
@[simp] theorem setConsSlot_nvm (k : Nat) (f : Cons → Cons) : (setConsSlot k f s).nvm = s.nvm := rfl
@[simp] theorem setConsSlot_tap (k : Nat) (f : Cons → Cons) : (setConsSlot k f s).tap = s.tap := rfl
@[simp] theorem setConsSlot_pending (k : Nat) (f : Cons → Cons) : (setConsSlot k f s).pending = s.pending := rfl

end Sys2Proof.Machine
end

