-- ==== Sys2Proof/Laws/Ops.lean ====
section
/-! SUPPORT. What each shared operation does, said once: table words, counters, lists of like things, interrupts,
errors, lees records, gates, wake events and core reset. -/

namespace Sys2Proof.Machine

set_option Elab.async false

/-! ### Table words -/

/-- Table addresses below 2^24 have keys of their own. -/
theorem tkey_inj {t a t' a' : Nat} (ha : a < 2 ^ 24) (ha' : a' < 2 ^ 24) : tkey t a = tkey t' a' ↔ t = t' ∧ a = a' := by
  unfold tkey; omega

/-- A table word reads what was written to it. -/
theorem tget_tset_same {s : State} (h : tblWf s = true) (t a : Nat) (v : Word) : tget (tset t a v s) t a = v :=
  cellGet_cellSet_same h

/-- Every other table word reads as before. -/
theorem tget_tset_other {s : State} (h : tblWf s = true) {t a t' a' : Nat} (hne : tkey t' a' ≠ tkey t a) (v : Word) :
    tget (tset t a v s) t' a' = tget s t' a' :=
  cellGet_cellSet_other hne h

/-- Storing a table word keeps the canonical form. -/
theorem tset_wf {s : State} (h : tblWf s = true) (t a : Nat) (v : Word) : tblWf (tset t a v s) = true :=
  cellSet_wf (Nat.zero_le _) h

/-- Storing a run of table words keeps the canonical form. -/
theorem tsetRun_wf {s : State} (h : tblWf s = true) (t a : Nat) (vs : List Word) : tblWf (tsetRun t a vs s) = true :=
  cellSetRun_wf h

/-- A counter keeps the canonical form. -/
theorem bump_wf {s : State} (h : tblWf s = true) (t a : Nat) : tblWf (bump t a s) = true := tset_wf h _ _ _

/-- A counter of several steps keeps the canonical form. -/
theorem bumpBy_wf {s : State} (h : tblWf s = true) (t a n : Nat) : tblWf (bumpBy t a n s) = true := tset_wf h _ _ _

/-- A counter of two words keeps the canonical form. -/
theorem bump32_wf {s : State} (h : tblWf s = true) (t a : Nat) : tblWf (bump32 t a s) = true := tset_wf (tset_wf h _ _ _) _ _ _

/-- A counter counts, and saturates at 0xFFFF. -/
theorem tget_bump {s : State} (h : tblWf s = true) (t a : Nat) : tget (bump t a s) t a = word (sat16 (tnat s t a + 1)) :=
  tget_tset_same h t a _

/-- Every other word is unchanged by a counter. -/
theorem tget_bump_other {s : State} (h : tblWf s = true) {t a t' a' : Nat} (hne : tkey t' a' ≠ tkey t a) :
    tget (bump t a s) t' a' = tget s t' a' :=
  tget_tset_other h hne _

/-! ### The flash -/

/-- A run of stored bytes keeps the canonical form of the flash. -/
theorem nvmStore_wf {s : State} (h : nvmWf s = true) (a : Nat) (bs : List Byte) : nvmWf (nvmStore a bs s) = true := cellSetRun_wf h

/-- A run of bytes reads outside itself as before. -/
theorem cellGet_cellSetRun_other {α : Type} [DecidableEq α] {d : Nat → α} {k' : Nat} : ∀ {vs : List α} {k : Nat} {m : List (Nat × α)},
    cellsWf d 0 m = true → (k' < k ∨ k + vs.length ≤ k') → cellGet d (cellSetRun d k vs m) k' = cellGet d m k'
  | [], _, _, _, _ => rfl
  | v :: vs, k, m, hm, hk => by
    have hne : k' ≠ k := by
      rcases hk with h | h
      · omega
      · simp at h; omega
    have h2 : k' < k + 1 ∨ k + 1 + vs.length ≤ k' := by
      rcases hk with h | h
      · omega
      · simp at h; omega
    simp only [cellSetRun]
    rw [cellGet_cellSetRun_other (cellSet_wf (Nat.zero_le _) hm) h2, cellGet_cellSet_other hne hm]

/-! ### Lists of like things -/

/-- A changed list keeps its length. -/
@[simp] theorem modifyNth_length {α : Type} (f : α → α) : ∀ (l : List α) (i : Nat), (modifyNth f l i).length = l.length
  | [], _ => rfl
  | _ :: _, 0 => rfl
  | _ :: xs, i + 1 => by simp [modifyNth, modifyNth_length f xs i]

/-- The changed element. -/
theorem modifyNth_get_same {α : Type} (f : α → α) (d : α) : ∀ (l : List α) (i : Nat), i < l.length →
    (modifyNth f l i).getD i d = f (l.getD i d)
  | [], _, h => absurd h (Nat.not_lt_zero _)
  | _ :: _, 0, _ => rfl
  | _ :: xs, i + 1, h => by
    have := modifyNth_get_same f d xs i (by simpa using h)
    simpa [modifyNth] using this

/-- The others. -/
theorem modifyNth_get_other {α : Type} (f : α → α) (d : α) : ∀ (l : List α) (i j : Nat), j ≠ i →
    (modifyNth f l i).getD j d = l.getD j d
  | [], _, _, _ => rfl
  | _ :: _, 0, 0, h => absurd rfl h
  | _ :: _, 0, _ + 1, _ => rfl
  | _ :: _, _ + 1, 0, _ => rfl
  | _ :: xs, i + 1, j + 1, h => by
    have := modifyNth_get_other f d xs i j (by omega)
    simpa [modifyNth] using this

/-! ### Interrupts, errors and records -/

/-- An interrupt source sets its bit and changes nothing else. -/
theorem raise_eq (n : Nat) (s : State) : raise n s =
    { s with host.irqPend := s.host.irqPend ||| word (2 ^ n), host.irqSame := irqNow s ||| word (2 ^ n), host.irqAt := s.tk } := rfl

/-- An error is recorded while the core runs, and nothing is while it does not. -/
theorem recErr_cases (b c : Nat) (s : State) :
    (coreRuns s = false ∧ recErr b c s = s) ∨
    (coreRuns s = true ∧ (recErr b c s).host.errCount = sat16 (s.host.errCount + 1)
      ∧ (recErr b c s).host.irqPend = (if s.host.errCount < 0xFFFF then s.host.irqPend ||| 0x8000 else s.host.irqPend)
      ∧ (recErr b c s).host.errTotal = s.host.errTotal + 1
      ∧ (recErr b c s).host.errHist = (word (b * 256 + c), s.tick) :: s.host.errHist.take 31) := by
  unfold recErr
  by_cases h : coreRuns s = true
  · right; rw [if_pos h]
    refine ⟨h, rfl, ?_, rfl, rfl⟩
    dsimp only [errNoted]; split <;> rfl
  · left; simp only [Bool.not_eq_true] at h; simp [h]

/-- A lees record waits in VAON before the core runs, while there is room for it. -/
theorem lees_early (b c : Nat) (d : List Nat) (s : State) (h : coreRuns s = false)
    (hr : (s.rail.barred && decide (16 ≤ s.nvm.barredQ.length + s.nvm.preQ.length)) = false) :
    (lees b c d s).nvm.preQ = s.nvm.preQ ++ [{ time := s.tick.toNat / 2 ^ 16, boot := s.nvm.bootCount % 256, block := b,
                                               code := c, data := d }] := by
  unfold lees; simp only [hr, h]; rfl

/-! ### Wake events -/

/-- A wake event that does not act leaves the state alone. -/
theorem wake_ignored (b : Nat) (s : State) (h : wakeActs (wakeRow s) b (bit (tnat s 0x08 0) b) = false) : wake b s = s := by
  simp [wake, h]

/-- A wake event that acts shows in WAKE_SRC. -/
theorem wake_src (b : Nat) (s : State) (h : wakeActs (wakeRow s) b (bit (tnat s 0x08 0) b) = true) :
    (wake b s).pwr.wakeSrc = s.pwr.wakeSrc ||| word (2 ^ b) := by
  unfold wake; rw [if_pos h]; dsimp only; (repeat' split) <;> rfl

/-! ### The step -/

/-- A step with a waiting command is that command. -/
theorem step_cons (s : State) (c : Instr) (cs : List Instr) (h : s.pending = c :: cs) : step s = exec c { s with pending := cs } := by
  simp [step, h]

/-- A step with an empty queue is one TK. -/
theorem step_nil (s : State) (h : s.pending = []) : step s = .next (passTk s) := by simp [step, h]

end Sys2Proof.Machine
end

