-- ==== Sys2Proof/Laws/Keeps.lean ====
section
/-! SUPPORT. What every operation keeps: the good form of the state (`WfState`), the queue, the straps, a locked
protected region, and the parts of the state it has no hand in (`Part`). This file holds the
general lemmas; the `Keeps…` files beside it have one lemma for each operation of the module they are named after. -/

namespace Sys2Proof.Machine

set_option Elab.async false

set_option linter.all false

/-- The state is in good form, and against the state `B0`: its queue and its straps are the same, a locked protected
region of `B0` is locked still and unchanged, and every part outside `K` is the same. -/
structure Keeps (K : List Part) (B0 : State) (s : State) : Prop extends WfState s where
  /-- The waiting commands. -/
  queue : s.pending = B0.pending
  /-- HSEL. -/
  hsel : s.boot.hsel = B0.boot.hsel
  /-- REFSEL. -/
  refsel : s.boot.refsel = B0.boot.refsel
  /-- SEQSELF. -/
  seqs : s.boot.seqSelf = B0.boot.seqSelf
  /-- The protected region. -/
  lock : keySafe B0 = true → keySafe s = true ∧ s.nvm.keys = B0.nvm.keys ∧ s.nvm.defaults = B0.nvm.defaults
  /-- The parts that stay. -/
  stay : ∀ p, p ∉ K → p.same B0 s

variable {K : List Part} {B0 : State}

theorem bytesBE_length : ∀ (n x : Nat), (bytesBE n x).length = n
  | 0, _ => rfl
  | n + 1, x => by simp [bytesBE, bytesBE_length n x]

theorem sha256Round_length (st : List (BitVec 32)) (kw : BitVec 32) : (sha256Round st kw).length = st.length := by
  unfold sha256Round; split <;> rfl

theorem sha256Block_length (h block : List (BitVec 32)) (hh : h.length = 8) : (sha256Block h block).length = 8 := by
  have : ∀ (l : List (BitVec 32)) (st : List (BitVec 32)), (l.foldl sha256Round st).length = st.length := by
    intro l
    induction l with
    | nil => intro st; rfl
    | cons x l ih => intro st; simp only [List.foldl_cons]; rw [ih, sha256Round_length]
  simp [sha256Block, this, hh]

theorem sha256Blocks_length : ∀ (n : Nat) (h ws : List (BitVec 32)), h.length = 8 → (sha256Blocks n h ws).length = 8
  | 0, _, _, hh => hh
  | n + 1, h, ws, hh => sha256Blocks_length n _ _ (sha256Block_length h _ hh)

/-- A digest has 32 bytes. -/
theorem sha256_length (bs : List Byte) : (sha256 bs).length = 32 := by
  unfold sha256
  have h := sha256Blocks_length ((sha256Words (sha256Pad bs)).length / 16) sha256H (sha256Words (sha256Pad bs)) rfl
  simp [List.length_flatMap, bytesBE_length, h]

/-- Extending a vintage register keeps the lengths. -/
theorem extend_lengths {v : List (List Byte)} (hv : v.map List.length = List.replicate 4 32) (d : List Byte) (n : Nat) :
    (modifyNth (fun x => sha256 (x ++ d)) v n).map List.length = v.map List.length := by
  have h : ∀ x ∈ v, x.length = 32 := by
    intro x hx
    have : x.length ∈ List.replicate 4 32 := hv ▸ List.mem_map_of_mem hx
    exact (List.mem_replicate.mp this).2
  clear hv
  induction v generalizing n with
  | nil => rfl
  | cons x v ih =>
    cases n with
    | zero => simp [modifyNth, sha256_length, h x (by simp)]
    | succ n => simp [modifyNth, ih n (fun y hy => h y (by simp [hy]))]

theorem same_mk {s t : State} (h : Keeps K B0 s)
    (k_tk : Part.tk ∈ K ∨ t.tk = s.tk := by first | exact Or.inr (by with_reducible rfl) | exact Or.inl Fact.out | exact Or.inr rfl)
    (k_tick : Part.tick ∈ K ∨ t.tick = s.tick := by first | exact Or.inr (by with_reducible rfl) | exact Or.inl Fact.out | exact Or.inr rfl)
    (k_free : Part.free ∈ K ∨ t.free = s.free := by first | exact Or.inr (by with_reducible rfl) | exact Or.inl Fact.out | exact Or.inr rfl)
    (k_tbl : Part.tbl ∈ K ∨ t.tbl = s.tbl := by first | exact Or.inr (by with_reducible rfl) | exact Or.inl Fact.out | exact Or.inr rfl)
    (k_swathRam : Part.swathRam ∈ K ∨ t.swathRam = s.swathRam := by first | exact Or.inr (by with_reducible rfl) | exact Or.inl Fact.out | exact Or.inr rfl)
    (k_host : Part.host ∈ K ∨ t.host = s.host := by first | exact Or.inr (by with_reducible rfl) | exact Or.inl Fact.out | exact Or.inr rfl)
    (k_bnd : Part.bnd ∈ K ∨ t.bnd = s.bnd := by first | exact Or.inr (by with_reducible rfl) | exact Or.inl Fact.out | exact Or.inr rfl)
    (k_txn : Part.txn ∈ K ∨ t.txn = s.txn := by first | exact Or.inr (by with_reducible rfl) | exact Or.inl Fact.out | exact Or.inr rfl)
    (k_vine : Part.vine ∈ K ∨ t.vine = s.vine := by first | exact Or.inr (by with_reducible rfl) | exact Or.inl Fact.out | exact Or.inr rfl)
    (k_enc : Part.enc ∈ K ∨ t.enc = s.enc := by first | exact Or.inr (by with_reducible rfl) | exact Or.inl Fact.out | exact Or.inr rfl)
    (k_grid : Part.grid ∈ K ∨ t.grid = s.grid := by first | exact Or.inr (by with_reducible rfl) | exact Or.inl Fact.out | exact Or.inr rfl)
    (k_jet : Part.jet ∈ K ∨ t.jet = s.jet := by first | exact Or.inr (by with_reducible rfl) | exact Or.inl Fact.out | exact Or.inr rfl)
    (k_ing : Part.ing ∈ K ∨ t.ing = s.ing := by first | exact Or.inr (by with_reducible rfl) | exact Or.inl Fact.out | exact Or.inr rfl)
    (k_hc : Part.hc ∈ K ∨ t.hc = s.hc := by first | exact Or.inr (by with_reducible rfl) | exact Or.inl Fact.out | exact Or.inr rfl)
    (k_mot : Part.mot ∈ K ∨ t.mot = s.mot := by first | exact Or.inr (by with_reducible rfl) | exact Or.inl Fact.out | exact Or.inr rfl)
    (k_vlv : Part.vlv ∈ K ∨ t.vlv = s.vlv := by first | exact Or.inr (by with_reducible rfl) | exact Or.inl Fact.out | exact Or.inr rfl)
    (k_vlvSel : Part.vlvSel ∈ K ∨ t.vlvSel = s.vlvSel := by first | exact Or.inr (by with_reducible rfl) | exact Or.inl Fact.out | exact Or.inr rfl)
    (k_rail : Part.rail ∈ K ∨ t.rail = s.rail := by first | exact Or.inr (by with_reducible rfl) | exact Or.inl Fact.out | exact Or.inr rfl)
    (k_boot : Part.boot ∈ K ∨ t.boot = s.boot := by first | exact Or.inr (by with_reducible rfl) | exact Or.inl Fact.out | exact Or.inr rfl)
    (k_pwr : Part.pwr ∈ K ∨ t.pwr = s.pwr := by first | exact Or.inr (by with_reducible rfl) | exact Or.inl Fact.out | exact Or.inr rfl)
    (k_cal : Part.cal ∈ K ∨ t.cal = s.cal := by first | exact Or.inr (by with_reducible rfl) | exact Or.inl Fact.out | exact Or.inr rfl)
    (k_nvm : Part.nvm ∈ K ∨ t.nvm = s.nvm := by first | exact Or.inr (by with_reducible rfl) | exact Or.inl Fact.out | exact Or.inr rfl)
    (k_tap : Part.tap ∈ K ∨ t.tap = s.tap := by first | exact Or.inr (by with_reducible rfl) | exact Or.inl Fact.out | exact Or.inr rfl) :
    ∀ p, p ∉ K → p.same B0 t := by
  intro p hp
  have h' := h.stay p hp
  cases p <;> simp only [Part.same] at * <;> simp_all

theorem Keeps.upd {s t : State} (h : Keeps K B0 s) (h1 : t.tbl = s.tbl) (h2 : t.nvm.mem = s.nvm.mem) (h3 : t.swathRam = s.swathRam)
  (h4 : t.nvm.defaults = s.nvm.defaults) (h5 : t.txn.cask = s.txn.cask) (h6 : t.enc.length = s.enc.length)
  (h7 : t.mot.axes.length = s.mot.axes.length) (h8 : t.vlv.length = s.vlv.length) (h9 : t.rail.rails.length = s.rail.rails.length)
  (h10 : t.jet.wdacs.length = s.jet.wdacs.length) (h11 : t.ing.slots.length = s.ing.slots.length)
  (h12 : t.hc.inputs.length = s.hc.inputs.length) (h13 : t.hc.temps.length = s.hc.temps.length)
  (h14 : t.hc.reads.length = s.hc.reads.length) (h15 : t.hc.cons.length = s.hc.cons.length)
  (h16 : t.vine.ports.length = s.vine.ports.length) (h17 : t.vine.routes.length = s.vine.routes.length)
  (h18 : t.boot.v.map List.length = s.boot.v.map List.length) (h19 : t.pending = s.pending)
  (h20 : t.boot.hsel = s.boot.hsel) (h21 : t.boot.refsel = s.boot.refsel) (h22 : t.boot.seqSelf = s.boot.seqSelf)
  (h23 : t.nvm.locked = s.nvm.locked) (h24 : t.nvm.busy = s.nvm.busy) (h25 : t.nvm.keys = s.nvm.keys) (h26 : ∀ p, p ∉ K → p.same B0 t) : Keeps K B0 t := by
  obtain ⟨⟨a1,a2,a3,a4,a5,a6,a7,a8,a9,a10,a11,a12,a13,a14,a15,a16,a17,a18⟩, a19, a20, a21, a22, a23, a24⟩ := h
  refine ⟨⟨?_, ?_, ?_, ?_, ?_, ?_, ?_, ?_, ?_, ?_, ?_, ?_, ?_, ?_, ?_, ?_, ?_, ?_⟩, ?_, ?_, ?_, ?_, ?_, h26⟩ <;> simp_all [keySafe, tblWf, nvmWf, ramWf, defaultsWf, caskWf]

theorem keySafe_idle {s t : State} (h : keySafe s = true) (hb : t.nvm.busy = none := by rfl) (hl : t.nvm.locked = s.nvm.locked := by rfl) :
    keySafe t = true := by
  simp only [keySafe, Bool.and_eq_true] at *
  exact ⟨hl ▸ h.1, by rw [hb]; rfl⟩

theorem foldl_keeps {β : Type} {f : State → β → State} (hf : ∀ x s, Keeps K B0 s → Keeps K B0 (f s x)) : ∀ (l : List β) (s : State), Keeps K B0 s → Keeps K B0 (l.foldl f s)
  | [], _, h => h
  | _ :: xs, _, h => foldl_keeps hf xs _ (hf _ _ h)

theorem tset_keeps [Fact (Part.tbl ∈ K)] {s : State} (t a v) (h : Keeps K B0 s) : Keeps K B0 (tset t a v s) := ⟨⟨tset_wf h.tbl _ _ _, h.flash, h.ram, h.defs, h.cask, h.enc, h.axes, h.vlv, h.rails, h.wdacs, h.slots, h.inputs, h.temps, h.reads, h.cons, h.ports, h.routes, h.v⟩, h.queue, h.hsel, h.refsel, h.seqs, h.lock, same_mk h⟩

theorem tsetRun_keeps [Fact (Part.tbl ∈ K)] {s : State} (t a v) (h : Keeps K B0 s) : Keeps K B0 (tsetRun t a v s) := ⟨⟨tsetRun_wf h.tbl _ _ _, h.flash, h.ram, h.defs, h.cask, h.enc, h.axes, h.vlv, h.rails, h.wdacs, h.slots, h.inputs, h.temps, h.reads, h.cons, h.ports, h.routes, h.v⟩, h.queue, h.hsel, h.refsel, h.seqs, h.lock, same_mk h⟩

theorem raise_keeps [Fact (Part.host ∈ K)] (n : Nat) (s : State) (h : Keeps K B0 s) : Keeps K B0 (raise n s) := by
  unfold raise
  exact Keeps.upd h rfl rfl rfl rfl rfl rfl rfl rfl rfl rfl rfl rfl rfl rfl rfl rfl rfl rfl rfl rfl rfl rfl rfl rfl rfl (same_mk h)

theorem ite_keeps {c : Prop} [Decidable c] {a b : State} (ha : c → Keeps K B0 a) (hb : ¬ c → Keeps K B0 b) : Keeps K B0 (if c then a else b) := by
  split
  · exact ha ‹_›
  · exact hb ‹_›

theorem mk_keeps {X : State} {tick} {free} {tbl} {swathRam} {host} {bnd} {txn} {vine} {enc} {grid} {jet} {ing} {hc} {mot} {vlv} {vlvSel} {rail} {boot} {pwr} {cal} {nvm} {tap} {pending} (h : Keeps K B0 X)
  (h1 : tbl = X.tbl := by first | with_reducible rfl | (simp; done)) (h2 : Nvm.mem nvm = X.nvm.mem := by first | with_reducible rfl | (simp; done)) (h3 : swathRam = X.swathRam := by first | with_reducible rfl | (simp; done))
  (h4 : Nvm.defaults nvm = X.nvm.defaults := by first | with_reducible rfl | (simp; done)) (h5 : Txn.cask txn = X.txn.cask := by first | with_reducible rfl | (simp; done)) (h6 : List.length enc = X.enc.length := by first | with_reducible rfl | (simp; done))
  (h7 : (Motion.axes mot).length = X.mot.axes.length := by first | with_reducible rfl | (simp; done)) (h8 : List.length vlv = X.vlv.length := by first | with_reducible rfl | (simp; done)) (h9 : (Rail.rails rail).length = X.rail.rails.length := by first | with_reducible rfl | (simp; done))
  (h10 : (Jet.wdacs jet).length = X.jet.wdacs.length := by first | with_reducible rfl | (simp; done)) (h11 : (Ingest.slots ing).length = X.ing.slots.length := by first | with_reducible rfl | (simp; done))
  (h12 : (HeadCare.inputs hc).length = X.hc.inputs.length := by first | with_reducible rfl | (simp; done)) (h13 : (HeadCare.temps hc).length = X.hc.temps.length := by first | with_reducible rfl | (simp; done))
  (h14 : (HeadCare.reads hc).length = X.hc.reads.length := by first | with_reducible rfl | (simp; done)) (h15 : (HeadCare.cons hc).length = X.hc.cons.length := by first | with_reducible rfl | (simp; done))
  (h16 : (Vine.ports vine).length = X.vine.ports.length := by first | with_reducible rfl | (simp; done)) (h17 : (Vine.routes vine).length = X.vine.routes.length := by first | with_reducible rfl | (simp; done))
  (h18 : (Boot.v boot).map List.length = X.boot.v.map List.length := by first | with_reducible rfl | (simp; done)) (h19 : pending = X.pending := by first | with_reducible rfl | (simp; done))
  (h20 : Boot.hsel boot = X.boot.hsel := by first | with_reducible rfl | (simp; done)) (h21 : Boot.refsel boot = X.boot.refsel := by first | with_reducible rfl | (simp; done)) (h22 : Boot.seqSelf boot = X.boot.seqSelf := by first | with_reducible rfl | (simp; done))
  (h23 : Nvm.locked nvm = X.nvm.locked := by first | with_reducible rfl | (simp; done)) (h24 : Nvm.busy nvm = X.nvm.busy := by first | with_reducible rfl | (simp; done)) (h25 : Nvm.keys nvm = X.nvm.keys := by first | with_reducible rfl | (simp; done))
  (k_tick : Part.tick ∈ K ∨ tick = X.tick := by first | exact Or.inr (by with_reducible rfl) | exact Or.inl Fact.out)
  (k_free : Part.free ∈ K ∨ free = X.free := by first | exact Or.inr (by with_reducible rfl) | exact Or.inl Fact.out)
  (k_tbl : Part.tbl ∈ K ∨ tbl = X.tbl := by first | exact Or.inr (by with_reducible rfl) | exact Or.inl Fact.out)
  (k_swathRam : Part.swathRam ∈ K ∨ swathRam = X.swathRam := by first | exact Or.inr (by with_reducible rfl) | exact Or.inl Fact.out)
  (k_host : Part.host ∈ K ∨ host = X.host := by first | exact Or.inr (by with_reducible rfl) | exact Or.inl Fact.out)
  (k_bnd : Part.bnd ∈ K ∨ bnd = X.bnd := by first | exact Or.inr (by with_reducible rfl) | exact Or.inl Fact.out)
  (k_txn : Part.txn ∈ K ∨ txn = X.txn := by first | exact Or.inr (by with_reducible rfl) | exact Or.inl Fact.out)
  (k_vine : Part.vine ∈ K ∨ vine = X.vine := by first | exact Or.inr (by with_reducible rfl) | exact Or.inl Fact.out)
  (k_enc : Part.enc ∈ K ∨ enc = X.enc := by first | exact Or.inr (by with_reducible rfl) | exact Or.inl Fact.out)
  (k_grid : Part.grid ∈ K ∨ grid = X.grid := by first | exact Or.inr (by with_reducible rfl) | exact Or.inl Fact.out)
  (k_jet : Part.jet ∈ K ∨ jet = X.jet := by first | exact Or.inr (by with_reducible rfl) | exact Or.inl Fact.out)
  (k_ing : Part.ing ∈ K ∨ ing = X.ing := by first | exact Or.inr (by with_reducible rfl) | exact Or.inl Fact.out)
  (k_hc : Part.hc ∈ K ∨ hc = X.hc := by first | exact Or.inr (by with_reducible rfl) | exact Or.inl Fact.out)
  (k_mot : Part.mot ∈ K ∨ mot = X.mot := by first | exact Or.inr (by with_reducible rfl) | exact Or.inl Fact.out)
  (k_vlv : Part.vlv ∈ K ∨ vlv = X.vlv := by first | exact Or.inr (by with_reducible rfl) | exact Or.inl Fact.out)
  (k_vlvSel : Part.vlvSel ∈ K ∨ vlvSel = X.vlvSel := by first | exact Or.inr (by with_reducible rfl) | exact Or.inl Fact.out)
  (k_rail : Part.rail ∈ K ∨ rail = X.rail := by first | exact Or.inr (by with_reducible rfl) | exact Or.inl Fact.out)
  (k_boot : Part.boot ∈ K ∨ boot = X.boot := by first | exact Or.inr (by with_reducible rfl) | exact Or.inl Fact.out)
  (k_pwr : Part.pwr ∈ K ∨ pwr = X.pwr := by first | exact Or.inr (by with_reducible rfl) | exact Or.inl Fact.out)
  (k_cal : Part.cal ∈ K ∨ cal = X.cal := by first | exact Or.inr (by with_reducible rfl) | exact Or.inl Fact.out)
  (k_nvm : Part.nvm ∈ K ∨ nvm = X.nvm := by first | exact Or.inr (by with_reducible rfl) | exact Or.inl Fact.out)
  (k_tap : Part.tap ∈ K ∨ tap = X.tap := by first | exact Or.inr (by with_reducible rfl) | exact Or.inl Fact.out) : Keeps K B0 (State.mk X.tk tick free tbl swathRam host bnd txn vine enc grid jet ing hc mot vlv vlvSel rail boot pwr cal nvm tap pending) :=
  Keeps.upd h h1 h2 h3 h4 h5 h6 h7 h8 h9 h10 h11 h12 h13 h14 h15 h16 h17 h18 h19 h20 h21 h22 h23 h24 h25 (same_mk h (Or.inr rfl) k_tick k_free k_tbl k_swathRam k_host k_bnd k_txn k_vine k_enc k_grid k_jet k_ing k_hc k_mot k_vlv k_vlvSel k_rail k_boot k_pwr k_cal k_nvm k_tap)

theorem tbl_keeps [Fact (Part.tbl ∈ K)] {X : State} {T : Cells} (h : Keeps K B0 X) (hT : cellsWf tblDefault 0 T = true) : Keeps K B0 { X with tbl := T } :=
  ⟨⟨hT, h.flash, h.ram, h.defs, h.cask, h.enc, h.axes, h.vlv, h.rails, h.wdacs, h.slots, h.inputs, h.temps, h.reads, h.cons, h.ports, h.routes, h.v⟩, h.queue, h.hsel, h.refsel, h.seqs, h.lock, same_mk h⟩

theorem caskMem_keeps [Fact (Part.txn ∈ K)] {X : State} {c : Option Cask} (h : Keeps K B0 X) (hT : ∀ k, c = some k → cellsWf tblDefault 0 k.mem = true) : Keeps K B0 { X with txn.cask := c } :=
  ⟨⟨h.tbl, h.flash, h.ram, h.defs, by cases c with | none => rfl | some k => exact hT k rfl, h.enc, h.axes, h.vlv, h.rails, h.wdacs, h.slots, h.inputs, h.temps, h.reads, h.cons, h.ports, h.routes, h.v⟩, h.queue, h.hsel, h.refsel, h.seqs, h.lock, same_mk h⟩

theorem caskIte_wf {X : State} {c : Prop} [Decidable c] {k : Cask} (h : cellsWf tblDefault 0 k.mem = true)
    (e : X.txn.cask = if c then some k else none) : caskWf X = true := by
  unfold caskWf
  rw [e]
  by_cases hc : c
  · rw [if_pos hc]; exact h
  · rw [if_neg hc]

/-! ### Machine/Ops.lean -/

theorem bump_keeps [Fact (Part.tbl ∈ K)] (t a : Nat) (s : State) (hI : Keeps K B0 s) :
    Keeps K B0 (bump t a s) := by
  unfold bump
  try dsimp only
  with_reducible repeat' first
    | assumption | apply foldl_keeps | (apply ite_keeps <;> intro _) | apply tset_keeps
    | (fail_if_no_progress (refine mk_keeps ?_)) | intro _ _ _ | split | rfl | (simp; done)

theorem bumpBy_keeps [Fact (Part.tbl ∈ K)] (t a n : Nat) (s : State) (hI : Keeps K B0 s) :
    Keeps K B0 (bumpBy t a n s) := by
  unfold bumpBy
  try dsimp only
  with_reducible repeat' first
    | assumption | apply foldl_keeps | (apply ite_keeps <;> intro _) | apply tset_keeps
    | (fail_if_no_progress (refine mk_keeps ?_)) | intro _ _ _ | split | rfl | (simp; done)

theorem bump32_keeps [Fact (Part.tbl ∈ K)] (t a : Nat) (s : State) (hI : Keeps K B0 s) :
    Keeps K B0 (bump32 t a s) := by
  unfold bump32
  try dsimp only
  with_reducible repeat' first
    | assumption | apply foldl_keeps | (apply ite_keeps <;> intro _) | apply tset_keeps
    | (fail_if_no_progress (refine mk_keeps ?_)) | intro _ _ _ | split | rfl | (simp; done)

theorem holdCmd_keeps [Fact (Part.host ∈ K)] (h : Held) (s : State) (hI : Keeps K B0 s) :
    Keeps K B0 (holdCmd h s) := by
  unfold holdCmd
  try dsimp only
  with_reducible repeat' first
    | assumption | apply foldl_keeps | (apply ite_keeps <;> intro _) | (fail_if_no_progress (refine mk_keeps ?_))
    | intro _ _ _ | split | rfl | (simp; done)

theorem routedOp_keeps [Fact (Part.host ∈ K)] [Fact (Part.pwr ∈ K)] (h : Held) (f : State → State) (s : State)
    (hI : Keeps K B0 s) (hf : Keeps K B0 (f s)) : Keeps K B0 (routedOp h f s) := by
  have := holdCmd_keeps h s hI
  unfold routedOp
  with_reducible repeat' first
    | assumption | (apply ite_keeps <;> intro _) | (fail_if_no_progress (refine mk_keeps ?_))

theorem recErr_keeps [Fact (Part.host ∈ K)] (block code : Nat) (s : State) (hI : Keeps K B0 s) :
    Keeps K B0 (recErr block code s) := by
  unfold recErr
  try dsimp only
  with_reducible repeat' first
    | assumption | apply foldl_keeps | (apply ite_keeps <;> intro _) | (fail_if_no_progress (refine mk_keeps ?_))
    | intro _ _ _ | split | rfl | (simp; done)

theorem lees_keeps [Fact (Part.tbl ∈ K)] [Fact (Part.host ∈ K)] [Fact (Part.nvm ∈ K)] (block code : Nat) (data : List Nat) (s : State) (hI : Keeps K B0 s) :
    Keeps K B0 (lees block code data s) := by
  unfold lees
  try dsimp only
  with_reducible repeat' first
    | assumption | apply foldl_keeps | (apply ite_keeps <;> intro _) | apply bump_keeps | apply recErr_keeps
    | (fail_if_no_progress (refine mk_keeps ?_)) | intro _ _ _ | split | rfl | (simp; done)

theorem recErrLees_keeps [Fact (Part.tbl ∈ K)] [Fact (Part.host ∈ K)] [Fact (Part.nvm ∈ K)] (block code : Nat) (data : List Nat) (s : State) (hI : Keeps K B0 s) :
    Keeps K B0 (recErrLees block code data s) := by
  unfold recErrLees
  try dsimp only
  with_reducible repeat' first
    | assumption | apply foldl_keeps | (apply ite_keeps <;> intro _) | apply recErr_keeps | apply lees_keeps
    | (fail_if_no_progress (refine mk_keeps ?_)) | intro _ _ _ | split | rfl | (simp; done)

theorem hstFlag_keeps [Fact (Part.host ∈ K)] (i : Nat) (s : State) (hI : Keeps K B0 s) :
    Keeps K B0 (hstFlag i s) := by
  unfold hstFlag
  try dsimp only
  with_reducible repeat' first
    | assumption | apply foldl_keeps | (apply ite_keeps <;> intro _) | apply raise_keeps
    | (fail_if_no_progress (refine mk_keeps ?_)) | intro _ _ _ | split | rfl | (simp; done)

theorem drawRandom_keeps [Fact (Part.free ∈ K)] (s : State) (hI : Keeps K B0 s) :
    Keeps K B0 (drawRandom s).2 := by
  unfold drawRandom
  try dsimp only
  with_reducible repeat' first
    | assumption | apply foldl_keeps | (apply ite_keeps <;> intro _) | (fail_if_no_progress (refine mk_keeps ?_))
    | intro _ _ _ | split | rfl | (simp; done)

theorem cutGroups_keeps [Fact (Part.jet ∈ K)] (m : BitVec 32) (s : State) (hI : Keeps K B0 s) :
    Keeps K B0 (cutGroups m s) := by
  unfold cutGroups
  try dsimp only
  with_reducible repeat' first
    | assumption | apply foldl_keeps | (apply ite_keeps <;> intro _) | (fail_if_no_progress (refine mk_keeps ?_))
    | intro _ _ _ | split | rfl | (simp; done)

theorem raiseIfNew_keeps [Fact (Part.host ∈ K)] [Fact (Part.jet ∈ K)] (old new : BitVec 32) (s : State) (hI : Keeps K B0 s) :
    Keeps K B0 (raiseIfNew old new s) := by
  unfold raiseIfNew
  try dsimp only
  with_reducible repeat' first
    | assumption | apply foldl_keeps | (apply ite_keeps <;> intro _) | apply raise_keeps | apply cutGroups_keeps
    | (fail_if_no_progress (refine mk_keeps ?_)) | intro _ _ _ | split | rfl | (simp; done)

theorem raiseIfShut_keeps [Fact (Part.host ∈ K)] [Fact (Part.jet ∈ K)] (was now : Bool) (s : State) (hI : Keeps K B0 s) :
    Keeps K B0 (raiseIfShut was now s) := by
  unfold raiseIfShut
  try dsimp only
  with_reducible repeat' first
    | assumption | apply foldl_keeps | (apply ite_keeps <;> intro _) | apply raise_keeps | apply cutGroups_keeps
    | (fail_if_no_progress (refine mk_keeps ?_)) | intro _ _ _ | split | rfl | (simp; done)

theorem setHeadid_keeps [Fact (Part.host ∈ K)] [Fact (Part.jet ∈ K)] [Fact (Part.hc ∈ K)] (new : BitVec 32) (s : State) (hI : Keeps K B0 s) :
    Keeps K B0 (setHeadid new s) := by
  unfold setHeadid
  try dsimp only
  with_reducible repeat' first
    | assumption | apply foldl_keeps | (apply ite_keeps <;> intro _) | apply raise_keeps | apply raiseIfNew_keeps
    | (fail_if_no_progress (refine mk_keeps ?_)) | intro _ _ _ | split | rfl | (simp; done)

theorem setTemp_keeps [Fact (Part.host ∈ K)] [Fact (Part.jet ∈ K)] [Fact (Part.hc ∈ K)] (new : BitVec 32) (s : State) (hI : Keeps K B0 s) :
    Keeps K B0 (setTemp new s) := by
  unfold setTemp
  try dsimp only
  with_reducible repeat' first
    | assumption | apply foldl_keeps | (apply ite_keeps <;> intro _) | apply raiseIfNew_keeps
    | (fail_if_no_progress (refine mk_keeps ?_)) | intro _ _ _ | split | rfl | (simp; done)

theorem setCons_keeps [Fact (Part.host ∈ K)] [Fact (Part.jet ∈ K)] [Fact (Part.hc ∈ K)] (new : BitVec 32) (s : State) (hI : Keeps K B0 s) :
    Keeps K B0 (setCons new s) := by
  unfold setCons
  try dsimp only
  with_reducible repeat' first
    | assumption | apply foldl_keeps | (apply ite_keeps <;> intro _) | apply raiseIfNew_keeps
    | (fail_if_no_progress (refine mk_keeps ?_)) | intro _ _ _ | split | rfl | (simp; done)

theorem setRailGate_keeps [Fact (Part.host ∈ K)] [Fact (Part.jet ∈ K)] [Fact (Part.hc ∈ K)] (new : BitVec 32) (s : State) (hI : Keeps K B0 s) :
    Keeps K B0 (setRailGate new s) := by
  unfold setRailGate
  try dsimp only
  with_reducible repeat' first
    | assumption | apply foldl_keeps | (apply ite_keeps <;> intro _) | apply raiseIfNew_keeps
    | (fail_if_no_progress (refine mk_keeps ?_)) | intro _ _ _ | split | rfl | (simp; done)

theorem setHostGate_keeps [Fact (Part.host ∈ K)] [Fact (Part.jet ∈ K)] [Fact (Part.hc ∈ K)] (new : BitVec 32) (s : State) (hI : Keeps K B0 s) :
    Keeps K B0 (setHostGate new s) := by
  unfold setHostGate
  try dsimp only
  with_reducible repeat' first
    | assumption | apply foldl_keeps | (apply ite_keeps <;> intro _) | apply raiseIfNew_keeps
    | (fail_if_no_progress (refine mk_keeps ?_)) | intro _ _ _ | split | rfl | (simp; done)

theorem setTxnGate_keeps [Fact (Part.host ∈ K)] [Fact (Part.jet ∈ K)] [Fact (Part.hc ∈ K)] (b : Bool) (s : State) (hI : Keeps K B0 s) :
    Keeps K B0 (setTxnGate b s) := by
  unfold setTxnGate
  try dsimp only
  with_reducible repeat' first
    | assumption | apply foldl_keeps | (apply ite_keeps <;> intro _) | apply raiseIfShut_keeps
    | (fail_if_no_progress (refine mk_keeps ?_)) | intro _ _ _ | split | rfl | (simp; done)

theorem wake_keeps [Fact (Part.host ∈ K)] [Fact (Part.pwr ∈ K)] (bit_ : Nat) (s : State) (hI : Keeps K B0 s) :
    Keeps K B0 (wake bit_ s) := by
  unfold wake
  try dsimp only
  with_reducible repeat' first
    | assumption | apply foldl_keeps | (apply ite_keeps <;> intro _) | apply raise_keeps
    | (fail_if_no_progress (refine mk_keeps ?_)) | intro _ _ _ | split | rfl | (simp; done)

theorem refusePower_keeps [Fact (Part.host ∈ K)] [Fact (Part.pwr ∈ K)] (reason : Nat) (s : State) (hI : Keeps K B0 s) :
    Keeps K B0 (refusePower reason s) := by
  unfold refusePower
  try dsimp only
  with_reducible repeat' first
    | assumption | apply foldl_keeps | (apply ite_keeps <;> intro _) | apply raise_keeps | apply recErr_keeps
    | (fail_if_no_progress (refine mk_keeps ?_)) | intro _ _ _ | split | rfl | (simp; done)

theorem markBad_keeps [Fact (Part.ing ∈ K)] (disc : Int) (s : State) (hI : Keeps K B0 s) :
    Keeps K B0 (markBad disc s) := by
  unfold markBad
  try dsimp only
  with_reducible repeat' first
    | assumption | apply foldl_keeps | (apply ite_keeps <;> intro _) | (fail_if_no_progress (refine mk_keeps ?_))
    | intro _ _ _ | split | rfl | (simp; done)

/-! ### Machine/Operands.lean -/

theorem linkCount_keeps [Fact (Part.tbl ∈ K)] [Fact (Part.vine ∈ K)] (p off : Nat) (s : State) (hI : Keeps K B0 s) :
    Keeps K B0 (linkCount p off s) := by
  unfold linkCount
  try dsimp only
  with_reducible repeat' first
    | assumption | apply foldl_keeps | (apply ite_keeps <;> intro _) | apply bump_keeps
    | (fail_if_no_progress (refine mk_keeps ?_)) | intro _ _ _ | split | rfl | (simp; done)

theorem setPort_keeps [Fact (Part.vine ∈ K)] (p : Nat) (f : Port → Port) (s : State) (hI : Keeps K B0 s) :
    Keeps K B0 (setPort p f s) := by
  unfold setPort
  try dsimp only
  with_reducible repeat' first
    | assumption | apply foldl_keeps | (apply ite_keeps <;> intro _) | (fail_if_no_progress (refine mk_keeps ?_))
    | intro _ _ _ | split | rfl | (simp; done)

theorem countSent_keeps [Fact (Part.tbl ∈ K)] (p n : Nat) (s : State) (hI : Keeps K B0 s) :
    Keeps K B0 (countSent p n s) := by
  unfold countSent
  try dsimp only
  with_reducible repeat' first
    | assumption | apply foldl_keeps | (apply ite_keeps <;> intro _) | apply tset_keeps
    | (fail_if_no_progress (refine mk_keeps ?_)) | intro _ _ _ | split | rfl | (simp; done)

theorem nextSeq_keeps [Fact (Part.vine ∈ K)] (dst cls : Nat) (s : State) (hI : Keeps K B0 s) :
    Keeps K B0 (nextSeq dst cls s).2 := by
  unfold nextSeq
  try dsimp only
  with_reducible repeat' first
    | assumption | apply foldl_keeps | (apply ite_keeps <;> intro _) | (fail_if_no_progress (refine mk_keeps ?_))
    | intro _ _ _ | split | rfl | (simp; done)

theorem sendCredit_keeps [Fact (Part.tbl ∈ K)] [Fact (Part.vine ∈ K)] (p cls : Nat) (init : Bool) (n : Nat) (s : State) (hI : Keeps K B0 s) :
    Keeps K B0 (sendCredit p cls init n s) := by
  unfold sendCredit
  try dsimp only
  with_reducible repeat' first
    | assumption | apply foldl_keeps | (apply ite_keeps <;> intro _) | apply setPort_keeps | apply countSent_keeps
    | apply nextSeq_keeps | (fail_if_no_progress (refine mk_keeps ?_)) | intro _ _ _ | split | rfl | (simp; done)

theorem creditBack_keeps [Fact (Part.tbl ∈ K)] [Fact (Part.vine ∈ K)] (p cls n : Nat) (s : State) (hI : Keeps K B0 s) :
    Keeps K B0 (creditBack p cls n s) := by
  unfold creditBack
  try dsimp only
  with_reducible repeat' first
    | assumption | apply foldl_keeps | (apply ite_keeps <;> intro _) | apply sendCredit_keeps
    | (fail_if_no_progress (refine mk_keeps ?_)) | intro _ _ _ | split | rfl | (simp; done)

theorem settleCopy_keeps [Fact (Part.tbl ∈ K)] [Fact (Part.vine ∈ K)] (s : State) (pkt : Packet) (hI : Keeps K B0 s) :
    Keeps K B0 (settleCopy s pkt) := by
  unfold settleCopy
  try dsimp only
  with_reducible repeat' first
    | assumption | apply foldl_keeps | (apply ite_keeps <;> intro _) | apply setPort_keeps | apply creditBack_keeps
    | (fail_if_no_progress (refine mk_keeps ?_)) | intro _ _ _ | split | rfl | (simp; done)

theorem drain_keeps [Fact (Part.tbl ∈ K)] [Fact (Part.vine ∈ K)] (p : Nat) (s : State) (hI : Keeps K B0 s) :
    Keeps K B0 (drain p s) := by
  unfold drain
  try dsimp only
  with_reducible repeat' first
    | assumption | apply foldl_keeps | (apply ite_keeps <;> intro _) | apply setPort_keeps | apply countSent_keeps
    | apply settleCopy_keeps | (fail_if_no_progress (refine mk_keeps ?_)) | intro _ _ _ | split | rfl | (simp; done)

theorem sendOn_keeps [Fact (Part.tbl ∈ K)] [Fact (Part.vine ∈ K)] (p : Nat) (pkt : Packet) (s : State) (hI : Keeps K B0 s) :
    Keeps K B0 (sendOn p pkt s) := by
  unfold sendOn
  try dsimp only
  with_reducible repeat' first
    | assumption | apply foldl_keeps | (apply ite_keeps <;> intro _) | apply linkCount_keeps | apply setPort_keeps
    | apply settleCopy_keeps | apply drain_keeps | (fail_if_no_progress (refine mk_keeps ?_)) | intro _ _ _ | split
    | rfl | (simp; done)

theorem sendTo_keeps [Fact (Part.tbl ∈ K)] [Fact (Part.vine ∈ K)] (dst type cls : Nat) (words : List Word) (s : State) (hI : Keeps K B0 s) :
    Keeps K B0 (sendTo dst type cls words s) := by
  unfold sendTo
  try dsimp only
  with_reducible repeat' first
    | assumption | apply foldl_keeps | (apply ite_keeps <;> intro _) | apply nextSeq_keeps | apply sendOn_keeps
    | (fail_if_no_progress (refine mk_keeps ?_)) | intro _ _ _ | split | rfl | (simp; done)

theorem respondTo_keeps [Fact (Part.tbl ∈ K)] [Fact (Part.vine ∈ K)] (dst seq : Nat) (words : List Word) (s : State) (hI : Keeps K B0 s) :
    Keeps K B0 (respondTo dst seq words s) := by
  unfold respondTo
  try dsimp only
  with_reducible repeat' first
    | assumption | apply foldl_keeps | (apply ite_keeps <;> intro _) | apply sendOn_keeps
    | (fail_if_no_progress (refine mk_keeps ?_)) | intro _ _ _ | split | rfl | (simp; done)

theorem sendTree_keeps [Fact (Part.tbl ∈ K)] [Fact (Part.vine ∈ K)] (except : Option Nat) (pkt : Packet) (s : State) (hI : Keeps K B0 s) :
    Keeps K B0 (sendTree except pkt s) := by
  unfold sendTree
  try dsimp only
  with_reducible repeat' first
    | assumption | apply foldl_keeps | (apply ite_keeps <;> intro _) | apply sendOn_keeps
    | (fail_if_no_progress (refine mk_keeps ?_)) | intro _ _ _ | split | rfl | (simp; done)

theorem broadcast_keeps [Fact (Part.tbl ∈ K)] [Fact (Part.vine ∈ K)] (type cls : Nat) (words : List Word) (s : State) (hI : Keeps K B0 s) :
    Keeps K B0 (broadcast type cls words s) := by
  unfold broadcast
  try dsimp only
  with_reducible repeat' first
    | assumption | apply foldl_keeps | (apply ite_keeps <;> intro _) | apply nextSeq_keeps | apply sendTree_keeps
    | (fail_if_no_progress (refine mk_keeps ?_)) | intro _ _ _ | split | rfl | (simp; done)

theorem sendEvent_keeps [Fact (Part.tbl ∈ K)] [Fact (Part.vine ∈ K)] (code arg : Nat) (rest : List Word) (s : State) (hI : Keeps K B0 s) :
    Keeps K B0 (sendEvent code arg rest s) := by
  unfold sendEvent
  try dsimp only
  with_reducible repeat' first
    | assumption | apply foldl_keeps | (apply ite_keeps <;> intro _) | apply sendTo_keeps
    | (fail_if_no_progress (refine mk_keeps ?_)) | intro _ _ _ | split | rfl | (simp; done)

theorem heardFrom_keeps [Fact (Part.txn ∈ K)] (src : Nat) (s : State) (hI : Keeps K B0 s) :
    Keeps K B0 (heardFrom src s) := by
  unfold heardFrom
  try dsimp only
  with_reducible repeat' first
    | assumption | apply foldl_keeps | (apply ite_keeps <;> intro _) | (fail_if_no_progress (refine mk_keeps ?_))
    | intro _ _ _ | split | rfl | (simp; done)

theorem portArrived_keeps [Fact (Part.tbl ∈ K)] [Fact (Part.txn ∈ K)] [Fact (Part.vine ∈ K)] (p cls src : Nat) (s : State) (hI : Keeps K B0 s) :
    Keeps K B0 (portArrived p cls src s) := by
  unfold portArrived
  try dsimp only
  with_reducible repeat' first
    | assumption | apply foldl_keeps | (apply ite_keeps <;> intro _) | apply bump32_keeps | apply creditBack_keeps
    | apply heardFrom_keeps | (fail_if_no_progress (refine mk_keeps ?_)) | intro _ _ _ | split | rfl | (simp; done)

theorem arrived_keeps [Fact (Part.tbl ∈ K)] [Fact (Part.txn ∈ K)] [Fact (Part.vine ∈ K)] (dst cls src : Nat) (s : State) (hI : Keeps K B0 s) :
    Keeps K B0 (arrived dst cls src s) := by
  unfold arrived
  try dsimp only
  with_reducible repeat' first
    | assumption | apply foldl_keeps | (apply ite_keeps <;> intro _) | apply heardFrom_keeps
    | apply portArrived_keeps | (fail_if_no_progress (refine mk_keeps ?_)) | intro _ _ _ | split | rfl | (simp; done)

theorem takeUnicast_keeps [Fact (Part.tbl ∈ K)] [Fact (Part.txn ∈ K)] [Fact (Part.vine ∈ K)] (dst src : Nat) (f : State → State) (s : State) (hI : Keeps K B0 s)
    (hf : ∀ s1, Keeps K B0 s1 → Keeps K B0 (f s1)) : Keeps K B0 (takeUnicast dst src f s) := by
  unfold takeUnicast
  try dsimp only
  with_reducible repeat' first
    | assumption | apply hf | apply arrived_keeps | (apply ite_keeps <;> intro _)

theorem takeAtRoot_keeps [Fact (Part.tbl ∈ K)] [Fact (Part.txn ∈ K)] [Fact (Part.vine ∈ K)] (src : Nat) (f : State → State) (s : State) (hI : Keeps K B0 s)
    (hf : ∀ s1, Keeps K B0 s1 → Keeps K B0 (f s1)) : Keeps K B0 (takeAtRoot src f s) := by
  unfold takeAtRoot
  exact ite_keeps (fun _ => takeUnicast_keeps _ _ _ _ hI hf) (fun _ => hI)

end Sys2Proof.Machine
end

