-- ==== Sys2Proof/Laws/KeepsPrint.lean ====
section
/-! SUPPORT. Every operation on position, motion, grid, head care, validation and jetting keeps the good form, the queue, the straps, a
locked protected region and every part of the state it has no hand in. -/

namespace Sys2Proof.Machine

set_option Elab.async false

set_option linter.all false

variable {K : List Part} {B0 : State}

/-! ### Machine/Position.lean -/

theorem setEnc_keeps [Fact (Part.enc ∈ K)] (c : Nat) (f : Enc → Enc) (s : State) (hI : Keeps K B0 s) :
    Keeps K B0 (setEnc c f s) := by
  unfold setEnc
  try dsimp only
  with_reducible repeat' first
    | assumption | apply foldl_keeps | (apply ite_keeps <;> intro _) | (fail_if_no_progress (refine mk_keeps ?_))
    | intro _ _ _ | split | rfl | (simp; done)

theorem encErr_keeps [Fact (Part.host ∈ K)] (c code : Nat) (s : State) (hI : Keeps K B0 s) :
    Keeps K B0 (encErr c code s) := by
  unfold encErr
  try dsimp only
  with_reducible repeat' first
    | assumption | apply foldl_keeps | (apply ite_keeps <;> intro _) | apply recErr_keeps
    | (fail_if_no_progress (refine mk_keeps ?_)) | intro _ _ _ | split | rfl | (simp; done)

theorem putCount_keeps [Fact (Part.host ∈ K)] [Fact (Part.enc ∈ K)] (c : Nat) (n m : Int) (s : State) (hI : Keeps K B0 s) :
    Keeps K B0 (putCount c n m s) := by
  unfold putCount
  try dsimp only
  with_reducible repeat' first
    | assumption | apply foldl_keeps | (apply ite_keeps <;> intro _) | apply setEnc_keeps | apply encErr_keeps
    | (fail_if_no_progress (refine mk_keeps ?_)) | intro _ _ _ | split | rfl | (simp; done)

theorem loadCount_keeps [Fact (Part.host ∈ K)] [Fact (Part.enc ∈ K)] (c : Nat) (n : Int) (s : State) (hI : Keeps K B0 s) :
    Keeps K B0 (loadCount c n s) := by
  unfold loadCount
  try dsimp only
  with_reducible repeat' first
    | assumption | apply foldl_keeps | (apply ite_keeps <;> intro _) | apply putCount_keeps
    | (fail_if_no_progress (refine mk_keeps ?_)) | intro _ _ _ | split | rfl | (simp; done)

theorem stepCount_keeps [Fact (Part.host ∈ K)] [Fact (Part.enc ∈ K)] (c : Nat) (d : Int) (s : State) (hI : Keeps K B0 s) :
    Keeps K B0 (stepCount c d s) := by
  unfold stepCount
  try dsimp only
  with_reducible repeat' first
    | assumption | apply foldl_keeps | (apply ite_keeps <;> intro _) | apply putCount_keeps
    | (fail_if_no_progress (refine mk_keeps ?_)) | intro _ _ _ | split | rfl | (simp; done)

theorem edgeNoted_keeps [Fact (Part.tbl ∈ K)] [Fact (Part.host ∈ K)] [Fact (Part.enc ∈ K)] (c : Nat) (s : State) (hI : Keeps K B0 s) :
    Keeps K B0 (edgeNoted c s) := by
  unfold edgeNoted
  try dsimp only
  with_reducible repeat' first
    | assumption | apply foldl_keeps | (apply ite_keeps <;> intro _) | apply bump_keeps | apply setEnc_keeps
    | apply encErr_keeps | (fail_if_no_progress (refine mk_keeps ?_)) | intro _ _ _ | split | rfl | (simp; done)

theorem countBy_keeps [Fact (Part.host ∈ K)] [Fact (Part.enc ∈ K)] (c : Nat) (d : Int) (s : State) (hI : Keeps K B0 s) :
    Keeps K B0 (countBy c d s) := by
  unfold countBy
  try dsimp only
  with_reducible repeat' first
    | assumption | apply foldl_keeps | (apply ite_keeps <;> intro _) | apply setEnc_keeps | apply stepCount_keeps
    | (fail_if_no_progress (refine mk_keeps ?_)) | intro _ _ _ | split | rfl | (simp; done)

theorem quadStep_keeps [Fact (Part.tbl ∈ K)] [Fact (Part.host ∈ K)] [Fact (Part.enc ∈ K)] (c : Nat) (a b : Bool) (s : State) (hI : Keeps K B0 s) :
    Keeps K B0 (quadStep c a b s) := by
  unfold quadStep
  try dsimp only
  with_reducible repeat' first
    | assumption | apply foldl_keeps | (apply ite_keeps <;> intro _) | apply bump_keeps | apply setEnc_keeps
    | apply encErr_keeps | apply edgeNoted_keeps | apply countBy_keeps | (fail_if_no_progress (refine mk_keeps ?_))
    | intro _ _ _ | split | rfl | (simp; done)

theorem quadSample_keeps [Fact (Part.tbl ∈ K)] [Fact (Part.host ∈ K)] [Fact (Part.enc ∈ K)] (c : Nat) (a b : Bool) (s : State) (hI : Keeps K B0 s) :
    Keeps K B0 (quadSample c a b s) := by
  unfold quadSample
  try dsimp only
  with_reducible repeat' first
    | assumption | apply foldl_keeps | (apply ite_keeps <;> intro _) | apply setEnc_keeps | apply quadStep_keeps
    | (fail_if_no_progress (refine mk_keeps ?_)) | intro _ _ _ | split | rfl | (simp; done)

theorem hallIllegal_keeps [Fact (Part.tbl ∈ K)] [Fact (Part.host ∈ K)] [Fact (Part.enc ∈ K)] (c : Nat) (s : State) (hI : Keeps K B0 s) :
    Keeps K B0 (hallIllegal c s) := by
  unfold hallIllegal
  try dsimp only
  with_reducible repeat' first
    | assumption | apply foldl_keeps | (apply ite_keeps <;> intro _) | apply bump_keeps | apply setEnc_keeps
    | apply encErr_keeps | (fail_if_no_progress (refine mk_keeps ?_)) | intro _ _ _ | split | rfl | (simp; done)

theorem hallStep_keeps [Fact (Part.tbl ∈ K)] [Fact (Part.host ∈ K)] [Fact (Part.enc ∈ K)] (c : Nat) (code : BitVec 3) (s : State) (hI : Keeps K B0 s) :
    Keeps K B0 (hallStep c code s) := by
  unfold hallStep
  try dsimp only
  with_reducible repeat' first
    | assumption | apply foldl_keeps | (apply ite_keeps <;> intro _) | apply bump_keeps | apply setEnc_keeps
    | apply encErr_keeps | apply countBy_keeps | apply hallIllegal_keeps | (fail_if_no_progress (refine mk_keeps ?_))
    | intro _ _ _ | split | rfl | (simp; done)

theorem hallSample_keeps [Fact (Part.tbl ∈ K)] [Fact (Part.host ∈ K)] [Fact (Part.enc ∈ K)] (c : Nat) (code : BitVec 3) (s : State) (hI : Keeps K B0 s) :
    Keeps K B0 (hallSample c code s) := by
  unfold hallSample
  try dsimp only
  with_reducible repeat' first
    | assumption | apply foldl_keeps | (apply ite_keeps <;> intro _) | apply setEnc_keeps | apply hallStep_keeps
    | (fail_if_no_progress (refine mk_keeps ?_)) | intro _ _ _ | split | rfl | (simp; done)

theorem encStarts_keeps [Fact (Part.tbl ∈ K)] [Fact (Part.host ∈ K)] [Fact (Part.enc ∈ K)] (c : Nat) (s : State) (hI : Keeps K B0 s) :
    Keeps K B0 (encStarts c s) := by
  unfold encStarts
  try dsimp only
  with_reducible repeat' first
    | assumption | apply foldl_keeps | (apply ite_keeps <;> intro _) | apply setEnc_keeps | apply hallIllegal_keeps
    | (fail_if_no_progress (refine mk_keeps ?_)) | intro _ _ _ | split | rfl | (simp; done)

theorem levelKnown_keeps [Fact (Part.tbl ∈ K)] [Fact (Part.host ∈ K)] [Fact (Part.enc ∈ K)] (c pin : Nat) (level : Bool) (s : State) (hI : Keeps K B0 s) :
    Keeps K B0 (levelKnown c pin level s) := by
  unfold levelKnown
  try dsimp only
  with_reducible repeat' first
    | assumption | apply foldl_keeps | (apply ite_keeps <;> intro _) | apply setEnc_keeps | apply encStarts_keeps
    | (fail_if_no_progress (refine mk_keeps ?_)) | intro _ _ _ | split | rfl | (simp; done)

theorem sampleEnc_keeps [Fact (Part.enc ∈ K)] (s : State) (hI : Keeps K B0 s) :
    Keeps K B0 (sampleEnc s) := by
  unfold sampleEnc
  try dsimp only
  with_reducible repeat' first
    | assumption | apply foldl_keeps | (apply ite_keeps <;> intro _) | (fail_if_no_progress (refine mk_keeps ?_))
    | intro _ _ _ | split | rfl | (simp; done)

theorem gridUnlock_keeps [Fact (Part.grid ∈ K)] (s : State) (hI : Keeps K B0 s) :
    Keeps K B0 (gridUnlock s) := by
  unfold gridUnlock
  try dsimp only
  with_reducible repeat' first
    | assumption | apply foldl_keeps | (apply ite_keeps <;> intro _) | (fail_if_no_progress (refine mk_keeps ?_))
    | intro _ _ _ | split | rfl | (simp; done)

theorem gridInactive_keeps [Fact (Part.grid ∈ K)] (c : Nat) (s : State) (hI : Keeps K B0 s) :
    Keeps K B0 (gridInactive c s) := by
  unfold gridInactive
  try dsimp only
  with_reducible repeat' first
    | assumption | apply foldl_keeps | (apply ite_keeps <;> intro _) | apply gridUnlock_keeps
    | (fail_if_no_progress (refine mk_keeps ?_)) | intro _ _ _ | split | rfl | (simp; done)

theorem encRestart_keeps [Fact (Part.enc ∈ K)] [Fact (Part.grid ∈ K)] (c : Nat) (s : State) (hI : Keeps K B0 s) :
    Keeps K B0 (encRestart c s) := by
  unfold encRestart
  try dsimp only
  with_reducible repeat' first
    | assumption | apply foldl_keeps | (apply ite_keeps <;> intro _) | apply setEnc_keeps | apply gridInactive_keeps
    | (fail_if_no_progress (refine mk_keeps ?_)) | intro _ _ _ | split | rfl | (simp; done)

theorem encModeDecant_keeps [Fact (Part.enc ∈ K)] [Fact (Part.grid ∈ K)] (old : State) (c : Nat) (s : State) (hI : Keeps K B0 s) :
    Keeps K B0 (encModeDecant old c s) := by
  unfold encModeDecant
  try dsimp only
  with_reducible repeat' first
    | assumption | apply foldl_keeps | (apply ite_keeps <;> intro _) | apply setEnc_keeps | apply encRestart_keeps
    | (fail_if_no_progress (refine mk_keeps ?_)) | intro _ _ _ | split | rfl | (simp; done)

theorem encEnableOp_keeps [Fact (Part.enc ∈ K)] [Fact (Part.grid ∈ K)] (c : Nat) (s : State) (hI : Keeps K B0 s) :
    Keeps K B0 (encEnableOp c s) := by
  unfold encEnableOp
  try dsimp only
  with_reducible repeat' first
    | assumption | apply foldl_keeps | (apply ite_keeps <;> intro _) | apply setEnc_keeps | apply encRestart_keeps
    | (fail_if_no_progress (refine mk_keeps ?_)) | intro _ _ _ | split | rfl | (simp; done)

theorem encDisableOp_keeps [Fact (Part.enc ∈ K)] [Fact (Part.grid ∈ K)] (c : Nat) (s : State) (hI : Keeps K B0 s) :
    Keeps K B0 (encDisableOp c s) := by
  unfold encDisableOp
  try dsimp only
  with_reducible repeat' first
    | assumption | apply foldl_keeps | (apply ite_keeps <;> intro _) | apply setEnc_keeps | apply gridInactive_keeps
    | (fail_if_no_progress (refine mk_keeps ?_)) | intro _ _ _ | split | rfl | (simp; done)

theorem clearGridOfs_keeps [Fact (Part.grid ∈ K)] (c : Nat) (s : State) (hI : Keeps K B0 s) :
    Keeps K B0 (clearGridOfs c s) := by
  unfold clearGridOfs
  try dsimp only
  with_reducible repeat' first
    | assumption | apply foldl_keeps | (apply ite_keeps <;> intro _) | (fail_if_no_progress (refine mk_keeps ?_))
    | intro _ _ _ | split | rfl | (simp; done)

theorem countWriteOp_keeps [Fact (Part.host ∈ K)] [Fact (Part.enc ∈ K)] [Fact (Part.grid ∈ K)] (c : Nat) (hi : Word) (s : State) (hI : Keeps K B0 s) :
    Keeps K B0 (countWriteOp c hi s) := by
  unfold countWriteOp
  try dsimp only
  with_reducible repeat' first
    | assumption | apply foldl_keeps | (apply ite_keeps <;> intro _) | apply setEnc_keeps | apply loadCount_keeps
    | apply clearGridOfs_keeps | (fail_if_no_progress (refine mk_keeps ?_)) | intro _ _ _ | split | rfl
    | (simp; done)

theorem indexStep_keeps [Fact (Part.tbl ∈ K)] [Fact (Part.host ∈ K)] [Fact (Part.enc ∈ K)] [Fact (Part.grid ∈ K)] (c : Nat) (s : State) (hI : Keeps K B0 s) :
    Keeps K B0 (indexStep c s) := by
  unfold indexStep
  try dsimp only
  with_reducible repeat' first
    | assumption | apply foldl_keeps | (apply ite_keeps <;> intro _) | apply bump_keeps | apply setEnc_keeps
    | apply encErr_keeps | apply loadCount_keeps | apply clearGridOfs_keeps
    | (fail_if_no_progress (refine mk_keeps ?_)) | intro _ _ _ | split | rfl | (simp; done)

theorem ssiFault_keeps [Fact (Part.tbl ∈ K)] [Fact (Part.host ∈ K)] [Fact (Part.enc ∈ K)] (c : Nat) (crc err mono : Bool) (s : State) (hI : Keeps K B0 s) :
    Keeps K B0 (ssiFault c crc err mono s) := by
  unfold ssiFault
  try dsimp only
  with_reducible repeat' first
    | assumption | apply foldl_keeps | (apply ite_keeps <;> intro _) | apply bump_keeps | apply setEnc_keeps
    | apply encErr_keeps | (fail_if_no_progress (refine mk_keeps ?_)) | intro _ _ _ | split | rfl | (simp; done)

theorem ssiStart_keeps [Fact (Part.tbl ∈ K)] [Fact (Part.host ∈ K)] [Fact (Part.enc ∈ K)] (c : Nat) (dataHigh : Bool) (s : State) (hI : Keeps K B0 s) :
    Keeps K B0 (ssiStart c dataHigh s) := by
  unfold ssiStart
  try dsimp only
  with_reducible repeat' first
    | assumption | apply foldl_keeps | (apply ite_keeps <;> intro _) | apply setEnc_keeps | apply ssiFault_keeps
    | (fail_if_no_progress (refine mk_keeps ?_)) | intro _ _ _ | split | rfl | (simp; done)

theorem ssiEnd_keeps [Fact (Part.tbl ∈ K)] [Fact (Part.host ∈ K)] [Fact (Part.enc ∈ K)] (c : Nat) (fr : List Bool) (monoOk : Bool) (s : State) (hI : Keeps K B0 s) :
    Keeps K B0 (ssiEnd c fr monoOk s) := by
  unfold ssiEnd
  try dsimp only
  with_reducible repeat' first
    | assumption | apply foldl_keeps | (apply ite_keeps <;> intro _) | apply setEnc_keeps | apply loadCount_keeps
    | apply ssiFault_keeps | (fail_if_no_progress (refine mk_keeps ?_)) | intro _ _ _ | split | rfl | (simp; done)

theorem encOp_keeps [Fact (Part.enc ∈ K)] [Fact (Part.grid ∈ K)] (op c : Nat) (s : State) (hI : Keeps K B0 s) :
    Keeps K B0 (encOp op c s) := by
  unfold encOp
  try dsimp only
  with_reducible repeat' first
    | assumption | apply foldl_keeps | (apply ite_keeps <;> intro _) | apply setEnc_keeps | apply encEnableOp_keeps
    | apply encDisableOp_keeps | (fail_if_no_progress (refine mk_keeps ?_)) | intro _ _ _ | split | rfl
    | (simp; done)

theorem encWrite_keeps [Fact (Part.host ∈ K)] [Fact (Part.enc ∈ K)] [Fact (Part.grid ∈ K)] (op c : Nat) (s : State) (hI : Keeps K B0 s) :
    Keeps K B0 (encWrite op c s) := by
  unfold encWrite
  try dsimp only
  with_reducible repeat' first
    | assumption | apply foldl_keeps | (apply ite_keeps <;> intro _) | apply holdCmd_keeps | apply encOp_keeps
    | (fail_if_no_progress (refine mk_keeps ?_)) | intro _ _ _ | split | rfl | (simp; done)

/-! ### Machine/Motion.lean -/

theorem setAxis_keeps [Fact (Part.mot ∈ K)] (n : Nat) (f : Axis → Axis) (s : State) (hI : Keeps K B0 s) :
    Keeps K B0 (setAxis n f s) := by
  unfold setAxis
  try dsimp only
  with_reducible repeat' first
    | assumption | apply foldl_keeps | (apply ite_keeps <;> intro _) | (fail_if_no_progress (refine mk_keeps ?_))
    | intro _ _ _ | split | rfl | (simp; done)

theorem motErr_keeps [Fact (Part.host ∈ K)] (code : Nat) (s : State) (hI : Keeps K B0 s) :
    Keeps K B0 (motErr code s) := by
  unfold motErr
  try dsimp only
  with_reducible repeat' first
    | assumption | apply foldl_keeps | (apply ite_keeps <;> intro _) | apply raise_keeps | apply recErr_keeps
    | (fail_if_no_progress (refine mk_keeps ?_)) | intro _ _ _ | split | rfl | (simp; done)

theorem motRefuse_keeps [Fact (Part.host ∈ K)] [Fact (Part.mot ∈ K)] (n code : Nat) (s : State) (hI : Keeps K B0 s) :
    Keeps K B0 (motRefuse n code s) := by
  unfold motRefuse
  try dsimp only
  with_reducible repeat' first
    | assumption | apply foldl_keeps | (apply ite_keeps <;> intro _) | apply setAxis_keeps | apply motErr_keeps
    | (fail_if_no_progress (refine mk_keeps ?_)) | intro _ _ _ | split | rfl | (simp; done)

theorem setPlan_keeps [Fact (Part.host ∈ K)] [Fact (Part.mot ∈ K)] (n mode : Nat) (target : Int) (cap : Option Nat) (byGo : Bool) (t0 : Nat) (s : State) (hI : Keeps K B0 s) :
    Keeps K B0 (setPlan n mode target cap byGo t0 s) := by
  unfold setPlan
  try dsimp only
  with_reducible repeat' first
    | assumption | apply foldl_keeps | (apply ite_keeps <;> intro _) | apply setAxis_keeps | apply motErr_keeps
    | (fail_if_no_progress (refine mk_keeps ?_)) | intro _ _ _ | split | rfl | (simp; done)

theorem startMove_keeps [Fact (Part.host ∈ K)] [Fact (Part.mot ∈ K)] (n : Nat) (m : Move) (cap : Option Nat) (s : State) (hI : Keeps K B0 s) :
    Keeps K B0 (startMove n m cap s) := by
  unfold startMove
  try dsimp only
  with_reducible repeat' first
    | assumption | apply foldl_keeps | (apply ite_keeps <;> intro _) | apply setAxis_keeps | apply setPlan_keeps
    | (fail_if_no_progress (refine mk_keeps ?_)) | intro _ _ _ | split | rfl | (simp; done)

theorem keepGo_keeps [Fact (Part.mot ∈ K)] (n : Nat) (m : Move) (turn : Bool) (s : State) (hI : Keeps K B0 s) :
    Keeps K B0 (keepGo n m turn s) := by
  unfold keepGo
  try dsimp only
  with_reducible repeat' first
    | assumption | apply foldl_keeps | (apply ite_keeps <;> intro _) | apply setAxis_keeps
    | (fail_if_no_progress (refine mk_keeps ?_)) | intro _ _ _ | split | rfl | (simp; done)

theorem takePermit_keeps [Fact (Part.host ∈ K)] [Fact (Part.mot ∈ K)] (n : Nat) (m : Move) (s : State) (hI : Keeps K B0 s) :
    Keeps K B0 (takePermit n m s) := by
  unfold takePermit
  try dsimp only
  with_reducible repeat' first
    | assumption | apply foldl_keeps | (apply ite_keeps <;> intro _) | apply raise_keeps | apply setAxis_keeps
    | apply startMove_keeps | apply keepGo_keeps | (fail_if_no_progress (refine mk_keeps ?_)) | intro _ _ _ | split
    | rfl | (simp; done)

theorem runMove_keeps [Fact (Part.host ∈ K)] [Fact (Part.mot ∈ K)] (n : Nat) (m : Move) (s : State) (hI : Keeps K B0 s) :
    Keeps K B0 (runMove n m s) := by
  unfold runMove
  try dsimp only
  with_reducible repeat' first
    | assumption | apply foldl_keeps | (apply ite_keeps <;> intro _) | apply startMove_keeps | apply keepGo_keeps
    | apply takePermit_keeps | (fail_if_no_progress (refine mk_keeps ?_)) | intro _ _ _ | split | rfl | (simp; done)

theorem addPermit_keeps [Fact (Part.host ∈ K)] [Fact (Part.mot ∈ K)] (vplan : Nat) (s : State) (hI : Keeps K B0 s) :
    Keeps K B0 (addPermit vplan s) := by
  unfold addPermit
  try dsimp only
  with_reducible repeat' first
    | assumption | apply foldl_keeps | (apply ite_keeps <;> intro _) | apply recErr_keeps
    | (fail_if_no_progress (refine mk_keeps ?_)) | intro _ _ _ | split | rfl | (simp; done)

theorem enableOp_keeps [Fact (Part.host ∈ K)] [Fact (Part.mot ∈ K)] (n : Nat) (s : State) (hI : Keeps K B0 s) :
    Keeps K B0 (enableOp n s) := by
  unfold enableOp
  try dsimp only
  with_reducible repeat' first
    | assumption | apply foldl_keeps | (apply ite_keeps <;> intro _) | apply setAxis_keeps | apply motRefuse_keeps
    | (fail_if_no_progress (refine mk_keeps ?_)) | intro _ _ _ | split | rfl | (simp; done)

theorem disableAtRest_keeps [Fact (Part.mot ∈ K)] (n : Nat) (s : State) (hI : Keeps K B0 s) :
    Keeps K B0 (disableAtRest n s) := by
  unfold disableAtRest
  try dsimp only
  with_reducible repeat' first
    | assumption | apply foldl_keeps | (apply ite_keeps <;> intro _) | apply setAxis_keeps
    | (fail_if_no_progress (refine mk_keeps ?_)) | intro _ _ _ | split | rfl | (simp; done)

theorem stopOp_keeps [Fact (Part.mot ∈ K)] (n : Nat) (s : State) (hI : Keeps K B0 s) :
    Keeps K B0 (stopOp n s) := by
  unfold stopOp
  try dsimp only
  with_reducible repeat' first
    | assumption | apply foldl_keeps | (apply ite_keeps <;> intro _) | apply setAxis_keeps
    | (fail_if_no_progress (refine mk_keeps ?_)) | intro _ _ _ | split | rfl | (simp; done)

theorem qstopOp_keeps [Fact (Part.mot ∈ K)] (n : Nat) (s : State) (hI : Keeps K B0 s) :
    Keeps K B0 (qstopOp n s) := by
  unfold qstopOp
  try dsimp only
  with_reducible repeat' first
    | assumption | apply foldl_keeps | (apply ite_keeps <;> intro _) | apply setAxis_keeps
    | (fail_if_no_progress (refine mk_keeps ?_)) | intro _ _ _ | split | rfl | (simp; done)

theorem leaveCam_keeps [Fact (Part.mot ∈ K)] (n : Nat) (s : State) (hI : Keeps K B0 s) :
    Keeps K B0 (leaveCam n s) := by
  unfold leaveCam
  try dsimp only
  with_reducible repeat' first
    | assumption | apply foldl_keeps | (apply ite_keeps <;> intro _) | apply setAxis_keeps
    | (fail_if_no_progress (refine mk_keeps ?_)) | intro _ _ _ | split | rfl | (simp; done)

theorem releaseCam_keeps [Fact (Part.mot ∈ K)] (n : Nat) (s : State) (hI : Keeps K B0 s) :
    Keeps K B0 (releaseCam n s) := by
  unfold releaseCam
  try dsimp only
  with_reducible repeat' first
    | assumption | apply foldl_keeps | (apply ite_keeps <;> intro _) | apply setAxis_keeps | apply leaveCam_keeps
    | (fail_if_no_progress (refine mk_keeps ?_)) | intro _ _ _ | split | rfl | (simp; done)

theorem disableOp_keeps [Fact (Part.mot ∈ K)] (n : Nat) (s : State) (hI : Keeps K B0 s) :
    Keeps K B0 (disableOp n s) := by
  unfold disableOp
  try dsimp only
  with_reducible repeat' first
    | assumption | apply foldl_keeps | (apply ite_keeps <;> intro _) | apply setAxis_keeps
    | apply disableAtRest_keeps | apply stopOp_keeps | apply releaseCam_keeps
    | (fail_if_no_progress (refine mk_keeps ?_)) | intro _ _ _ | split | rfl | (simp; done)

theorem goOp_keeps [Fact (Part.host ∈ K)] [Fact (Part.mot ∈ K)] (n : Nat) (s : State) (hI : Keeps K B0 s) :
    Keeps K B0 (goOp n s) := by
  unfold goOp
  try dsimp only
  with_reducible repeat' first
    | assumption | apply foldl_keeps | (apply ite_keeps <;> intro _) | apply motRefuse_keeps | apply keepGo_keeps
    | apply runMove_keeps | (fail_if_no_progress (refine mk_keeps ?_)) | intro _ _ _ | split | rfl | (simp; done)

theorem renewPlan_keeps [Fact (Part.host ∈ K)] [Fact (Part.mot ∈ K)] (n : Nat) (p : Plan) (t0 : Nat) (s : State) (hI : Keeps K B0 s) :
    Keeps K B0 (renewPlan n p t0 s) := by
  unfold renewPlan
  try dsimp only
  with_reducible repeat' first
    | assumption | apply foldl_keeps | (apply ite_keeps <;> intro _) | apply setAxis_keeps | apply setPlan_keeps
    | (fail_if_no_progress (refine mk_keeps ?_)) | intro _ _ _ | split | rfl | (simp; done)

theorem setPosOp_keeps [Fact (Part.host ∈ K)] [Fact (Part.mot ∈ K)] (n : Nat) (s : State) (hI : Keeps K B0 s) :
    Keeps K B0 (setPosOp n s) := by
  unfold setPosOp
  try dsimp only
  with_reducible repeat' first
    | assumption | apply foldl_keeps | (apply ite_keeps <;> intro _) | apply setAxis_keeps | apply motRefuse_keeps
    | apply renewPlan_keeps | (fail_if_no_progress (refine mk_keeps ?_)) | intro _ _ _ | split | rfl | (simp; done)

theorem camEngage_keeps [Fact (Part.host ∈ K)] [Fact (Part.mot ∈ K)] (n : Nat) (c : Cam) (s : State) (hI : Keeps K B0 s) :
    Keeps K B0 (camEngage n c s) := by
  unfold camEngage
  try dsimp only
  with_reducible repeat' first
    | assumption | apply foldl_keeps | (apply ite_keeps <;> intro _) | apply setAxis_keeps | apply motRefuse_keeps
    | (fail_if_no_progress (refine mk_keeps ?_)) | intro _ _ _ | split | rfl | (simp; done)

theorem camEngageOp_keeps [Fact (Part.host ∈ K)] [Fact (Part.mot ∈ K)] (n : Nat) (s : State) (hI : Keeps K B0 s) :
    Keeps K B0 (camEngageOp n s) := by
  unfold camEngageOp
  try dsimp only
  with_reducible repeat' first
    | assumption | apply foldl_keeps | (apply ite_keeps <;> intro _) | apply camEngage_keeps
    | (fail_if_no_progress (refine mk_keeps ?_)) | intro _ _ _ | split | rfl | (simp; done)

theorem camDisengageOp_keeps [Fact (Part.host ∈ K)] [Fact (Part.mot ∈ K)] (n : Nat) (s : State) (hI : Keeps K B0 s) :
    Keeps K B0 (camDisengageOp n s) := by
  unfold camDisengageOp
  try dsimp only
  with_reducible repeat' first
    | assumption | apply foldl_keeps | (apply ite_keeps <;> intro _) | apply motRefuse_keeps | apply stopOp_keeps
    | apply releaseCam_keeps | (fail_if_no_progress (refine mk_keeps ?_)) | intro _ _ _ | split | rfl | (simp; done)

theorem clearFaultOp_keeps [Fact (Part.host ∈ K)] [Fact (Part.mot ∈ K)] (n : Nat) (s : State) (hI : Keeps K B0 s) :
    Keeps K B0 (clearFaultOp n s) := by
  unfold clearFaultOp
  try dsimp only
  with_reducible repeat' first
    | assumption | apply foldl_keeps | (apply ite_keeps <;> intro _) | apply setAxis_keeps | apply motRefuse_keeps
    | (fail_if_no_progress (refine mk_keeps ?_)) | intro _ _ _ | split | rfl | (simp; done)

theorem brakeReleaseOp_keeps [Fact (Part.host ∈ K)] [Fact (Part.mot ∈ K)] (n : Nat) (s : State) (hI : Keeps K B0 s) :
    Keeps K B0 (brakeReleaseOp n s) := by
  unfold brakeReleaseOp
  try dsimp only
  with_reducible repeat' first
    | assumption | apply foldl_keeps | (apply ite_keeps <;> intro _) | apply setAxis_keeps | apply motRefuse_keeps
    | (fail_if_no_progress (refine mk_keeps ?_)) | intro _ _ _ | split | rfl | (simp; done)

theorem brakeEngageOp_keeps [Fact (Part.host ∈ K)] [Fact (Part.mot ∈ K)] (n : Nat) (s : State) (hI : Keeps K B0 s) :
    Keeps K B0 (brakeEngageOp n s) := by
  unfold brakeEngageOp
  try dsimp only
  with_reducible repeat' first
    | assumption | apply foldl_keeps | (apply ite_keeps <;> intro _) | apply setAxis_keeps | apply motRefuse_keeps
    | (fail_if_no_progress (refine mk_keeps ?_)) | intro _ _ _ | split | rfl | (simp; done)

theorem homeOp_keeps [Fact (Part.host ∈ K)] [Fact (Part.mot ∈ K)] (n : Nat) (s : State) (hI : Keeps K B0 s) :
    Keeps K B0 (homeOp n s) := by
  unfold homeOp
  try dsimp only
  with_reducible repeat' first
    | assumption | apply foldl_keeps | (apply ite_keeps <;> intro _) | apply setAxis_keeps | apply motRefuse_keeps
    | (fail_if_no_progress (refine mk_keeps ?_)) | intro _ _ _ | split | rfl | (simp; done)

theorem stopCmd_keeps [Fact (Part.host ∈ K)] [Fact (Part.mot ∈ K)] (n : Nat) (s : State) (hI : Keeps K B0 s) :
    Keeps K B0 (stopCmd n s) := by
  unfold stopCmd
  try dsimp only
  with_reducible repeat' first
    | assumption | apply foldl_keeps | (apply ite_keeps <;> intro _) | apply motRefuse_keeps | apply stopOp_keeps
    | apply releaseCam_keeps | (fail_if_no_progress (refine mk_keeps ?_)) | intro _ _ _ | split | rfl | (simp; done)

theorem qstopCmd_keeps [Fact (Part.host ∈ K)] [Fact (Part.mot ∈ K)] (n : Nat) (s : State) (hI : Keeps K B0 s) :
    Keeps K B0 (qstopCmd n s) := by
  unfold qstopCmd
  try dsimp only
  with_reducible repeat' first
    | assumption | apply foldl_keeps | (apply ite_keeps <;> intro _) | apply motRefuse_keeps | apply qstopOp_keeps
    | (fail_if_no_progress (refine mk_keeps ?_)) | intro _ _ _ | split | rfl | (simp; done)

theorem motOp_keeps [Fact (Part.host ∈ K)] [Fact (Part.mot ∈ K)] (op n : Nat) (s : State) (hI : Keeps K B0 s) :
    Keeps K B0 (motOp op n s) := by
  unfold motOp
  try dsimp only
  with_reducible repeat' first
    | assumption | apply foldl_keeps | (apply ite_keeps <;> intro _) | apply motRefuse_keeps | apply enableOp_keeps
    | apply disableOp_keeps | apply goOp_keeps | apply setPosOp_keeps | apply camEngageOp_keeps
    | apply camDisengageOp_keeps | apply clearFaultOp_keeps | apply brakeReleaseOp_keeps | apply brakeEngageOp_keeps
    | apply homeOp_keeps | apply stopCmd_keeps | apply qstopCmd_keeps | (fail_if_no_progress (refine mk_keeps ?_))
    | intro _ _ _ | split | rfl | (simp; done)

theorem motCmd_keeps [Fact (Part.host ∈ K)] [Fact (Part.mot ∈ K)] (op : Nat) (s : State) (hI : Keeps K B0 s) :
    Keeps K B0 (motCmd op s) := by
  unfold motCmd
  try dsimp only
  with_reducible repeat' first
    | assumption | apply foldl_keeps | (apply ite_keeps <;> intro _) | apply holdCmd_keeps | apply motOp_keeps
    | (fail_if_no_progress (refine mk_keeps ?_)) | intro _ _ _ | split | rfl | (simp; done)

theorem planStartOp_keeps [Fact (Part.mot ∈ K)] (n : Nat) (s : State) (hI : Keeps K B0 s) :
    Keeps K B0 (planStartOp n s) := by
  unfold planStartOp
  try dsimp only
  with_reducible repeat' first
    | assumption | apply foldl_keeps | (apply ite_keeps <;> intro _) | apply setAxis_keeps
    | (fail_if_no_progress (refine mk_keeps ?_)) | intro _ _ _ | split | rfl | (simp; done)

theorem planEndOp_keeps [Fact (Part.host ∈ K)] [Fact (Part.mot ∈ K)] (n : Nat) (s : State) (hI : Keeps K B0 s) :
    Keeps K B0 (planEndOp n s) := by
  unfold planEndOp
  try dsimp only
  with_reducible repeat' first
    | assumption | apply foldl_keeps | (apply ite_keeps <;> intro _) | apply raise_keeps | apply setAxis_keeps
    | apply runMove_keeps | apply disableAtRest_keeps | (fail_if_no_progress (refine mk_keeps ?_)) | intro _ _ _
    | split | rfl | (simp; done)

theorem brkDelayOp_keeps [Fact (Part.host ∈ K)] [Fact (Part.mot ∈ K)] (n : Nat) (s : State) (hI : Keeps K B0 s) :
    Keeps K B0 (brkDelayOp n s) := by
  unfold brkDelayOp
  try dsimp only
  with_reducible repeat' first
    | assumption | apply foldl_keeps | (apply ite_keeps <;> intro _) | apply setAxis_keeps | apply runMove_keeps
    | (fail_if_no_progress (refine mk_keeps ?_)) | intro _ _ _ | split | rfl | (simp; done)

theorem holdOp_keeps [Fact (Part.mot ∈ K)] (n : Nat) (s : State) (hI : Keeps K B0 s) :
    Keeps K B0 (holdOp n s) := by
  unfold holdOp
  try dsimp only
  with_reducible repeat' first
    | assumption | apply foldl_keeps | (apply ite_keeps <;> intro _) | apply setAxis_keeps
    | (fail_if_no_progress (refine mk_keeps ?_)) | intro _ _ _ | split | rfl | (simp; done)

theorem vlimitOp_keeps [Fact (Part.tbl ∈ K)] [Fact (Part.host ∈ K)] [Fact (Part.mot ∈ K)] [Fact (Part.nvm ∈ K)] (n : Nat) (s : State) (hI : Keeps K B0 s) :
    Keeps K B0 (vlimitOp n s) := by
  unfold vlimitOp
  try dsimp only
  with_reducible repeat' first
    | assumption | apply foldl_keeps | (apply ite_keeps <;> intro _) | apply bump_keeps | apply raise_keeps
    | apply recErrLees_keeps | apply setAxis_keeps | apply qstopOp_keeps | apply releaseCam_keeps
    | (fail_if_no_progress (refine mk_keeps ?_)) | intro _ _ _ | split | rfl | (simp; done)

theorem refEdgeOp_keeps [Fact (Part.host ∈ K)] [Fact (Part.mot ∈ K)] (n : Nat) (level : Bool) (s : State) (hI : Keeps K B0 s) :
    Keeps K B0 (refEdgeOp n level s) := by
  unfold refEdgeOp
  try dsimp only
  with_reducible repeat' first
    | assumption | apply foldl_keeps | (apply ite_keeps <;> intro _) | apply raise_keeps | apply setAxis_keeps
    | apply stopCmd_keeps | (fail_if_no_progress (refine mk_keeps ?_)) | intro _ _ _ | split | rfl | (simp; done)

theorem refSample_keeps [Fact (Part.host ∈ K)] [Fact (Part.mot ∈ K)] (n : Nat) (b : Bool) (s : State) (hI : Keeps K B0 s) :
    Keeps K B0 (refSample n b s) := by
  unfold refSample
  try dsimp only
  with_reducible repeat' first
    | assumption | apply foldl_keeps | (apply ite_keeps <;> intro _) | apply setAxis_keeps | apply refEdgeOp_keeps
    | (fail_if_no_progress (refine mk_keeps ?_)) | intro _ _ _ | split | rfl | (simp; done)

theorem refKnown_keeps [Fact (Part.mot ∈ K)] (n : Nat) (b : Bool) (s : State) (hI : Keeps K B0 s) :
    Keeps K B0 (refKnown n b s) := by
  unfold refKnown
  try dsimp only
  with_reducible repeat' first
    | assumption | apply foldl_keeps | (apply ite_keeps <;> intro _) | apply setAxis_keeps
    | (fail_if_no_progress (refine mk_keeps ?_)) | intro _ _ _ | split | rfl | (simp; done)

theorem axisTick_keeps [Fact (Part.mot ∈ K)] (n : Nat) (s : State) (hI : Keeps K B0 s) :
    Keeps K B0 (axisTick n s) := by
  unfold axisTick
  try dsimp only
  with_reducible repeat' first
    | assumption | apply foldl_keeps | (apply ite_keeps <;> intro _) | apply setAxis_keeps
    | (fail_if_no_progress (refine mk_keeps ?_)) | intro _ _ _ | split | rfl | (simp; done)

theorem axisTicks_keeps [Fact (Part.mot ∈ K)] (s : State) (hI : Keeps K B0 s) :
    Keeps K B0 (axisTicks s) := by
  unfold axisTicks
  try dsimp only
  with_reducible repeat' first
    | assumption | apply foldl_keeps | (apply ite_keeps <;> intro _) | apply axisTick_keeps
    | (fail_if_no_progress (refine mk_keeps ?_)) | intro _ _ _ | split | rfl | (simp; done)

theorem camEndOp_keeps [Fact (Part.mot ∈ K)] (n : Nat) (s : State) (hI : Keeps K B0 s) :
    Keeps K B0 (camEndOp n s) := by
  unfold camEndOp
  try dsimp only
  with_reducible repeat' first
    | assumption | apply foldl_keeps | (apply ite_keeps <;> intro _) | apply leaveCam_keeps
    | (fail_if_no_progress (refine mk_keeps ?_)) | intro _ _ _ | split | rfl | (simp; done)

theorem camOverspeedOp_keeps [Fact (Part.host ∈ K)] [Fact (Part.mot ∈ K)] (n : Nat) (s : State) (hI : Keeps K B0 s) :
    Keeps K B0 (camOverspeedOp n s) := by
  unfold camOverspeedOp
  try dsimp only
  with_reducible repeat' first
    | assumption | apply foldl_keeps | (apply ite_keeps <;> intro _) | apply setAxis_keeps | apply motErr_keeps
    | apply qstopOp_keeps | apply releaseCam_keeps | (fail_if_no_progress (refine mk_keeps ?_)) | intro _ _ _ | split
    | rfl | (simp; done)

theorem supplyFaultOp_keeps [Fact (Part.tbl ∈ K)] [Fact (Part.host ∈ K)] [Fact (Part.mot ∈ K)] [Fact (Part.nvm ∈ K)] (n : Nat) (s : State) (hI : Keeps K B0 s) :
    Keeps K B0 (supplyFaultOp n s) := by
  unfold supplyFaultOp
  try dsimp only
  with_reducible repeat' first
    | assumption | apply foldl_keeps | (apply ite_keeps <;> intro _) | apply raise_keeps | apply recErrLees_keeps
    | apply setAxis_keeps | (fail_if_no_progress (refine mk_keeps ?_)) | intro _ _ _ | split | rfl | (simp; done)

theorem replanAxis_keeps [Fact (Part.host ∈ K)] [Fact (Part.mot ∈ K)] (n : Nat) (s : State) (hI : Keeps K B0 s) :
    Keeps K B0 (replanAxis n s) := by
  unfold replanAxis
  try dsimp only
  with_reducible repeat' first
    | assumption | apply foldl_keeps | (apply ite_keeps <;> intro _) | apply setPlan_keeps
    | (fail_if_no_progress (refine mk_keeps ?_)) | intro _ _ _ | split | rfl | (simp; done)

theorem axisAfterCask_keeps [Fact (Part.host ∈ K)] [Fact (Part.mot ∈ K)] (old : State) (touched : Bool) (n : Nat) (s : State) (hI : Keeps K B0 s) :
    Keeps K B0 (axisAfterCask old touched n s) := by
  unfold axisAfterCask
  try dsimp only
  with_reducible repeat' first
    | assumption | apply foldl_keeps | (apply ite_keeps <;> intro _) | apply setAxis_keeps | apply replanAxis_keeps
    | (fail_if_no_progress (refine mk_keeps ?_)) | intro _ _ _ | split | rfl | (simp; done)

theorem resumeAxis_keeps [Fact (Part.host ∈ K)] [Fact (Part.mot ∈ K)] (old : State) (n : Nat) (s : State) (hI : Keeps K B0 s) :
    Keeps K B0 (resumeAxis old n s) := by
  unfold resumeAxis
  try dsimp only
  with_reducible repeat' first
    | assumption | apply foldl_keeps | (apply ite_keeps <;> intro _) | apply setAxis_keeps | apply runMove_keeps
    | apply renewPlan_keeps | apply camEngage_keeps | (fail_if_no_progress (refine mk_keeps ?_)) | intro _ _ _
    | split | rfl | (simp; done)

theorem bridgeDuty_keeps [Fact (Part.tbl ∈ K)] [Fact (Part.host ∈ K)] [Fact (Part.mot ∈ K)] (n : Nat) (s : State) (hI : Keeps K B0 s) :
    Keeps K B0 (bridgeDuty n s) := by
  unfold bridgeDuty
  try dsimp only
  with_reducible repeat' first
    | assumption | apply foldl_keeps | (apply ite_keeps <;> intro _) | apply bump_keeps | apply setAxis_keeps
    | apply motErr_keeps | (fail_if_no_progress (refine mk_keeps ?_)) | intro _ _ _ | split | rfl | (simp; done)

theorem stepTick_keeps [Fact (Part.tbl ∈ K)] [Fact (Part.host ∈ K)] [Fact (Part.mot ∈ K)] (n : Nat) (s : State) (hI : Keeps K B0 s) :
    Keeps K B0 (stepTick n s) := by
  unfold stepTick
  try dsimp only
  with_reducible repeat' first
    | assumption | apply foldl_keeps | (apply ite_keeps <;> intro _) | apply bump_keeps | apply recErr_keeps
    | apply setAxis_keeps | (fail_if_no_progress (refine mk_keeps ?_)) | intro _ _ _ | split | rfl | (simp; done)

theorem stepTicks_keeps [Fact (Part.tbl ∈ K)] [Fact (Part.host ∈ K)] [Fact (Part.mot ∈ K)] (s : State) (hI : Keeps K B0 s) :
    Keeps K B0 (stepTicks s) := by
  unfold stepTicks
  try dsimp only
  with_reducible repeat' first
    | assumption | apply foldl_keeps | (apply ite_keeps <;> intro _) | apply stepTick_keeps
    | (fail_if_no_progress (refine mk_keeps ?_)) | intro _ _ _ | split | rfl | (simp; done)

theorem motReg_keeps [Fact (Part.host ∈ K)] [Fact (Part.mot ∈ K)] [Fact (Part.pwr ∈ K)] (op : Nat) (s : State) (hI : Keeps K B0 s) :
    Keeps K B0 (motReg op s) := by
  unfold motReg
  try dsimp only
  with_reducible repeat' first
    | assumption | apply foldl_keeps | (apply ite_keeps <;> intro _) | apply routedOp_keeps | apply motCmd_keeps
    | (fail_if_no_progress (refine mk_keeps ?_)) | intro _ _ _ | split | rfl | (simp; done)

/-! ### Machine/Grid.lean -/

theorem gridErr_keeps [Fact (Part.host ∈ K)] (code : Nat) (s : State) (hI : Keeps K B0 s) :
    Keeps K B0 (gridErr code s) := by
  unfold gridErr
  try dsimp only
  with_reducible repeat' first
    | assumption | apply foldl_keeps | (apply ite_keeps <;> intro _) | apply recErr_keeps
    | (fail_if_no_progress (refine mk_keeps ?_)) | intro _ _ _ | split | rfl | (simp; done)

theorem gridGate_keeps [Fact (Part.host ∈ K)] [Fact (Part.jet ∈ K)] [Fact (Part.hc ∈ K)] (s : State) (hI : Keeps K B0 s) :
    Keeps K B0 (gridGate s) := by
  unfold gridGate
  try dsimp only
  with_reducible repeat' first
    | assumption | apply foldl_keeps | (apply ite_keeps <;> intro _) | apply raiseIfShut_keeps
    | (fail_if_no_progress (refine mk_keeps ?_)) | intro _ _ _ | split | rfl | (simp; done)

theorem onActiveRec_keeps [Fact (Part.ing ∈ K)] (f : SwathRec → SwathRec) (s : State) (hI : Keeps K B0 s) :
    Keeps K B0 (onActiveRec f s) := by
  unfold onActiveRec
  try dsimp only
  with_reducible repeat' first
    | assumption | apply foldl_keeps | (apply ite_keeps <;> intro _) | (fail_if_no_progress (refine mk_keeps ?_))
    | intro _ _ _ | split | rfl | (simp; done)

theorem gridShut_keeps [Fact (Part.host ∈ K)] [Fact (Part.grid ∈ K)] [Fact (Part.jet ∈ K)] [Fact (Part.ing ∈ K)] [Fact (Part.hc ∈ K)] (s : State) (hI : Keeps K B0 s) :
    Keeps K B0 (gridShut s) := by
  unfold gridShut
  try dsimp only
  with_reducible repeat' first
    | assumption | apply foldl_keeps | (apply ite_keeps <;> intro _) | apply gridGate_keeps | apply onActiveRec_keeps
    | (fail_if_no_progress (refine mk_keeps ?_)) | intro _ _ _ | split | rfl | (simp; done)

theorem onRec_keeps [Fact (Part.host ∈ K)] [Fact (Part.grid ∈ K)] [Fact (Part.ing ∈ K)] (n : Nat) (f : SwathRec → SwathRec) (s : State) (hI : Keeps K B0 s) :
    Keeps K B0 (onRec n f s) := by
  unfold onRec
  try dsimp only
  with_reducible repeat' first
    | assumption | apply foldl_keeps | (apply ite_keeps <;> intro _) | apply raise_keeps
    | (fail_if_no_progress (refine mk_keeps ?_)) | intro _ _ _ | split | rfl | (simp; done)

theorem openRegion_keeps [Fact (Part.tbl ∈ K)] [Fact (Part.grid ∈ K)] (relay : Bool) (s : State) (hI : Keeps K B0 s) :
    Keeps K B0 (openRegion relay s) := by
  unfold openRegion
  try dsimp only
  with_reducible repeat' first
    | assumption | apply foldl_keeps | (apply ite_keeps <;> intro _) | apply bump_keeps
    | (fail_if_no_progress (refine mk_keeps ?_)) | intro _ _ _ | split | rfl | (simp; done)

theorem closeRegion_keeps [Fact (Part.grid ∈ K)] (s : State) (hI : Keeps K B0 s) :
    Keeps K B0 (closeRegion s) := by
  unfold closeRegion
  try dsimp only
  with_reducible repeat' first
    | assumption | apply foldl_keeps | (apply ite_keeps <;> intro _) | (fail_if_no_progress (refine mk_keeps ?_))
    | intro _ _ _ | split | rfl | (simp; done)

theorem newInterval_keeps [Fact (Part.grid ∈ K)] (s : State) (hI : Keeps K B0 s) :
    Keeps K B0 (newInterval s) := by
  unfold newInterval
  try dsimp only
  with_reducible repeat' first
    | assumption | apply foldl_keeps | (apply ite_keeps <;> intro _) | (fail_if_no_progress (refine mk_keeps ?_))
    | intro _ _ _ | split | rfl | (simp; done)

theorem applyVerdict_keeps [Fact (Part.host ∈ K)] [Fact (Part.grid ∈ K)] [Fact (Part.ing ∈ K)] (mism : Bool) (s : State) (hI : Keeps K B0 s) :
    Keeps K B0 (applyVerdict mism s) := by
  unfold applyVerdict
  try dsimp only
  with_reducible repeat' first
    | assumption | apply foldl_keeps | (apply ite_keeps <;> intro _) | apply gridErr_keeps | apply onRec_keeps
    | (fail_if_no_progress (refine mk_keeps ?_)) | intro _ _ _ | split | rfl | (simp; done)

theorem gridIndex_keeps [Fact (Part.host ∈ K)] [Fact (Part.grid ∈ K)] [Fact (Part.ing ∈ K)] (v : Option Bool) (s : State) (hI : Keeps K B0 s) :
    Keeps K B0 (gridIndex v s) := by
  unfold gridIndex
  try dsimp only
  with_reducible repeat' first
    | assumption | apply foldl_keeps | (apply ite_keeps <;> intro _) | apply newInterval_keeps
    | apply applyVerdict_keeps | (fail_if_no_progress (refine mk_keeps ?_)) | intro _ _ _ | split | rfl
    | (simp; done)

theorem rebase_keeps [Fact (Part.grid ∈ K)] (g : Int) (tc : Nat) (s : State) (hI : Keeps K B0 s) :
    Keeps K B0 (rebase g tc s) := by
  unfold rebase
  try dsimp only
  with_reducible repeat' first
    | assumption | apply foldl_keeps | (apply ite_keeps <;> intro _) | (fail_if_no_progress (refine mk_keeps ?_))
    | intro _ _ _ | split | rfl | (simp; done)

theorem acquire_keeps [Fact (Part.grid ∈ K)] (g : Int) (down same : Bool) (tc : Nat) (s : State) (hI : Keeps K B0 s) :
    Keeps K B0 (acquire g down same tc s) := by
  unfold acquire
  try dsimp only
  with_reducible repeat' first
    | assumption | apply foldl_keeps | (apply ite_keeps <;> intro _) | apply rebase_keeps
    | (fail_if_no_progress (refine mk_keeps ?_)) | intro _ _ _ | split | rfl | (simp; done)

theorem closeSlip_keeps [Fact (Part.tbl ∈ K)] [Fact (Part.host ∈ K)] [Fact (Part.grid ∈ K)] [Fact (Part.jet ∈ K)] [Fact (Part.ing ∈ K)] [Fact (Part.hc ∈ K)] (c : Int) (tc : Nat) (s : State) (hI : Keeps K B0 s) :
    Keeps K B0 (closeSlip c tc s) := by
  unfold closeSlip
  try dsimp only
  with_reducible repeat' first
    | assumption | apply foldl_keeps | (apply ite_keeps <;> intro _) | apply bump_keeps | apply markBad_keeps
    | apply gridUnlock_keeps | apply gridErr_keeps | apply gridShut_keeps | apply closeRegion_keeps
    | apply rebase_keeps | (fail_if_no_progress (refine mk_keeps ?_)) | intro _ _ _ | split | rfl | (simp; done)

theorem lockedCount_keeps [Fact (Part.tbl ∈ K)] [Fact (Part.host ∈ K)] [Fact (Part.grid ∈ K)] [Fact (Part.jet ∈ K)] [Fact (Part.ing ∈ K)] [Fact (Part.hc ∈ K)] (g : Int) (same : Bool) (tc : Nat) (s : State) (hI : Keeps K B0 s) :
    Keeps K B0 (lockedCount g same tc s) := by
  unfold lockedCount
  try dsimp only
  with_reducible repeat' first
    | assumption | apply foldl_keeps | (apply ite_keeps <;> intro _) | apply gridUnlock_keeps | apply gridErr_keeps
    | apply openRegion_keeps | apply rebase_keeps | apply acquire_keeps | apply closeSlip_keeps
    | (fail_if_no_progress (refine mk_keeps ?_)) | intro _ _ _ | split | rfl | (simp; done)

theorem gridCountOp_keeps [Fact (Part.tbl ∈ K)] [Fact (Part.host ∈ K)] [Fact (Part.grid ∈ K)] [Fact (Part.jet ∈ K)] [Fact (Part.ing ∈ K)] [Fact (Part.hc ∈ K)] (s : State) (hI : Keeps K B0 s) :
    Keeps K B0 (gridCountOp s) := by
  unfold gridCountOp
  try dsimp only
  with_reducible repeat' first
    | assumption | apply foldl_keeps | (apply ite_keeps <;> intro _) | apply acquire_keeps | apply lockedCount_keeps
    | (fail_if_no_progress (refine mk_keeps ?_)) | intro _ _ _ | split | rfl | (simp; done)

theorem gridRestart_keeps [Fact (Part.grid ∈ K)] (s : State) (hI : Keeps K B0 s) :
    Keeps K B0 (gridRestart s) := by
  unfold gridRestart
  try dsimp only
  with_reducible repeat' first
    | assumption | apply foldl_keeps | (apply ite_keeps <;> intro _) | apply gridUnlock_keeps
    | apply closeRegion_keeps | apply newInterval_keeps | (fail_if_no_progress (refine mk_keeps ?_)) | intro _ _ _
    | split | rfl | (simp; done)

theorem gridCfgWriteOp_keeps [Fact (Part.tbl ∈ K)] [Fact (Part.host ∈ K)] [Fact (Part.grid ∈ K)] [Fact (Part.jet ∈ K)] [Fact (Part.hc ∈ K)] (a : Nat) (d : Word) (s : State) (hI : Keeps K B0 s) :
    Keeps K B0 (gridCfgWriteOp a d s) := by
  unfold gridCfgWriteOp
  try dsimp only
  with_reducible repeat' first
    | assumption | apply foldl_keeps | (apply ite_keeps <;> intro _) | apply tset_keeps | apply gridErr_keeps
    | apply gridGate_keeps | apply gridRestart_keeps | (fail_if_no_progress (refine mk_keeps ?_)) | intro _ _ _
    | split | rfl | (simp; done)

theorem tokenVerdict_keeps [Fact (Part.host ∈ K)] [Fact (Part.grid ∈ K)] [Fact (Part.ing ∈ K)] (t : Token) (s : State) (hI : Keeps K B0 s) :
    Keeps K B0 (tokenVerdict t s) := by
  unfold tokenVerdict
  try dsimp only
  with_reducible repeat' first
    | assumption | apply foldl_keeps | (apply ite_keeps <;> intro _) | apply newInterval_keeps
    | apply applyVerdict_keeps | (fail_if_no_progress (refine mk_keeps ?_)) | intro _ _ _ | split | rfl
    | (simp; done)

theorem acceptToken_keeps [Fact (Part.tbl ∈ K)] [Fact (Part.host ∈ K)] [Fact (Part.grid ∈ K)] [Fact (Part.ing ∈ K)] (t : Token) (back : Nat) (s : State) (hI : Keeps K B0 s) :
    Keeps K B0 (acceptToken t back s) := by
  unfold acceptToken
  try dsimp only
  with_reducible repeat' first
    | assumption | apply foldl_keeps | (apply ite_keeps <;> intro _) | apply openRegion_keeps
    | apply closeRegion_keeps | apply tokenVerdict_keeps | (fail_if_no_progress (refine mk_keeps ?_)) | intro _ _ _
    | split | rfl | (simp; done)

theorem gridToken_keeps [Fact (Part.tbl ∈ K)] [Fact (Part.host ∈ K)] [Fact (Part.grid ∈ K)] [Fact (Part.ing ∈ K)] (src : Nat) (t : Token) (s : State) (hI : Keeps K B0 s) :
    Keeps K B0 (gridToken src t s) := by
  unfold gridToken
  try dsimp only
  with_reducible repeat' first
    | assumption | apply foldl_keeps | (apply ite_keeps <;> intro _) | apply acceptToken_keeps
    | (fail_if_no_progress (refine mk_keeps ?_)) | intro _ _ _ | split | rfl | (simp; done)

theorem relayTimeoutOp_keeps [Fact (Part.tbl ∈ K)] [Fact (Part.host ∈ K)] [Fact (Part.grid ∈ K)] (s : State) (hI : Keeps K B0 s) :
    Keeps K B0 (relayTimeoutOp s) := by
  unfold relayTimeoutOp
  try dsimp only
  with_reducible repeat' first
    | assumption | apply foldl_keeps | (apply ite_keeps <;> intro _) | apply bump_keeps | apply gridErr_keeps
    | apply openRegion_keeps | (fail_if_no_progress (refine mk_keeps ?_)) | intro _ _ _ | split | rfl | (simp; done)

theorem relayOut_keeps [Fact (Part.host ∈ K)] [Fact (Part.grid ∈ K)] [Fact (Part.jet ∈ K)] [Fact (Part.ing ∈ K)] [Fact (Part.hc ∈ K)] (s : State) (hI : Keeps K B0 s) :
    Keeps K B0 (relayOut s) := by
  unfold relayOut
  try dsimp only
  with_reducible repeat' first
    | assumption | apply foldl_keeps | (apply ite_keeps <;> intro _) | apply markBad_keeps | apply onActiveRec_keeps
    | apply gridShut_keeps | (fail_if_no_progress (refine mk_keeps ?_)) | intro _ _ _ | split | rfl | (simp; done)

theorem relayMaxOp_keeps [Fact (Part.host ∈ K)] [Fact (Part.grid ∈ K)] [Fact (Part.jet ∈ K)] [Fact (Part.ing ∈ K)] [Fact (Part.hc ∈ K)] (s : State) (hI : Keeps K B0 s) :
    Keeps K B0 (relayMaxOp s) := by
  unfold relayMaxOp
  try dsimp only
  with_reducible repeat' first
    | assumption | apply foldl_keeps | (apply ite_keeps <;> intro _) | apply gridErr_keeps | apply relayOut_keeps
    | (fail_if_no_progress (refine mk_keeps ?_)) | intro _ _ _ | split | rfl | (simp; done)

theorem relayAtAdmission_keeps [Fact (Part.host ∈ K)] [Fact (Part.grid ∈ K)] [Fact (Part.jet ∈ K)] [Fact (Part.ing ∈ K)] [Fact (Part.hc ∈ K)] (s : State) (hI : Keeps K B0 s) :
    Keeps K B0 (relayAtAdmission s) := by
  unfold relayAtAdmission
  try dsimp only
  with_reducible repeat' first
    | assumption | apply foldl_keeps | (apply ite_keeps <;> intro _) | apply relayOut_keeps
    | (fail_if_no_progress (refine mk_keeps ?_)) | intro _ _ _ | split | rfl | (simp; done)

theorem gridSyncLost_keeps [Fact (Part.host ∈ K)] [Fact (Part.grid ∈ K)] [Fact (Part.jet ∈ K)] [Fact (Part.ing ∈ K)] [Fact (Part.hc ∈ K)] (s : State) (hI : Keeps K B0 s) :
    Keeps K B0 (gridSyncLost s) := by
  unfold gridSyncLost
  try dsimp only
  with_reducible repeat' first
    | assumption | apply foldl_keeps | (apply ite_keeps <;> intro _) | apply raise_keeps | apply markBad_keeps
    | apply gridErr_keeps | apply gridGate_keeps | apply gridShut_keeps | (fail_if_no_progress (refine mk_keeps ?_))
    | intro _ _ _ | split | rfl | (simp; done)

theorem writeRecord_keeps [Fact (Part.host ∈ K)] [Fact (Part.grid ∈ K)] (r : SwathRec) (s : State) (hI : Keeps K B0 s) :
    Keeps K B0 (writeRecord r s) := by
  unfold writeRecord
  try dsimp only
  with_reducible repeat' first
    | assumption | apply foldl_keeps | (apply ite_keeps <;> intro _) | apply raise_keeps
    | (fail_if_no_progress (refine mk_keeps ?_)) | intro _ _ _ | split | rfl | (simp; done)

theorem logSkip_keeps [Fact (Part.host ∈ K)] [Fact (Part.grid ∈ K)] [Fact (Part.ing ∈ K)] (ch : Nat) (col : Int) (s : State) (hI : Keeps K B0 s) :
    Keeps K B0 (logSkip ch col s) := by
  unfold logSkip
  try dsimp only
  with_reducible repeat' first
    | assumption | apply foldl_keeps | (apply ite_keeps <;> intro _) | apply gridErr_keeps | apply onActiveRec_keeps
    | (fail_if_no_progress (refine mk_keeps ?_)) | intro _ _ _ | split | rfl | (simp; done)

theorem markTarget_keeps [Fact (Part.grid ∈ K)] [Fact (Part.ing ∈ K)] (s : State) (hI : Keeps K B0 s) :
    Keeps K B0 (markTarget s) := by
  unfold markTarget
  try dsimp only
  with_reducible repeat' first
    | assumption | apply foldl_keeps | (apply ite_keeps <;> intro _) | apply onActiveRec_keeps
    | (fail_if_no_progress (refine mk_keeps ?_)) | intro _ _ _ | split | rfl | (simp; done)

theorem markFire_keeps [Fact (Part.grid ∈ K)] (s : State) (hI : Keeps K B0 s) :
    Keeps K B0 (markFire s) := by
  unfold markFire
  try dsimp only
  with_reducible repeat' first
    | assumption | apply foldl_keeps | (apply ite_keeps <;> intro _) | (fail_if_no_progress (refine mk_keeps ?_))
    | intro _ _ _ | split | rfl | (simp; done)

theorem indexSample_keeps [Fact (Part.tbl ∈ K)] [Fact (Part.host ∈ K)] [Fact (Part.enc ∈ K)] [Fact (Part.grid ∈ K)] [Fact (Part.ing ∈ K)] (c : Nat) (z : Bool) (s : State) (hI : Keeps K B0 s) :
    Keeps K B0 (indexSample c z s) := by
  unfold indexSample
  try dsimp only
  with_reducible repeat' first
    | assumption | apply foldl_keeps | (apply ite_keeps <;> intro _) | apply setEnc_keeps | apply indexStep_keeps
    | apply gridIndex_keeps | (fail_if_no_progress (refine mk_keeps ?_)) | intro _ _ _ | split | rfl | (simp; done)

/-! ### Machine/HeadCare.lean -/

theorem hcErr_keeps [Fact (Part.host ∈ K)] (code : Nat) (s : State) (hI : Keeps K B0 s) :
    Keeps K B0 (hcErr code s) := by
  unfold hcErr
  try dsimp only
  with_reducible repeat' first
    | assumption | apply foldl_keeps | (apply ite_keeps <;> intro _) | apply recErr_keeps
    | (fail_if_no_progress (refine mk_keeps ?_)) | intro _ _ _ | split | rfl | (simp; done)

theorem hcErrLees_keeps [Fact (Part.tbl ∈ K)] [Fact (Part.host ∈ K)] [Fact (Part.nvm ∈ K)] (code : Nat) (data : List Nat) (s : State) (hI : Keeps K B0 s) :
    Keeps K B0 (hcErrLees code data s) := by
  unfold hcErrLees
  try dsimp only
  with_reducible repeat' first
    | assumption | apply foldl_keeps | (apply ite_keeps <;> intro _) | apply recErrLees_keeps
    | (fail_if_no_progress (refine mk_keeps ?_)) | intro _ _ _ | split | rfl | (simp; done)

theorem hcRefuse_keeps [Fact (Part.host ∈ K)] [Fact (Part.hc ∈ K)] (s : State) (hI : Keeps K B0 s) :
    Keeps K B0 (hcRefuse s) := by
  unfold hcRefuse
  try dsimp only
  with_reducible repeat' first
    | assumption | apply foldl_keeps | (apply ite_keeps <;> intro _) | apply hcErr_keeps
    | (fail_if_no_progress (refine mk_keeps ?_)) | intro _ _ _ | split | rfl | (simp; done)

theorem headidUpdate_keeps [Fact (Part.host ∈ K)] [Fact (Part.jet ∈ K)] [Fact (Part.hc ∈ K)] (s : State) (hI : Keeps K B0 s) :
    Keeps K B0 (headidUpdate s) := by
  unfold headidUpdate
  try dsimp only
  with_reducible repeat' first
    | assumption | apply foldl_keeps | (apply ite_keeps <;> intro _) | apply setHeadid_keeps
    | (fail_if_no_progress (refine mk_keeps ?_)) | intro _ _ _ | split | rfl | (simp; done)

theorem jetFlag_keeps [Fact (Part.jet ∈ K)] {g : Nat} {f : Jet → Jet} {s : State} (hI : Keeps K B0 s) (hf : (f s.jet).wdacs.length = s.jet.wdacs.length) : Keeps K B0 (jetFlag g f s) := by
  unfold jetFlag
  exact mk_keeps hI (h10 := hf)

theorem headStatus_keeps [Fact (Part.tbl ∈ K)] (h fault : Nat) (s : State) (hI : Keeps K B0 s) :
    Keeps K B0 (headStatus h fault s) := by
  unfold headStatus
  try dsimp only
  with_reducible repeat' first
    | assumption | apply foldl_keeps | (apply ite_keeps <;> intro _) | apply tset_keeps
    | (fail_if_no_progress (refine mk_keeps ?_)) | intro _ _ _ | split | rfl | (simp; done)

theorem clearWaits_keeps [Fact (Part.hc ∈ K)] (s0 : State) (h : Nat) (s : State) (hI : Keeps K B0 s) :
    Keeps K B0 (clearWaits s0 h s) := by
  unfold clearWaits
  try dsimp only
  with_reducible repeat' first
    | assumption | apply foldl_keeps | (apply ite_keeps <;> intro _) | (fail_if_no_progress (refine mk_keeps ?_))
    | intro _ _ _ | split | rfl | (simp; done)

theorem setRead_keeps [Fact (Part.hc ∈ K)] (h : Nat) (f : HeadRead → HeadRead) (s : State) (hI : Keeps K B0 s) :
    Keeps K B0 (setRead h f s) := by
  unfold setRead
  try dsimp only
  with_reducible repeat' first
    | assumption | apply foldl_keeps | (apply ite_keeps <;> intro _) | (fail_if_no_progress (refine mk_keeps ?_))
    | intro _ _ _ | split | rfl | (simp; done)

theorem pumpBus_keeps [Fact (Part.hc ∈ K)] (b : Nat) (s : State) (hI : Keeps K B0 s) :
    Keeps K B0 (pumpBus b s) := by
  unfold pumpBus
  try dsimp only
  with_reducible repeat' first
    | assumption | apply foldl_keeps | (apply ite_keeps <;> intro _) | apply setRead_keeps
    | (fail_if_no_progress (refine mk_keeps ?_)) | intro _ _ _ | split | rfl | (simp; done)

theorem pumpBuses_keeps [Fact (Part.hc ∈ K)] (s : State) (hI : Keeps K B0 s) :
    Keeps K B0 (pumpBuses s) := by
  unfold pumpBuses
  try dsimp only
  with_reducible repeat' first
    | assumption | apply foldl_keeps | (apply ite_keeps <;> intro _) | apply pumpBus_keeps
    | (fail_if_no_progress (refine mk_keeps ?_)) | intro _ _ _ | split | rfl | (simp; done)

theorem curveBadCheck_keeps [Fact (Part.host ∈ K)] [Fact (Part.jet ∈ K)] (s0 : State) (h : Nat) (s : State) (hI : Keeps K B0 s) :
    Keeps K B0 (curveBadCheck s0 h s) := by
  unfold curveBadCheck
  try dsimp only
  with_reducible repeat' first
    | assumption | apply foldl_keeps | (apply ite_keeps <;> intro _) | apply recErr_keeps | apply jetFlag_keeps
    | (fail_if_no_progress (refine mk_keeps ?_)) | intro _ _ _ | split | rfl | (simp; done)

theorem headComplete_keeps [Fact (Part.tbl ∈ K)] [Fact (Part.host ∈ K)] [Fact (Part.jet ∈ K)] [Fact (Part.hc ∈ K)] [Fact (Part.nvm ∈ K)] (h : Nat) (bs : List Byte) (s : State) (hI : Keeps K B0 s) :
    Keeps K B0 (headComplete h bs s) := by
  unfold headComplete
  try dsimp only
  with_reducible repeat' first
    | assumption | apply foldl_keeps | (apply ite_keeps <;> intro _) | apply tsetRun_keeps | apply hcErrLees_keeps
    | apply headidUpdate_keeps | apply headStatus_keeps | apply clearWaits_keeps | apply setRead_keeps
    | apply pumpBuses_keeps | apply curveBadCheck_keeps | (fail_if_no_progress (refine mk_keeps ?_)) | intro _ _ _
    | split | rfl | (simp; done)

theorem headAttemptFails_keeps [Fact (Part.tbl ∈ K)] [Fact (Part.host ∈ K)] [Fact (Part.jet ∈ K)] [Fact (Part.hc ∈ K)] (h : Nat) (s : State) (hI : Keeps K B0 s) :
    Keeps K B0 (headAttemptFails h s) := by
  unfold headAttemptFails
  try dsimp only
  with_reducible repeat' first
    | assumption | apply foldl_keeps | (apply ite_keeps <;> intro _) | apply hcErr_keeps | apply headidUpdate_keeps
    | apply headStatus_keeps | apply setRead_keeps | apply pumpBuses_keeps
    | (fail_if_no_progress (refine mk_keeps ?_)) | intro _ _ _ | split | rfl | (simp; done)

theorem startReads_keeps [Fact (Part.host ∈ K)] [Fact (Part.jet ∈ K)] [Fact (Part.hc ∈ K)] (hs : List Nat) (s : State) (hI : Keeps K B0 s) :
    Keeps K B0 (startReads hs s) := by
  unfold startReads
  try dsimp only
  with_reducible repeat' first
    | assumption | apply foldl_keeps | (apply ite_keeps <;> intro _) | apply headidUpdate_keeps | apply setRead_keeps
    | apply pumpBuses_keeps | (fail_if_no_progress (refine mk_keeps ?_)) | intro _ _ _ | split | rfl | (simp; done)

theorem recheckHeads_keeps [Fact (Part.tbl ∈ K)] [Fact (Part.host ∈ K)] [Fact (Part.jet ∈ K)] [Fact (Part.hc ∈ K)] (s : State) (hI : Keeps K B0 s) :
    Keeps K B0 (recheckHeads s) := by
  unfold recheckHeads
  try dsimp only
  with_reducible repeat' first
    | assumption | apply foldl_keeps | (apply ite_keeps <;> intro _) | apply headidUpdate_keeps
    | apply headStatus_keeps | (fail_if_no_progress (refine mk_keeps ?_)) | intro _ _ _ | split | rfl | (simp; done)

theorem setConsSlot_keeps [Fact (Part.hc ∈ K)] (f : Nat) (g : Cons → Cons) (s : State) (hI : Keeps K B0 s) :
    Keeps K B0 (setConsSlot f g s) := by
  unfold setConsSlot
  try dsimp only
  with_reducible repeat' first
    | assumption | apply foldl_keeps | (apply ite_keeps <;> intro _) | (fail_if_no_progress (refine mk_keeps ?_))
    | intro _ _ _ | split | rfl | (simp; done)

theorem consUpdate_keeps [Fact (Part.host ∈ K)] [Fact (Part.jet ∈ K)] [Fact (Part.hc ∈ K)] (s : State) (hI : Keeps K B0 s) :
    Keeps K B0 (consUpdate s) := by
  unfold consUpdate
  try dsimp only
  with_reducible repeat' first
    | assumption | apply foldl_keeps | (apply ite_keeps <;> intro _) | apply setCons_keeps
    | (fail_if_no_progress (refine mk_keeps ?_)) | intro _ _ _ | split | rfl | (simp; done)

theorem consLevels_keeps [Fact (Part.tbl ∈ K)] [Fact (Part.host ∈ K)] [Fact (Part.jet ∈ K)] [Fact (Part.hc ∈ K)] [Fact (Part.nvm ∈ K)] (f : Nat) (s : State) (hI : Keeps K B0 s) :
    Keeps K B0 (consLevels f s) := by
  unfold consLevels
  try dsimp only
  with_reducible repeat' first
    | assumption | apply foldl_keeps | (apply ite_keeps <;> intro _) | apply raise_keeps | apply hcErrLees_keeps
    | apply setConsSlot_keeps | apply consUpdate_keeps | (fail_if_no_progress (refine mk_keeps ?_)) | intro _ _ _
    | split | rfl | (simp; done)

theorem chargeFire_keeps [Fact (Part.tbl ∈ K)] [Fact (Part.host ∈ K)] [Fact (Part.jet ∈ K)] [Fact (Part.hc ∈ K)] [Fact (Part.nvm ∈ K)] (members : List (Nat × List Nat)) (s : State) (hI : Keeps K B0 s) :
    Keeps K B0 (chargeFire members s) := by
  unfold chargeFire
  try dsimp only
  with_reducible repeat' first
    | assumption | apply foldl_keeps | (apply ite_keeps <;> intro _) | apply setConsSlot_keeps
    | apply consLevels_keeps | (fail_if_no_progress (refine mk_keeps ?_)) | intro _ _ _ | split | rfl | (simp; done)

theorem withNonce_keeps [Fact (Part.free ∈ K)] [Fact (Part.hc ∈ K)] (dec : Option Nat) (f : Nat) (s : State) (hI : Keeps K B0 s) :
    Keeps K B0 (withNonce dec f s) := by
  unfold withNonce
  try dsimp only
  with_reducible repeat' first
    | assumption | apply foldl_keeps | (apply ite_keeps <;> intro _) | apply drawRandom_keeps
    | apply setConsSlot_keeps | (fail_if_no_progress (refine mk_keeps ?_)) | intro _ _ _ | split | rfl | (simp; done)

theorem startAuth_keeps [Fact (Part.free ∈ K)] [Fact (Part.hc ∈ K)] (byCommand : Bool) (f : Nat) (s : State) (hI : Keeps K B0 s) :
    Keeps K B0 (startAuth byCommand f s) := by
  unfold startAuth
  try dsimp only
  with_reducible repeat' first
    | assumption | apply foldl_keeps | (apply ite_keeps <;> intro _) | apply setConsSlot_keeps
    | apply withNonce_keeps | (fail_if_no_progress (refine mk_keeps ?_)) | intro _ _ _ | split | rfl | (simp; done)

theorem authFails_keeps [Fact (Part.tbl ∈ K)] [Fact (Part.host ∈ K)] [Fact (Part.jet ∈ K)] [Fact (Part.hc ∈ K)] [Fact (Part.nvm ∈ K)] (f : Nat) (s : State) (hI : Keeps K B0 s) :
    Keeps K B0 (authFails f s) := by
  unfold authFails
  try dsimp only
  with_reducible repeat' first
    | assumption | apply foldl_keeps | (apply ite_keeps <;> intro _) | apply raise_keeps | apply hcErrLees_keeps
    | apply setConsSlot_keeps | apply consUpdate_keeps | (fail_if_no_progress (refine mk_keeps ?_)) | intro _ _ _
    | split | rfl | (simp; done)

theorem authReply_keeps [Fact (Part.tbl ∈ K)] [Fact (Part.host ∈ K)] [Fact (Part.jet ∈ K)] [Fact (Part.hc ∈ K)] [Fact (Part.nvm ∈ K)] (f : Nat) (r : CartReply) (s : State) (hI : Keeps K B0 s) :
    Keeps K B0 (authReply f r s) := by
  unfold authReply
  try dsimp only
  with_reducible repeat' first
    | assumption | apply foldl_keeps | (apply ite_keeps <;> intro _) | apply lees_keeps | apply setConsSlot_keeps
    | apply consLevels_keeps | apply authFails_keeps | (fail_if_no_progress (refine mk_keeps ?_)) | intro _ _ _
    | split | rfl | (simp; done)

theorem startWriteback_keeps [Fact (Part.free ∈ K)] [Fact (Part.hc ∈ K)] (dec : Nat) (atEntry : Bool) (f : Nat) (s : State) (hI : Keeps K B0 s) :
    Keeps K B0 (startWriteback dec atEntry f s) := by
  unfold startWriteback
  try dsimp only
  with_reducible repeat' first
    | assumption | apply foldl_keeps | (apply ite_keeps <;> intro _) | apply setConsSlot_keeps
    | apply withNonce_keeps | (fail_if_no_progress (refine mk_keeps ?_)) | intro _ _ _ | split | rfl | (simp; done)

theorem writebacks_keeps [Fact (Part.free ∈ K)] [Fact (Part.hc ∈ K)] (s : State) (hI : Keeps K B0 s) :
    Keeps K B0 (writebacks s) := by
  unfold writebacks
  try dsimp only
  with_reducible repeat' first
    | assumption | apply foldl_keeps | (apply ite_keeps <;> intro _) | apply startWriteback_keeps
    | (fail_if_no_progress (refine mk_keeps ?_)) | intro _ _ _ | split | rfl | (simp; done)

theorem writebackFails_keeps [Fact (Part.tbl ∈ K)] [Fact (Part.host ∈ K)] [Fact (Part.hc ∈ K)] [Fact (Part.pwr ∈ K)] [Fact (Part.nvm ∈ K)] (f : Nat) (s : State) (hI : Keeps K B0 s) :
    Keeps K B0 (writebackFails f s) := by
  unfold writebackFails
  try dsimp only
  with_reducible repeat' first
    | assumption | apply foldl_keeps | (apply ite_keeps <;> intro _) | apply bump_keeps | apply raise_keeps
    | apply hcErrLees_keeps | apply setConsSlot_keeps | (fail_if_no_progress (refine mk_keeps ?_)) | intro _ _ _
    | split | rfl | (simp; done)

theorem writebackReply_keeps [Fact (Part.tbl ∈ K)] [Fact (Part.host ∈ K)] [Fact (Part.jet ∈ K)] [Fact (Part.hc ∈ K)] [Fact (Part.pwr ∈ K)] [Fact (Part.nvm ∈ K)] (f : Nat) (r : CartReply) (s : State) (hI : Keeps K B0 s) :
    Keeps K B0 (writebackReply f r s) := by
  unfold writebackReply
  try dsimp only
  with_reducible repeat' first
    | assumption | apply foldl_keeps | (apply ite_keeps <;> intro _) | apply setConsSlot_keeps
    | apply consUpdate_keeps | apply consLevels_keeps | apply writebackFails_keeps
    | (fail_if_no_progress (refine mk_keeps ?_)) | intro _ _ _ | split | rfl | (simp; done)

theorem unsyncedClosures_keeps [Fact (Part.host ∈ K)] [Fact (Part.jet ∈ K)] [Fact (Part.hc ∈ K)] (s : State) (hI : Keeps K B0 s) :
    Keeps K B0 (unsyncedClosures s) := by
  unfold unsyncedClosures
  try dsimp only
  with_reducible repeat' first
    | assumption | apply foldl_keeps | (apply ite_keeps <;> intro _) | apply consUpdate_keeps
    | (fail_if_no_progress (refine mk_keeps ?_)) | intro _ _ _ | split | rfl | (simp; done)

theorem tempUpdate_keeps [Fact (Part.host ∈ K)] [Fact (Part.jet ∈ K)] [Fact (Part.hc ∈ K)] (s : State) (hI : Keeps K B0 s) :
    Keeps K B0 (tempUpdate s) := by
  unfold tempUpdate
  try dsimp only
  with_reducible repeat' first
    | assumption | apply foldl_keeps | (apply ite_keeps <;> intro _) | apply setTemp_keeps
    | (fail_if_no_progress (refine mk_keeps ?_)) | intro _ _ _ | split | rfl | (simp; done)

theorem tempSample_keeps [Fact (Part.tbl ∈ K)] [Fact (Part.host ∈ K)] [Fact (Part.jet ∈ K)] [Fact (Part.hc ∈ K)] [Fact (Part.pwr ∈ K)] [Fact (Part.nvm ∈ K)] (g : Nat) (code : Nat) (s : State) (hI : Keeps K B0 s) :
    Keeps K B0 (tempSample g code s) := by
  unfold tempSample
  try dsimp only
  with_reducible repeat' first
    | assumption | apply foldl_keeps | (apply ite_keeps <;> intro _) | apply bump_keeps | apply raise_keeps
    | apply wake_keeps | apply hcErrLees_keeps | apply tempUpdate_keeps | (fail_if_no_progress (refine mk_keeps ?_))
    | intro _ _ _ | split | rfl | (simp; done)

theorem inputLow_keeps [Fact (Part.tbl ∈ K)] [Fact (Part.host ∈ K)] [Fact (Part.jet ∈ K)] [Fact (Part.hc ∈ K)] [Fact (Part.nvm ∈ K)] (i : Nat) (s : State) (hI : Keeps K B0 s) :
    Keeps K B0 (inputLow i s) := by
  unfold inputLow
  try dsimp only
  with_reducible repeat' first
    | assumption | apply foldl_keeps | (apply ite_keeps <;> intro _) | apply bump_keeps | apply raiseIfShut_keeps
    | apply hcErr_keeps | apply hcErrLees_keeps | (fail_if_no_progress (refine mk_keeps ?_)) | intro _ _ _ | split
    | rfl | (simp; done)

theorem inputDwell_keeps [Fact (Part.hc ∈ K)] (i : Nat) (s : State) (hI : Keeps K B0 s) :
    Keeps K B0 (inputDwell i s) := by
  unfold inputDwell
  try dsimp only
  with_reducible repeat' first
    | assumption | apply foldl_keeps | (apply ite_keeps <;> intro _) | (fail_if_no_progress (refine mk_keeps ?_))
    | intro _ _ _ | split | rfl | (simp; done)

theorem jamRearmOp_keeps [Fact (Part.host ∈ K)] [Fact (Part.hc ∈ K)] (s : State) (hI : Keeps K B0 s) :
    Keeps K B0 (jamRearmOp s) := by
  unfold jamRearmOp
  try dsimp only
  with_reducible repeat' first
    | assumption | apply foldl_keeps | (apply ite_keeps <;> intro _) | apply hcRefuse_keeps
    | (fail_if_no_progress (refine mk_keeps ?_)) | intro _ _ _ | split | rfl | (simp; done)

theorem putNozzle_keeps [Fact (Part.hc ∈ K)] (z : Nozzle) (s : State) (hI : Keeps K B0 s) :
    Keeps K B0 (putNozzle z s) := by
  unfold putNozzle
  try dsimp only
  with_reducible repeat' first
    | assumption | apply foldl_keeps | (apply ite_keeps <;> intro _) | (fail_if_no_progress (refine mk_keeps ?_))
    | intro _ _ _ | split | rfl | (simp; done)

theorem nozzleEvent_keeps [Fact (Part.tbl ∈ K)] [Fact (Part.host ∈ K)] (type c n : Nat) (delta : Int) (dp : Nat) (s : State) (hI : Keeps K B0 s) :
    Keeps K B0 (nozzleEvent type c n delta dp s) := by
  unfold nozzleEvent
  try dsimp only
  with_reducible repeat' first
    | assumption | apply foldl_keeps | (apply ite_keeps <;> intro _) | apply tset_keeps | apply tsetRun_keeps
    | apply bump_keeps | apply raise_keeps | apply hcErr_keeps | (fail_if_no_progress (refine mk_keeps ?_))
    | intro _ _ _ | split | rfl | (simp; done)

theorem countRow_keeps [Fact (Part.tbl ∈ K)] [Fact (Part.host ∈ K)] [Fact (Part.hc ∈ K)] (c : Nat) (codes : List Nat) (sense : Option Nat) (s : State) (hI : Keeps K B0 s) :
    Keeps K B0 (countRow c codes sense s) := by
  unfold countRow
  try dsimp only
  with_reducible repeat' first
    | assumption | apply foldl_keeps | (apply ite_keeps <;> intro _) | apply bump_keeps | apply putNozzle_keeps
    | apply nozzleEvent_keeps | (fail_if_no_progress (refine mk_keeps ?_)) | intro _ _ _ | split | rfl | (simp; done)

theorem senseBurst_keeps [Fact (Part.hc ∈ K)] (g endTk : Nat) (rows : List (Nat × List Nat)) (s : State) (hI : Keeps K B0 s) :
    Keeps K B0 (senseBurst g endTk rows s) := by
  unfold senseBurst
  try dsimp only
  with_reducible repeat' first
    | assumption | apply foldl_keeps | (apply ite_keeps <;> intro _) | (fail_if_no_progress (refine mk_keeps ?_))
    | intro _ _ _ | split | rfl | (simp; done)

theorem senseFire_keeps [Fact (Part.tbl ∈ K)] [Fact (Part.host ∈ K)] [Fact (Part.hc ∈ K)] (g endTk : Nat) (rows : List (Nat × List Nat)) (s : State) (hI : Keeps K B0 s) :
    Keeps K B0 (senseFire g endTk rows s) := by
  unfold senseFire
  try dsimp only
  with_reducible repeat' first
    | assumption | apply foldl_keeps | (apply ite_keeps <;> intro _) | apply countRow_keeps | apply senseBurst_keeps
    | (fail_if_no_progress (refine mk_keeps ?_)) | intro _ _ _ | split | rfl | (simp; done)

theorem burstLost_keeps [Fact (Part.tbl ∈ K)] [Fact (Part.host ∈ K)] (s : State) (hI : Keeps K B0 s) :
    Keeps K B0 (burstLost s) := by
  unfold burstLost
  try dsimp only
  with_reducible repeat' first
    | assumption | apply foldl_keeps | (apply ite_keeps <;> intro _) | apply bump_keeps | apply hcErr_keeps
    | (fail_if_no_progress (refine mk_keeps ?_)) | intro _ _ _ | split | rfl | (simp; done)

theorem burstStart_keeps [Fact (Part.tbl ∈ K)] [Fact (Part.host ∈ K)] [Fact (Part.hc ∈ K)] (s : State) (hI : Keeps K B0 s) :
    Keeps K B0 (burstStart s) := by
  unfold burstStart
  try dsimp only
  with_reducible repeat' first
    | assumption | apply foldl_keeps | (apply ite_keeps <;> intro _) | apply burstLost_keeps
    | (fail_if_no_progress (refine mk_keeps ?_)) | intro _ _ _ | split | rfl | (simp; done)

theorem burstStarts_keeps [Fact (Part.tbl ∈ K)] [Fact (Part.host ∈ K)] [Fact (Part.hc ∈ K)] (s : State) (hI : Keeps K B0 s) :
    Keeps K B0 (burstStarts s) := by
  unfold burstStarts
  try dsimp only
  with_reducible repeat' first
    | assumption | apply foldl_keeps | (apply ite_keeps <;> intro _) | apply burstStart_keeps
    | (fail_if_no_progress (refine mk_keeps ?_)) | intro _ _ _ | split | rfl | (simp; done)

theorem declareOut_keeps [Fact (Part.tbl ∈ K)] [Fact (Part.host ∈ K)] [Fact (Part.hc ∈ K)] [Fact (Part.nvm ∈ K)] (c n : Nat) (s : State) (hI : Keeps K B0 s) :
    Keeps K B0 (declareOut c n s) := by
  unfold declareOut
  try dsimp only
  with_reducible repeat' first
    | assumption | apply foldl_keeps | (apply ite_keeps <;> intro _) | apply hcErrLees_keeps
    | (fail_if_no_progress (refine mk_keeps ?_)) | intro _ _ _ | split | rfl | (simp; done)

theorem judgeSlot_keeps [Fact (Part.tbl ∈ K)] [Fact (Part.host ∈ K)] [Fact (Part.hc ∈ K)] [Fact (Part.nvm ∈ K)] (c : Nat) (row : Nat × Nat × Nat) (slot : List Byte) (s : State) (hI : Keeps K B0 s) :
    Keeps K B0 (judgeSlot c row slot s) := by
  unfold judgeSlot
  try dsimp only
  with_reducible repeat' first
    | assumption | apply foldl_keeps | (apply ite_keeps <;> intro _) | apply bump_keeps | apply bump32_keeps
    | apply putNozzle_keeps | apply declareOut_keeps | (fail_if_no_progress (refine mk_keeps ?_)) | intro _ _ _
    | split | rfl | (simp; done)

theorem judgeBurst_keeps [Fact (Part.tbl ∈ K)] [Fact (Part.host ∈ K)] [Fact (Part.hc ∈ K)] [Fact (Part.nvm ∈ K)] (b : Burst) (slots : List (List Byte)) (s : State) (hI : Keeps K B0 s) :
    Keeps K B0 (judgeBurst b slots s) := by
  unfold judgeBurst
  try dsimp only
  with_reducible repeat' first
    | assumption | apply foldl_keeps | (apply ite_keeps <;> intro _) | apply judgeSlot_keeps
    | (fail_if_no_progress (refine mk_keeps ?_)) | intro _ _ _ | split | rfl | (simp; done)

theorem learnEnd_keeps [Fact (Part.tbl ∈ K)] [Fact (Part.hc ∈ K)] (l : Learn) (s : State) (hI : Keeps K B0 s) :
    Keeps K B0 (learnEnd l s) := by
  unfold learnEnd
  try dsimp only
  with_reducible repeat' first
    | assumption | apply foldl_keeps | (apply ite_keeps <;> intro _) | apply tsetRun_keeps
    | (fail_if_no_progress (refine mk_keeps ?_)) | intro _ _ _ | split | rfl | (simp; done)

theorem applyOne_keeps [Fact (Part.tbl ∈ K)] [Fact (Part.host ∈ K)] [Fact (Part.txn ∈ K)] [Fact (Part.hc ∈ K)] (p : Prepared) (s : State) (hI : Keeps K B0 s) : Keeps K B0 (applyOne p s) := by
  unfold applyOne
  split
  · exact nozzleEvent_keeps _ _ _ _ _ _ hI
  · rename_i e he
    have hp : ∀ e m, cellsWf tblDefault 0 m = true → cellsWf tblDefault 0 (putEntry e p m) = true := by
      intro e m hm; unfold putEntry
      exact cellSet_wf (Nat.zero_le _) (cellSet_wf (Nat.zero_le _) (cellSet_wf (Nat.zero_le _) hm))
    have h1 := nozzleEvent_keeps (if p.nocover then 2 else 1) p.channel p.nozzle p.delta p.dp _ (tbl_keeps hI (hp e _ hI.tbl))
    generalize nozzleEvent (if p.nocover then 2 else 1) p.channel p.nozzle p.delta p.dp { s with tbl := putEntry e p s.tbl } = s1 at h1 ⊢
    dsimp only
    split
    · exact h1
    · rename_i k hk
      split
      · refine caskMem_keeps h1 ?_
        intro k' hk'; cases hk'
        refine hp _ _ ?_
        have := h1.cask
        simpa [caskWf, hk] using this
      · exact mk_keeps h1

theorem applyPrepared_keeps [Fact (Part.tbl ∈ K)] [Fact (Part.host ∈ K)] [Fact (Part.txn ∈ K)] [Fact (Part.hc ∈ K)] (s : State) (hI : Keeps K B0 s) :
    Keeps K B0 (applyPrepared s) := by
  unfold applyPrepared
  try dsimp only
  with_reducible repeat' first
    | assumption | apply foldl_keeps | (apply ite_keeps <;> intro _) | apply applyOne_keeps
    | (fail_if_no_progress (refine mk_keeps ?_)) | intro _ _ _ | split | rfl | (simp; done)

theorem applyAgain_keeps [Fact (Part.tbl ∈ K)] [Fact (Part.host ∈ K)] [Fact (Part.hc ∈ K)] (s : State) (hI : Keeps K B0 s) : Keeps K B0 (applyAgain s) := by
  unfold applyAgain
  refine foldl_keeps ?_ _ _ (mk_keeps hI)
  intro p st hs
  have hp : ∀ e m, cellsWf tblDefault 0 m = true → cellsWf tblDefault 0 (putEntry e p m) = true := by
    intro e m hm; unfold putEntry
    exact cellSet_wf (Nat.zero_le _) (cellSet_wf (Nat.zero_le _) (cellSet_wf (Nat.zero_le _) hm))
  split
  · exact hs
  · split
    · exact tbl_keeps hs (hp _ _ hs.tbl)
    · exact nozzleEvent_keeps _ _ _ _ _ _ hs

theorem hcAfter_keeps [Fact (Part.tbl ∈ K)] [Fact (Part.host ∈ K)] [Fact (Part.jet ∈ K)] [Fact (Part.hc ∈ K)] [Fact (Part.nvm ∈ K)] (t a : Nat) (s : State) (hI : Keeps K B0 s) :
    Keeps K B0 (hcAfter t a s) := by
  unfold hcAfter
  try dsimp only
  with_reducible repeat' first
    | assumption | apply foldl_keeps | (apply ite_keeps <;> intro _) | apply headidUpdate_keeps
    | apply recheckHeads_keeps | apply consUpdate_keeps | apply consLevels_keeps | apply tempUpdate_keeps
    | (fail_if_no_progress (refine mk_keeps ?_)) | intro _ _ _ | split | rfl | (simp; done)

theorem hcConfigWriteOp_keeps [Fact (Part.tbl ∈ K)] [Fact (Part.host ∈ K)] [Fact (Part.jet ∈ K)] [Fact (Part.hc ∈ K)] [Fact (Part.nvm ∈ K)] (t a : Nat) (d : Word) (s : State) (hI : Keeps K B0 s) :
    Keeps K B0 (hcConfigWriteOp t a d s) := by
  unfold hcConfigWriteOp
  try dsimp only
  with_reducible repeat' first
    | assumption | apply foldl_keeps | (apply ite_keeps <;> intro _) | apply tset_keeps | apply hcErr_keeps
    | apply hcAfter_keeps | (fail_if_no_progress (refine mk_keeps ?_)) | intro _ _ _ | split | rfl | (simp; done)

theorem openOp_keeps [Fact (Part.hc ∈ K)] (t : Nat) (s : State) (hI : Keeps K B0 s) :
    Keeps K B0 (openOp t s) := by
  unfold openOp
  try dsimp only
  with_reducible repeat' first
    | assumption | apply foldl_keeps | (apply ite_keeps <;> intro _) | (fail_if_no_progress (refine mk_keeps ?_))
    | intro _ _ _ | split | rfl | (simp; done)

theorem closeOp_keeps [Fact (Part.host ∈ K)] [Fact (Part.jet ∈ K)] [Fact (Part.hc ∈ K)] (t : Nat) (s : State) (hI : Keeps K B0 s) :
    Keeps K B0 (closeOp t s) := by
  unfold closeOp
  try dsimp only
  with_reducible repeat' first
    | assumption | apply foldl_keeps | (apply ite_keeps <;> intro _) | apply setHostGate_keeps
    | (fail_if_no_progress (refine mk_keeps ?_)) | intro _ _ _ | split | rfl | (simp; done)

theorem hmReadOp_keeps [Fact (Part.host ∈ K)] [Fact (Part.jet ∈ K)] [Fact (Part.hc ∈ K)] (t : Nat) (s : State) (hI : Keeps K B0 s) :
    Keeps K B0 (hmReadOp t s) := by
  unfold hmReadOp
  try dsimp only
  with_reducible repeat' first
    | assumption | apply foldl_keeps | (apply ite_keeps <;> intro _) | apply hcRefuse_keeps | apply startReads_keeps
    | (fail_if_no_progress (refine mk_keeps ?_)) | intro _ _ _ | split | rfl | (simp; done)

theorem consAuthOp_keeps [Fact (Part.free ∈ K)] [Fact (Part.host ∈ K)] [Fact (Part.hc ∈ K)] (t : Nat) (s : State) (hI : Keeps K B0 s) :
    Keeps K B0 (consAuthOp t s) := by
  unfold consAuthOp
  try dsimp only
  with_reducible repeat' first
    | assumption | apply foldl_keeps | (apply ite_keeps <;> intro _) | apply hcRefuse_keeps | apply startAuth_keeps
    | (fail_if_no_progress (refine mk_keeps ?_)) | intro _ _ _ | split | rfl | (simp; done)

theorem consSyncOp_keeps [Fact (Part.host ∈ K)] [Fact (Part.hc ∈ K)] (t : Nat) (s : State) (hI : Keeps K B0 s) :
    Keeps K B0 (consSyncOp t s) := by
  unfold consSyncOp
  try dsimp only
  with_reducible repeat' first
    | assumption | apply foldl_keeps | (apply ite_keeps <;> intro _) | apply hcRefuse_keeps | apply setConsSlot_keeps
    | (fail_if_no_progress (refine mk_keeps ?_)) | intro _ _ _ | split | rfl | (simp; done)

theorem nzResetOp_keeps [Fact (Part.host ∈ K)] [Fact (Part.hc ∈ K)] (t : Nat) (s : State) (hI : Keeps K B0 s) :
    Keeps K B0 (nzResetOp t s) := by
  unfold nzResetOp
  try dsimp only
  with_reducible repeat' first
    | assumption | apply foldl_keeps | (apply ite_keeps <;> intro _) | apply hcRefuse_keeps
    | (fail_if_no_progress (refine mk_keeps ?_)) | intro _ _ _ | split | rfl | (simp; done)

theorem tplLearnOp_keeps [Fact (Part.host ∈ K)] [Fact (Part.hc ∈ K)] (t : Nat) (s : State) (hI : Keeps K B0 s) :
    Keeps K B0 (tplLearnOp t s) := by
  unfold tplLearnOp
  try dsimp only
  with_reducible repeat' first
    | assumption | apply foldl_keeps | (apply ite_keeps <;> intro _) | apply hcRefuse_keeps
    | (fail_if_no_progress (refine mk_keeps ?_)) | intro _ _ _ | split | rfl | (simp; done)

theorem hcCmd_keeps [Fact (Part.free ∈ K)] [Fact (Part.host ∈ K)] [Fact (Part.jet ∈ K)] [Fact (Part.hc ∈ K)] (op t : Nat) (s : State) (hI : Keeps K B0 s) :
    Keeps K B0 (hcCmd op t s) := by
  unfold hcCmd
  try dsimp only
  with_reducible repeat' first
    | assumption | apply foldl_keeps | (apply ite_keeps <;> intro _) | apply hcRefuse_keeps | apply jamRearmOp_keeps
    | apply openOp_keeps | apply closeOp_keeps | apply hmReadOp_keeps | apply consAuthOp_keeps
    | apply consSyncOp_keeps | apply nzResetOp_keeps | apply tplLearnOp_keeps
    | (fail_if_no_progress (refine mk_keeps ?_)) | intro _ _ _ | split | rfl | (simp; done)

theorem hcReg_keeps [Fact (Part.free ∈ K)] [Fact (Part.host ∈ K)] [Fact (Part.jet ∈ K)] [Fact (Part.hc ∈ K)] [Fact (Part.pwr ∈ K)] (op t : Nat) (s : State) (hI : Keeps K B0 s) :
    Keeps K B0 (hcReg op t s) := by
  unfold hcReg
  try dsimp only
  with_reducible repeat' first
    | assumption | apply foldl_keeps | (apply ite_keeps <;> intro _) | apply routedOp_keeps | apply hcCmd_keeps
    | (fail_if_no_progress (refine mk_keeps ?_)) | intro _ _ _ | split | rfl | (simp; done)

theorem exchangeFails_keeps [Fact (Part.tbl ∈ K)] [Fact (Part.host ∈ K)] [Fact (Part.jet ∈ K)] [Fact (Part.hc ∈ K)] [Fact (Part.pwr ∈ K)] [Fact (Part.nvm ∈ K)] (f : Nat) (s : State) (hI : Keeps K B0 s) :
    Keeps K B0 (exchangeFails f s) := by
  unfold exchangeFails
  try dsimp only
  with_reducible repeat' first
    | assumption | apply foldl_keeps | (apply ite_keeps <;> intro _) | apply authFails_keeps
    | apply writebackFails_keeps | (fail_if_no_progress (refine mk_keeps ?_)) | intro _ _ _ | split | rfl
    | (simp; done)

/-! ### Machine/Validate.lean -/

theorem underCask_keeps [Fact (Part.tbl ∈ K)] (k : Cask) (s : State) (hI : Keeps K B0 s) : Keeps K B0 (underCask k s) := by
  unfold underCask
  refine tbl_keeps hI ?_
  unfold decantCells putCells
  have : ∀ (l m : Cells), cellsWf tblDefault 0 m = true → cellsWf tblDefault 0 (l.foldl (fun acc p => cellSet tblDefault p.1 p.2 acc) m) = true := by
    intro l
    induction l with
    | nil => intro m h; exact h
    | cons p l ih => intro m h; exact ih _ (cellSet_wf (Nat.zero_le _) h)
  exact this _ _ (cellsWf_filter hI.tbl)

/-! ### Machine/Jet.lean -/

theorem jetErr_keeps [Fact (Part.host ∈ K)] (code : Nat) (s : State) (hI : Keeps K B0 s) :
    Keeps K B0 (jetErr code s) := by
  unfold jetErr
  try dsimp only
  with_reducible repeat' first
    | assumption | apply foldl_keeps | (apply ite_keeps <;> intro _) | apply recErr_keeps
    | (fail_if_no_progress (refine mk_keeps ?_)) | intro _ _ _ | split | rfl | (simp; done)

theorem setWdac_keeps [Fact (Part.jet ∈ K)] (w : Nat) (f : Wdac → Wdac) (s : State) (hI : Keeps K B0 s) :
    Keeps K B0 (setWdac w f s) := by
  unfold setWdac
  try dsimp only
  with_reducible repeat' first
    | assumption | apply foldl_keeps | (apply ite_keeps <;> intro _) | (fail_if_no_progress (refine mk_keeps ?_))
    | intro _ _ _ | split | rfl | (simp; done)

theorem correctWdac_keeps [Fact (Part.tbl ∈ K)] [Fact (Part.host ∈ K)] [Fact (Part.jet ∈ K)] (w : Nat) (s : State) (hI : Keeps K B0 s) :
    Keeps K B0 (correctWdac w s) := by
  unfold correctWdac
  try dsimp only
  with_reducible repeat' first
    | assumption | apply foldl_keeps | (apply ite_keeps <;> intro _) | apply bump_keeps | apply jetFlag_keeps
    | apply jetErr_keeps | apply setWdac_keeps | (fail_if_no_progress (refine mk_keeps ?_)) | intro _ _ _ | split
    | rfl | (simp; done)

theorem correctWdacs_keeps [Fact (Part.tbl ∈ K)] [Fact (Part.host ∈ K)] [Fact (Part.jet ∈ K)] (s : State) (hI : Keeps K B0 s) :
    Keeps K B0 (correctWdacs s) := by
  unfold correctWdacs
  try dsimp only
  with_reducible repeat' first
    | assumption | apply foldl_keeps | (apply ite_keeps <;> intro _) | apply correctWdac_keeps
    | (fail_if_no_progress (refine mk_keeps ?_)) | intro _ _ _ | split | rfl | (simp; done)

theorem setLane_keeps [Fact (Part.jet ∈ K)] (l : Lane) (s : State) (hI : Keeps K B0 s) :
    Keeps K B0 (setLane l s) := by
  unfold setLane
  try dsimp only
  with_reducible repeat' first
    | assumption | apply foldl_keeps | (apply ite_keeps <;> intro _) | (fail_if_no_progress (refine mk_keeps ?_))
    | intro _ _ _ | split | rfl | (simp; done)

theorem jetRefuse_keeps [Fact (Part.host ∈ K)] [Fact (Part.jet ∈ K)] (g : Nat) (s : State) (hI : Keeps K B0 s) :
    Keeps K B0 (jetRefuse g s) := by
  unfold jetRefuse
  try dsimp only
  with_reducible repeat' first
    | assumption | apply foldl_keeps | (apply ite_keeps <;> intro _) | apply jetFlag_keeps | apply jetErr_keeps
    | (fail_if_no_progress (refine mk_keeps ?_)) | intro _ _ _ | split | rfl | (simp; done)

theorem enableGroupOp_keeps [Fact (Part.host ∈ K)] [Fact (Part.jet ∈ K)] (g : Nat) (s : State) (hI : Keeps K B0 s) :
    Keeps K B0 (enableGroupOp g s) := by
  unfold enableGroupOp
  try dsimp only
  with_reducible repeat' first
    | assumption | apply foldl_keeps | (apply ite_keeps <;> intro _) | apply setLane_keeps | apply jetRefuse_keeps
    | (fail_if_no_progress (refine mk_keeps ?_)) | intro _ _ _ | split | rfl | (simp; done)

theorem disableGroupOp_keeps [Fact (Part.jet ∈ K)] (g : Nat) (s : State) (hI : Keeps K B0 s) :
    Keeps K B0 (disableGroupOp g s) := by
  unfold disableGroupOp
  try dsimp only
  with_reducible repeat' first
    | assumption | apply foldl_keeps | (apply ite_keeps <;> intro _) | apply cutGroups_keeps
    | (fail_if_no_progress (refine mk_keeps ?_)) | intro _ _ _ | split | rfl | (simp; done)

theorem disableAllOp_keeps [Fact (Part.jet ∈ K)] (s : State) (hI : Keeps K B0 s) :
    Keeps K B0 (disableAllOp s) := by
  unfold disableAllOp
  try dsimp only
  with_reducible repeat' first
    | assumption | apply foldl_keeps | (apply ite_keeps <;> intro _) | apply cutGroups_keeps
    | (fail_if_no_progress (refine mk_keeps ?_)) | intro _ _ _ | split | rfl | (simp; done)

theorem wdacOnOp_keeps [Fact (Part.host ∈ K)] [Fact (Part.jet ∈ K)] (w : Nat) (s : State) (hI : Keeps K B0 s) :
    Keeps K B0 (wdacOnOp w s) := by
  unfold wdacOnOp
  try dsimp only
  with_reducible repeat' first
    | assumption | apply foldl_keeps | (apply ite_keeps <;> intro _) | apply setWdac_keeps | apply jetRefuse_keeps
    | (fail_if_no_progress (refine mk_keeps ?_)) | intro _ _ _ | split | rfl | (simp; done)

theorem wdacOffOp_keeps [Fact (Part.host ∈ K)] [Fact (Part.jet ∈ K)] (w : Nat) (s : State) (hI : Keeps K B0 s) :
    Keeps K B0 (wdacOffOp w s) := by
  unfold wdacOffOp
  try dsimp only
  with_reducible repeat' first
    | assumption | apply foldl_keeps | (apply ite_keeps <;> intro _) | apply setWdac_keeps | apply jetRefuse_keeps
    | (fail_if_no_progress (refine mk_keeps ?_)) | intro _ _ _ | split | rfl | (simp; done)

theorem jetCmd_keeps [Fact (Part.host ∈ K)] [Fact (Part.jet ∈ K)] (op t : Nat) (s : State) (hI : Keeps K B0 s) :
    Keeps K B0 (jetCmd op t s) := by
  unfold jetCmd
  try dsimp only
  with_reducible repeat' first
    | assumption | apply foldl_keeps | (apply ite_keeps <;> intro _) | apply jetRefuse_keeps
    | apply enableGroupOp_keeps | apply disableGroupOp_keeps | apply disableAllOp_keeps | apply wdacOnOp_keeps
    | apply wdacOffOp_keeps | (fail_if_no_progress (refine mk_keeps ?_)) | intro _ _ _ | split | rfl | (simp; done)

theorem jetWrite_keeps [Fact (Part.host ∈ K)] [Fact (Part.jet ∈ K)] (op t : Nat) (s : State) (hI : Keeps K B0 s) :
    Keeps K B0 (jetWrite op t s) := by
  unfold jetWrite
  try dsimp only
  with_reducible repeat' first
    | assumption | apply foldl_keeps | (apply ite_keeps <;> intro _) | apply holdCmd_keeps | apply jetCmd_keeps
    | (fail_if_no_progress (refine mk_keeps ?_)) | intro _ _ _ | split | rfl | (simp; done)

theorem jetReg_keeps [Fact (Part.host ∈ K)] [Fact (Part.jet ∈ K)] [Fact (Part.pwr ∈ K)] (op t : Nat) (s : State) (hI : Keeps K B0 s) :
    Keeps K B0 (jetReg op t s) := by
  unfold jetReg
  try dsimp only
  with_reducible repeat' first
    | assumption | apply foldl_keeps | (apply ite_keeps <;> intro _) | apply routedOp_keeps | apply jetWrite_keeps
    | (fail_if_no_progress (refine mk_keeps ?_)) | intro _ _ _ | split | rfl | (simp; done)

theorem glideDone_keeps [Fact (Part.jet ∈ K)] (w : Nat) (s : State) (hI : Keeps K B0 s) :
    Keeps K B0 (glideDone w s) := by
  unfold glideDone
  try dsimp only
  with_reducible repeat' first
    | assumption | apply foldl_keeps | (apply ite_keeps <;> intro _) | apply setWdac_keeps
    | (fail_if_no_progress (refine mk_keeps ?_)) | intro _ _ _ | split | rfl | (simp; done)

theorem ingErr_keeps [Fact (Part.host ∈ K)] (code : Nat) (s : State) (hI : Keeps K B0 s) :
    Keeps K B0 (ingErr code s) := by
  unfold ingErr
  try dsimp only
  with_reducible repeat' first
    | assumption | apply foldl_keeps | (apply ite_keeps <;> intro _) | apply recErr_keeps
    | (fail_if_no_progress (refine mk_keeps ?_)) | intro _ _ _ | split | rfl | (simp; done)

theorem noteRecord_keeps [Fact (Part.tbl ∈ K)] [Fact (Part.host ∈ K)] [Fact (Part.ing ∈ K)] (sl : Nat) (p : Presented) (s : State) (hI : Keeps K B0 s) :
    Keeps K B0 (noteRecord sl p s) := by
  unfold noteRecord
  try dsimp only
  with_reducible repeat' first
    | assumption | apply foldl_keeps | (apply ite_keeps <;> intro _) | apply bump_keeps | apply bumpBy_keeps
    | apply raise_keeps | apply markBad_keeps | apply ingErr_keeps | (fail_if_no_progress (refine mk_keeps ?_))
    | intro _ _ _ | split | rfl | (simp; done)

theorem noteCuts_keeps [Fact (Part.tbl ∈ K)] [Fact (Part.host ∈ K)] [Fact (Part.jet ∈ K)] (g n : Nat) (s : State) (hI : Keeps K B0 s) :
    Keeps K B0 (noteCuts g n s) := by
  unfold noteCuts
  try dsimp only
  with_reducible repeat' first
    | assumption | apply foldl_keeps | (apply ite_keeps <;> intro _) | apply bumpBy_keeps | apply jetFlag_keeps
    | apply jetErr_keeps | (fail_if_no_progress (refine mk_keeps ?_)) | intro _ _ _ | split | rfl | (simp; done)

theorem pulseCuts_keeps [Fact (Part.tbl ∈ K)] [Fact (Part.host ∈ K)] [Fact (Part.jet ∈ K)] (s : State) (hI : Keeps K B0 s) :
    Keeps K B0 (pulseCuts s) := by
  unfold pulseCuts
  try dsimp only
  with_reducible repeat' first
    | assumption | apply foldl_keeps | (apply ite_keeps <;> intro _) | apply noteCuts_keeps
    | (fail_if_no_progress (refine mk_keeps ?_)) | intro _ _ _ | split | rfl | (simp; done)

theorem refireHeld_keeps [Fact (Part.tbl ∈ K)] [Fact (Part.host ∈ K)] [Fact (Part.jet ∈ K)] (t : Nat) (members : List Nat) (s : State) (hI : Keeps K B0 s) :
    Keeps K B0 (refireHeld t members s) := by
  unfold refireHeld
  try dsimp only
  with_reducible repeat' first
    | assumption | apply foldl_keeps | (apply ite_keeps <;> intro _) | apply bump_keeps | apply jetFlag_keeps
    | apply jetErr_keeps | (fail_if_no_progress (refine mk_keeps ?_)) | intro _ _ _ | split | rfl | (simp; done)

theorem issueFire_keeps [Fact (Part.tbl ∈ K)] [Fact (Part.host ∈ K)] [Fact (Part.jet ∈ K)] [Fact (Part.hc ∈ K)] [Fact (Part.nvm ∈ K)] (t : Nat) (k : Int) (place : Nat × Nat × Nat) (live : List Nat) (ps : List Presented) (s : State) (hI : Keeps K B0 s) :
    Keeps K B0 (issueFire t k place live ps s) := by
  unfold issueFire
  try dsimp only
  with_reducible repeat' first
    | assumption | apply foldl_keeps | (apply ite_keeps <;> intro _) | apply chargeFire_keeps | apply senseFire_keeps
    | apply setWdac_keeps | (fail_if_no_progress (refine mk_keeps ?_)) | intro _ _ _ | split | rfl | (simp; done)

theorem laneMove_keeps [Fact (Part.jet ∈ K)] (a : Active) (k : Int) (at_ g : Nat) (s : State) (hI : Keeps K B0 s) :
    Keeps K B0 (laneMove a k at_ g s) := by
  unfold laneMove
  try dsimp only
  with_reducible repeat' first
    | assumption | apply foldl_keeps | (apply ite_keeps <;> intro _) | apply setLane_keeps
    | (fail_if_no_progress (refine mk_keeps ?_)) | intro _ _ _ | split | rfl | (simp; done)

theorem advance_keeps [Fact (Part.jet ∈ K)] [Fact (Part.ing ∈ K)] (a : Active) (t : Nat) (k : Int) (at_ : Nat) (s : State) (hI : Keeps K B0 s) :
    Keeps K B0 (advance a t k at_ s) := by
  unfold advance
  try dsimp only
  with_reducible repeat' first
    | assumption | apply foldl_keeps | (apply ite_keeps <;> intro _) | apply laneMove_keeps
    | (fail_if_no_progress (refine mk_keeps ?_)) | intro _ _ _ | split | rfl | (simp; done)

theorem fireDue_keeps [Fact (Part.tbl ∈ K)] [Fact (Part.host ∈ K)] [Fact (Part.grid ∈ K)] [Fact (Part.jet ∈ K)] [Fact (Part.ing ∈ K)] [Fact (Part.hc ∈ K)] [Fact (Part.nvm ∈ K)] (a : Active) (t : Nat) (k : Int) (s : State) (hI : Keeps K B0 s) :
    Keeps K B0 (fireDue a t k s) := by
  unfold fireDue
  try dsimp only
  with_reducible repeat' first
    | assumption | apply foldl_keeps | (apply ite_keeps <;> intro _) | apply gridGate_keeps | apply onActiveRec_keeps
    | apply logSkip_keeps | apply markTarget_keeps | apply markFire_keeps | apply noteRecord_keeps
    | apply refireHeld_keeps | apply issueFire_keeps | apply advance_keeps
    | (fail_if_no_progress (refine mk_keeps ?_)) | intro _ _ _ | split | rfl | (simp; done)

end Sys2Proof.Machine
end

