-- ==== Sys2Proof/Laws/KeepsDevice.lean ====
section
/-! SUPPORT. Every operation on reset, valves, rails, NVM and calibration keeps the good form, the queue, the straps, a
locked protected region and every part of the state it has no hand in. -/

namespace Sys2Proof.Machine

set_option Elab.async false

set_option linter.all false

variable {K : List Part} {B0 : State}

/-! ### Machine/Reset.lean -/

theorem nvmStore_keeps [Fact (Part.nvm ∈ K)] (a : Nat) (bs : List Byte) (s : State) (hI : Keeps K B0 s) : Keeps K B0 (nvmStore a bs s) := by
  have hS := hI
  obtain ⟨⟨a1,a2,a3,a4,a5,a6,a7,a8,a9,a10,a11,a12,a13,a14,a15,a16,a17,a18⟩, a19, a20, a21, a22, a23, a24⟩ := hI
  exact ⟨⟨a1, cellSetRun_wf a2, a3,a4,a5,a6,a7,a8,a9,a10,a11,a12,a13,a14,a15,a16,a17,a18⟩, a19, a20, a21, a22, a23, same_mk hS⟩

theorem nvmScramble_keeps [Fact (Part.free ∈ K)] [Fact (Part.nvm ∈ K)] (a n : Nat) (s : State) (hI : Keeps K B0 s) :
    Keeps K B0 (nvmScramble a n s) := by
  unfold nvmScramble
  try dsimp only
  with_reducible repeat' first
    | assumption | apply foldl_keeps | (apply ite_keeps <;> intro _) | apply nvmStore_keeps
    | (fail_if_no_progress (refine mk_keeps ?_)) | intro _ _ _ | split | rfl | (simp; done)

theorem cutStore_keeps [Fact (Part.free ∈ K)] [Fact (Part.cal ∈ K)] [Fact (Part.nvm ∈ K)] (s : State) (hI : Keeps K B0 s) :
    Keeps K B0 (cutStore s) := by
  unfold cutStore
  try dsimp only
  with_reducible repeat' first
    | assumption | apply foldl_keeps | (apply ite_keeps <;> intro _) | apply nvmStore_keeps | apply nvmScramble_keeps
    | (fail_if_no_progress (refine mk_keeps ?_)) | intro _ _ _ | split | rfl | (simp; done)

theorem noteImage_keeps [Fact (Part.pwr ∈ K)] (a : Nat) (s : State) (hI : Keeps K B0 s) :
    Keeps K B0 (noteImage a s) := by
  unfold noteImage
  try dsimp only
  with_reducible repeat' first
    | assumption | apply foldl_keeps | (apply ite_keeps <;> intro _) | (fail_if_no_progress (refine mk_keeps ?_))
    | intro _ _ _ | split | rfl | (simp; done)

theorem openTarget_keeps [Fact (Part.free ∈ K)] [Fact (Part.pwr ∈ K)] [Fact (Part.nvm ∈ K)] (o : NvmOp) (s : State) (hI : Keeps K B0 s)
    (ho : keySafe B0 = true → o.op ≠ 4 ∧ o.op ≠ 5) : Keeps K B0 (openTarget o s) := by
  unfold openTarget
  generalize defaultsKeep (packWords ((List.range 100).map (cutByte s))) = ws, decide (Config.openValue 387 s.free % 2 = 1) = flag
  dsimp only
  refine ite_keeps (fun _ => nvmScramble_keeps _ _ _ hI) (fun _ => ite_keeps (fun _ => noteImage_keeps _ _ (nvmScramble_keeps _ _ _ hI)) (fun _ => ?_))
  refine ite_keeps (fun h4 => ?_) (fun _ => ite_keeps (fun h5 => ?_) (fun _ => ite_keeps (fun _ => ?_) (fun _ => hI)))
  · exact ⟨⟨hI.tbl, hI.flash, hI.ram, hI.defs, hI.cask, hI.enc, hI.axes, hI.vlv, hI.rails, hI.wdacs, hI.slots, hI.inputs, hI.temps, hI.reads, hI.cons, hI.ports, hI.routes, hI.v⟩, hI.queue, hI.hsel, hI.refsel, hI.seqs, fun h => absurd h4 (ho h).1, same_mk hI⟩
  · have hS := hI
    obtain ⟨⟨a1,a2,a3,a4,a5,a6,a7,a8,a9,a10,a11,a12,a13,a14,a15,a16,a17,a18⟩, a19, a20, a21, a22, a23, a24⟩ := hI
    exact ⟨⟨a1, a2, a3, cellSetRun_wf a4,a5,a6,a7,a8,a9,a10,a11,a12,a13,a14,a15,a16,a17,a18⟩, a19, a20, a21, a22,
      fun h => absurd h5 (ho h).2, same_mk hS⟩
  · refine ⟨⟨hI.tbl, hI.flash, hI.ram, hI.defs, hI.cask, hI.enc, hI.axes, hI.vlv, hI.rails, hI.wdacs, hI.slots, hI.inputs, hI.temps, hI.reads, hI.cons, hI.ports, hI.routes, hI.v⟩, hI.queue, hI.hsel, hI.refsel, hI.seqs, fun h => ⟨?_, (hI.lock h).2⟩, same_mk hI⟩
    have hk := (hI.lock h).1
    simp only [keySafe, Bool.and_eq_true] at hk ⊢
    exact ⟨by simp [hk.1], hk.2⟩

theorem cutCommand_keeps [Fact (Part.free ∈ K)] [Fact (Part.pwr ∈ K)] [Fact (Part.nvm ∈ K)] (s : State) (hI : Keeps K B0 s) : Keeps K B0 (cutCommand s) := by
  unfold cutCommand
  split
  · rename_i o ho
    have h1 : Keeps K B0 { s with nvm.busy := none, nvm.cut := s.nvm.cut || o.op != 3 } :=
      ⟨⟨hI.tbl, hI.flash, hI.ram, hI.defs, hI.cask, hI.enc, hI.axes, hI.vlv, hI.rails, hI.wdacs, hI.slots, hI.inputs, hI.temps, hI.reads, hI.cons, hI.ports, hI.routes, hI.v⟩, hI.queue, hI.hsel, hI.refsel, hI.seqs, fun h => ⟨keySafe_idle (hI.lock h).1, (hI.lock h).2⟩, same_mk hI⟩
    refine openTarget_keeps o _ h1 ?_
    intro h
    have := (hI.lock h).1
    simp only [keySafe, ho, Bool.and_eq_true] at this
    simpa using this.2
  · exact hI

theorem cutLees_keeps [Fact (Part.free ∈ K)] [Fact (Part.nvm ∈ K)] (s : State) (hI : Keeps K B0 s) :
    Keeps K B0 (cutLees s) := by
  unfold cutLees
  try dsimp only
  with_reducible repeat' first
    | assumption | apply foldl_keeps | (apply ite_keeps <;> intro _) | apply nvmStore_keeps
    | (fail_if_no_progress (refine mk_keeps ?_)) | intro _ _ _ | split | rfl | (simp; done)

theorem cutNvm_keeps [Fact (Part.free ∈ K)] [Fact (Part.pwr ∈ K)] [Fact (Part.cal ∈ K)] [Fact (Part.nvm ∈ K)] (s : State) (hI : Keeps K B0 s) :
    Keeps K B0 (cutNvm s) := by
  unfold cutNvm
  try dsimp only
  with_reducible repeat' first
    | assumption | apply foldl_keeps | (apply ite_keeps <;> intro _) | apply cutStore_keeps | apply cutCommand_keeps
    | apply cutLees_keeps | (fail_if_no_progress (refine mk_keeps ?_)) | intro _ _ _ | split | rfl | (simp; done)

theorem noteCause_keeps [Fact (Part.boot ∈ K)] (c sub : Nat) (s : State) (hI : Keeps K B0 s) :
    Keeps K B0 (noteCause c sub s) := by
  unfold noteCause
  try dsimp only
  with_reducible repeat' first
    | assumption | apply foldl_keeps | (apply ite_keeps <;> intro _) | (fail_if_no_progress (refine mk_keeps ?_))
    | intro _ _ _ | split | rfl | (simp; done)

theorem blocksDown_keeps [Fact (Part.tick ∈ K)] [Fact (Part.tbl ∈ K)] [Fact (Part.host ∈ K)] [Fact (Part.bnd ∈ K)] [Fact (Part.txn ∈ K)] [Fact (Part.vine ∈ K)] [Fact (Part.enc ∈ K)] [Fact (Part.grid ∈ K)] [Fact (Part.jet ∈ K)] [Fact (Part.ing ∈ K)] [Fact (Part.hc ∈ K)] [Fact (Part.mot ∈ K)] [Fact (Part.vlv ∈ K)] [Fact (Part.vlvSel ∈ K)] [Fact (Part.boot ∈ K)] [Fact (Part.pwr ∈ K)] [Fact (Part.cal ∈ K)] [Fact (Part.nvm ∈ K)] (s : State) (hI : Keeps K B0 s) : Keeps K B0 (blocksDown s) := by
  unfold blocksDown
  exact ⟨⟨cellsWf_filter hI.tbl, hI.flash, hI.ram, hI.defs, rfl, rfl, rfl, rfl, hI.rails, rfl, rfl, rfl, rfl, rfl, rfl, hI.ports, hI.routes, rfl⟩, hI.queue, hI.hsel, hI.refsel, hI.seqs, fun h => ⟨keySafe_idle (hI.lock h).1, (hI.lock h).2⟩, same_mk hI⟩

theorem coreDown_keeps [Fact (Part.tick ∈ K)] [Fact (Part.free ∈ K)] [Fact (Part.tbl ∈ K)] [Fact (Part.host ∈ K)] [Fact (Part.bnd ∈ K)] [Fact (Part.txn ∈ K)] [Fact (Part.vine ∈ K)] [Fact (Part.enc ∈ K)] [Fact (Part.grid ∈ K)] [Fact (Part.jet ∈ K)] [Fact (Part.ing ∈ K)] [Fact (Part.hc ∈ K)] [Fact (Part.mot ∈ K)] [Fact (Part.vlv ∈ K)] [Fact (Part.vlvSel ∈ K)] [Fact (Part.boot ∈ K)] [Fact (Part.pwr ∈ K)] [Fact (Part.cal ∈ K)] [Fact (Part.nvm ∈ K)] (s : State) (hI : Keeps K B0 s) :
    Keeps K B0 (coreDown s) := by
  unfold coreDown
  try dsimp only
  with_reducible repeat' first
    | assumption | apply foldl_keeps | (apply ite_keeps <;> intro _) | apply cutNvm_keeps | apply blocksDown_keeps
    | (fail_if_no_progress (refine mk_keeps ?_)) | intro _ _ _ | split | rfl | (simp; done)

theorem seedQuestion_keeps [Fact (Part.free ∈ K)] [Fact (Part.boot ∈ K)] (s : State) (hI : Keeps K B0 s) :
    Keeps K B0 (seedQuestion s) := by
  unfold seedQuestion
  try dsimp only
  with_reducible repeat' first
    | assumption | apply foldl_keeps | (apply ite_keeps <;> intro _) | apply drawRandom_keeps
    | (fail_if_no_progress (refine mk_keeps ?_)) | intro _ _ _ | split | rfl | (simp; done)

theorem noteRetry_keeps [Fact (Part.tbl ∈ K)] [Fact (Part.host ∈ K)] [Fact (Part.rail ∈ K)] [Fact (Part.nvm ∈ K)] (s : State) (hI : Keeps K B0 s) :
    Keeps K B0 (noteRetry s) := by
  unfold noteRetry
  try dsimp only
  with_reducible repeat' first
    | assumption | apply foldl_keeps | (apply ite_keeps <;> intro _) | apply raise_keeps | apply recErrLees_keeps
    | (fail_if_no_progress (refine mk_keeps ?_)) | intro _ _ _ | split | rfl | (simp; done)

theorem coreRelease_keeps [Fact (Part.tick ∈ K)] [Fact (Part.free ∈ K)] [Fact (Part.tbl ∈ K)] [Fact (Part.host ∈ K)] [Fact (Part.bnd ∈ K)] [Fact (Part.grid ∈ K)] [Fact (Part.hc ∈ K)] [Fact (Part.rail ∈ K)] [Fact (Part.boot ∈ K)] [Fact (Part.nvm ∈ K)] (s : State) (hI : Keeps K B0 s) :
    Keeps K B0 (coreRelease s) := by
  unfold coreRelease
  try dsimp only
  with_reducible repeat' first
    | assumption | apply foldl_keeps | (apply ite_keeps <;> intro _) | apply seedQuestion_keeps
    | apply noteRetry_keeps | (fail_if_no_progress (refine mk_keeps ?_)) | intro _ _ _ | split | rfl | (simp; done)

theorem tryRelease_keeps [Fact (Part.tick ∈ K)] [Fact (Part.free ∈ K)] [Fact (Part.tbl ∈ K)] [Fact (Part.host ∈ K)] [Fact (Part.bnd ∈ K)] [Fact (Part.grid ∈ K)] [Fact (Part.hc ∈ K)] [Fact (Part.rail ∈ K)] [Fact (Part.boot ∈ K)] [Fact (Part.nvm ∈ K)] (s : State) (hI : Keeps K B0 s) :
    Keeps K B0 (tryRelease s) := by
  unfold tryRelease
  try dsimp only
  with_reducible repeat' first
    | assumption | apply foldl_keeps | (apply ite_keeps <;> intro _) | apply coreRelease_keeps
    | (fail_if_no_progress (refine mk_keeps ?_)) | intro _ _ _ | split | rfl | (simp; done)

theorem coreReset_keeps [Fact (Part.tick ∈ K)] [Fact (Part.free ∈ K)] [Fact (Part.tbl ∈ K)] [Fact (Part.host ∈ K)] [Fact (Part.bnd ∈ K)] [Fact (Part.txn ∈ K)] [Fact (Part.vine ∈ K)] [Fact (Part.enc ∈ K)] [Fact (Part.grid ∈ K)] [Fact (Part.jet ∈ K)] [Fact (Part.ing ∈ K)] [Fact (Part.hc ∈ K)] [Fact (Part.mot ∈ K)] [Fact (Part.vlv ∈ K)] [Fact (Part.vlvSel ∈ K)] [Fact (Part.rail ∈ K)] [Fact (Part.boot ∈ K)] [Fact (Part.pwr ∈ K)] [Fact (Part.cal ∈ K)] [Fact (Part.nvm ∈ K)] (c sub : Nat) (s : State) (hI : Keeps K B0 s) :
    Keeps K B0 (coreReset c sub s) := by
  unfold coreReset
  try dsimp only
  with_reducible repeat' first
    | assumption | apply foldl_keeps | (apply ite_keeps <;> intro _) | apply noteCause_keeps | apply coreDown_keeps
    | apply tryRelease_keeps | (fail_if_no_progress (refine mk_keeps ?_)) | intro _ _ _ | split | rfl | (simp; done)

theorem holdCore_keeps [Fact (Part.tick ∈ K)] [Fact (Part.free ∈ K)] [Fact (Part.tbl ∈ K)] [Fact (Part.host ∈ K)] [Fact (Part.bnd ∈ K)] [Fact (Part.txn ∈ K)] [Fact (Part.vine ∈ K)] [Fact (Part.enc ∈ K)] [Fact (Part.grid ∈ K)] [Fact (Part.jet ∈ K)] [Fact (Part.ing ∈ K)] [Fact (Part.hc ∈ K)] [Fact (Part.mot ∈ K)] [Fact (Part.vlv ∈ K)] [Fact (Part.vlvSel ∈ K)] [Fact (Part.rail ∈ K)] [Fact (Part.boot ∈ K)] [Fact (Part.pwr ∈ K)] [Fact (Part.cal ∈ K)] [Fact (Part.nvm ∈ K)] (c sub : Nat) (s : State) (hI : Keeps K B0 s) :
    Keeps K B0 (holdCore c sub s) := by
  unfold holdCore
  try dsimp only
  with_reducible repeat' first
    | assumption | apply foldl_keeps | (apply ite_keeps <;> intro _) | apply noteCause_keeps | apply coreReset_keeps
    | (fail_if_no_progress (refine mk_keeps ?_)) | intro _ _ _ | split | rfl | (simp; done)

/-! ### Machine/Valve.lean -/

theorem setValve_keeps [Fact (Part.vlv ∈ K)] (n : Nat) (f : Valve → Valve) (s : State) (hI : Keeps K B0 s) :
    Keeps K B0 (setValve n f s) := by
  unfold setValve
  try dsimp only
  with_reducible repeat' first
    | assumption | apply foldl_keeps | (apply ite_keeps <;> intro _) | (fail_if_no_progress (refine mk_keeps ?_))
    | intro _ _ _ | split | rfl | (simp; done)

theorem vlvErr_keeps [Fact (Part.tbl ∈ K)] [Fact (Part.host ∈ K)] [Fact (Part.nvm ∈ K)] (n code : Nat) (s : State) (hI : Keeps K B0 s) :
    Keeps K B0 (vlvErr n code s) := by
  unfold vlvErr
  try dsimp only
  with_reducible repeat' first
    | assumption | apply foldl_keeps | (apply ite_keeps <;> intro _) | apply raise_keeps | apply recErr_keeps
    | apply recErrLees_keeps | (fail_if_no_progress (refine mk_keeps ?_)) | intro _ _ _ | split | rfl | (simp; done)

theorem vlvOff_keeps [Fact (Part.vlv ∈ K)] (n t : Nat) (s : State) (hI : Keeps K B0 s) :
    Keeps K B0 (vlvOff n t s) := by
  unfold vlvOff
  try dsimp only
  with_reducible repeat' first
    | assumption | apply foldl_keeps | (apply ite_keeps <;> intro _) | apply setValve_keeps
    | (fail_if_no_progress (refine mk_keeps ?_)) | intro _ _ _ | split | rfl | (simp; done)

theorem vlvPhase_keeps [Fact (Part.vlv ∈ K)] (n i t : Nat) (s : State) (hI : Keeps K B0 s) :
    Keeps K B0 (vlvPhase n i t s) := by
  unfold vlvPhase
  try dsimp only
  with_reducible repeat' first
    | assumption | apply foldl_keeps | (apply ite_keeps <;> intro _) | apply setValve_keeps
    | (fail_if_no_progress (refine mk_keeps ?_)) | intro _ _ _ | split | rfl | (simp; done)

theorem vlvRelease_keeps [Fact (Part.vlv ∈ K)] (n t : Nat) (s : State) (hI : Keeps K B0 s) :
    Keeps K B0 (vlvRelease n t s) := by
  unfold vlvRelease
  try dsimp only
  with_reducible repeat' first
    | assumption | apply foldl_keeps | (apply ite_keeps <;> intro _) | apply setValve_keeps | apply vlvOff_keeps
    | apply vlvPhase_keeps | (fail_if_no_progress (refine mk_keeps ?_)) | intro _ _ _ | split | rfl | (simp; done)

theorem vlvFault_keeps [Fact (Part.vlv ∈ K)] (n t : Nat) (s : State) (hI : Keeps K B0 s) :
    Keeps K B0 (vlvFault n t s) := by
  unfold vlvFault
  try dsimp only
  with_reducible repeat' first
    | assumption | apply foldl_keeps | (apply ite_keeps <;> intro _) | apply setValve_keeps | apply vlvOff_keeps
    | apply vlvPhase_keeps | (fail_if_no_progress (refine mk_keeps ?_)) | intro _ _ _ | split | rfl | (simp; done)

theorem vlvClosing_keeps [Fact (Part.vlv ∈ K)] (n t : Nat) (s : State) (hI : Keeps K B0 s) :
    Keeps K B0 (vlvClosing n t s) := by
  unfold vlvClosing
  try dsimp only
  with_reducible repeat' first
    | assumption | apply foldl_keeps | (apply ite_keeps <;> intro _) | apply setValve_keeps | apply vlvRelease_keeps
    | (fail_if_no_progress (refine mk_keeps ?_)) | intro _ _ _ | split | rfl | (simp; done)

theorem vlvNext_keeps [Fact (Part.vlv ∈ K)] (n t : Nat) (s : State) (hI : Keeps K B0 s) :
    Keeps K B0 (vlvNext n t s) := by
  unfold vlvNext
  try dsimp only
  with_reducible repeat' first
    | assumption | apply foldl_keeps | (apply ite_keeps <;> intro _) | apply vlvOff_keeps | apply vlvPhase_keeps
    | (fail_if_no_progress (refine mk_keeps ?_)) | intro _ _ _ | split | rfl | (simp; done)

theorem vlvResense_keeps [Fact (Part.vlv ∈ K)] (old : State) (n : Nat) (s : State) (hI : Keeps K B0 s) :
    Keeps K B0 (vlvResense old n s) := by
  unfold vlvResense
  try dsimp only
  with_reducible repeat' first
    | assumption | apply foldl_keeps | (apply ite_keeps <;> intro _) | apply setValve_keeps
    | (fail_if_no_progress (refine mk_keeps ?_)) | intro _ _ _ | split | rfl | (simp; done)

theorem vlvUnkeep_keeps [Fact (Part.vlv ∈ K)] (n : Nat) (s : State) (hI : Keeps K B0 s) :
    Keeps K B0 (vlvUnkeep n s) := by
  unfold vlvUnkeep
  try dsimp only
  with_reducible repeat' first
    | assumption | apply foldl_keeps | (apply ite_keeps <;> intro _) | apply setValve_keeps | apply vlvResense_keeps
    | (fail_if_no_progress (refine mk_keeps ?_)) | intro _ _ _ | split | rfl | (simp; done)

theorem vlvIdle_keeps [Fact (Part.host ∈ K)] [Fact (Part.vlv ∈ K)] (n : Nat) (s : State) (hI : Keeps K B0 s) :
    Keeps K B0 (vlvIdle n s) := by
  unfold vlvIdle
  try dsimp only
  with_reducible repeat' first
    | assumption | apply foldl_keeps | (apply ite_keeps <;> intro _) | apply raise_keeps | apply setValve_keeps
    | apply vlvUnkeep_keeps | (fail_if_no_progress (refine mk_keeps ?_)) | intro _ _ _ | split | rfl | (simp; done)

theorem vlvKeep_keeps [Fact (Part.vlv ∈ K)] (old : State) (n : Nat) (s : State) (hI : Keeps K B0 s) :
    Keeps K B0 (vlvKeep old n s) := by
  unfold vlvKeep
  try dsimp only
  with_reducible repeat' first
    | assumption | apply foldl_keeps | (apply ite_keeps <;> intro _) | apply setValve_keeps
    | (fail_if_no_progress (refine mk_keeps ?_)) | intro _ _ _ | split | rfl | (simp; done)

theorem vlvAfterCask_keeps [Fact (Part.vlv ∈ K)] (old s : State) (hI : Keeps K B0 s) :
    Keeps K B0 (vlvAfterCask old s) := by
  unfold vlvAfterCask
  try dsimp only
  with_reducible repeat' first
    | assumption | apply foldl_keeps | (apply ite_keeps <;> intro _) | apply vlvResense_keeps | apply vlvKeep_keeps
    | (fail_if_no_progress (refine mk_keeps ?_)) | intro _ _ _ | split | rfl | (simp; done)

theorem vlvOvercur_keeps [Fact (Part.tbl ∈ K)] [Fact (Part.host ∈ K)] [Fact (Part.vlv ∈ K)] [Fact (Part.nvm ∈ K)] (n : Nat) (s : State) (hI : Keeps K B0 s) :
    Keeps K B0 (vlvOvercur n s) := by
  unfold vlvOvercur
  try dsimp only
  with_reducible repeat' first
    | assumption | apply foldl_keeps | (apply ite_keeps <;> intro _) | apply setValve_keeps | apply vlvErr_keeps
    | apply vlvOff_keeps | (fail_if_no_progress (refine mk_keeps ?_)) | intro _ _ _ | split | rfl | (simp; done)

theorem vlvConvert_keeps [Fact (Part.tbl ∈ K)] [Fact (Part.host ∈ K)] [Fact (Part.vlv ∈ K)] [Fact (Part.nvm ∈ K)] (n : Nat) (p : VlvSample) (s : State) (hI : Keeps K B0 s) :
    Keeps K B0 (vlvConvert n p s) := by
  unfold vlvConvert
  try dsimp only
  with_reducible repeat' first
    | assumption | apply foldl_keeps | (apply ite_keeps <;> intro _) | apply setValve_keeps | apply vlvIdle_keeps
    | apply vlvOvercur_keeps | (fail_if_no_progress (refine mk_keeps ?_)) | intro _ _ _ | split | rfl | (simp; done)

theorem vlvMoved_keeps [Fact (Part.vlv ∈ K)] (n : Nat) (p : VlvSample) (s : State) (hI : Keeps K B0 s) :
    Keeps K B0 (vlvMoved n p s) := by
  unfold vlvMoved
  try dsimp only
  with_reducible repeat' first
    | assumption | apply foldl_keeps | (apply ite_keeps <;> intro _) | apply setValve_keeps
    | (fail_if_no_progress (refine mk_keeps ?_)) | intro _ _ _ | split | rfl | (simp; done)

theorem vlvTimeout_keeps [Fact (Part.tbl ∈ K)] [Fact (Part.host ∈ K)] [Fact (Part.vlv ∈ K)] [Fact (Part.nvm ∈ K)] (n : Nat) (s : State) (hI : Keeps K B0 s) :
    Keeps K B0 (vlvTimeout n s) := by
  unfold vlvTimeout
  try dsimp only
  with_reducible repeat' first
    | assumption | apply foldl_keeps | (apply ite_keeps <;> intro _) | apply bump_keeps | apply setValve_keeps
    | apply vlvErr_keeps | apply vlvFault_keeps | (fail_if_no_progress (refine mk_keeps ?_)) | intro _ _ _ | split
    | rfl | (simp; done)

theorem vlvEvents_keeps [Fact (Part.tbl ∈ K)] [Fact (Part.host ∈ K)] [Fact (Part.vlv ∈ K)] [Fact (Part.nvm ∈ K)] (n : Nat) (p : VlvSample) (s : State) (hI : Keeps K B0 s) :
    Keeps K B0 (vlvEvents n p s) := by
  unfold vlvEvents
  try dsimp only
  with_reducible repeat' first
    | assumption | apply foldl_keeps | (apply ite_keeps <;> intro _) | apply setValve_keeps | apply vlvErr_keeps
    | apply vlvFault_keeps | apply vlvClosing_keeps | apply vlvNext_keeps | apply vlvTimeout_keeps
    | (fail_if_no_progress (refine mk_keeps ?_)) | intro _ _ _ | split | rfl | (simp; done)

theorem vlvDuty_keeps [Fact (Part.tbl ∈ K)] [Fact (Part.vlv ∈ K)] (n : Nat) (p : VlvSample) (s : State) (hI : Keeps K B0 s) :
    Keeps K B0 (vlvDuty n p s) := by
  unfold vlvDuty
  try dsimp only
  with_reducible repeat' first
    | assumption | apply foldl_keeps | (apply ite_keeps <;> intro _) | apply bump_keeps | apply setValve_keeps
    | (fail_if_no_progress (refine mk_keeps ?_)) | intro _ _ _ | split | rfl | (simp; done)

theorem vlvDecide_keeps [Fact (Part.tbl ∈ K)] [Fact (Part.host ∈ K)] [Fact (Part.vlv ∈ K)] [Fact (Part.nvm ∈ K)] (n : Nat) (p : VlvSample) (s : State) (hI : Keeps K B0 s) :
    Keeps K B0 (vlvDecide n p s) := by
  unfold vlvDecide
  try dsimp only
  with_reducible repeat' first
    | assumption | apply foldl_keeps | (apply ite_keeps <;> intro _) | apply vlvMoved_keeps | apply vlvEvents_keeps
    | apply vlvDuty_keeps | (fail_if_no_progress (refine mk_keeps ?_)) | intro _ _ _ | split | rfl | (simp; done)

theorem vlvTick_keeps [Fact (Part.tbl ∈ K)] [Fact (Part.host ∈ K)] [Fact (Part.vlv ∈ K)] [Fact (Part.nvm ∈ K)] (n : Nat) (s : State) (hI : Keeps K B0 s) :
    Keeps K B0 (vlvTick n s) := by
  unfold vlvTick
  try dsimp only
  with_reducible repeat' first
    | assumption | apply foldl_keeps | (apply ite_keeps <;> intro _) | apply setValve_keeps | apply vlvConvert_keeps
    | apply vlvDecide_keeps | (fail_if_no_progress (refine mk_keeps ?_)) | intro _ _ _ | split | rfl | (simp; done)

theorem vlvTicks_keeps [Fact (Part.tbl ∈ K)] [Fact (Part.host ∈ K)] [Fact (Part.vlv ∈ K)] [Fact (Part.nvm ∈ K)] (s : State) (hI : Keeps K B0 s) :
    Keeps K B0 (vlvTicks s) := by
  unfold vlvTicks
  try dsimp only
  with_reducible repeat' first
    | assumption | apply foldl_keeps | (apply ite_keeps <;> intro _) | apply vlvTick_keeps
    | (fail_if_no_progress (refine mk_keeps ?_)) | intro _ _ _ | split | rfl | (simp; done)

theorem vlvPeriod_keeps [Fact (Part.vlv ∈ K)] (n code partner : Nat) (s : State) (hI : Keeps K B0 s) :
    Keeps K B0 (vlvPeriod n code partner s) := by
  unfold vlvPeriod
  try dsimp only
  with_reducible repeat' first
    | assumption | apply foldl_keeps | (apply ite_keeps <;> intro _) | apply setValve_keeps
    | (fail_if_no_progress (refine mk_keeps ?_)) | intro _ _ _ | split | rfl | (simp; done)

theorem vlvRefuse_keeps [Fact (Part.tbl ∈ K)] [Fact (Part.host ∈ K)] [Fact (Part.vlv ∈ K)] [Fact (Part.nvm ∈ K)] (n : Nat) (s : State) (hI : Keeps K B0 s) :
    Keeps K B0 (vlvRefuse n s) := by
  unfold vlvRefuse
  try dsimp only
  with_reducible repeat' first
    | assumption | apply foldl_keeps | (apply ite_keeps <;> intro _) | apply setValve_keeps | apply vlvErr_keeps
    | (fail_if_no_progress (refine mk_keeps ?_)) | intro _ _ _ | split | rfl | (simp; done)

theorem vlvStart_keeps [Fact (Part.vlv ∈ K)] (n p : Nat) (s : State) (hI : Keeps K B0 s) :
    Keeps K B0 (vlvStart n p s) := by
  unfold vlvStart
  try dsimp only
  with_reducible repeat' first
    | assumption | apply foldl_keeps | (apply ite_keeps <;> intro _) | apply setValve_keeps
    | (fail_if_no_progress (refine mk_keeps ?_)) | intro _ _ _ | split | rfl | (simp; done)

theorem vlvOpenOp_keeps [Fact (Part.tbl ∈ K)] [Fact (Part.host ∈ K)] [Fact (Part.vlv ∈ K)] [Fact (Part.nvm ∈ K)] (n p : Nat) (s : State) (hI : Keeps K B0 s) :
    Keeps K B0 (vlvOpenOp n p s) := by
  unfold vlvOpenOp
  try dsimp only
  with_reducible repeat' first
    | assumption | apply foldl_keeps | (apply ite_keeps <;> intro _) | apply setValve_keeps | apply vlvRefuse_keeps
    | apply vlvStart_keeps | (fail_if_no_progress (refine mk_keeps ?_)) | intro _ _ _ | split | rfl | (simp; done)

theorem vlvCloseOp_keeps [Fact (Part.vlv ∈ K)] (n : Nat) (s : State) (hI : Keeps K B0 s) :
    Keeps K B0 (vlvCloseOp n s) := by
  unfold vlvCloseOp
  try dsimp only
  with_reducible repeat' first
    | assumption | apply foldl_keeps | (apply ite_keeps <;> intro _) | apply setValve_keeps
    | (fail_if_no_progress (refine mk_keeps ?_)) | intro _ _ _ | split | rfl | (simp; done)

theorem vlvOffOp_keeps [Fact (Part.vlv ∈ K)] (n : Nat) (s : State) (hI : Keeps K B0 s) :
    Keeps K B0 (vlvOffOp n s) := by
  unfold vlvOffOp
  try dsimp only
  with_reducible repeat' first
    | assumption | apply foldl_keeps | (apply ite_keeps <;> intro _) | apply setValve_keeps | apply vlvOff_keeps
    | (fail_if_no_progress (refine mk_keeps ?_)) | intro _ _ _ | split | rfl | (simp; done)

theorem vlvOp_keeps [Fact (Part.tbl ∈ K)] [Fact (Part.host ∈ K)] [Fact (Part.vlv ∈ K)] [Fact (Part.nvm ∈ K)] (op p n : Nat) (s : State) (hI : Keeps K B0 s) :
    Keeps K B0 (vlvOp op p n s) := by
  unfold vlvOp
  try dsimp only
  with_reducible repeat' first
    | assumption | apply foldl_keeps | (apply ite_keeps <;> intro _) | apply vlvRefuse_keeps | apply vlvOpenOp_keeps
    | apply vlvCloseOp_keeps | apply vlvOffOp_keeps | (fail_if_no_progress (refine mk_keeps ?_)) | intro _ _ _
    | split | rfl | (simp; done)

theorem vlvCmd_keeps [Fact (Part.tbl ∈ K)] [Fact (Part.host ∈ K)] [Fact (Part.vlv ∈ K)] [Fact (Part.vlvSel ∈ K)] [Fact (Part.nvm ∈ K)] (op p n : Nat) (s : State) (hI : Keeps K B0 s) :
    Keeps K B0 (vlvCmd op p n s) := by
  unfold vlvCmd
  try dsimp only
  with_reducible repeat' first
    | assumption | apply foldl_keeps | (apply ite_keeps <;> intro _) | apply holdCmd_keeps | apply vlvOp_keeps
    | (fail_if_no_progress (refine mk_keeps ?_)) | intro _ _ _ | split | rfl | (simp; done)

theorem vlvReg_keeps [Fact (Part.tbl ∈ K)] [Fact (Part.host ∈ K)] [Fact (Part.vlv ∈ K)] [Fact (Part.vlvSel ∈ K)] [Fact (Part.pwr ∈ K)] [Fact (Part.nvm ∈ K)] (op p n : Nat) (s : State) (hI : Keeps K B0 s) :
    Keeps K B0 (vlvReg op p n s) := by
  unfold vlvReg
  try dsimp only
  with_reducible repeat' first
    | assumption | apply foldl_keeps | (apply ite_keeps <;> intro _) | apply routedOp_keeps | apply vlvCmd_keeps
    | (fail_if_no_progress (refine mk_keeps ?_)) | intro _ _ _ | split | rfl | (simp; done)

theorem vlvResume_keeps [Fact (Part.tbl ∈ K)] [Fact (Part.host ∈ K)] [Fact (Part.vlv ∈ K)] [Fact (Part.nvm ∈ K)] (s : State) (hI : Keeps K B0 s) :
    Keeps K B0 (vlvResume s) := by
  unfold vlvResume
  try dsimp only
  with_reducible repeat' first
    | assumption | apply foldl_keeps | (apply ite_keeps <;> intro _) | apply setValve_keeps | apply vlvOpenOp_keeps
    | (fail_if_no_progress (refine mk_keeps ?_)) | intro _ _ _ | split | rfl | (simp; done)

theorem pullWindow_keeps [Fact (Part.tbl ∈ K)] [Fact (Part.host ∈ K)] [Fact (Part.vlv ∈ K)] [Fact (Part.nvm ∈ K)] (n : Nat) (s : State) (hI : Keeps K B0 s) :
    Keeps K B0 (pullWindow n s) := by
  unfold pullWindow
  try dsimp only
  with_reducible repeat' first
    | assumption | apply foldl_keeps | (apply ite_keeps <;> intro _) | apply bump_keeps | apply setValve_keeps
    | apply vlvErr_keeps | apply vlvFault_keeps | (fail_if_no_progress (refine mk_keeps ?_)) | intro _ _ _ | split
    | rfl | (simp; done)

theorem switchoffTimeout_keeps [Fact (Part.tbl ∈ K)] [Fact (Part.host ∈ K)] [Fact (Part.vlv ∈ K)] [Fact (Part.nvm ∈ K)] (n : Nat) (s : State) (hI : Keeps K B0 s) :
    Keeps K B0 (switchoffTimeout n s) := by
  unfold switchoffTimeout
  try dsimp only
  with_reducible repeat' first
    | assumption | apply foldl_keeps | (apply ite_keeps <;> intro _) | apply recErrLees_keeps | apply vlvIdle_keeps
    | (fail_if_no_progress (refine mk_keeps ?_)) | intro _ _ _ | split | rfl | (simp; done)

theorem vlvPin_keeps [Fact (Part.vlv ∈ K)] (n : Nat) (b : Bool) (s : State) (hI : Keeps K B0 s) :
    Keeps K B0 (vlvPin n b s) := by
  unfold vlvPin
  try dsimp only
  with_reducible repeat' first
    | assumption | apply foldl_keeps | (apply ite_keeps <;> intro _) | apply setValve_keeps
    | (fail_if_no_progress (refine mk_keeps ?_)) | intro _ _ _ | split | rfl | (simp; done)

theorem vlvAin_keeps [Fact (Part.vlv ∈ K)] (n raw : Nat) (s : State) (hI : Keeps K B0 s) :
    Keeps K B0 (vlvAin n raw s) := by
  unfold vlvAin
  try dsimp only
  with_reducible repeat' first
    | assumption | apply foldl_keeps | (apply ite_keeps <;> intro _) | apply setValve_keeps
    | (fail_if_no_progress (refine mk_keeps ?_)) | intro _ _ _ | split | rfl | (simp; done)

theorem vlvSense_keeps [Fact (Part.vlv ∈ K)] (src : PosInput) (level : Bool) (code : Nat) (s : State)
    (hI : Keeps K B0 s) : Keeps K B0 (vlvSense src level code s) := by
  unfold vlvSense
  try dsimp only
  with_reducible repeat' first
    | assumption | apply foldl_keeps | (apply ite_keeps <;> intro _) | apply vlvPin_keeps | apply vlvAin_keeps
    | (fail_if_no_progress (refine mk_keeps ?_)) | intro _ _ _ | split | rfl | (simp; done)

theorem sampleVlv_keeps [Fact (Part.vlv ∈ K)] (s : State) (hI : Keeps K B0 s) :
    Keeps K B0 (sampleVlv s) := by
  unfold sampleVlv
  try dsimp only
  with_reducible repeat' first
    | assumption | apply foldl_keeps | (apply ite_keeps <;> intro _) | (fail_if_no_progress (refine mk_keeps ?_))
    | intro _ _ _ | split | rfl | (simp; done)

/-! ### Machine/Rail.lean -/

theorem setRail_keeps [Fact (Part.rail ∈ K)] (r : Nat) (f : RailCh → RailCh) (s : State) (hI : Keeps K B0 s) :
    Keeps K B0 (setRail r f s) := by
  unfold setRail
  try dsimp only
  with_reducible repeat' first
    | assumption | apply foldl_keeps | (apply ite_keeps <;> intro _) | (fail_if_no_progress (refine mk_keeps ?_))
    | intro _ _ _ | split | rfl | (simp; done)

theorem railFlag_keeps [Fact (Part.host ∈ K)] [Fact (Part.rail ∈ K)] {r : Nat} {f : Rail → Rail} {s : State} (hI : Keeps K B0 s) (hf : (f s.rail).rails.length = s.rail.rails.length) : Keeps K B0 (railFlag r f s) := by
  unfold railFlag
  exact raise_keeps _ _ (mk_keeps hI (h9 := hf))

theorem countRail_keeps [Fact (Part.tbl ∈ K)] [Fact (Part.host ∈ K)] [Fact (Part.nvm ∈ K)] (r i code : Nat) (s : State) (hI : Keeps K B0 s) :
    Keeps K B0 (countRail r i code s) := by
  unfold countRail
  try dsimp only
  with_reducible repeat' first
    | assumption | apply foldl_keeps | (apply ite_keeps <;> intro _) | apply bump_keeps | apply lees_keeps
    | (fail_if_no_progress (refine mk_keeps ?_)) | intro _ _ _ | split | rfl | (simp; done)

theorem railCount_keeps [Fact (Part.tbl ∈ K)] [Fact (Part.host ∈ K)] [Fact (Part.nvm ∈ K)] (r i code : Nat) (s : State) (hI : Keeps K B0 s) :
    Keeps K B0 (railCount r i code s) := by
  unfold railCount
  try dsimp only
  with_reducible repeat' first
    | assumption | apply foldl_keeps | (apply ite_keeps <;> intro _) | apply bump_keeps | apply countRail_keeps
    | (fail_if_no_progress (refine mk_keeps ?_)) | intro _ _ _ | split | rfl | (simp; done)

theorem railEvent_keeps [Fact (Part.tbl ∈ K)] [Fact (Part.host ∈ K)] [Fact (Part.nvm ∈ K)] (r i code : Nat) (s : State) (hI : Keeps K B0 s) :
    Keeps K B0 (railEvent r i code s) := by
  unfold railEvent
  try dsimp only
  with_reducible repeat' first
    | assumption | apply foldl_keeps | (apply ite_keeps <;> intro _) | apply recErr_keeps | apply railCount_keeps
    | (fail_if_no_progress (refine mk_keeps ?_)) | intro _ _ _ | split | rfl | (simp; done)

theorem barNvm_keeps [Fact (Part.free ∈ K)] [Fact (Part.rail ∈ K)] [Fact (Part.pwr ∈ K)] [Fact (Part.cal ∈ K)] [Fact (Part.nvm ∈ K)] (s : State) (hI : Keeps K B0 s) :
    Keeps K B0 (barNvm s) := by
  unfold barNvm
  try dsimp only
  with_reducible repeat' first
    | assumption | apply foldl_keeps | (apply ite_keeps <;> intro _) | apply cutNvm_keeps
    | (fail_if_no_progress (refine mk_keeps ?_)) | intro _ _ _ | split | rfl | (simp; done)

theorem renLow_keeps [Fact (Part.rail ∈ K)] (r : Nat) (s : State) (hI : Keeps K B0 s) :
    Keeps K B0 (renLow r s) := by
  unfold renLow
  try dsimp only
  with_reducible repeat' first
    | assumption | apply foldl_keeps | (apply ite_keeps <;> intro _) | apply setRail_keeps
    | (fail_if_no_progress (refine mk_keeps ?_)) | intro _ _ _ | split | rfl | (simp; done)

theorem renHigh_keeps [Fact (Part.rail ∈ K)] (r : Nat) (s : State) (hI : Keeps K B0 s) :
    Keeps K B0 (renHigh r s) := by
  unfold renHigh
  try dsimp only
  with_reducible repeat' first
    | assumption | apply foldl_keeps | (apply ite_keeps <;> intro _) | apply setRail_keeps
    | (fail_if_no_progress (refine mk_keeps ?_)) | intro _ _ _ | split | rfl | (simp; done)

theorem drainRail_keeps [Fact (Part.rail ∈ K)] (s : State) (r : Nat) (hI : Keeps K B0 s) :
    Keeps K B0 (drainRail s r) := by
  unfold drainRail
  try dsimp only
  with_reducible repeat' first
    | assumption | apply foldl_keeps | (apply ite_keeps <;> intro _) | apply setRail_keeps
    | (fail_if_no_progress (refine mk_keeps ?_)) | intro _ _ _ | split | rfl | (simp; done)

theorem drainRails_keeps [Fact (Part.rail ∈ K)] (rs : List Nat) (s : State) (hI : Keeps K B0 s) :
    Keeps K B0 (drainRails rs s) := by
  unfold drainRails
  try dsimp only
  with_reducible repeat' first
    | assumption | apply foldl_keeps | (apply ite_keeps <;> intro _) | apply drainRail_keeps
    | (fail_if_no_progress (refine mk_keeps ?_)) | intro _ _ _ | split | rfl | (simp; done)

theorem pendRail_keeps [Fact (Part.rail ∈ K)] (s : State) (r : Nat) (hI : Keeps K B0 s) :
    Keeps K B0 (pendRail s r) := by
  unfold pendRail
  try dsimp only
  with_reducible repeat' first
    | assumption | apply foldl_keeps | (apply ite_keeps <;> intro _) | apply setRail_keeps
    | (fail_if_no_progress (refine mk_keeps ?_)) | intro _ _ _ | split | rfl | (simp; done)

theorem startHold_keeps [Fact (Part.rail ∈ K)] (s : State) (hI : Keeps K B0 s) :
    Keeps K B0 (startHold s) := by
  unfold startHold
  try dsimp only
  with_reducible repeat' first
    | assumption | apply foldl_keeps | (apply ite_keeps <;> intro _) | (fail_if_no_progress (refine mk_keeps ?_))
    | intro _ _ _ | split | rfl | (simp; done)

theorem cancelRail_keeps [Fact (Part.rail ∈ K)] (s : State) (r : Nat) (hI : Keeps K B0 s) :
    Keeps K B0 (cancelRail s r) := by
  unfold cancelRail
  try dsimp only
  with_reducible repeat' first
    | assumption | apply foldl_keeps | (apply ite_keeps <;> intro _) | apply setRail_keeps
    | (fail_if_no_progress (refine mk_keeps ?_)) | intro _ _ _ | split | rfl | (simp; done)

theorem selfStartFails_keeps [Fact (Part.rail ∈ K)] (r : Nat) (s : State) (hI : Keeps K B0 s) :
    Keeps K B0 (selfStartFails r s) := by
  unfold selfStartFails
  try dsimp only
  with_reducible repeat' first
    | assumption | apply foldl_keeps | (apply ite_keeps <;> intro _) | apply drainRails_keeps
    | (fail_if_no_progress (refine mk_keeps ?_)) | intro _ _ _ | split | rfl | (simp; done)

theorem startFails_keeps [Fact (Part.tbl ∈ K)] [Fact (Part.host ∈ K)] [Fact (Part.rail ∈ K)] [Fact (Part.nvm ∈ K)] (r : Nat) (s : State) (hI : Keeps K B0 s) :
    Keeps K B0 (startFails r s) := by
  unfold startFails
  try dsimp only
  with_reducible repeat' first
    | assumption | apply foldl_keeps | (apply ite_keeps <;> intro _) | apply setRail_keeps | apply railFlag_keeps
    | apply railEvent_keeps | apply renLow_keeps | apply cancelRail_keeps | apply selfStartFails_keeps
    | (fail_if_no_progress (refine mk_keeps ?_)) | intro _ _ _ | split | rfl | (simp; done)

theorem runningFault_keeps [Fact (Part.free ∈ K)] [Fact (Part.tbl ∈ K)] [Fact (Part.host ∈ K)] [Fact (Part.rail ∈ K)] [Fact (Part.pwr ∈ K)] [Fact (Part.cal ∈ K)] [Fact (Part.nvm ∈ K)] (r : Nat) (ov : Bool) (s : State) (hI : Keeps K B0 s) :
    Keeps K B0 (runningFault r ov s) := by
  unfold runningFault
  try dsimp only
  with_reducible repeat' first
    | assumption | apply foldl_keeps | (apply ite_keeps <;> intro _) | apply wake_keeps | apply setRail_keeps
    | apply railFlag_keeps | apply railEvent_keeps | apply barNvm_keeps | apply pendRail_keeps
    | apply startHold_keeps | (fail_if_no_progress (refine mk_keeps ?_)) | intro _ _ _ | split | rfl | (simp; done)

theorem railSample_keeps [Fact (Part.rail ∈ K)] (s : State) (r : Nat) (code : Nat) (hI : Keeps K B0 s) :
    Keeps K B0 (railSample s r code) := by
  unfold railSample
  try dsimp only
  with_reducible repeat' first
    | assumption | apply foldl_keeps | (apply ite_keeps <;> intro _) | apply setRail_keeps
    | (fail_if_no_progress (refine mk_keeps ?_)) | intro _ _ _ | split | rfl | (simp; done)

theorem railFlagsClear_keeps [Fact (Part.rail ∈ K)] (s : State) (r : Nat) (hI : Keeps K B0 s) :
    Keeps K B0 (railFlagsClear s r) := by
  unfold railFlagsClear
  try dsimp only
  with_reducible repeat' first
    | assumption | apply foldl_keeps | (apply ite_keeps <;> intro _) | apply setRail_keeps
    | (fail_if_no_progress (refine mk_keeps ?_)) | intro _ _ _ | split | rfl | (simp; done)

theorem railFlags_keeps [Fact (Part.free ∈ K)] [Fact (Part.tbl ∈ K)] [Fact (Part.host ∈ K)] [Fact (Part.rail ∈ K)] [Fact (Part.pwr ∈ K)] [Fact (Part.cal ∈ K)] [Fact (Part.nvm ∈ K)] (s0 : State) (r : Nat) (hI : Keeps K B0 s0) :
    Keeps K B0 (railFlags s0 r) := by
  unfold railFlags
  try dsimp only
  with_reducible repeat' first
    | assumption | apply foldl_keeps | (apply ite_keeps <;> intro _) | apply setRail_keeps | apply railEvent_keeps | apply railCount_keeps
    | apply startFails_keeps | apply runningFault_keeps | apply railFlagsClear_keeps
    | (fail_if_no_progress (refine mk_keeps ?_)) | intro _ _ _ | split | rfl | (simp; done)

theorem railRises_keeps [Fact (Part.rail ∈ K)] (s : State) (r : Nat) (hI : Keeps K B0 s) :
    Keeps K B0 (railRises s r) := by
  unfold railRises
  try dsimp only
  with_reducible repeat' first
    | assumption | apply foldl_keeps | (apply ite_keeps <;> intro _) | apply setRail_keeps
    | (fail_if_no_progress (refine mk_keeps ?_)) | intro _ _ _ | split | rfl | (simp; done)

theorem railStarts_keeps [Fact (Part.rail ∈ K)] (s : State) (r : Nat) (hI : Keeps K B0 s) :
    Keeps K B0 (railStarts s r) := by
  unfold railStarts
  try dsimp only
  with_reducible repeat' first
    | assumption | apply foldl_keeps | (apply ite_keeps <;> intro _) | apply setRail_keeps | apply renHigh_keeps
    | (fail_if_no_progress (refine mk_keeps ?_)) | intro _ _ _ | split | rfl | (simp; done)

theorem railFalls_keeps [Fact (Part.rail ∈ K)] (s : State) (r : Nat) (hI : Keeps K B0 s) :
    Keeps K B0 (railFalls s r) := by
  unfold railFalls
  try dsimp only
  with_reducible repeat' first
    | assumption | apply foldl_keeps | (apply ite_keeps <;> intro _) | apply renLow_keeps
    | (fail_if_no_progress (refine mk_keeps ?_)) | intro _ _ _ | split | rfl | (simp; done)

theorem railEnds_keeps [Fact (Part.rail ∈ K)] (s : State) (r : Nat) (hI : Keeps K B0 s) :
    Keeps K B0 (railEnds s r) := by
  unfold railEnds
  try dsimp only
  with_reducible repeat' first
    | assumption | apply foldl_keeps | (apply ite_keeps <;> intro _) | apply setRail_keeps
    | (fail_if_no_progress (refine mk_keeps ?_)) | intro _ _ _ | split | rfl | (simp; done)

theorem railLeaves_keeps [Fact (Part.rail ∈ K)] (s : State) (r : Nat) (hI : Keeps K B0 s) :
    Keeps K B0 (railLeaves s r) := by
  unfold railLeaves
  try dsimp only
  with_reducible repeat' first
    | assumption | apply foldl_keeps | (apply ite_keeps <;> intro _) | apply setRail_keeps
    | (fail_if_no_progress (refine mk_keeps ?_)) | intro _ _ _ | split | rfl | (simp; done)

theorem railDrains_keeps [Fact (Part.rail ∈ K)] (s : State) (hI : Keeps K B0 s) :
    Keeps K B0 (railDrains s) := by
  unfold railDrains
  try dsimp only
  with_reducible repeat' first
    | assumption | apply foldl_keeps | (apply ite_keeps <;> intro _) | apply railFalls_keeps | apply railEnds_keeps
    | apply railLeaves_keeps | (fail_if_no_progress (refine mk_keeps ?_)) | intro _ _ _ | split | rfl | (simp; done)

theorem noteDone_keeps [Fact (Part.host ∈ K)] [Fact (Part.rail ∈ K)] (s : State) (hI : Keeps K B0 s) :
    Keeps K B0 (noteDone s) := by
  unfold noteDone
  try dsimp only
  with_reducible repeat' first
    | assumption | apply foldl_keeps | (apply ite_keeps <;> intro _) | apply raise_keeps
    | (fail_if_no_progress (refine mk_keeps ?_)) | intro _ _ _ | split | rfl | (simp; done)

theorem railGates_keeps [Fact (Part.host ∈ K)] [Fact (Part.jet ∈ K)] [Fact (Part.hc ∈ K)] (s : State) (hI : Keeps K B0 s) :
    Keeps K B0 (railGates s) := by
  unfold railGates
  try dsimp only
  with_reducible repeat' first
    | assumption | apply foldl_keeps | (apply ite_keeps <;> intro _) | apply setRailGate_keeps
    | (fail_if_no_progress (refine mk_keeps ?_)) | intro _ _ _ | split | rfl | (simp; done)

theorem marginRest_keeps [Fact (Part.rail ∈ K)] (s : State) (r : Nat) (hI : Keeps K B0 s) :
    Keeps K B0 (marginRest s r) := by
  unfold marginRest
  try dsimp only
  with_reducible repeat' first
    | assumption | apply foldl_keeps | (apply ite_keeps <;> intro _) | apply setRail_keeps
    | (fail_if_no_progress (refine mk_keeps ?_)) | intro _ _ _ | split | rfl | (simp; done)

theorem vineLost_keeps [Fact (Part.tbl ∈ K)] [Fact (Part.vine ∈ K)] (s : State) (hI : Keeps K B0 s) : Keeps K B0 (vineLost s) := by
  unfold vineLost
  exact ⟨⟨cellsWf_filter hI.tbl, hI.flash, hI.ram, hI.defs, hI.cask, hI.enc, hI.axes, hI.vlv, hI.rails, hI.wdacs, hI.slots, hI.inputs, hI.temps, hI.reads, hI.cons, rfl, rfl, hI.v⟩, hI.queue, hI.hsel, hI.refsel, hI.seqs, hI.lock, same_mk hI⟩

theorem selfTarget_keeps [Fact (Part.rail ∈ K)] (s : State) (hI : Keeps K B0 s) :
    Keeps K B0 (selfTarget s) := by
  unfold selfTarget
  try dsimp only
  with_reducible repeat' first
    | assumption | apply foldl_keeps | (apply ite_keeps <;> intro _) | apply setRail_keeps
    | (fail_if_no_progress (refine mk_keeps ?_)) | intro _ _ _ | split | rfl | (simp; done)

theorem selfProgress_keeps [Fact (Part.tbl ∈ K)] [Fact (Part.vine ∈ K)] [Fact (Part.rail ∈ K)] (s : State) (hI : Keeps K B0 s) :
    Keeps K B0 (selfProgress s) := by
  unfold selfProgress
  try dsimp only
  with_reducible repeat' first
    | assumption | apply foldl_keeps | (apply ite_keeps <;> intro _) | apply drainRails_keeps | apply vineLost_keeps
    | apply selfTarget_keeps | (fail_if_no_progress (refine mk_keeps ?_)) | intro _ _ _ | split | rfl | (simp; done)

theorem railSettle_keeps [Fact (Part.tbl ∈ K)] [Fact (Part.host ∈ K)] [Fact (Part.vine ∈ K)] [Fact (Part.jet ∈ K)] [Fact (Part.hc ∈ K)] [Fact (Part.rail ∈ K)] (s : State) (hI : Keeps K B0 s) :
    Keeps K B0 (railSettle s) := by
  unfold railSettle
  try dsimp only
  with_reducible repeat' first
    | assumption | apply foldl_keeps | (apply ite_keeps <;> intro _) | apply noteDone_keeps | apply railGates_keeps
    | apply marginRest_keeps | apply selfProgress_keeps | (fail_if_no_progress (refine mk_keeps ?_)) | intro _ _ _
    | split | rfl | (simp; done)

theorem railScan_keeps [Fact (Part.free ∈ K)] [Fact (Part.tbl ∈ K)] [Fact (Part.host ∈ K)] [Fact (Part.vine ∈ K)] [Fact (Part.jet ∈ K)] [Fact (Part.hc ∈ K)] [Fact (Part.rail ∈ K)] [Fact (Part.pwr ∈ K)] [Fact (Part.cal ∈ K)] [Fact (Part.nvm ∈ K)] (codes : List Nat) (s : State) (hI : Keeps K B0 s) :
    Keeps K B0 (railScan codes s) := by
  unfold railScan
  try dsimp only
  with_reducible repeat' first
    | assumption | apply foldl_keeps | (apply ite_keeps <;> intro _) | apply railSample_keeps | apply railFlags_keeps
    | apply railRises_keeps | apply railStarts_keeps | apply railDrains_keeps | apply railSettle_keeps
    | (fail_if_no_progress (refine mk_keeps ?_)) | intro _ _ _ | split | rfl | (simp; done)

theorem rampTimeout_keeps [Fact (Part.tbl ∈ K)] [Fact (Part.host ∈ K)] [Fact (Part.vine ∈ K)] [Fact (Part.jet ∈ K)] [Fact (Part.hc ∈ K)] [Fact (Part.rail ∈ K)] [Fact (Part.nvm ∈ K)] (r : Nat) (s : State) (hI : Keeps K B0 s) :
    Keeps K B0 (rampTimeout r s) := by
  unfold rampTimeout
  try dsimp only
  with_reducible repeat' first
    | assumption | apply foldl_keeps | (apply ite_keeps <;> intro _) | apply startFails_keeps
    | apply railDrains_keeps | apply railSettle_keeps | (fail_if_no_progress (refine mk_keeps ?_)) | intro _ _ _
    | split | rfl | (simp; done)

theorem offTimeout_keeps [Fact (Part.tbl ∈ K)] [Fact (Part.host ∈ K)] [Fact (Part.vine ∈ K)] [Fact (Part.jet ∈ K)] [Fact (Part.hc ∈ K)] [Fact (Part.rail ∈ K)] [Fact (Part.nvm ∈ K)] (r : Nat) (s : State) (hI : Keeps K B0 s) :
    Keeps K B0 (offTimeout r s) := by
  unfold offTimeout
  try dsimp only
  with_reducible repeat' first
    | assumption | apply foldl_keeps | (apply ite_keeps <;> intro _) | apply setRail_keeps | apply railFlag_keeps
    | apply railEvent_keeps | apply railDrains_keeps | apply railSettle_keeps
    | (fail_if_no_progress (refine mk_keeps ?_)) | intro _ _ _ | split | rfl | (simp; done)

theorem holdExpiry_keeps [Fact (Part.tick ∈ K)] [Fact (Part.free ∈ K)] [Fact (Part.tbl ∈ K)] [Fact (Part.host ∈ K)] [Fact (Part.bnd ∈ K)] [Fact (Part.txn ∈ K)] [Fact (Part.vine ∈ K)] [Fact (Part.enc ∈ K)] [Fact (Part.grid ∈ K)] [Fact (Part.jet ∈ K)] [Fact (Part.ing ∈ K)] [Fact (Part.hc ∈ K)] [Fact (Part.mot ∈ K)] [Fact (Part.vlv ∈ K)] [Fact (Part.vlvSel ∈ K)] [Fact (Part.rail ∈ K)] [Fact (Part.boot ∈ K)] [Fact (Part.pwr ∈ K)] [Fact (Part.cal ∈ K)] [Fact (Part.nvm ∈ K)] (s : State) (hI : Keeps K B0 s) :
    Keeps K B0 (holdExpiry s) := by
  unfold holdExpiry
  try dsimp only
  with_reducible repeat' first
    | assumption | apply foldl_keeps | (apply ite_keeps <;> intro _) | apply noteCause_keeps | apply coreDown_keeps
    | apply drainRails_keeps | (fail_if_no_progress (refine mk_keeps ?_)) | intro _ _ _ | split | rfl | (simp; done)

theorem marginWalk_keeps [Fact (Part.tbl ∈ K)] [Fact (Part.host ∈ K)] [Fact (Part.rail ∈ K)] [Fact (Part.nvm ∈ K)] (s : State) (r : Nat) (hI : Keeps K B0 s) :
    Keeps K B0 (marginWalk s r) := by
  unfold marginWalk
  try dsimp only
  with_reducible repeat' first
    | assumption | apply foldl_keeps | (apply ite_keeps <;> intro _) | apply setRail_keeps | apply railCount_keeps
    | (fail_if_no_progress (refine mk_keeps ?_)) | intro _ _ _ | split | rfl | (simp; done)

theorem marginSteps_keeps [Fact (Part.tbl ∈ K)] [Fact (Part.host ∈ K)] [Fact (Part.rail ∈ K)] [Fact (Part.nvm ∈ K)] (s : State) (hI : Keeps K B0 s) :
    Keeps K B0 (marginSteps s) := by
  unfold marginSteps
  try dsimp only
  with_reducible repeat' first
    | assumption | apply foldl_keeps | (apply ite_keeps <;> intro _) | apply marginWalk_keeps
    | (fail_if_no_progress (refine mk_keeps ?_)) | intro _ _ _ | split | rfl | (simp; done)

theorem cmpBelow_keeps [Fact (Part.free ∈ K)] [Fact (Part.tbl ∈ K)] [Fact (Part.host ∈ K)] [Fact (Part.rail ∈ K)] [Fact (Part.pwr ∈ K)] [Fact (Part.cal ∈ K)] [Fact (Part.nvm ∈ K)] (s : State) (hI : Keeps K B0 s) :
    Keeps K B0 (cmpBelow s) := by
  unfold cmpBelow
  try dsimp only
  with_reducible repeat' first
    | assumption | apply foldl_keeps | (apply ite_keeps <;> intro _) | apply railFlag_keeps | apply railEvent_keeps
    | apply barNvm_keeps | (fail_if_no_progress (refine mk_keeps ?_)) | intro _ _ _ | split | rfl | (simp; done)

theorem cmpRises_keeps [Fact (Part.rail ∈ K)] (s : State) (hI : Keeps K B0 s) :
    Keeps K B0 (cmpRises s) := by
  unfold cmpRises
  try dsimp only
  with_reducible repeat' first
    | assumption | apply foldl_keeps | (apply ite_keeps <;> intro _) | (fail_if_no_progress (refine mk_keeps ?_))
    | intro _ _ _ | split | rfl | (simp; done)

theorem railRefuse_keeps [Fact (Part.host ∈ K)] [Fact (Part.rail ∈ K)] (s : State) (hI : Keeps K B0 s) :
    Keeps K B0 (railRefuse s) := by
  unfold railRefuse
  try dsimp only
  with_reducible repeat' first
    | assumption | apply foldl_keeps | (apply ite_keeps <;> intro _) | apply raise_keeps | apply recErr_keeps
    | (fail_if_no_progress (refine mk_keeps ?_)) | intro _ _ _ | split | rfl | (simp; done)

theorem railCmd_keeps [Fact (Part.host ∈ K)] [Fact (Part.rail ∈ K)] (op mask : Nat) (s : State) (hI : Keeps K B0 s) :
    Keeps K B0 (railCmd op mask s) := by
  unfold railCmd
  try dsimp only
  with_reducible repeat' first
    | assumption | apply foldl_keeps | (apply ite_keeps <;> intro _) | apply setRail_keeps | apply drainRails_keeps
    | apply railRefuse_keeps | (fail_if_no_progress (refine mk_keeps ?_)) | intro _ _ _ | split | rfl | (simp; done)

theorem railWrite_keeps [Fact (Part.host ∈ K)] [Fact (Part.rail ∈ K)] (op mask : Nat) (s : State) (hI : Keeps K B0 s) :
    Keeps K B0 (railWrite op mask s) := by
  unfold railWrite
  try dsimp only
  with_reducible repeat' first
    | assumption | apply foldl_keeps | (apply ite_keeps <;> intro _) | apply holdCmd_keeps | apply railCmd_keeps
    | (fail_if_no_progress (refine mk_keeps ?_)) | intro _ _ _ | split | rfl | (simp; done)

theorem railReg_keeps [Fact (Part.host ∈ K)] [Fact (Part.rail ∈ K)] [Fact (Part.pwr ∈ K)] (op mask : Nat) (s : State) (hI : Keeps K B0 s) :
    Keeps K B0 (railReg op mask s) := by
  unfold railReg
  try dsimp only
  with_reducible repeat' first
    | assumption | apply foldl_keeps | (apply ite_keeps <;> intro _) | apply routedOp_keeps | apply railWrite_keeps
    | (fail_if_no_progress (refine mk_keeps ?_)) | intro _ _ _ | split | rfl | (simp; done)

theorem pfwClearOp_keeps [Fact (Part.rail ∈ K)] [Fact (Part.nvm ∈ K)] (s : State) (hI : Keeps K B0 s) :
    Keeps K B0 (pfwClearOp s) := by
  unfold pfwClearOp
  try dsimp only
  with_reducible repeat' first
    | assumption | apply foldl_keeps | (apply ite_keeps <;> intro _) | (fail_if_no_progress (refine mk_keeps ?_))
    | intro _ _ _ | split | rfl | (simp; done)

theorem pfwCtl_keeps [Fact (Part.host ∈ K)] [Fact (Part.rail ∈ K)] (d : Word) (s : State) (hI : Keeps K B0 s) :
    Keeps K B0 (pfwCtl d s) := by
  unfold pfwCtl
  try dsimp only
  with_reducible repeat' first
    | assumption | apply foldl_keeps | (apply ite_keeps <;> intro _) | apply raise_keeps
    | (fail_if_no_progress (refine mk_keeps ?_)) | intro _ _ _ | split | rfl | (simp; done)

theorem railCfgRefuse_keeps [Fact (Part.host ∈ K)] [Fact (Part.rail ∈ K)] (r : Nat) (busy : Bool) (s : State) (hI : Keeps K B0 s) :
    Keeps K B0 (railCfgRefuse r busy s) := by
  unfold railCfgRefuse
  try dsimp only
  with_reducible repeat' first
    | assumption | apply foldl_keeps | (apply ite_keeps <;> intro _) | apply raise_keeps | apply recErr_keeps
    | (fail_if_no_progress (refine mk_keeps ?_)) | intro _ _ _ | split | rfl | (simp; done)

theorem railConfig_keeps [Fact (Part.tbl ∈ K)] [Fact (Part.host ∈ K)] [Fact (Part.jet ∈ K)] [Fact (Part.hc ∈ K)] [Fact (Part.rail ∈ K)] (t a : Nat) (d : Word) (s : State) (hI : Keeps K B0 s) :
    Keeps K B0 (railConfig t a d s) := by
  unfold railConfig
  try dsimp only
  with_reducible repeat' first
    | assumption | apply foldl_keeps | (apply ite_keeps <;> intro _) | apply tset_keeps | apply railGates_keeps
    | apply railCfgRefuse_keeps | (fail_if_no_progress (refine mk_keeps ?_)) | intro _ _ _ | split | rfl
    | (simp; done)

theorem railCounter_keeps [Fact (Part.tbl ∈ K)] [Fact (Part.host ∈ K)] [Fact (Part.nvm ∈ K)] (a : Nat) (s : State) (hI : Keeps K B0 s) :
    Keeps K B0 (railCounter a s) := by
  unfold railCounter
  try dsimp only
  with_reducible repeat' first
    | assumption | apply foldl_keeps | (apply ite_keeps <;> intro _) | apply tset_keeps | apply lees_keeps
    | (fail_if_no_progress (refine mk_keeps ?_)) | intro _ _ _ | split | rfl | (simp; done)

theorem selfStart_keeps [Fact (Part.rail ∈ K)] (s : State) (hI : Keeps K B0 s) :
    Keeps K B0 (selfStart s) := by
  unfold selfStart
  try dsimp only
  with_reducible repeat' first
    | assumption | apply foldl_keeps | (apply ite_keeps <;> intro _) | apply selfTarget_keeps
    | (fail_if_no_progress (refine mk_keeps ?_)) | intro _ _ _ | split | rfl | (simp; done)

theorem selfRetry_keeps [Fact (Part.rail ∈ K)] (s : State) (hI : Keeps K B0 s) :
    Keeps K B0 (selfRetry s) := by
  unfold selfRetry
  try dsimp only
  with_reducible repeat' first
    | assumption | apply foldl_keeps | (apply ite_keeps <;> intro _) | apply selfTarget_keeps
    | (fail_if_no_progress (refine mk_keeps ?_)) | intro _ _ _ | split | rfl | (simp; done)

/-! ### Machine/Nvm.lean -/

theorem nvmReason_locked {s : State} {op ksel : Nat} (h : nvmReason s op ksel = none) (hl : s.nvm.locked = true) :
    op ≠ 4 ∧ op ≠ 5 := by
  constructor <;> rintro rfl <;> revert h <;> unfold nvmReason <;> simp [hl] <;> intros <;> split_ifs <;> simp

theorem tputByte_keeps [Fact (Part.tbl ∈ K)] (t i : Nat) (b : Byte) (s : State) (hI : Keeps K B0 s) :
    Keeps K B0 (tputByte t i b s) := by
  unfold tputByte
  try dsimp only
  with_reducible repeat' first
    | assumption | apply foldl_keeps | (apply ite_keeps <;> intro _) | apply tset_keeps
    | (fail_if_no_progress (refine mk_keeps ?_)) | intro _ _ _ | split | rfl | (simp; done)

theorem tputBytes_keeps [Fact (Part.tbl ∈ K)] (t : Nat) : ∀ (bs : List Byte) (i : Nat) (s : State), Keeps K B0 s → Keeps K B0 (tputBytes t i bs s)
  | [], _, _, h => h
  | b :: bs, i, s, h => tputBytes_keeps t bs (i + 1) _ (tputByte_keeps _ _ _ _ h)

theorem nvmCmd_keeps [Fact (Part.host ∈ K)] [Fact (Part.nvm ∈ K)] (op ksel : Nat) (s : State) (hI : Keeps K B0 s) : Keeps K B0 (nvmCmd op ksel s) := by
  unfold nvmCmd
  split
  · exact recErr_keeps _ _ _ (mk_keeps hI)
  · rename_i hr
    refine ⟨⟨hI.tbl, hI.flash, hI.ram, hI.defs, hI.cask, hI.enc, hI.axes, hI.vlv, hI.rails, hI.wdacs, hI.slots, hI.inputs, hI.temps, hI.reads, hI.cons, hI.ports, hI.routes, hI.v⟩, hI.queue, hI.hsel, hI.refsel, hI.seqs, fun h => ⟨?_, (hI.lock h).2⟩, same_mk hI⟩
    have hk := (hI.lock h).1
    simp only [keySafe, Bool.and_eq_true] at hk ⊢
    have := nvmReason_locked hr hk.1
    simp [hk.1, this.1, this.2]

theorem nvmEffect_keeps [Fact (Part.tbl ∈ K)] [Fact (Part.pwr ∈ K)] [Fact (Part.nvm ∈ K)] (o : NvmOp) (s : State) (hI : Keeps K B0 s) (ho : keySafe B0 = true → o.op ≠ 4 ∧ o.op ≠ 5) :
    Keeps K B0 (nvmEffect o s) := by
  unfold nvmEffect
  generalize defaultsKeep (packWords o.data) = ws
  split
  · exact nvmStore_keeps _ _ _ hI
  · exact noteImage_keeps _ _ (nvmStore_keeps _ _ _ hI)
  · exact tputBytes_keeps _ _ _ _ hI
  · exact ⟨⟨hI.tbl, hI.flash, hI.ram, hI.defs, hI.cask, hI.enc, hI.axes, hI.vlv, hI.rails, hI.wdacs, hI.slots, hI.inputs, hI.temps, hI.reads, hI.cons, hI.ports, hI.routes, hI.v⟩, hI.queue, hI.hsel, hI.refsel, hI.seqs, fun h => absurd ‹_› (ho h).1, same_mk hI⟩
  · have hS := hI
    obtain ⟨⟨a1,a2,a3,a4,a5,a6,a7,a8,a9,a10,a11,a12,a13,a14,a15,a16,a17,a18⟩, a19, a20, a21, a22, a23, a24⟩ := hI
    exact ⟨⟨a1, a2, a3, cellSetRun_wf a4,a5,a6,a7,a8,a9,a10,a11,a12,a13,a14,a15,a16,a17,a18⟩, a19, a20, a21, a22, fun h => absurd ‹_› (ho h).2, same_mk hS⟩
  · refine ⟨⟨hI.tbl, hI.flash, hI.ram, hI.defs, hI.cask, hI.enc, hI.axes, hI.vlv, hI.rails, hI.wdacs, hI.slots, hI.inputs, hI.temps, hI.reads, hI.cons, hI.ports, hI.routes, hI.v⟩, hI.queue, hI.hsel, hI.refsel, hI.seqs, fun h => ⟨?_, (hI.lock h).2⟩, same_mk hI⟩
    have hk := (hI.lock h).1
    simp only [keySafe, Bool.and_eq_true] at hk ⊢
    exact ⟨trivial, hk.2⟩
  · exact hI

theorem nvmFailed_keeps [Fact (Part.free ∈ K)] [Fact (Part.tbl ∈ K)] [Fact (Part.host ∈ K)] [Fact (Part.pwr ∈ K)] [Fact (Part.nvm ∈ K)] (o : NvmOp) (s : State) (hI : Keeps K B0 s)
    (ho : keySafe B0 = true → o.op ≠ 4 ∧ o.op ≠ 5) : Keeps K B0 (nvmFailed o s) := by
  unfold nvmFailed
  exact recErrLees_keeps _ _ _ _ (mk_keeps (openTarget_keeps o s hI ho))

theorem nvmDone_keeps [Fact (Part.free ∈ K)] [Fact (Part.tbl ∈ K)] [Fact (Part.host ∈ K)] [Fact (Part.pwr ∈ K)] [Fact (Part.nvm ∈ K)] (verified : Bool) (s : State) (hI : Keeps K B0 s) : Keeps K B0 (nvmDone verified s) := by
  unfold nvmDone
  split
  · rename_i o ho
    have h1 : Keeps K B0 { s with nvm.busy := none } := ⟨⟨hI.tbl, hI.flash, hI.ram, hI.defs, hI.cask, hI.enc, hI.axes, hI.vlv, hI.rails, hI.wdacs, hI.slots, hI.inputs, hI.temps, hI.reads, hI.cons, hI.ports, hI.routes, hI.v⟩, hI.queue, hI.hsel, hI.refsel, hI.seqs, fun h => ⟨keySafe_idle (hI.lock h).1, (hI.lock h).2⟩, same_mk hI⟩
    dsimp only
    refine raise_keeps _ _ (mk_keeps (X := if (verified || o.op == 3) = true then nvmEffect o { s with nvm.busy := none } else nvmFailed o { s with nvm.busy := none }) ?_)
    have hk : keySafe B0 = true → o.op ≠ 4 ∧ o.op ≠ 5 := by
      intro h
      have := (hI.lock h).1
      simp only [keySafe, ho, Bool.and_eq_true] at this
      simpa using this.2
    exact ite_keeps (fun _ => nvmEffect_keeps _ _ h1 hk) (fun _ => nvmFailed_keeps _ _ h1 hk)
  · exact hI

theorem leesErase_keeps [Fact (Part.nvm ∈ K)] (k : Nat) (s : State) (hI : Keeps K B0 s) :
    Keeps K B0 (leesErase k s) := by
  unfold leesErase
  try dsimp only
  with_reducible repeat' first
    | assumption | apply foldl_keeps | (apply ite_keeps <;> intro _) | apply nvmStore_keeps
    | (fail_if_no_progress (refine mk_keeps ?_)) | intro _ _ _ | split | rfl | (simp; done)

theorem leesWrite_keeps [Fact (Part.nvm ∈ K)] (s : State) (hI : Keeps K B0 s) :
    Keeps K B0 (leesWrite s) := by
  unfold leesWrite
  try dsimp only
  with_reducible repeat' first
    | assumption | apply foldl_keeps | (apply ite_keeps <;> intro _) | apply nvmStore_keeps | apply leesErase_keeps
    | (fail_if_no_progress (refine mk_keeps ?_)) | intro _ _ _ | split | rfl | (simp; done)

theorem leesFlush_keeps [Fact (Part.nvm ∈ K)] (s : State) (hI : Keeps K B0 s) :
    Keeps K B0 (leesFlush s) := by
  unfold leesFlush
  try dsimp only
  with_reducible repeat' first
    | assumption | apply foldl_keeps | (apply ite_keeps <;> intro _) | apply leesWrite_keeps
    | (fail_if_no_progress (refine mk_keeps ?_)) | intro _ _ _ | split | rfl | (simp; done)

theorem leesScan_keeps [Fact (Part.nvm ∈ K)] (s : State) (hI : Keeps K B0 s) :
    Keeps K B0 (leesScan s) := by
  unfold leesScan
  try dsimp only
  with_reducible repeat' first
    | assumption | apply foldl_keeps | (apply ite_keeps <;> intro _) | (fail_if_no_progress (refine mk_keeps ?_))
    | intro _ _ _ | split | rfl | (simp; done)

theorem loadCounters_keeps [Fact (Part.tbl ∈ K)] [Fact (Part.nvm ∈ K)] (s : State) (hI : Keeps K B0 s) :
    Keeps K B0 (loadCounters s) := by
  unfold loadCounters
  try dsimp only
  with_reducible repeat' first
    | assumption | apply foldl_keeps | (apply ite_keeps <;> intro _) | apply tset_keeps | apply bump_keeps
    | (fail_if_no_progress (refine mk_keeps ?_)) | intro _ _ _ | split | rfl | (simp; done)

theorem nvmWrite_keeps [Fact (Part.host ∈ K)] [Fact (Part.nvm ∈ K)] (op ksel : Nat) (s : State) (hI : Keeps K B0 s) :
    Keeps K B0 (nvmWrite op ksel s) := by
  unfold nvmWrite
  try dsimp only
  with_reducible repeat' first
    | assumption | apply foldl_keeps | (apply ite_keeps <;> intro _) | apply holdCmd_keeps | apply nvmCmd_keeps
    | (fail_if_no_progress (refine mk_keeps ?_)) | intro _ _ _ | split | rfl | (simp; done)

theorem nvmReg_keeps [Fact (Part.host ∈ K)] [Fact (Part.pwr ∈ K)] [Fact (Part.nvm ∈ K)] (op ksel : Nat) (s : State) (hI : Keeps K B0 s) :
    Keeps K B0 (nvmReg op ksel s) := by
  unfold nvmReg
  try dsimp only
  with_reducible repeat' first
    | assumption | apply foldl_keeps | (apply ite_keeps <;> intro _) | apply routedOp_keeps | apply nvmWrite_keeps
    | (fail_if_no_progress (refine mk_keeps ?_)) | intro _ _ _ | split | rfl | (simp; done)

/-! ### Machine/Calib.lean -/

theorem calFlag_keeps [Fact (Part.host ∈ K)] [Fact (Part.cal ∈ K)] (f : Cal → Cal) (s : State) (hI : Keeps K B0 s) :
    Keeps K B0 (calFlag f s) := by
  unfold calFlag
  try dsimp only
  with_reducible repeat' first
    | assumption | apply foldl_keeps | (apply ite_keeps <;> intro _) | apply raise_keeps
    | (fail_if_no_progress (refine mk_keeps ?_)) | intro _ _ _ | split | rfl | (simp; done)

theorem setValid_keeps [Fact (Part.tbl ∈ K)] (t : Nat) (i : CalItem) (b : Bool) (s : State) (hI : Keeps K B0 s) :
    Keeps K B0 (setValid t i b s) := by
  unfold setValid
  try dsimp only
  with_reducible repeat' first
    | assumption | apply foldl_keeps | (apply ite_keeps <;> intro _) | apply tset_keeps
    | (fail_if_no_progress (refine mk_keeps ?_)) | intro _ _ _ | split | rfl | (simp; done)

theorem putItem_keeps [Fact (Part.tbl ∈ K)] (t : Nat) (i : CalItem) (bs : List Byte) (s : State) (hI : Keeps K B0 s) :
    Keeps K B0 (putItem t i bs s) := by
  unfold putItem
  try dsimp only
  with_reducible repeat' first
    | assumption | apply foldl_keeps | (apply ite_keeps <;> intro _) | apply tputBytes_keeps | apply setValid_keeps
    | (fail_if_no_progress (refine mk_keeps ?_)) | intro _ _ _ | split | rfl | (simp; done)

theorem unstage_keeps [Fact (Part.tbl ∈ K)] [Fact (Part.cal ∈ K)] (i : CalItem) (s : State) (hI : Keeps K B0 s) :
    Keeps K B0 (unstage i s) := by
  unfold unstage
  try dsimp only
  with_reducible repeat' first
    | assumption | apply foldl_keeps | (apply ite_keeps <;> intro _) | apply tputBytes_keeps | apply setValid_keeps
    | (fail_if_no_progress (refine mk_keeps ?_)) | intro _ _ _ | split | rfl | (simp; done)

theorem applyItem_keeps [Fact (Part.tbl ∈ K)] [Fact (Part.cal ∈ K)] (s : State) (i : CalItem) (hI : Keeps K B0 s) :
    Keeps K B0 (applyItem s i) := by
  unfold applyItem
  try dsimp only
  with_reducible repeat' first
    | assumption | apply foldl_keeps | (apply ite_keeps <;> intro _) | apply putItem_keeps | apply unstage_keeps
    | (fail_if_no_progress (refine mk_keeps ?_)) | intro _ _ _ | split | rfl | (simp; done)

theorem applyStaged_keeps [Fact (Part.tbl ∈ K)] [Fact (Part.host ∈ K)] [Fact (Part.cal ∈ K)] (p : CalItem → Bool) (s : State) (hI : Keeps K B0 s) :
    Keeps K B0 (applyStaged p s) := by
  unfold applyStaged
  try dsimp only
  with_reducible repeat' first
    | assumption | apply foldl_keeps | (apply ite_keeps <;> intro _) | apply raise_keeps | apply applyItem_keeps
    | (fail_if_no_progress (refine mk_keeps ?_)) | intro _ _ _ | split | rfl | (simp; done)

theorem applyCalibration_keeps [Fact (Part.tbl ∈ K)] [Fact (Part.host ∈ K)] [Fact (Part.cal ∈ K)] (idle : Bool) (s : State) (hI : Keeps K B0 s) :
    Keeps K B0 (applyCalibration idle s) := by
  unfold applyCalibration
  try dsimp only
  with_reducible repeat' first
    | assumption | apply foldl_keeps | (apply ite_keeps <;> intro _) | apply applyStaged_keeps
    | (fail_if_no_progress (refine mk_keeps ?_)) | intro _ _ _ | split | rfl | (simp; done)

theorem discardStaged_keeps [Fact (Part.tbl ∈ K)] [Fact (Part.cal ∈ K)] (s : State) (hI : Keeps K B0 s) :
    Keeps K B0 (discardStaged s) := by
  unfold discardStaged
  try dsimp only
  with_reducible repeat' first
    | assumption | apply foldl_keeps | (apply ite_keeps <;> intro _) | apply unstage_keeps
    | (fail_if_no_progress (refine mk_keeps ?_)) | intro _ _ _ | split | rfl | (simp; done)

theorem startStore_keeps [Fact (Part.cal ∈ K)] [Fact (Part.nvm ∈ K)] (results : List (CalItem × List Byte)) (s : State) (hI : Keeps K B0 s) :
    Keeps K B0 (startStore results s) := by
  unfold startStore
  try dsimp only
  with_reducible repeat' first
    | assumption | apply foldl_keeps | (apply ite_keeps <;> intro _) | apply nvmStore_keeps
    | (fail_if_no_progress (refine mk_keeps ?_)) | intro _ _ _ | split | rfl | (simp; done)

theorem storeDone_keeps [Fact (Part.free ∈ K)] [Fact (Part.tbl ∈ K)] [Fact (Part.host ∈ K)] [Fact (Part.cal ∈ K)] [Fact (Part.nvm ∈ K)] (verified : Bool) (s : State) (hI : Keeps K B0 s) :
    Keeps K B0 (storeDone verified s) := by
  unfold storeDone
  try dsimp only
  with_reducible repeat' first
    | assumption | apply foldl_keeps | (apply ite_keeps <;> intro _) | apply lees_keeps | apply recErrLees_keeps
    | apply nvmScramble_keeps | apply calFlag_keeps | (fail_if_no_progress (refine mk_keeps ?_)) | intro _ _ _
    | split | rfl | (simp; done)

theorem startRun_keeps [Fact (Part.cal ∈ K)] (trig : Nat) (startUp : Bool) (items : List CalItem) (s : State) (hI : Keeps K B0 s) :
    Keeps K B0 (startRun trig startUp items s) := by
  unfold startRun
  try dsimp only
  with_reducible repeat' first
    | assumption | apply foldl_keeps | (apply ite_keeps <;> intro _) | (fail_if_no_progress (refine mk_keeps ?_))
    | intro _ _ _ | split | rfl | (simp; done)

theorem stageOne_keeps [Fact (Part.tbl ∈ K)] [Fact (Part.cal ∈ K)] (s : State) (r : CalItem × List Byte) (hI : Keeps K B0 s) :
    Keeps K B0 (stageOne s r) := by
  unfold stageOne
  try dsimp only
  with_reducible repeat' first
    | assumption | apply foldl_keeps | (apply ite_keeps <;> intro _) | apply putItem_keeps
    | (fail_if_no_progress (refine mk_keeps ?_)) | intro _ _ _ | split | rfl | (simp; done)

theorem endRun_keeps [Fact (Part.tbl ∈ K)] [Fact (Part.host ∈ K)] [Fact (Part.cal ∈ K)] [Fact (Part.nvm ∈ K)] (s : State) (hI : Keeps K B0 s) :
    Keeps K B0 (endRun s) := by
  unfold endRun
  try dsimp only
  with_reducible repeat' first
    | assumption | apply foldl_keeps | (apply ite_keeps <;> intro _) | apply applyStaged_keeps
    | apply startStore_keeps | apply stageOne_keeps | (fail_if_no_progress (refine mk_keeps ?_)) | intro _ _ _
    | split | rfl | (simp; done)

theorem itemDone_keeps [Fact (Part.tbl ∈ K)] [Fact (Part.host ∈ K)] [Fact (Part.cal ∈ K)] [Fact (Part.nvm ∈ K)] (i : CalItem) (bs : List Byte) (s : State) (hI : Keeps K B0 s) :
    Keeps K B0 (itemDone i bs s) := by
  unfold itemDone
  try dsimp only
  with_reducible repeat' first
    | assumption | apply foldl_keeps | (apply ite_keeps <;> intro _) | apply endRun_keeps
    | (fail_if_no_progress (refine mk_keeps ?_)) | intro _ _ _ | split | rfl | (simp; done)

theorem skipOne_keeps [Fact (Part.host ∈ K)] [Fact (Part.cal ∈ K)] (s : State) (i : CalItem) (hI : Keeps K B0 s) :
    Keeps K B0 (skipOne s i) := by
  unfold skipOne
  try dsimp only
  with_reducible repeat' first
    | assumption | apply foldl_keeps | (apply ite_keeps <;> intro _) | apply recErr_keeps | apply calFlag_keeps
    | (fail_if_no_progress (refine mk_keeps ?_)) | intro _ _ _ | split | rfl | (simp; done)

theorem itemSkip_keeps [Fact (Part.tbl ∈ K)] [Fact (Part.host ∈ K)] [Fact (Part.cal ∈ K)] [Fact (Part.nvm ∈ K)] (i : CalItem) (s : State) (hI : Keeps K B0 s) :
    Keeps K B0 (itemSkip i s) := by
  unfold itemSkip
  try dsimp only
  with_reducible repeat' first
    | assumption | apply foldl_keeps | (apply ite_keeps <;> intro _) | apply endRun_keeps | apply skipOne_keeps
    | (fail_if_no_progress (refine mk_keeps ?_)) | intro _ _ _ | split | rfl | (simp; done)

theorem startupTimeout_keeps [Fact (Part.tbl ∈ K)] [Fact (Part.host ∈ K)] [Fact (Part.cal ∈ K)] [Fact (Part.nvm ∈ K)] (s : State) (hI : Keeps K B0 s) :
    Keeps K B0 (startupTimeout s) := by
  unfold startupTimeout
  try dsimp only
  with_reducible repeat' first
    | assumption | apply foldl_keeps | (apply ite_keeps <;> intro _) | apply endRun_keeps | apply skipOne_keeps
    | (fail_if_no_progress (refine mk_keeps ?_)) | intro _ _ _ | split | rfl | (simp; done)

theorem calRefuse_keeps [Fact (Part.host ∈ K)] [Fact (Part.cal ∈ K)] (s : State) (hI : Keeps K B0 s) :
    Keeps K B0 (calRefuse s) := by
  unfold calRefuse
  try dsimp only
  with_reducible repeat' first
    | assumption | apply foldl_keeps | (apply ite_keeps <;> intro _) | apply recErr_keeps | apply calFlag_keeps
    | (fail_if_no_progress (refine mk_keeps ?_)) | intro _ _ _ | split | rfl | (simp; done)

theorem calCmd_keeps [Fact (Part.tbl ∈ K)] [Fact (Part.host ∈ K)] [Fact (Part.cal ∈ K)] (op maxDefer delta : Nat) (s : State) (hI : Keeps K B0 s) :
    Keeps K B0 (calCmd op maxDefer delta s) := by
  unfold calCmd
  try dsimp only
  with_reducible repeat' first
    | assumption | apply foldl_keeps | (apply ite_keeps <;> intro _) | apply discardStaged_keeps
    | apply startRun_keeps | apply calRefuse_keeps | (fail_if_no_progress (refine mk_keeps ?_)) | intro _ _ _ | split
    | rfl | (simp; done)

theorem calReg_keeps [Fact (Part.tbl ∈ K)] [Fact (Part.host ∈ K)] [Fact (Part.pwr ∈ K)] [Fact (Part.cal ∈ K)] (op maxDefer delta : Nat) (s : State) (hI : Keeps K B0 s) :
    Keeps K B0 (calReg op maxDefer delta s) := by
  unfold calReg
  try dsimp only
  with_reducible repeat' first
    | assumption | apply foldl_keeps | (apply ite_keeps <;> intro _) | apply routedOp_keeps | apply calCmd_keeps
    | (fail_if_no_progress (refine mk_keeps ?_)) | intro _ _ _ | split | rfl | (simp; done)

theorem maxDeferExpiry_keeps [Fact (Part.cal ∈ K)] (s : State) (hI : Keeps K B0 s) :
    Keeps K B0 (maxDeferExpiry s) := by
  unfold maxDeferExpiry
  try dsimp only
  with_reducible repeat' first
    | assumption | apply foldl_keeps | (apply ite_keeps <;> intro _) | (fail_if_no_progress (refine mk_keeps ?_))
    | intro _ _ _ | split | rfl | (simp; done)

theorem startForced_keeps [Fact (Part.host ∈ K)] [Fact (Part.cal ∈ K)] (s : State) (hI : Keeps K B0 s) :
    Keeps K B0 (startForced s) := by
  unfold startForced
  try dsimp only
  with_reducible repeat' first
    | assumption | apply foldl_keeps | (apply ite_keeps <;> intro _) | apply calFlag_keeps
    | (fail_if_no_progress (refine mk_keeps ?_)) | intro _ _ _ | split | rfl | (simp; done)

theorem endForced_keeps [Fact (Part.cal ∈ K)] (s : State) (hI : Keeps K B0 s) :
    Keeps K B0 (endForced s) := by
  unfold endForced
  try dsimp only
  with_reducible repeat' first
    | assumption | apply foldl_keeps | (apply ite_keeps <;> intro _) | (fail_if_no_progress (refine mk_keeps ?_))
    | intro _ _ _ | split | rfl | (simp; done)

theorem forcedTimeout_keeps [Fact (Part.tbl ∈ K)] [Fact (Part.host ∈ K)] [Fact (Part.cal ∈ K)] [Fact (Part.nvm ∈ K)] (s : State) (hI : Keeps K B0 s) :
    Keeps K B0 (forcedTimeout s) := by
  unfold forcedTimeout
  try dsimp only
  with_reducible repeat' first
    | assumption | apply foldl_keeps | (apply ite_keeps <;> intro _) | apply recErrLees_keeps | apply calFlag_keeps
    | (fail_if_no_progress (refine mk_keeps ?_)) | intro _ _ _ | split | rfl | (simp; done)

theorem tempTrigger_keeps [Fact (Part.cal ∈ K)] (s : State) (hI : Keeps K B0 s) :
    Keeps K B0 (tempTrigger s) := by
  unfold tempTrigger
  try dsimp only
  with_reducible repeat' first
    | assumption | apply foldl_keeps | (apply ite_keeps <;> intro _) | apply startRun_keeps
    | (fail_if_no_progress (refine mk_keeps ?_)) | intro _ _ _ | split | rfl | (simp; done)

theorem dieSample_keeps [Fact (Part.tick ∈ K)] [Fact (Part.free ∈ K)] [Fact (Part.tbl ∈ K)] [Fact (Part.host ∈ K)] [Fact (Part.bnd ∈ K)] [Fact (Part.txn ∈ K)] [Fact (Part.vine ∈ K)] [Fact (Part.enc ∈ K)] [Fact (Part.grid ∈ K)] [Fact (Part.jet ∈ K)] [Fact (Part.ing ∈ K)] [Fact (Part.hc ∈ K)] [Fact (Part.mot ∈ K)] [Fact (Part.vlv ∈ K)] [Fact (Part.vlvSel ∈ K)] [Fact (Part.rail ∈ K)] [Fact (Part.boot ∈ K)] [Fact (Part.pwr ∈ K)] [Fact (Part.cal ∈ K)] [Fact (Part.nvm ∈ K)] (t : Int) (s : State) (hI : Keeps K B0 s) :
    Keeps K B0 (dieSample t s) := by
  unfold dieSample
  try dsimp only
  with_reducible repeat' first
    | assumption | apply foldl_keeps | (apply ite_keeps <;> intro _) | apply tryRelease_keeps | apply holdCore_keeps
    | apply tempTrigger_keeps | (fail_if_no_progress (refine mk_keeps ?_)) | intro _ _ _ | split | rfl | (simp; done)

end Sys2Proof.Machine
end

