-- ==== Sys2Proof/Laws/KeepsFabric.lean ====
section
/-! SUPPORT. Every operation on transactions, boundaries, swaths and Vine keeps the good form, the queue, the straps, a
locked protected region and every part of the state it has no hand in. -/

namespace Sys2Proof.Machine

set_option Elab.async false

set_option linter.all false

variable {K : List Part} {B0 : State}

/-! ### Machine/Txn.lean -/

theorem txnLees_keeps [Fact (Part.tbl ∈ K)] [Fact (Part.host ∈ K)] [Fact (Part.nvm ∈ K)] (code : Nat) (s : State) (hI : Keeps K B0 s) :
    Keeps K B0 (txnLees code s) := by
  unfold txnLees
  try dsimp only
  with_reducible repeat' first
    | assumption | apply foldl_keeps | (apply ite_keeps <;> intro _) | apply lees_keeps
    | (fail_if_no_progress (refine mk_keeps ?_)) | intro _ _ _ | split | rfl | (simp; done)

theorem txnRefuseAt_keeps [Fact (Part.txn ∈ K)] (t a r peer : Nat) (s : State) (hI : Keeps K B0 s) :
    Keeps K B0 (txnRefuseAt t a r peer s) := by
  unfold txnRefuseAt
  try dsimp only
  with_reducible repeat' first
    | assumption | apply foldl_keeps | (apply ite_keeps <;> intro _) | (fail_if_no_progress (refine mk_keeps ?_))
    | intro _ _ _ | split | rfl | (simp; done)

theorem txnRefuse_keeps [Fact (Part.txn ∈ K)] (r : Nat) (s : State) (hI : Keeps K B0 s) :
    Keeps K B0 (txnRefuse r s) := by
  unfold txnRefuse
  try dsimp only
  with_reducible repeat' first
    | assumption | apply foldl_keeps | (apply ite_keeps <;> intro _) | apply txnRefuseAt_keeps
    | (fail_if_no_progress (refine mk_keeps ?_)) | intro _ _ _ | split | rfl | (simp; done)

theorem txnClearFault_keeps [Fact (Part.txn ∈ K)] (s : State) (hI : Keeps K B0 s) :
    Keeps K B0 (txnClearFault s) := by
  unfold txnClearFault
  try dsimp only
  with_reducible repeat' first
    | assumption | apply foldl_keeps | (apply ite_keeps <;> intro _) | (fail_if_no_progress (refine mk_keeps ?_))
    | intro _ _ _ | split | rfl | (simp; done)

theorem txnRenew_keeps [Fact (Part.txn ∈ K)] (s : State) (hI : Keeps K B0 s) :
    Keeps K B0 (txnRenew s) := by
  unfold txnRenew
  try dsimp only
  with_reducible repeat' first
    | assumption | apply foldl_keeps | (apply ite_keeps <;> intro _) | (fail_if_no_progress (refine mk_keeps ?_))
    | intro _ _ _ | split | rfl | (simp; done)

theorem sendAbort_keeps [Fact (Part.tbl ∈ K)] [Fact (Part.vine ∈ K)] (s : State) (hI : Keeps K B0 s) :
    Keeps K B0 (sendAbort s) := by
  unfold sendAbort
  try dsimp only
  with_reducible repeat' first
    | assumption | apply foldl_keeps | (apply ite_keeps <;> intro _) | apply broadcast_keeps
    | (fail_if_no_progress (refine mk_keeps ?_)) | intro _ _ _ | split | rfl | (simp; done)

theorem sendNamed_keeps [Fact (Part.tbl ∈ K)] [Fact (Part.vine ∈ K)] (op : Nat) (s : State) (hI : Keeps K B0 s) :
    Keeps K B0 (sendNamed op s) := by
  unfold sendNamed
  try dsimp only
  with_reducible repeat' first
    | assumption | apply foldl_keeps | (apply ite_keeps <;> intro _) | apply broadcast_keeps
    | (fail_if_no_progress (refine mk_keeps ?_)) | intro _ _ _ | split | rfl | (simp; done)

theorem resumeHeld_keeps [Fact (Part.tbl ∈ K)] [Fact (Part.host ∈ K)] [Fact (Part.mot ∈ K)] [Fact (Part.vlv ∈ K)] [Fact (Part.nvm ∈ K)] (old s : State) (hI : Keeps K B0 s) :
    Keeps K B0 (resumeHeld old s) := by
  unfold resumeHeld
  try dsimp only
  with_reducible repeat' first
    | assumption | apply foldl_keeps | (apply ite_keeps <;> intro _) | apply resumeAxis_keeps | apply vlvResume_keeps
    | (fail_if_no_progress (refine mk_keeps ?_)) | intro _ _ _ | split | rfl | (simp; done)

theorem txnEnd_keeps [Fact (Part.tbl ∈ K)] [Fact (Part.host ∈ K)] [Fact (Part.txn ∈ K)] [Fact (Part.vine ∈ K)] [Fact (Part.jet ∈ K)] [Fact (Part.hc ∈ K)] [Fact (Part.mot ∈ K)] [Fact (Part.vlv ∈ K)] [Fact (Part.nvm ∈ K)] (how : Nat) (s : State) (hI : Keeps K B0 s) : Keeps K B0 (txnEnd how s) := by
  unfold txnEnd
  dsimp only
  have h1 : Keeps K B0 { s with
    txn.phase := if txnRoot s && s.txn.strandedMask != 0 then .resolving else .none
    txn.cask := none, hc.again := [], txn.collecting := false, txn.votes := [], txn.present := false, txn.stage := 0
    txn.late := none, txn.leaseLeft := none } :=
    ⟨⟨hI.tbl, hI.flash, hI.ram, hI.defs, rfl, hI.enc, hI.axes, hI.vlv, hI.rails, hI.wdacs, hI.slots, hI.inputs, hI.temps, hI.reads, hI.cons, hI.ports, hI.routes, hI.v⟩, hI.queue, hI.hsel, hI.refsel, hI.seqs, hI.lock, same_mk hI⟩
  refine resumeHeld_keeps _ _ ?_
  refine ite_keeps (fun _ => ?_) (fun _ => h1)
  exact sendEvent_keeps _ _ _ _ (setTxnGate_keeps _ _ h1)

theorem v3Extend_keeps [Fact (Part.boot ∈ K)] (s : State) (hI : Keeps K B0 s) : Keeps K B0 (v3Extend s) := by
  unfold v3Extend
  split
  · exact mk_keeps hI (h18 := extend_lengths hI.v _ _)
  · exact hI

theorem afterCask_keeps [Fact (Part.tbl ∈ K)] [Fact (Part.host ∈ K)] [Fact (Part.enc ∈ K)] [Fact (Part.grid ∈ K)] [Fact (Part.jet ∈ K)] [Fact (Part.hc ∈ K)] [Fact (Part.mot ∈ K)] [Fact (Part.vlv ∈ K)] (old : State) (tt : Touched) (s : State) (hI : Keeps K B0 s) :
    Keeps K B0 (afterCask old tt s) := by
  unfold afterCask
  try dsimp only
  with_reducible repeat' first
    | assumption | apply foldl_keeps | (apply ite_keeps <;> intro _) | apply encModeDecant_keeps
    | apply axisAfterCask_keeps | apply recheckHeads_keeps | apply vlvAfterCask_keeps
    | (fail_if_no_progress (refine mk_keeps ?_)) | intro _ _ _ | split | rfl | (simp; done)

theorem decant_keeps [Fact (Part.tbl ∈ K)] [Fact (Part.host ∈ K)] [Fact (Part.txn ∈ K)] [Fact (Part.vine ∈ K)] [Fact (Part.enc ∈ K)] [Fact (Part.grid ∈ K)] [Fact (Part.jet ∈ K)] [Fact (Part.hc ∈ K)] [Fact (Part.mot ∈ K)] [Fact (Part.vlv ∈ K)] [Fact (Part.boot ∈ K)] [Fact (Part.nvm ∈ K)] (s : State) (hI : Keeps K B0 s) : Keeps K B0 (decant s) := by
  unfold decant
  split
  · exact txnEnd_keeps _ _ hI
  · rename_i k hk
    have h0 := v3Extend_keeps _ hI
    generalize v3Extend s = s0 at h0 ⊢
    dsimp only
    have h1 : Keeps K B0 (applyAgain (afterCask s0 k.touched { s0 with tbl := decantCells k s0.tbl })) :=
      applyAgain_keeps _ (afterCask_keeps _ _ _ (underCask_keeps k s0 h0))
    generalize applyAgain (afterCask s0 k.touched { s0 with tbl := decantCells k s0.tbl }) = s1 at h1 ⊢
    refine txnEnd_keeps _ _ (raise_keeps _ _ (txnLees_keeps _ _ ?_))
    refine ite_keeps (fun _ => ?_) (fun _ => ?_)
    · exact mk_keeps h1
    · exact mk_keeps h1

theorem rollback_keeps [Fact (Part.tbl ∈ K)] [Fact (Part.host ∈ K)] [Fact (Part.txn ∈ K)] [Fact (Part.vine ∈ K)] [Fact (Part.jet ∈ K)] [Fact (Part.hc ∈ K)] [Fact (Part.mot ∈ K)] [Fact (Part.vlv ∈ K)] [Fact (Part.nvm ∈ K)] (code : Nat) (s : State) (hI : Keeps K B0 s) :
    Keeps K B0 (rollback code s) := by
  unfold rollback
  try dsimp only
  with_reducible repeat' first
    | assumption | apply foldl_keeps | (apply ite_keeps <;> intro _) | apply txnLees_keeps | apply txnEnd_keeps
    | (fail_if_no_progress (refine mk_keeps ?_)) | intro _ _ _ | split | rfl | (simp; done)

theorem expire_keeps [Fact (Part.tbl ∈ K)] [Fact (Part.host ∈ K)] [Fact (Part.txn ∈ K)] [Fact (Part.vine ∈ K)] [Fact (Part.jet ∈ K)] [Fact (Part.hc ∈ K)] [Fact (Part.mot ∈ K)] [Fact (Part.vlv ∈ K)] [Fact (Part.nvm ∈ K)] (s : State) (hI : Keeps K B0 s) :
    Keeps K B0 (expire s) := by
  unfold expire
  try dsimp only
  with_reducible repeat' first
    | assumption | apply foldl_keeps | (apply ite_keeps <;> intro _) | apply raise_keeps | apply sendAbort_keeps
    | apply rollback_keeps | (fail_if_no_progress (refine mk_keeps ?_)) | intro _ _ _ | split | rfl | (simp; done)

theorem localise_keeps [Fact (Part.txn ∈ K)] (s : State) (hI : Keeps K B0 s) :
    Keeps K B0 (localise s) := by
  unfold localise
  try dsimp only
  with_reducible repeat' first
    | assumption | apply foldl_keeps | (apply ite_keeps <;> intro _) | (fail_if_no_progress (refine mk_keeps ?_))
    | intro _ _ _ | split | rfl | (simp; done)

theorem followEnds_keeps [Fact (Part.txn ∈ K)] (sw hit : Bool) (s : State) (hI : Keeps K B0 s) :
    Keeps K B0 (followEnds sw hit s) := by
  unfold followEnds
  try dsimp only
  with_reducible repeat' first
    | assumption | apply foldl_keeps | (apply ite_keeps <;> intro _) | (fail_if_no_progress (refine mk_keeps ?_))
    | intro _ _ _ | split | rfl | (simp; done)

theorem decantIfPresent_keeps [Fact (Part.tbl ∈ K)] [Fact (Part.host ∈ K)] [Fact (Part.txn ∈ K)] [Fact (Part.vine ∈ K)] [Fact (Part.enc ∈ K)] [Fact (Part.grid ∈ K)] [Fact (Part.jet ∈ K)] [Fact (Part.hc ∈ K)] [Fact (Part.mot ∈ K)] [Fact (Part.vlv ∈ K)] [Fact (Part.boot ∈ K)] [Fact (Part.nvm ∈ K)] (s : State) (hI : Keeps K B0 s) :
    Keeps K B0 (decantIfPresent s) := by
  unfold decantIfPresent
  try dsimp only
  with_reducible repeat' first
    | assumption | apply foldl_keeps | (apply ite_keeps <;> intro _) | apply decant_keeps
    | (fail_if_no_progress (refine mk_keeps ?_)) | intro _ _ _ | split | rfl | (simp; done)

theorem decide2_keeps [Fact (Part.tbl ∈ K)] [Fact (Part.host ∈ K)] [Fact (Part.txn ∈ K)] [Fact (Part.vine ∈ K)] [Fact (Part.enc ∈ K)] [Fact (Part.grid ∈ K)] [Fact (Part.jet ∈ K)] [Fact (Part.hc ∈ K)] [Fact (Part.mot ∈ K)] [Fact (Part.vlv ∈ K)] [Fact (Part.boot ∈ K)] [Fact (Part.nvm ∈ K)] (s : State) (hI : Keeps K B0 s) :
    Keeps K B0 (decide2 s) := by
  unfold decide2
  try dsimp only
  with_reducible repeat' first
    | assumption | apply foldl_keeps | (apply ite_keeps <;> intro _) | apply txnLees_keeps | apply txnRefuseAt_keeps
    | apply txnClearFault_keeps | apply sendAbort_keeps | apply sendNamed_keeps | apply rollback_keeps
    | apply decantIfPresent_keeps | (fail_if_no_progress (refine mk_keeps ?_)) | intro _ _ _ | split | rfl
    | (simp; done)

theorem takeVote_keeps [Fact (Part.tbl ∈ K)] [Fact (Part.host ∈ K)] [Fact (Part.txn ∈ K)] [Fact (Part.vine ∈ K)] [Fact (Part.enc ∈ K)] [Fact (Part.grid ∈ K)] [Fact (Part.jet ∈ K)] [Fact (Part.hc ∈ K)] [Fact (Part.mot ∈ K)] [Fact (Part.vlv ∈ K)] [Fact (Part.boot ∈ K)] [Fact (Part.nvm ∈ K)] (n : Nat) (v : Vote) (s : State) (hI : Keeps K B0 s) :
    Keeps K B0 (takeVote n v s) := by
  unfold takeVote
  try dsimp only
  with_reducible repeat' first
    | assumption | apply foldl_keeps | (apply ite_keeps <;> intro _) | apply decide2_keeps
    | (fail_if_no_progress (refine mk_keeps ?_)) | intro _ _ _ | split | rfl | (simp; done)

theorem strand_keeps [Fact (Part.tbl ∈ K)] [Fact (Part.host ∈ K)] [Fact (Part.txn ∈ K)] [Fact (Part.vine ∈ K)] [Fact (Part.jet ∈ K)] [Fact (Part.hc ∈ K)] [Fact (Part.nvm ∈ K)] (s : State) (hI : Keeps K B0 s) :
    Keeps K B0 (strand s) := by
  unfold strand
  try dsimp only
  with_reducible repeat' first
    | assumption | apply foldl_keeps | (apply ite_keeps <;> intro _) | apply raise_keeps | apply setTxnGate_keeps
    | apply sendEvent_keeps | apply txnLees_keeps | (fail_if_no_progress (refine mk_keeps ?_)) | intro _ _ _ | split
    | rfl | (simp; done)

theorem judgeNamed_keeps [Fact (Part.tbl ∈ K)] [Fact (Part.host ∈ K)] [Fact (Part.txn ∈ K)] [Fact (Part.vine ∈ K)] [Fact (Part.enc ∈ K)] [Fact (Part.grid ∈ K)] [Fact (Part.jet ∈ K)] [Fact (Part.hc ∈ K)] [Fact (Part.mot ∈ K)] [Fact (Part.vlv ∈ K)] [Fact (Part.boot ∈ K)] [Fact (Part.nvm ∈ K)] (sw ly idle : Bool) (s : State) (hI : Keeps K B0 s) :
    Keeps K B0 (judgeNamed sw ly idle s).1 := by
  unfold judgeNamed
  try dsimp only
  with_reducible repeat' first
    | assumption | apply foldl_keeps | (apply ite_keeps <;> intro _) | apply followEnds_keeps | apply decide2_keeps
    | apply strand_keeps | (fail_if_no_progress (refine mk_keeps ?_)) | intro _ _ _ | split | rfl | (simp; done)

theorem acceptCommit_keeps [Fact (Part.tbl ∈ K)] [Fact (Part.host ∈ K)] [Fact (Part.txn ∈ K)] [Fact (Part.vine ∈ K)] [Fact (Part.enc ∈ K)] [Fact (Part.grid ∈ K)] [Fact (Part.jet ∈ K)] [Fact (Part.hc ∈ K)] [Fact (Part.mot ∈ K)] [Fact (Part.vlv ∈ K)] [Fact (Part.boot ∈ K)] [Fact (Part.nvm ∈ K)] (s : State) (hI : Keeps K B0 s) :
    Keeps K B0 (acceptCommit s) := by
  unfold acceptCommit
  try dsimp only
  with_reducible repeat' first
    | assumption | apply foldl_keeps | (apply ite_keeps <;> intro _) | apply txnLees_keeps
    | apply txnClearFault_keeps | apply decant_keeps | (fail_if_no_progress (refine mk_keeps ?_)) | intro _ _ _
    | split | rfl | (simp; done)

theorem busyIf_keeps [Fact (Part.txn ∈ K)] (r : Nat) (s : State) (hI : Keeps K B0 s) :
    Keeps K B0 (busyIf r s) := by
  unfold busyIf
  try dsimp only
  with_reducible repeat' first
    | assumption | apply foldl_keeps | (apply ite_keeps <;> intro _) | (fail_if_no_progress (refine mk_keeps ?_))
    | intro _ _ _ | split | rfl | (simp; done)

theorem validated_keeps [Fact (Part.tbl ∈ K)] [Fact (Part.host ∈ K)] [Fact (Part.txn ∈ K)] [Fact (Part.vine ∈ K)] [Fact (Part.enc ∈ K)] [Fact (Part.grid ∈ K)] [Fact (Part.jet ∈ K)] [Fact (Part.hc ∈ K)] [Fact (Part.mot ∈ K)] [Fact (Part.vlv ∈ K)] [Fact (Part.boot ∈ K)] [Fact (Part.nvm ∈ K)] (s : State) (hI : Keeps K B0 s) :
    Keeps K B0 (validated s) := by
  unfold validated
  try dsimp only
  with_reducible repeat' first
    | assumption | apply foldl_keeps | (apply ite_keeps <;> intro _) | apply sendTo_keeps | apply txnLees_keeps
    | apply txnRefuseAt_keeps | apply txnRenew_keeps | apply takeVote_keeps | apply acceptCommit_keeps
    | apply busyIf_keeps | (fail_if_no_progress (refine mk_keeps ?_)) | intro _ _ _ | split | rfl | (simp; done)

theorem txnBegin_keeps [Fact (Part.tbl ∈ K)] [Fact (Part.host ∈ K)] [Fact (Part.txn ∈ K)] [Fact (Part.vine ∈ K)] [Fact (Part.nvm ∈ K)] (c : TxnCtl) (s : State) (hI : Keeps K B0 s) : Keeps K B0 (txnBegin c s) := by
  unfold txnBegin
  refine ite_keeps (fun _ => mk_keeps hI) (fun _ => ite_keeps (fun _ => txnRefuse_keeps _ _ hI) (fun _ => ?_))
  dsimp only
  refine ite_keeps (fun _ => broadcast_keeps _ _ _ _ ?_) (fun _ => ?_)
  all_goals
    refine txnLees_keeps _ _ (txnRenew_keeps _ (txnClearFault_keeps _ ?_))
    refine ⟨⟨hI.tbl, hI.flash, hI.ram, hI.defs, ?_, hI.enc, hI.axes, hI.vlv, hI.rails, hI.wdacs, hI.slots, hI.inputs, hI.temps, hI.reads, hI.cons, hI.ports, hI.routes, hI.v⟩, hI.queue, hI.hsel, hI.refsel, hI.seqs, hI.lock, same_mk hI⟩
    exact caskIte_wf (cellsWf_filter hI.tbl) rfl

theorem lateCommit_keeps [Fact (Part.tbl ∈ K)] [Fact (Part.host ∈ K)] [Fact (Part.txn ∈ K)] [Fact (Part.vine ∈ K)] [Fact (Part.nvm ∈ K)] (kind : Nat) (s : State) (hI : Keeps K B0 s) :
    Keeps K B0 (lateCommit kind s) := by
  unfold lateCommit
  try dsimp only
  with_reducible repeat' first
    | assumption | apply foldl_keeps | (apply ite_keeps <;> intro _) | apply lees_keeps | apply broadcast_keeps
    | apply txnClearFault_keeps | (fail_if_no_progress (refine mk_keeps ?_)) | intro _ _ _ | split | rfl
    | (simp; done)

theorem refuseCommit_keeps [Fact (Part.tbl ∈ K)] [Fact (Part.host ∈ K)] [Fact (Part.txn ∈ K)] [Fact (Part.nvm ∈ K)] (tag : Byte) (kind r : Nat) (s : State) (hI : Keeps K B0 s) :
    Keeps K B0 (refuseCommit tag kind r s) := by
  unfold refuseCommit
  try dsimp only
  with_reducible repeat' first
    | assumption | apply foldl_keeps | (apply ite_keeps <;> intro _) | apply lees_keeps | apply txnRefuse_keeps
    | (fail_if_no_progress (refine mk_keeps ?_)) | intro _ _ _ | split | rfl | (simp; done)

theorem txnCommit_keeps [Fact (Part.tbl ∈ K)] [Fact (Part.host ∈ K)] [Fact (Part.txn ∈ K)] [Fact (Part.vine ∈ K)] [Fact (Part.enc ∈ K)] [Fact (Part.grid ∈ K)] [Fact (Part.jet ∈ K)] [Fact (Part.hc ∈ K)] [Fact (Part.mot ∈ K)] [Fact (Part.vlv ∈ K)] [Fact (Part.boot ∈ K)] [Fact (Part.nvm ∈ K)] (c : TxnCtl) (s : State) (hI : Keeps K B0 s) :
    Keeps K B0 (txnCommit c s) := by
  unfold txnCommit
  try dsimp only
  with_reducible repeat' first
    | assumption | apply foldl_keeps | (apply ite_keeps <;> intro _) | apply sendNamed_keeps | apply localise_keeps
    | apply decide2_keeps | apply lateCommit_keeps | apply refuseCommit_keeps
    | (fail_if_no_progress (refine mk_keeps ?_)) | intro _ _ _ | split | rfl | (simp; done)

theorem txnUndo_keeps [Fact (Part.tbl ∈ K)] [Fact (Part.host ∈ K)] [Fact (Part.txn ∈ K)] [Fact (Part.vine ∈ K)] [Fact (Part.jet ∈ K)] [Fact (Part.hc ∈ K)] [Fact (Part.mot ∈ K)] [Fact (Part.vlv ∈ K)] [Fact (Part.nvm ∈ K)] (op : Nat) (s : State) (hI : Keeps K B0 s) :
    Keeps K B0 (txnUndo op s) := by
  unfold txnUndo
  try dsimp only
  with_reducible repeat' first
    | assumption | apply foldl_keeps | (apply ite_keeps <;> intro _) | apply txnLees_keeps | apply sendAbort_keeps
    | apply rollback_keeps | (fail_if_no_progress (refine mk_keeps ?_)) | intro _ _ _ | split | rfl | (simp; done)

theorem txnAct_keeps [Fact (Part.tbl ∈ K)] [Fact (Part.host ∈ K)] [Fact (Part.txn ∈ K)] [Fact (Part.vine ∈ K)] [Fact (Part.enc ∈ K)] [Fact (Part.grid ∈ K)] [Fact (Part.jet ∈ K)] [Fact (Part.hc ∈ K)] [Fact (Part.mot ∈ K)] [Fact (Part.vlv ∈ K)] [Fact (Part.boot ∈ K)] [Fact (Part.nvm ∈ K)] (op : Nat) (c : TxnCtl) (s : State) (hI : Keeps K B0 s) :
    Keeps K B0 (txnAct op c s) := by
  unfold txnAct
  try dsimp only
  with_reducible repeat' first
    | assumption | apply foldl_keeps | (apply ite_keeps <;> intro _) | apply lees_keeps | apply txnRefuse_keeps
    | apply txnRenew_keeps | apply refuseCommit_keeps | apply txnCommit_keeps | apply txnUndo_keeps
    | (fail_if_no_progress (refine mk_keeps ?_)) | intro _ _ _ | split | rfl | (simp; done)

theorem txnCtl_keeps [Fact (Part.tbl ∈ K)] [Fact (Part.host ∈ K)] [Fact (Part.txn ∈ K)] [Fact (Part.vine ∈ K)] [Fact (Part.enc ∈ K)] [Fact (Part.grid ∈ K)] [Fact (Part.jet ∈ K)] [Fact (Part.hc ∈ K)] [Fact (Part.mot ∈ K)] [Fact (Part.vlv ∈ K)] [Fact (Part.boot ∈ K)] [Fact (Part.nvm ∈ K)] (op : Nat) (c : TxnCtl) (s : State) (hI : Keeps K B0 s) :
    Keeps K B0 (txnCtl op c s) := by
  unfold txnCtl
  try dsimp only
  with_reducible repeat' first
    | assumption | apply foldl_keeps | (apply ite_keeps <;> intro _) | apply txnRefuse_keeps | apply txnRenew_keeps
    | apply txnBegin_keeps | apply refuseCommit_keeps | apply txnAct_keeps
    | (fail_if_no_progress (refine mk_keeps ?_)) | intro _ _ _ | split | rfl | (simp; done)

theorem caskWrite_keeps [Fact (Part.txn ∈ K)] (k : Cask) (t a : Nat) (d : Word) (s : State) (hk : cellsWf tblDefault 0 k.mem = true) (hI : Keeps K B0 s) : Keeps K B0 (caskWrite k t a d s) := by
  unfold caskWrite
  dsimp only
  refine txnRenew_keeps _ (caskMem_keeps hI ?_)
  intro k' h'; cases h'
  exact cellSet_wf (Nat.zero_le _) hk

theorem directWrite_keeps [Fact (Part.tbl ∈ K)] [Fact (Part.host ∈ K)] [Fact (Part.txn ∈ K)] [Fact (Part.enc ∈ K)] [Fact (Part.grid ∈ K)] [Fact (Part.jet ∈ K)] [Fact (Part.hc ∈ K)] [Fact (Part.mot ∈ K)] [Fact (Part.vlv ∈ K)] (t a : Nat) (d : Word) (s : State) (hI : Keeps K B0 s) :
    Keeps K B0 (directWrite t a d s) := by
  unfold directWrite
  try dsimp only
  with_reducible repeat' first
    | assumption | apply foldl_keeps | (apply ite_keeps <;> intro _) | apply tset_keeps | apply afterCask_keeps
    | (fail_if_no_progress (refine mk_keeps ?_)) | intro _ _ _ | split | rfl | (simp; done)

theorem ckWrite_keeps [Fact (Part.tbl ∈ K)] [Fact (Part.host ∈ K)] [Fact (Part.txn ∈ K)] [Fact (Part.enc ∈ K)] [Fact (Part.grid ∈ K)] [Fact (Part.jet ∈ K)] [Fact (Part.hc ∈ K)] [Fact (Part.mot ∈ K)] [Fact (Part.vlv ∈ K)] (t a : Nat) (d : Word) (s : State) (hI : Keeps K B0 s) : Keeps K B0 (ckWrite t a d s) := by
  unfold ckWrite
  split
  · rename_i k hk
    refine ite_keeps (fun _ => caskWrite_keeps _ _ _ _ _ ?_ hI) (fun _ => ite_keeps (fun _ => txnRefuse_keeps _ _ hI) (fun _ => directWrite_keeps _ _ _ _ hI))
    have := hI.cask
    simpa [caskWf, hk] using this
  · exact directWrite_keeps _ _ _ _ hI

theorem groupStep_keeps [Fact (Part.tbl ∈ K)] [Fact (Part.txn ∈ K)] [Fact (Part.vine ∈ K)] (h : Hdr) (mask : Nat) (f : State → State) (s : State) (hI : Keeps K B0 s) (hf : ∀ s, Keeps K B0 s → Keeps K B0 (f s)) : Keeps K B0 (groupStep h mask f s) := by
  unfold groupStep
  refine ite_keeps (fun _ => ite_keeps (fun _ => hf _ (arrived_keeps _ _ _ _ hI)) (fun _ => arrived_keeps _ _ _ _ hI)) (fun _ => hI)

theorem recvBegin_keeps [Fact (Part.tbl ∈ K)] [Fact (Part.host ∈ K)] [Fact (Part.txn ∈ K)] [Fact (Part.nvm ∈ K)] (tag lease : Nat) (s : State) (hI : Keeps K B0 s) : Keeps K B0 (recvBegin tag lease s) := by
  unfold recvBegin
  refine ite_keeps (fun _ => mk_keeps hI) (fun _ => ?_)
  dsimp only
  repeat' (first | with_reducible apply txnLees_keeps | with_reducible apply txnClearFault_keeps | with_reducible apply raise_keeps | with_reducible apply txnRenew_keeps)
  refine ⟨⟨hI.tbl, hI.flash, hI.ram, hI.defs, cellsWf_filter hI.tbl, hI.enc, hI.axes, hI.vlv, hI.rails, hI.wdacs, hI.slots, hI.inputs, hI.temps, hI.reads, hI.cons, hI.ports, hI.routes, hI.v⟩, hI.queue, hI.hsel, hI.refsel, hI.seqs, hI.lock, same_mk hI⟩

theorem recvPrepare_keeps [Fact (Part.txn ∈ K)] (tag kind : Nat) (n : Named) (s : State) (hI : Keeps K B0 s) :
    Keeps K B0 (recvPrepare tag kind n s) := by
  unfold recvPrepare
  try dsimp only
  with_reducible repeat' first
    | assumption | apply foldl_keeps | (apply ite_keeps <;> intro _) | apply localise_keeps
    | (fail_if_no_progress (refine mk_keeps ?_)) | intro _ _ _ | split | rfl | (simp; done)

theorem recvLate_keeps [Fact (Part.tbl ∈ K)] [Fact (Part.host ∈ K)] [Fact (Part.txn ∈ K)] [Fact (Part.vine ∈ K)] [Fact (Part.enc ∈ K)] [Fact (Part.grid ∈ K)] [Fact (Part.jet ∈ K)] [Fact (Part.hc ∈ K)] [Fact (Part.mot ∈ K)] [Fact (Part.vlv ∈ K)] [Fact (Part.boot ∈ K)] [Fact (Part.nvm ∈ K)] (kind : Nat) (t : BitVec 32) (s : State) (hI : Keeps K B0 s) :
    Keeps K B0 (recvLate kind t s) := by
  unfold recvLate
  try dsimp only
  with_reducible repeat' first
    | assumption | apply foldl_keeps | (apply ite_keeps <;> intro _) | apply decant_keeps
    | (fail_if_no_progress (refine mk_keeps ?_)) | intro _ _ _ | split | rfl | (simp; done)

theorem recvCommitAt_keeps [Fact (Part.tbl ∈ K)] [Fact (Part.host ∈ K)] [Fact (Part.txn ∈ K)] [Fact (Part.vine ∈ K)] [Fact (Part.enc ∈ K)] [Fact (Part.grid ∈ K)] [Fact (Part.jet ∈ K)] [Fact (Part.hc ∈ K)] [Fact (Part.mot ∈ K)] [Fact (Part.vlv ∈ K)] [Fact (Part.boot ∈ K)] [Fact (Part.nvm ∈ K)] (tag kind : Nat) (late : Bool) (n : Named) (s : State) (hI : Keeps K B0 s) :
    Keeps K B0 (recvCommitAt tag kind late n s) := by
  unfold recvCommitAt
  try dsimp only
  with_reducible repeat' first
    | assumption | apply foldl_keeps | (apply ite_keeps <;> intro _) | apply txnLees_keeps
    | apply decantIfPresent_keeps | apply recvLate_keeps | (fail_if_no_progress (refine mk_keeps ?_)) | intro _ _ _
    | split | rfl | (simp; done)

theorem recvAbort_keeps [Fact (Part.tbl ∈ K)] [Fact (Part.host ∈ K)] [Fact (Part.txn ∈ K)] [Fact (Part.vine ∈ K)] [Fact (Part.jet ∈ K)] [Fact (Part.hc ∈ K)] [Fact (Part.mot ∈ K)] [Fact (Part.vlv ∈ K)] [Fact (Part.nvm ∈ K)] (tag : Nat) (s : State) (hI : Keeps K B0 s) :
    Keeps K B0 (recvAbort tag s) := by
  unfold recvAbort
  try dsimp only
  with_reducible repeat' first
    | assumption | apply foldl_keeps | (apply ite_keeps <;> intro _) | apply rollback_keeps
    | (fail_if_no_progress (refine mk_keeps ?_)) | intro _ _ _ | split | rfl | (simp; done)

theorem recvStranded_keeps [Fact (Part.txn ∈ K)] (node tag : Nat) (s : State) (hI : Keeps K B0 s) :
    Keeps K B0 (recvStranded node tag s) := by
  unfold recvStranded
  try dsimp only
  with_reducible repeat' first
    | assumption | apply foldl_keeps | (apply ite_keeps <;> intro _) | (fail_if_no_progress (refine mk_keeps ?_))
    | intro _ _ _ | split | rfl | (simp; done)

theorem recvResolved_keeps [Fact (Part.txn ∈ K)] (node tag : Nat) (s : State) (hI : Keeps K B0 s) :
    Keeps K B0 (recvResolved node tag s) := by
  unfold recvResolved
  try dsimp only
  with_reducible repeat' first
    | assumption | apply foldl_keeps | (apply ite_keeps <;> intro _) | (fail_if_no_progress (refine mk_keeps ?_))
    | intro _ _ _ | split | rfl | (simp; done)

theorem txnReg_keeps [Fact (Part.tbl ∈ K)] [Fact (Part.host ∈ K)] [Fact (Part.txn ∈ K)] [Fact (Part.vine ∈ K)] [Fact (Part.enc ∈ K)] [Fact (Part.grid ∈ K)] [Fact (Part.jet ∈ K)] [Fact (Part.hc ∈ K)] [Fact (Part.mot ∈ K)] [Fact (Part.vlv ∈ K)] [Fact (Part.boot ∈ K)] [Fact (Part.nvm ∈ K)] (op : Nat) (c : TxnCtl) (s : State) (hI : Keeps K B0 s) :
    Keeps K B0 (txnReg op c s) := by
  unfold txnReg
  try dsimp only
  with_reducible repeat' first
    | assumption | apply foldl_keeps | (apply ite_keeps <;> intro _) | apply txnCtl_keeps
    | (fail_if_no_progress (refine mk_keeps ?_)) | intro _ _ _ | split | rfl | (simp; done)

theorem votePacket_keeps [Fact (Part.tbl ∈ K)] [Fact (Part.host ∈ K)] [Fact (Part.txn ∈ K)] [Fact (Part.vine ∈ K)] [Fact (Part.enc ∈ K)] [Fact (Part.grid ∈ K)] [Fact (Part.jet ∈ K)] [Fact (Part.hc ∈ K)] [Fact (Part.mot ∈ K)] [Fact (Part.vlv ∈ K)] [Fact (Part.boot ∈ K)] [Fact (Part.nvm ∈ K)] (h : Hdr) (tag : Byte) (v : Vote) (s : State) (hI : Keeps K B0 s) :
    Keeps K B0 (votePacket h tag v s) := by
  unfold votePacket
  try dsimp only
  with_reducible repeat' first
    | assumption | apply foldl_keeps | (apply ite_keeps <;> intro _) | apply takeUnicast_keeps | apply takeVote_keeps
    | (fail_if_no_progress (refine mk_keeps ?_)) | intro _ _ _ | split | rfl | (simp; done)

/-! ### Machine/Boundary.lean -/

theorem deferredActions_keeps [Fact (Part.free ∈ K)] [Fact (Part.tbl ∈ K)] [Fact (Part.host ∈ K)] [Fact (Part.txn ∈ K)] [Fact (Part.vine ∈ K)] [Fact (Part.enc ∈ K)] [Fact (Part.grid ∈ K)] [Fact (Part.jet ∈ K)] [Fact (Part.hc ∈ K)] [Fact (Part.mot ∈ K)] [Fact (Part.vlv ∈ K)] [Fact (Part.boot ∈ K)] [Fact (Part.cal ∈ K)] [Fact (Part.nvm ∈ K)] (sw ly idle : Bool) (s : State) (hI : Keeps K B0 s) :
    Keeps K B0 (deferredActions sw ly idle s) := by
  unfold deferredActions
  try dsimp only
  with_reducible repeat' first
    | assumption | apply foldl_keeps | (apply ite_keeps <;> intro _) | apply writebacks_keeps
    | apply unsyncedClosures_keeps | apply applyPrepared_keeps | apply correctWdacs_keeps
    | apply applyCalibration_keeps | apply decant_keeps | apply judgeNamed_keeps
    | (fail_if_no_progress (refine mk_keeps ?_)) | intro _ _ _ | split | rfl | (simp; done)

theorem boundaryEvent_keeps [Fact (Part.free ∈ K)] [Fact (Part.tbl ∈ K)] [Fact (Part.host ∈ K)] [Fact (Part.bnd ∈ K)] [Fact (Part.txn ∈ K)] [Fact (Part.vine ∈ K)] [Fact (Part.enc ∈ K)] [Fact (Part.grid ∈ K)] [Fact (Part.jet ∈ K)] [Fact (Part.hc ∈ K)] [Fact (Part.mot ∈ K)] [Fact (Part.vlv ∈ K)] [Fact (Part.boot ∈ K)] [Fact (Part.cal ∈ K)] [Fact (Part.nvm ∈ K)] (sw ly idle : Bool) (s : State) (hI : Keeps K B0 s) :
    Keeps K B0 (boundaryEvent sw ly idle s) := by
  unfold boundaryEvent
  try dsimp only
  with_reducible repeat' first
    | assumption | apply foldl_keeps | (apply ite_keeps <;> intro _) | apply raise_keeps | apply startForced_keeps
    | apply endForced_keeps | apply deferredActions_keeps | (fail_if_no_progress (refine mk_keeps ?_)) | intro _ _ _
    | split | rfl | (simp; done)

theorem declareLayer_keeps [Fact (Part.free ∈ K)] [Fact (Part.tbl ∈ K)] [Fact (Part.host ∈ K)] [Fact (Part.bnd ∈ K)] [Fact (Part.txn ∈ K)] [Fact (Part.vine ∈ K)] [Fact (Part.enc ∈ K)] [Fact (Part.grid ∈ K)] [Fact (Part.jet ∈ K)] [Fact (Part.hc ∈ K)] [Fact (Part.mot ∈ K)] [Fact (Part.vlv ∈ K)] [Fact (Part.boot ∈ K)] [Fact (Part.cal ∈ K)] [Fact (Part.nvm ∈ K)] (lo : Word) (s : State) (hI : Keeps K B0 s) :
    Keeps K B0 (declareLayer lo s) := by
  unfold declareLayer
  try dsimp only
  with_reducible repeat' first
    | assumption | apply foldl_keeps | (apply ite_keeps <;> intro _) | apply boundaryEvent_keeps
    | (fail_if_no_progress (refine mk_keeps ?_)) | intro _ _ _ | split | rfl | (simp; done)

theorem idleBoundary_keeps [Fact (Part.free ∈ K)] [Fact (Part.tbl ∈ K)] [Fact (Part.host ∈ K)] [Fact (Part.bnd ∈ K)] [Fact (Part.txn ∈ K)] [Fact (Part.vine ∈ K)] [Fact (Part.enc ∈ K)] [Fact (Part.grid ∈ K)] [Fact (Part.jet ∈ K)] [Fact (Part.hc ∈ K)] [Fact (Part.mot ∈ K)] [Fact (Part.vlv ∈ K)] [Fact (Part.boot ∈ K)] [Fact (Part.cal ∈ K)] [Fact (Part.nvm ∈ K)] (s : State) (hI : Keeps K B0 s) :
    Keeps K B0 (idleBoundary s) := by
  unfold idleBoundary
  try dsimp only
  with_reducible repeat' first
    | assumption | apply foldl_keeps | (apply ite_keeps <;> intro _) | apply boundaryEvent_keeps
    | (fail_if_no_progress (refine mk_keeps ?_)) | intro _ _ _ | split | rfl | (simp; done)

theorem swathBoundary_keeps [Fact (Part.free ∈ K)] [Fact (Part.tbl ∈ K)] [Fact (Part.host ∈ K)] [Fact (Part.bnd ∈ K)] [Fact (Part.txn ∈ K)] [Fact (Part.vine ∈ K)] [Fact (Part.enc ∈ K)] [Fact (Part.grid ∈ K)] [Fact (Part.jet ∈ K)] [Fact (Part.hc ∈ K)] [Fact (Part.mot ∈ K)] [Fact (Part.vlv ∈ K)] [Fact (Part.boot ∈ K)] [Fact (Part.cal ∈ K)] [Fact (Part.nvm ∈ K)] (layer : BitVec 32) (swath : Word) (s : State) (hI : Keeps K B0 s) :
    Keeps K B0 (swathBoundary layer swath s) := by
  unfold swathBoundary
  try dsimp only
  with_reducible repeat' first
    | assumption | apply foldl_keeps | (apply ite_keeps <;> intro _) | apply boundaryEvent_keeps
    | (fail_if_no_progress (refine mk_keeps ?_)) | intro _ _ _ | split | rfl | (simp; done)

/-! ### Machine/Swath.lean -/

theorem ingFlag_keeps [Fact (Part.host ∈ K)] [Fact (Part.ing ∈ K)] {f : Ingest → Ingest} {s : State} (hI : Keeps K B0 s) (hf : (f s.ing).slots.length = s.ing.slots.length) : Keeps K B0 (ingFlag f s) := by
  unfold ingFlag
  exact raise_keeps _ _ (mk_keeps hI (h11 := hf))

theorem ingRefuse_keeps [Fact (Part.host ∈ K)] [Fact (Part.ing ∈ K)] (s : State) (hI : Keeps K B0 s) :
    Keeps K B0 (ingRefuse s) := by
  unfold ingRefuse
  try dsimp only
  with_reducible repeat' first
    | assumption | apply foldl_keeps | (apply ite_keeps <;> intro _) | apply ingErr_keeps | apply ingFlag_keeps
    | (fail_if_no_progress (refine mk_keeps ?_)) | intro _ _ _ | split | rfl | (simp; done)

theorem staleBlock_keeps [Fact (Part.tbl ∈ K)] [Fact (Part.host ∈ K)] (s : State) (hI : Keeps K B0 s) :
    Keeps K B0 (staleBlock s) := by
  unfold staleBlock
  try dsimp only
  with_reducible repeat' first
    | assumption | apply foldl_keeps | (apply ite_keeps <;> intro _) | apply bump_keeps | apply ingErr_keeps
    | (fail_if_no_progress (refine mk_keeps ?_)) | intro _ _ _ | split | rfl | (simp; done)

theorem setSlot_keeps [Fact (Part.ing ∈ K)] (sl : Nat) (f : Slot → Slot) (s : State) (hI : Keeps K B0 s) :
    Keeps K B0 (setSlot sl f s) := by
  unfold setSlot
  try dsimp only
  with_reducible repeat' first
    | assumption | apply foldl_keeps | (apply ite_keeps <;> intro _) | (fail_if_no_progress (refine mk_keeps ?_))
    | intro _ _ _ | split | rfl | (simp; done)

theorem slotGap_keeps [Fact (Part.tbl ∈ K)] [Fact (Part.host ∈ K)] [Fact (Part.ing ∈ K)] (sl : Nat) (s : State) (hI : Keeps K B0 s) :
    Keeps K B0 (slotGap sl s) := by
  unfold slotGap
  try dsimp only
  with_reducible repeat' first
    | assumption | apply foldl_keeps | (apply ite_keeps <;> intro _) | apply bump_keeps | apply ingErr_keeps
    | apply ingFlag_keeps | apply setSlot_keeps | (fail_if_no_progress (refine mk_keeps ?_)) | intro _ _ _ | split
    | rfl | (simp; done)

theorem fillSlot_keeps [Fact (Part.tbl ∈ K)] [Fact (Part.swathRam ∈ K)] [Fact (Part.host ∈ K)] [Fact (Part.ing ∈ K)] (sl : Nat) (data : List Byte) (s : State) (hI : Keeps K B0 s) : Keeps K B0 (fillSlot sl data s) := by
  unfold fillSlot
  have hr : Keeps K B0 { s with swathRam := cellSetRun ramDefault (slotBase s sl + (slotOf s sl).fill) (data.take (min (descBytes s sl) (slotSize s sl) - (slotOf s sl).fill)) s.swathRam } :=
    ⟨⟨hI.tbl, hI.flash, cellSetRun_wf hI.ram, hI.defs, hI.cask, hI.enc, hI.axes, hI.vlv, hI.rails, hI.wdacs, hI.slots, hI.inputs, hI.temps, hI.reads, hI.cons, hI.ports, hI.routes, hI.v⟩, hI.queue, hI.hsel, hI.refsel, hI.seqs, hI.lock, same_mk hI⟩
  dsimp only
  exact ite_keeps (fun _ => ingErr_keeps _ _ (bump_keeps _ _ _ (setSlot_keeps _ _ _ hr))) (fun _ => setSlot_keeps _ _ _ hr)

theorem placeBlock_keeps [Fact (Part.tbl ∈ K)] [Fact (Part.swathRam ∈ K)] [Fact (Part.host ∈ K)] [Fact (Part.ing ∈ K)] (b : DataBlock) (s : State) (hI : Keeps K B0 s) :
    Keeps K B0 (placeBlock b s) := by
  unfold placeBlock
  try dsimp only
  with_reducible repeat' first
    | assumption | apply foldl_keeps | (apply ite_keeps <;> intro _) | apply slotGap_keeps | apply fillSlot_keeps
    | (fail_if_no_progress (refine mk_keeps ?_)) | intro _ _ _ | split | rfl | (simp; done)

theorem takeBlock_keeps [Fact (Part.tbl ∈ K)] [Fact (Part.swathRam ∈ K)] [Fact (Part.host ∈ K)] [Fact (Part.ing ∈ K)] (b : DataBlock) (s t : State) (hI : Keeps K B0 s) (h : takeBlock b s = some t) : Keeps K B0 t := by
  unfold takeBlock at h
  dsimp only at h
  (repeat' split at h)
  all_goals first
    | (cases h; done)
    | (injection h with h; subst h
       first
        | exact staleBlock_keeps _ hI
        | exact placeBlock_keeps _ _ hI
        | exact ite_keeps (fun _ => placeBlock_keeps _ _ hI) (fun _ => staleBlock_keeps _ hI))

theorem routeBlock_keeps [Fact (Part.tbl ∈ K)] [Fact (Part.swathRam ∈ K)] [Fact (Part.host ∈ K)] [Fact (Part.vine ∈ K)] [Fact (Part.ing ∈ K)] (n : Nat) (b : DataBlock) (s t : State) (hI : Keeps K B0 s) (h : routeBlock n b s = some t) : Keeps K B0 t := by
  unfold routeBlock at h
  dsimp only at h
  split at h
  · exact takeBlock_keeps _ _ _ hI h
  · split at h
    · injection h with h; subst h; exact staleBlock_keeps _ hI
    · split at h
      · cases h
      · injection h with h; subst h; exact sendTo_keeps _ _ _ _ _ hI

theorem drainFifo_keeps [Fact (Part.tbl ∈ K)] [Fact (Part.swathRam ∈ K)] [Fact (Part.host ∈ K)] [Fact (Part.vine ∈ K)] [Fact (Part.ing ∈ K)] : ∀ (l : List (Nat × DataBlock)) (s : State), Keeps K B0 s → Keeps K B0 (drainFifo l s)
  | [], _, h => mk_keeps h
  | (n, b) :: rest, s, h => by
    unfold drainFifo
    split
    · exact drainFifo_keeps rest _ (routeBlock_keeps _ _ _ _ h ‹_›)
    · exact mk_keeps h

theorem freeBulk_keeps [Fact (Part.tbl ∈ K)] [Fact (Part.vine ∈ K)] (p : Nat) (b : DataBlock) (s : State) (hI : Keeps K B0 s) :
    Keeps K B0 (freeBulk p b s) := by
  unfold freeBulk
  try dsimp only
  with_reducible repeat' first
    | assumption | apply foldl_keeps | (apply ite_keeps <;> intro _) | apply setPort_keeps | apply creditBack_keeps
    | (fail_if_no_progress (refine mk_keeps ?_)) | intro _ _ _ | split | rfl | (simp; done)

theorem drainHeld_keeps [Fact (Part.tbl ∈ K)] [Fact (Part.swathRam ∈ K)] [Fact (Part.host ∈ K)] [Fact (Part.vine ∈ K)] [Fact (Part.ing ∈ K)] : ∀ (l : List (Nat × DataBlock)) (s : State), Keeps K B0 s → Keeps K B0 (drainHeld l s)
  | [], _, h => mk_keeps h
  | (p, b) :: rest, s, h => by
    unfold drainHeld
    split
    · exact drainHeld_keeps rest _ (freeBulk_keeps _ _ _ (takeBlock_keeps _ _ _ h ‹_›))
    · exact mk_keeps (drainHeld_keeps rest _ h)

theorem hvRdyTo_keeps [Fact (Part.host ∈ K)] [Fact (Part.ing ∈ K)] (r : Bool) (s : State) (hI : Keeps K B0 s) :
    Keeps K B0 (hvRdyTo r s) := by
  unfold hvRdyTo
  try dsimp only
  with_reducible repeat' first
    | assumption | apply foldl_keeps | (apply ite_keeps <;> intro _) | apply ingFlag_keeps
    | (fail_if_no_progress (refine mk_keeps ?_)) | intro _ _ _ | split | rfl | (simp; done)

theorem hvEdge_keeps [Fact (Part.host ∈ K)] [Fact (Part.ing ∈ K)] (s : State) (hI : Keeps K B0 s) :
    Keeps K B0 (hvEdge s) := by
  unfold hvEdge
  try dsimp only
  with_reducible repeat' first
    | assumption | apply foldl_keeps | (apply ite_keeps <;> intro _) | apply hvRdyTo_keeps
    | (fail_if_no_progress (refine mk_keeps ?_)) | intro _ _ _ | split | rfl | (simp; done)

theorem badBlock_keeps [Fact (Part.tbl ∈ K)] [Fact (Part.host ∈ K)] [Fact (Part.ing ∈ K)] (s : State) (hI : Keeps K B0 s) :
    Keeps K B0 (badBlock s) := by
  unfold badBlock
  try dsimp only
  with_reducible repeat' first
    | assumption | apply foldl_keeps | (apply ite_keeps <;> intro _) | apply bump_keeps | apply ingErr_keeps
    | apply ingFlag_keeps | (fail_if_no_progress (refine mk_keeps ?_)) | intro _ _ _ | split | rfl | (simp; done)

theorem checkBlock_keeps [Fact (Part.tbl ∈ K)] [Fact (Part.swathRam ∈ K)] [Fact (Part.host ∈ K)] [Fact (Part.vine ∈ K)] [Fact (Part.ing ∈ K)] (ws : List Word) (s : State) (hI : Keeps K B0 s) : Keeps K B0 (checkBlock ws s) := by
  unfold checkBlock
  exact ite_keeps (fun _ => badBlock_keeps _ hI) (fun _ => drainFifo_keeps _ _ (mk_keeps hI))

theorem takeWord_keeps [Fact (Part.tbl ∈ K)] [Fact (Part.swathRam ∈ K)] [Fact (Part.host ∈ K)] [Fact (Part.vine ∈ K)] [Fact (Part.ing ∈ K)] (w : Word) (s : State) (hI : Keeps K B0 s) :
    Keeps K B0 (takeWord w s) := by
  unfold takeWord
  try dsimp only
  with_reducible repeat' first
    | assumption | apply foldl_keeps | (apply ite_keeps <;> intro _) | apply bump_keeps | apply badBlock_keeps
    | apply checkBlock_keeps | (fail_if_no_progress (refine mk_keeps ?_)) | intro _ _ _ | split | rfl | (simp; done)

theorem harvestEdge_keeps [Fact (Part.tbl ∈ K)] [Fact (Part.swathRam ∈ K)] [Fact (Part.host ∈ K)] [Fact (Part.vine ∈ K)] [Fact (Part.ing ∈ K)] (s : State) (x : Option Word) (hI : Keeps K B0 s) :
    Keeps K B0 (harvestEdge s x) := by
  unfold harvestEdge
  try dsimp only
  with_reducible repeat' first
    | assumption | apply foldl_keeps | (apply ite_keeps <;> intro _) | apply bump_keeps | apply ingErr_keeps
    | apply ingFlag_keeps | apply hvEdge_keeps | apply takeWord_keeps | (fail_if_no_progress (refine mk_keeps ?_))
    | intro _ _ _ | split | rfl | (simp; done)

theorem hvClock_keeps [Fact (Part.host ∈ K)] [Fact (Part.ing ∈ K)] (s : State) (hI : Keeps K B0 s) :
    Keeps K B0 (hvClock s) := by
  unfold hvClock
  try dsimp only
  with_reducible repeat' first
    | assumption | apply foldl_keeps | (apply ite_keeps <;> intro _) | apply hvEdge_keeps
    | (fail_if_no_progress (refine mk_keeps ?_)) | intro _ _ _ | split | rfl | (simp; done)

theorem newHead_keeps [Fact (Part.ing ∈ K)] (s : State) (hI : Keeps K B0 s) :
    Keeps K B0 (newHead s) := by
  unfold newHead
  try dsimp only
  with_reducible repeat' first
    | assumption | apply foldl_keeps | (apply ite_keeps <;> intro _) | (fail_if_no_progress (refine mk_keeps ?_))
    | intro _ _ _ | split | rfl | (simp; done)

theorem armOp_keeps [Fact (Part.host ∈ K)] [Fact (Part.ing ∈ K)] (sl : Nat) (s : State) (hI : Keeps K B0 s) :
    Keeps K B0 (armOp sl s) := by
  unfold armOp
  try dsimp only
  with_reducible repeat' first
    | assumption | apply foldl_keeps | (apply ite_keeps <;> intro _) | apply ingRefuse_keeps | apply setSlot_keeps
    | apply newHead_keeps | (fail_if_no_progress (refine mk_keeps ?_)) | intro _ _ _ | split | rfl | (simp; done)

theorem gridSwathEnd_keeps [Fact (Part.host ∈ K)] [Fact (Part.grid ∈ K)] [Fact (Part.jet ∈ K)] [Fact (Part.hc ∈ K)] (s : State) (hI : Keeps K B0 s) :
    Keeps K B0 (gridSwathEnd s) := by
  unfold gridSwathEnd
  try dsimp only
  with_reducible repeat' first
    | assumption | apply foldl_keeps | (apply ite_keeps <;> intro _) | apply gridUnlock_keeps | apply gridGate_keeps
    | (fail_if_no_progress (refine mk_keeps ?_)) | intro _ _ _ | split | rfl | (simp; done)

theorem endSwath_keeps [Fact (Part.free ∈ K)] [Fact (Part.tbl ∈ K)] [Fact (Part.host ∈ K)] [Fact (Part.bnd ∈ K)] [Fact (Part.txn ∈ K)] [Fact (Part.vine ∈ K)] [Fact (Part.enc ∈ K)] [Fact (Part.grid ∈ K)] [Fact (Part.jet ∈ K)] [Fact (Part.ing ∈ K)] [Fact (Part.hc ∈ K)] [Fact (Part.mot ∈ K)] [Fact (Part.vlv ∈ K)] [Fact (Part.boot ∈ K)] [Fact (Part.cal ∈ K)] [Fact (Part.nvm ∈ K)] (s : State) (hI : Keeps K B0 s) :
    Keeps K B0 (endSwath s) := by
  unfold endSwath
  try dsimp only
  with_reducible repeat' first
    | assumption | apply foldl_keeps | (apply ite_keeps <;> intro _) | apply writeRecord_keeps
    | apply swathBoundary_keeps | apply setSlot_keeps | apply gridSwathEnd_keeps
    | (fail_if_no_progress (refine mk_keeps ?_)) | intro _ _ _ | split | rfl | (simp; done)

theorem cancelOp_keeps [Fact (Part.free ∈ K)] [Fact (Part.tbl ∈ K)] [Fact (Part.host ∈ K)] [Fact (Part.bnd ∈ K)] [Fact (Part.txn ∈ K)] [Fact (Part.vine ∈ K)] [Fact (Part.enc ∈ K)] [Fact (Part.grid ∈ K)] [Fact (Part.jet ∈ K)] [Fact (Part.ing ∈ K)] [Fact (Part.hc ∈ K)] [Fact (Part.mot ∈ K)] [Fact (Part.vlv ∈ K)] [Fact (Part.boot ∈ K)] [Fact (Part.cal ∈ K)] [Fact (Part.nvm ∈ K)] (sl : Nat) (s : State) (hI : Keeps K B0 s) :
    Keeps K B0 (cancelOp sl s) := by
  unfold cancelOp
  try dsimp only
  with_reducible repeat' first
    | assumption | apply foldl_keeps | (apply ite_keeps <;> intro _) | apply onActiveRec_keeps
    | apply ingRefuse_keeps | apply setSlot_keeps | apply newHead_keeps | apply endSwath_keeps
    | (fail_if_no_progress (refine mk_keeps ?_)) | intro _ _ _ | split | rfl | (simp; done)

theorem hvSwitch_keeps [Fact (Part.ing ∈ K)] (on : Bool) (s : State) (hI : Keeps K B0 s) :
    Keeps K B0 (hvSwitch on s) := by
  unfold hvSwitch
  try dsimp only
  with_reducible repeat' first
    | assumption | apply foldl_keeps | (apply ite_keeps <;> intro _) | (fail_if_no_progress (refine mk_keeps ?_))
    | intro _ _ _ | split | rfl | (simp; done)

theorem ingCmd_keeps [Fact (Part.free ∈ K)] [Fact (Part.tbl ∈ K)] [Fact (Part.host ∈ K)] [Fact (Part.bnd ∈ K)] [Fact (Part.txn ∈ K)] [Fact (Part.vine ∈ K)] [Fact (Part.enc ∈ K)] [Fact (Part.grid ∈ K)] [Fact (Part.jet ∈ K)] [Fact (Part.ing ∈ K)] [Fact (Part.hc ∈ K)] [Fact (Part.mot ∈ K)] [Fact (Part.vlv ∈ K)] [Fact (Part.boot ∈ K)] [Fact (Part.cal ∈ K)] [Fact (Part.nvm ∈ K)] (op sl : Nat) (s : State) (hI : Keeps K B0 s) :
    Keeps K B0 (ingCmd op sl s) := by
  unfold ingCmd
  try dsimp only
  with_reducible repeat' first
    | assumption | apply foldl_keeps | (apply ite_keeps <;> intro _) | apply ingRefuse_keeps | apply armOp_keeps
    | apply cancelOp_keeps | apply hvSwitch_keeps | (fail_if_no_progress (refine mk_keeps ?_)) | intro _ _ _ | split
    | rfl | (simp; done)

theorem ingWrite_keeps [Fact (Part.free ∈ K)] [Fact (Part.tbl ∈ K)] [Fact (Part.host ∈ K)] [Fact (Part.bnd ∈ K)] [Fact (Part.txn ∈ K)] [Fact (Part.vine ∈ K)] [Fact (Part.enc ∈ K)] [Fact (Part.grid ∈ K)] [Fact (Part.jet ∈ K)] [Fact (Part.ing ∈ K)] [Fact (Part.hc ∈ K)] [Fact (Part.mot ∈ K)] [Fact (Part.vlv ∈ K)] [Fact (Part.boot ∈ K)] [Fact (Part.cal ∈ K)] [Fact (Part.nvm ∈ K)] (op sl : Nat) (s : State) (hI : Keeps K B0 s) :
    Keeps K B0 (ingWrite op sl s) := by
  unfold ingWrite
  try dsimp only
  with_reducible repeat' first
    | assumption | apply foldl_keeps | (apply ite_keeps <;> intro _) | apply holdCmd_keeps | apply ingCmd_keeps
    | (fail_if_no_progress (refine mk_keeps ?_)) | intro _ _ _ | split | rfl | (simp; done)

theorem ingReg_keeps [Fact (Part.free ∈ K)] [Fact (Part.tbl ∈ K)] [Fact (Part.host ∈ K)] [Fact (Part.bnd ∈ K)] [Fact (Part.txn ∈ K)] [Fact (Part.vine ∈ K)] [Fact (Part.enc ∈ K)] [Fact (Part.grid ∈ K)] [Fact (Part.jet ∈ K)] [Fact (Part.ing ∈ K)] [Fact (Part.hc ∈ K)] [Fact (Part.mot ∈ K)] [Fact (Part.vlv ∈ K)] [Fact (Part.boot ∈ K)] [Fact (Part.pwr ∈ K)] [Fact (Part.cal ∈ K)] [Fact (Part.nvm ∈ K)] (op sl : Nat) (s : State) (hI : Keeps K B0 s) :
    Keeps K B0 (ingReg op sl s) := by
  unfold ingReg
  try dsimp only
  with_reducible repeat' first
    | assumption | apply foldl_keeps | (apply ite_keeps <;> intro _) | apply routedOp_keeps | apply ingWrite_keeps
    | (fail_if_no_progress (refine mk_keeps ?_)) | intro _ _ _ | split | rfl | (simp; done)

theorem ingCounter_keeps [Fact (Part.tbl ∈ K)] [Fact (Part.ing ∈ K)] (a : Nat) (s : State) (hI : Keeps K B0 s) :
    Keeps K B0 (ingCounter a s) := by
  unfold ingCounter
  try dsimp only
  with_reducible repeat' first
    | assumption | apply foldl_keeps | (apply ite_keeps <;> intro _) | apply tset_keeps
    | (fail_if_no_progress (refine mk_keeps ?_)) | intro _ _ _ | split | rfl | (simp; done)

theorem descriptorWrite_keeps [Fact (Part.tbl ∈ K)] [Fact (Part.host ∈ K)] [Fact (Part.ing ∈ K)] (a : Nat) (raw : Word) (s : State) (hI : Keeps K B0 s) :
    Keeps K B0 (descriptorWrite a raw s) := by
  unfold descriptorWrite
  try dsimp only
  with_reducible repeat' first
    | assumption | apply foldl_keeps | (apply ite_keeps <;> intro _) | apply tset_keeps | apply ingRefuse_keeps
    | apply setSlot_keeps | (fail_if_no_progress (refine mk_keeps ?_)) | intro _ _ _ | split | rfl | (simp; done)

theorem admitSlot_keeps [Fact (Part.tbl ∈ K)] [Fact (Part.host ∈ K)] [Fact (Part.bnd ∈ K)] [Fact (Part.grid ∈ K)] [Fact (Part.jet ∈ K)] [Fact (Part.ing ∈ K)] [Fact (Part.hc ∈ K)] [Fact (Part.mot ∈ K)] (sl v : Nat) (s : State) (hI : Keeps K B0 s) :
    Keeps K B0 (admitSlot sl v s) := by
  unfold admitSlot
  try dsimp only
  with_reducible repeat' first
    | assumption | apply foldl_keeps | (apply ite_keeps <;> intro _) | apply bump_keeps | apply raise_keeps
    | apply addPermit_keeps | apply gridGate_keeps | apply relayAtAdmission_keeps | apply ingFlag_keeps
    | apply setSlot_keeps | apply newHead_keeps | (fail_if_no_progress (refine mk_keeps ?_)) | intro _ _ _ | split
    | rfl | (simp; done)

theorem layerMismatch_keeps [Fact (Part.host ∈ K)] [Fact (Part.ing ∈ K)] (sl : Nat) (s : State) (hI : Keeps K B0 s) :
    Keeps K B0 (layerMismatch sl s) := by
  unfold layerMismatch
  try dsimp only
  with_reducible repeat' first
    | assumption | apply foldl_keeps | (apply ite_keeps <;> intro _) | apply ingErr_keeps | apply ingFlag_keeps
    | (fail_if_no_progress (refine mk_keeps ?_)) | intro _ _ _ | split | rfl | (simp; done)

theorem noteForcedTest_keeps [Fact (Part.cal ∈ K)] (s : State) (hI : Keeps K B0 s) :
    Keeps K B0 (noteForcedTest s) := by
  unfold noteForcedTest
  try dsimp only
  with_reducible repeat' first
    | assumption | apply foldl_keeps | (apply ite_keeps <;> intro _) | (fail_if_no_progress (refine mk_keeps ?_))
    | intro _ _ _ | split | rfl | (simp; done)

theorem tryAdmit_keeps [Fact (Part.tbl ∈ K)] [Fact (Part.host ∈ K)] [Fact (Part.bnd ∈ K)] [Fact (Part.grid ∈ K)] [Fact (Part.jet ∈ K)] [Fact (Part.ing ∈ K)] [Fact (Part.hc ∈ K)] [Fact (Part.mot ∈ K)] [Fact (Part.cal ∈ K)] (s : State) (hI : Keeps K B0 s) :
    Keeps K B0 (tryAdmit s) := by
  unfold tryAdmit
  try dsimp only
  with_reducible repeat' first
    | assumption | apply foldl_keeps | (apply ite_keeps <;> intro _) | apply admitSlot_keeps
    | apply layerMismatch_keeps | apply noteForcedTest_keeps | (fail_if_no_progress (refine mk_keeps ?_))
    | intro _ _ _ | split | rfl | (simp; done)

theorem takeAdmit_keeps [Fact (Part.ing ∈ K)] (v : Nat) (s : State) (hI : Keeps K B0 s) :
    Keeps K B0 (takeAdmit v s) := by
  unfold takeAdmit
  try dsimp only
  with_reducible repeat' first
    | assumption | apply foldl_keeps | (apply ite_keeps <;> intro _) | (fail_if_no_progress (refine mk_keeps ?_))
    | intro _ _ _ | split | rfl | (simp; done)

theorem rootJudge_keeps [Fact (Part.free ∈ K)] [Fact (Part.tbl ∈ K)] [Fact (Part.host ∈ K)] [Fact (Part.vine ∈ K)] [Fact (Part.ing ∈ K)] [Fact (Part.mot ∈ K)] (s : State) (hI : Keeps K B0 s) :
    Keeps K B0 (rootJudge s) := by
  unfold rootJudge
  try dsimp only
  with_reducible repeat' first
    | assumption | apply foldl_keeps | (apply ite_keeps <;> intro _) | apply broadcast_keeps | apply addPermit_keeps
    | apply ingErr_keeps | apply ingFlag_keeps | apply takeAdmit_keeps | (fail_if_no_progress (refine mk_keeps ?_))
    | intro _ _ _ | split | rfl | (simp; done)

theorem takeReport_keeps [Fact (Part.free ∈ K)] [Fact (Part.tbl ∈ K)] [Fact (Part.host ∈ K)] [Fact (Part.vine ∈ K)] [Fact (Part.ing ∈ K)] [Fact (Part.mot ∈ K)] (n sw v f : Nat) (s : State) (hI : Keeps K B0 s) :
    Keeps K B0 (takeReport n sw v f s) := by
  unfold takeReport
  try dsimp only
  with_reducible repeat' first
    | assumption | apply foldl_keeps | (apply ite_keeps <;> intro _) | apply rootJudge_keeps
    | (fail_if_no_progress (refine mk_keeps ?_)) | intro _ _ _ | split | rfl | (simp; done)

theorem sendReport_keeps [Fact (Part.free ∈ K)] [Fact (Part.tbl ∈ K)] [Fact (Part.host ∈ K)] [Fact (Part.vine ∈ K)] [Fact (Part.ing ∈ K)] [Fact (Part.mot ∈ K)] (sl v f : Nat) (s : State) (hI : Keeps K B0 s) :
    Keeps K B0 (sendReport sl v f s) := by
  unfold sendReport
  try dsimp only
  with_reducible repeat' first
    | assumption | apply foldl_keeps | (apply ite_keeps <;> intro _) | apply sendTo_keeps | apply takeReport_keeps
    | (fail_if_no_progress (refine mk_keeps ?_)) | intro _ _ _ | split | rfl | (simp; done)

theorem reportHead_keeps [Fact (Part.free ∈ K)] [Fact (Part.tbl ∈ K)] [Fact (Part.host ∈ K)] [Fact (Part.vine ∈ K)] [Fact (Part.ing ∈ K)] [Fact (Part.mot ∈ K)] (s : State) (hI : Keeps K B0 s) :
    Keeps K B0 (reportHead s) := by
  unfold reportHead
  try dsimp only
  with_reducible repeat' first
    | assumption | apply foldl_keeps | (apply ite_keeps <;> intro _) | apply sendReport_keeps
    | (fail_if_no_progress (refine mk_keeps ?_)) | intro _ _ _ | split | rfl | (simp; done)

theorem vineErr_keeps [Fact (Part.host ∈ K)] (code : Nat) (s : State) (hI : Keeps K B0 s) :
    Keeps K B0 (vineErr code s) := by
  unfold vineErr
  try dsimp only
  with_reducible repeat' first
    | assumption | apply foldl_keeps | (apply ite_keeps <;> intro _) | apply recErr_keeps
    | (fail_if_no_progress (refine mk_keeps ?_)) | intro _ _ _ | split | rfl | (simp; done)

theorem bulkSeq_keeps [Fact (Part.vine ∈ K)] (h : Hdr) (s : State) (hI : Keeps K B0 s) :
    Keeps K B0 (bulkSeq h s).2 := by
  unfold bulkSeq
  try dsimp only
  with_reducible repeat' first
    | assumption | apply foldl_keeps | (apply ite_keeps <;> intro _) | (fail_if_no_progress (refine mk_keeps ?_))
    | intro _ _ _ | split | rfl | (simp; done)

theorem recvBulk_keeps [Fact (Part.tbl ∈ K)] [Fact (Part.swathRam ∈ K)] [Fact (Part.host ∈ K)] [Fact (Part.txn ∈ K)] [Fact (Part.vine ∈ K)] [Fact (Part.ing ∈ K)] (p : Nat) (h : Hdr) (b : DataBlock) (s : State) (hI : Keeps K B0 s) : Keeps K B0 (recvBulk p h b s) := by
  unfold recvBulk
  refine ite_keeps (fun _ => vineErr_keeps _ _ (linkCount_keeps _ _ _ hI)) (fun _ => ?_)
  dsimp only
  have hq := bulkSeq_keeps h _ (heardFrom_keeps h.src.toNat _ (bump32_keeps 0x13 (16 * p + 8) _ hI))
  generalize (bulkSeq h (heardFrom h.src.toNat (bump32 0x13 (16 * p + 8) s))) = q at hq ⊢
  have h2 : Keeps K B0 (drainHeld (if q.1 then slotGap b.slot.toNat (vineErr 0x0C (linkCount p 6 q.2)) else q.2).ing.vineHeld (setPort p (fun x => { x with used2 := x.used2 + blockUnits b }) (if q.1 then slotGap b.slot.toNat (vineErr 0x0C (linkCount p 6 q.2)) else q.2))) :=
    drainHeld_keeps _ _ (setPort_keeps _ _ _ (ite_keeps (fun _ => slotGap_keeps _ _ (vineErr_keeps _ _ (linkCount_keeps _ _ _ hq))) (fun _ => hq)))
  split
  · exact freeBulk_keeps _ _ _ (takeBlock_keeps _ _ _ h2 ‹_›)
  · exact ingFlag_keeps h2 rfl

theorem starve_keeps [Fact (Part.host ∈ K)] [Fact (Part.ing ∈ K)] (s : State) (hI : Keeps K B0 s) :
    Keeps K B0 (starve s) := by
  unfold starve
  try dsimp only
  with_reducible repeat' first
    | assumption | apply foldl_keeps | (apply ite_keeps <;> intro _) | apply ingErr_keeps | apply ingFlag_keeps
    | (fail_if_no_progress (refine mk_keeps ?_)) | intro _ _ _ | split | rfl | (simp; done)

/-! ### Machine/Vine.lean -/

theorem fabIrq_keeps [Fact (Part.host ∈ K)] (s : State) (hI : Keeps K B0 s) :
    Keeps K B0 (fabIrq s) := by
  unfold fabIrq
  try dsimp only
  with_reducible repeat' first
    | assumption | apply foldl_keeps | (apply ite_keeps <;> intro _) | apply raise_keeps
    | (fail_if_no_progress (refine mk_keeps ?_)) | intro _ _ _ | split | rfl | (simp; done)

theorem setVine_keeps [Fact (Part.vine ∈ K)] {f : Vine → Vine} {s : State} (hI : Keeps K B0 s) (hp : (f s.vine).ports.length = s.vine.ports.length) (hr : (f s.vine).routes.length = s.vine.routes.length) : Keeps K B0 (setVine f s) := by
  unfold setVine
  exact mk_keeps hI (h16 := hp) (h17 := hr)

theorem linkPacket_keeps [Fact (Part.tbl ∈ K)] [Fact (Part.vine ∈ K)] (p type : Nat) (words : List Word) (s : State) (hI : Keeps K B0 s) :
    Keeps K B0 (linkPacket p type words s) := by
  unfold linkPacket
  try dsimp only
  with_reducible repeat' first
    | assumption | apply foldl_keeps | (apply ite_keeps <;> intro _) | apply nextSeq_keeps | apply sendOn_keeps
    | (fail_if_no_progress (refine mk_keeps ?_)) | intro _ _ _ | split | rfl | (simp; done)

theorem applyRoute_keeps [Fact (Part.vine ∈ K)] (ws : List Word) (s : State) (hI : Keeps K B0 s) : Keeps K B0 (applyRoute ws s) := by
  unfold applyRoute
  refine setVine_keeps hI rfl ?_
  simp [hI.routes]

theorem sendRoutes_keeps [Fact (Part.tbl ∈ K)] [Fact (Part.vine ∈ K)] (t : List Branch) (ns : List Nat) (s : State) (hI : Keeps K B0 s) :
    Keeps K B0 (sendRoutes t ns s) := by
  unfold sendRoutes
  try dsimp only
  with_reducible repeat' first
    | assumption | apply foldl_keeps | (apply ite_keeps <;> intro _) | apply sendTo_keeps
    | (fail_if_no_progress (refine mk_keeps ?_)) | intro _ _ _ | split | rfl | (simp; done)

theorem distribute_keeps [Fact (Part.tbl ∈ K)] [Fact (Part.vine ∈ K)] (old new : List Link) (s : State) (hI : Keeps K B0 s) :
    Keeps K B0 (distribute old new s) := by
  unfold distribute
  try dsimp only
  with_reducible repeat' first
    | assumption | apply foldl_keeps | (apply ite_keeps <;> intro _) | apply applyRoute_keeps
    | apply sendRoutes_keeps | (fail_if_no_progress (refine mk_keeps ?_)) | intro _ _ _ | split | rfl | (simp; done)

theorem noteSplit_keeps [Fact (Part.host ∈ K)] [Fact (Part.vine ∈ K)] (s : State) (hI : Keeps K B0 s) :
    Keeps K B0 (noteSplit s) := by
  unfold noteSplit
  try dsimp only
  with_reducible repeat' first
    | assumption | apply foldl_keeps | (apply ite_keeps <;> intro _) | apply vineErr_keeps | apply fabIrq_keeps
    | apply setVine_keeps | (fail_if_no_progress (refine mk_keeps ?_)) | intro _ _ _ | split | rfl | (simp; done)

theorem changeTree_keeps [Fact (Part.tbl ∈ K)] [Fact (Part.host ∈ K)] [Fact (Part.vine ∈ K)] (old : List Link) (ls : List Link) (s : State) (hI : Keeps K B0 s) :
    Keeps K B0 (changeTree old ls s) := by
  unfold changeTree
  try dsimp only
  with_reducible repeat' first
    | assumption | apply foldl_keeps | (apply ite_keeps <;> intro _) | apply setVine_keeps | apply distribute_keeps
    | apply noteSplit_keeps | (fail_if_no_progress (refine mk_keeps ?_)) | intro _ _ _ | split | rfl | (simp; done)

theorem setSync_keeps [Fact (Part.host ∈ K)] [Fact (Part.vine ∈ K)] [Fact (Part.grid ∈ K)] [Fact (Part.jet ∈ K)] [Fact (Part.ing ∈ K)] [Fact (Part.hc ∈ K)] (b : Bool) (s : State) (hI : Keeps K B0 s) :
    Keeps K B0 (setSync b s) := by
  unfold setSync
  try dsimp only
  with_reducible repeat' first
    | assumption | apply foldl_keeps | (apply ite_keeps <;> intro _) | apply gridGate_keeps
    | apply gridSyncLost_keeps | apply vineErr_keeps | apply fabIrq_keeps | apply setVine_keeps
    | (fail_if_no_progress (refine mk_keeps ?_)) | intro _ _ _ | split | rfl | (simp; done)

theorem probe_keeps [Fact (Part.tbl ∈ K)] [Fact (Part.vine ∈ K)] (n p : Nat) (s : State) (hI : Keeps K B0 s) :
    Keeps K B0 (probe n p s) := by
  unfold probe
  try dsimp only
  with_reducible repeat' first
    | assumption | apply foldl_keeps | (apply ite_keeps <;> intro _) | apply sendTo_keeps | apply linkPacket_keeps
    | (fail_if_no_progress (refine mk_keeps ?_)) | intro _ _ _ | split | rfl | (simp; done)

theorem readopt_keeps [Fact (Part.tbl ∈ K)] [Fact (Part.vine ∈ K)] (n p : Nat) (s : State) (hI : Keeps K B0 s) :
    Keeps K B0 (readopt n p s) := by
  unfold readopt
  try dsimp only
  with_reducible repeat' first
    | assumption | apply foldl_keeps | (apply ite_keeps <;> intro _) | apply setVine_keeps | apply probe_keeps
    | (fail_if_no_progress (refine mk_keeps ?_)) | intro _ _ _ | split | rfl | (simp; done)

theorem nextWaiting_keeps [Fact (Part.tbl ∈ K)] [Fact (Part.vine ∈ K)] (s : State) (hI : Keeps K B0 s) :
    Keeps K B0 (nextWaiting s) := by
  unfold nextWaiting
  try dsimp only
  with_reducible repeat' first
    | assumption | apply foldl_keeps | (apply ite_keeps <;> intro _) | apply setVine_keeps | apply readopt_keeps
    | (fail_if_no_progress (refine mk_keeps ?_)) | intro _ _ _ | split | rfl | (simp; done)

theorem discoveryDone_keeps [Fact (Part.tbl ∈ K)] [Fact (Part.host ∈ K)] [Fact (Part.vine ∈ K)] [Fact (Part.grid ∈ K)] [Fact (Part.jet ∈ K)] [Fact (Part.ing ∈ K)] [Fact (Part.hc ∈ K)] (d : Disc) (s : State) (hI : Keeps K B0 s) : Keeps K B0 (discoveryDone d s) := by
  unfold discoveryDone
  dsimp only
  refine nextWaiting_keeps _ (setSync_keeps _ _ (fabIrq_keeps _ (setVine_keeps (noteSplit_keeps _ (distribute_keeps _ _ _ (setVine_keeps hI ?_ ?_))) ?_ ?_))) <;> with_reducible rfl

theorem discoverNext_keeps [Fact (Part.tbl ∈ K)] [Fact (Part.host ∈ K)] [Fact (Part.vine ∈ K)] [Fact (Part.grid ∈ K)] [Fact (Part.jet ∈ K)] [Fact (Part.ing ∈ K)] [Fact (Part.hc ∈ K)] (d : Disc) (s : State) (hI : Keeps K B0 s) :
    Keeps K B0 (discoverNext d s) := by
  unfold discoverNext
  try dsimp only
  with_reducible repeat' first
    | assumption | apply foldl_keeps | (apply ite_keeps <;> intro _) | apply setVine_keeps | apply probe_keeps
    | apply discoveryDone_keeps | (fail_if_no_progress (refine mk_keeps ?_)) | intro _ _ _ | split | rfl
    | (simp; done)

theorem startDiscovery_keeps [Fact (Part.tbl ∈ K)] [Fact (Part.host ∈ K)] [Fact (Part.vine ∈ K)] [Fact (Part.grid ∈ K)] [Fact (Part.jet ∈ K)] [Fact (Part.ing ∈ K)] [Fact (Part.hc ∈ K)] (restarted : Bool) (s : State) (hI : Keeps K B0 s) :
    Keeps K B0 (startDiscovery restarted s) := by
  unfold startDiscovery
  try dsimp only
  with_reducible repeat' first
    | assumption | apply foldl_keeps | (apply ite_keeps <;> intro _) | apply setVine_keeps | apply discoverNext_keeps
    | (fail_if_no_progress (refine mk_keeps ?_)) | intro _ _ _ | split | rfl | (simp; done)

theorem rootStarts_keeps [Fact (Part.tbl ∈ K)] [Fact (Part.host ∈ K)] [Fact (Part.vine ∈ K)] [Fact (Part.grid ∈ K)] [Fact (Part.jet ∈ K)] [Fact (Part.ing ∈ K)] [Fact (Part.hc ∈ K)] (s : State) (hI : Keeps K B0 s) :
    Keeps K B0 (rootStarts s) := by
  unfold rootStarts
  try dsimp only
  with_reducible repeat' first
    | assumption | apply foldl_keeps | (apply ite_keeps <;> intro _) | apply setVine_keeps
    | apply startDiscovery_keeps | (fail_if_no_progress (refine mk_keeps ?_)) | intro _ _ _ | split | rfl
    | (simp; done)

theorem dualRoot_keeps [Fact (Part.host ∈ K)] [Fact (Part.vine ∈ K)] (s : State) (hI : Keeps K B0 s) :
    Keeps K B0 (dualRoot s) := by
  unfold dualRoot
  try dsimp only
  with_reducible repeat' first
    | assumption | apply foldl_keeps | (apply ite_keeps <;> intro _) | apply vineErr_keeps | apply fabIrq_keeps
    | apply setVine_keeps | (fail_if_no_progress (refine mk_keeps ?_)) | intro _ _ _ | split | rfl | (simp; done)

theorem learnRoute_keeps [Fact (Part.vine ∈ K)] (n port : Nat) (s : State) (hI : Keeps K B0 s) :
    Keeps K B0 (learnRoute n port s) := by
  unfold learnRoute
  try dsimp only
  with_reducible repeat' first
    | assumption | apply foldl_keeps | (apply ite_keeps <;> intro _) | apply setVine_keeps
    | (fail_if_no_progress (refine mk_keeps ?_)) | intro _ _ _ | split | rfl | (simp; done)

theorem joinNode_keeps [Fact (Part.vine ∈ K)] (n p num : Nat) (a : DiscAck) (s : State) (hI : Keeps K B0 s) :
    Keeps K B0 (joinNode n p num a s) := by
  unfold joinNode
  try dsimp only
  with_reducible repeat' first
    | assumption | apply foldl_keeps | (apply ite_keeps <;> intro _) | apply setPort_keeps | apply setVine_keeps
    | apply learnRoute_keeps | (fail_if_no_progress (refine mk_keeps ?_)) | intro _ _ _ | split | rfl | (simp; done)

theorem adopt_keeps [Fact (Part.tbl ∈ K)] [Fact (Part.vine ∈ K)] (n p num : Nat) (a : DiscAck) (s : State) (hI : Keeps K B0 s) :
    Keeps K B0 (adopt n p num a s) := by
  unfold adopt
  try dsimp only
  with_reducible repeat' first
    | assumption | apply foldl_keeps | (apply ite_keeps <;> intro _) | apply sendTo_keeps | apply linkPacket_keeps
    | apply joinNode_keeps | (fail_if_no_progress (refine mk_keeps ?_)) | intro _ _ _ | split | rfl | (simp; done)

theorem probeAnswer_keeps [Fact (Part.tbl ∈ K)] [Fact (Part.host ∈ K)] [Fact (Part.vine ∈ K)] [Fact (Part.grid ∈ K)] [Fact (Part.jet ∈ K)] [Fact (Part.ing ∈ K)] [Fact (Part.hc ∈ K)] (n p : Nat) (a : DiscAck) (d : Disc) (s : State) (hI : Keeps K B0 s) :
    Keeps K B0 (probeAnswer n p a d s) := by
  unfold probeAnswer
  try dsimp only
  with_reducible repeat' first
    | assumption | apply foldl_keeps | (apply ite_keeps <;> intro _) | apply vineErr_keeps | apply fabIrq_keeps
    | apply setVine_keeps | apply probe_keeps | apply discoverNext_keeps | apply joinNode_keeps | apply adopt_keeps
    | (fail_if_no_progress (refine mk_keeps ?_)) | intro _ _ _ | split | rfl | (simp; done)

theorem recvAck_keeps [Fact (Part.tbl ∈ K)] [Fact (Part.host ∈ K)] [Fact (Part.vine ∈ K)] [Fact (Part.grid ∈ K)] [Fact (Part.jet ∈ K)] [Fact (Part.ing ∈ K)] [Fact (Part.hc ∈ K)] (a : DiscAck) (s : State) (hI : Keeps K B0 s) :
    Keeps K B0 (recvAck a s) := by
  unfold recvAck
  try dsimp only
  with_reducible repeat' first
    | assumption | apply foldl_keeps | (apply ite_keeps <;> intro _) | apply dualRoot_keeps | apply probeAnswer_keeps
    | (fail_if_no_progress (refine mk_keeps ?_)) | intro _ _ _ | split | rfl | (simp; done)

theorem probeTimeout_keeps [Fact (Part.tbl ∈ K)] [Fact (Part.host ∈ K)] [Fact (Part.vine ∈ K)] [Fact (Part.grid ∈ K)] [Fact (Part.jet ∈ K)] [Fact (Part.ing ∈ K)] [Fact (Part.hc ∈ K)] (s : State) (hI : Keeps K B0 s) :
    Keeps K B0 (probeTimeout s) := by
  unfold probeTimeout
  try dsimp only
  with_reducible repeat' first
    | assumption | apply foldl_keeps | (apply ite_keeps <;> intro _) | apply probe_keeps | apply discoverNext_keeps
    | (fail_if_no_progress (refine mk_keeps ?_)) | intro _ _ _ | split | rfl | (simp; done)

theorem failLink_keeps [Fact (Part.tbl ∈ K)] [Fact (Part.host ∈ K)] [Fact (Part.vine ∈ K)] [Fact (Part.nvm ∈ K)] (l : Link) (n p : Nat) (s : State) (hI : Keeps K B0 s) : Keeps K B0 (failLink l n p s) := by
  unfold failLink
  dsimp only
  have h1 := changeTree_keeps (activeLinks (changeLink l (fun x => { x with up := false }) s.vine.links)) (activateStandby 64 (changeLink l (fun x => { x with up := false }) s.vine.links)) s hI
  refine ite_keeps (fun _ => setVine_keeps hI (by with_reducible rfl) (by with_reducible rfl)) (fun _ => ite_keeps (fun _ => h1) (fun _ => fabIrq_keeps _ (recErrLees_keeps _ _ _ _ (setVine_keeps h1 ?_ ?_)))) <;> with_reducible rfl

theorem fabricDown_keeps [Fact (Part.tbl ∈ K)] [Fact (Part.host ∈ K)] [Fact (Part.vine ∈ K)] [Fact (Part.grid ∈ K)] [Fact (Part.jet ∈ K)] [Fact (Part.ing ∈ K)] [Fact (Part.hc ∈ K)] [Fact (Part.nvm ∈ K)] (n p : Nat) (s : State) (hI : Keeps K B0 s) :
    Keeps K B0 (fabricDown n p s) := by
  unfold fabricDown
  try dsimp only
  with_reducible repeat' first
    | assumption | apply foldl_keeps | (apply ite_keeps <;> intro _) | apply setVine_keeps
    | apply startDiscovery_keeps | apply failLink_keeps | (fail_if_no_progress (refine mk_keeps ?_)) | intro _ _ _
    | split | rfl | (simp; done)

theorem restoreLink_keeps [Fact (Part.tbl ∈ K)] [Fact (Part.host ∈ K)] [Fact (Part.vine ∈ K)] (l : Link) (s : State) (hI : Keeps K B0 s) :
    Keeps K B0 (restoreLink l s) := by
  unfold restoreLink
  try dsimp only
  with_reducible repeat' first
    | assumption | apply foldl_keeps | (apply ite_keeps <;> intro _) | apply setVine_keeps | apply changeTree_keeps
    | (fail_if_no_progress (refine mk_keeps ?_)) | intro _ _ _ | split | rfl | (simp; done)

theorem fabricUp_keeps [Fact (Part.tbl ∈ K)] [Fact (Part.host ∈ K)] [Fact (Part.vine ∈ K)] [Fact (Part.grid ∈ K)] [Fact (Part.jet ∈ K)] [Fact (Part.ing ∈ K)] [Fact (Part.hc ∈ K)] (n p nbr : Nat) (s : State) (hI : Keeps K B0 s) :
    Keeps K B0 (fabricUp n p nbr s) := by
  unfold fabricUp
  try dsimp only
  with_reducible repeat' first
    | assumption | apply foldl_keeps | (apply ite_keeps <;> intro _) | apply setVine_keeps | apply readopt_keeps
    | apply startDiscovery_keeps | apply restoreLink_keeps | (fail_if_no_progress (refine mk_keeps ?_)) | intro _ _ _
    | split | rfl | (simp; done)

theorem eventAnyway_keeps [Fact (Part.tbl ∈ K)] [Fact (Part.vine ∈ K)] (code port : Nat) (rest : Word) (s : State) (hI : Keeps K B0 s) :
    Keeps K B0 (eventAnyway code port rest s) := by
  unfold eventAnyway
  try dsimp only
  with_reducible repeat' first
    | assumption | apply foldl_keeps | (apply ite_keeps <;> intro _) | apply nextSeq_keeps | apply sendOn_keeps
    | apply sendEvent_keeps | (fail_if_no_progress (refine mk_keeps ?_)) | intro _ _ _ | split | rfl | (simp; done)

theorem reportPort_keeps [Fact (Part.tbl ∈ K)] [Fact (Part.host ∈ K)] [Fact (Part.vine ∈ K)] [Fact (Part.grid ∈ K)] [Fact (Part.jet ∈ K)] [Fact (Part.ing ∈ K)] [Fact (Part.hc ∈ K)] [Fact (Part.nvm ∈ K)] (up : Bool) (p nbr : Nat) (s : State) (hI : Keeps K B0 s) :
    Keeps K B0 (reportPort up p nbr s) := by
  unfold reportPort
  try dsimp only
  with_reducible repeat' first
    | assumption | apply foldl_keeps | (apply ite_keeps <;> intro _) | apply fabricDown_keeps | apply fabricUp_keeps
    | apply eventAnyway_keeps | (fail_if_no_progress (refine mk_keeps ?_)) | intro _ _ _ | split | rfl | (simp; done)

theorem linkWakes_keeps [Fact (Part.tbl ∈ K)] [Fact (Part.vine ∈ K)] (p : Nat) (s : State) (hI : Keeps K B0 s) :
    Keeps K B0 (linkWakes p s) := by
  unfold linkWakes
  try dsimp only
  with_reducible repeat' first
    | assumption | apply foldl_keeps | (apply ite_keeps <;> intro _) | apply setPort_keeps | apply drain_keeps
    | (fail_if_no_progress (refine mk_keeps ?_)) | intro _ _ _ | split | rfl | (simp; done)

theorem linkUp_keeps [Fact (Part.tbl ∈ K)] [Fact (Part.host ∈ K)] [Fact (Part.vine ∈ K)] [Fact (Part.grid ∈ K)] [Fact (Part.jet ∈ K)] [Fact (Part.ing ∈ K)] [Fact (Part.hc ∈ K)] [Fact (Part.nvm ∈ K)] (p nbr : Nat) (s : State) (hI : Keeps K B0 s) :
    Keeps K B0 (linkUp p nbr s) := by
  unfold linkUp
  try dsimp only
  with_reducible repeat' first
    | assumption | apply foldl_keeps | (apply ite_keeps <;> intro _) | apply setPort_keeps | apply sendCredit_keeps
    | apply fabIrq_keeps | apply reportPort_keeps | apply linkWakes_keeps
    | (fail_if_no_progress (refine mk_keeps ?_)) | intro _ _ _ | split | rfl | (simp; done)

theorem linkDown_keeps [Fact (Part.tbl ∈ K)] [Fact (Part.host ∈ K)] [Fact (Part.vine ∈ K)] [Fact (Part.grid ∈ K)] [Fact (Part.jet ∈ K)] [Fact (Part.ing ∈ K)] [Fact (Part.hc ∈ K)] [Fact (Part.nvm ∈ K)] (p : Nat) (s : State) (hI : Keeps K B0 s) :
    Keeps K B0 (linkDown p s) := by
  unfold linkDown
  try dsimp only
  with_reducible repeat' first
    | assumption | apply foldl_keeps | (apply ite_keeps <;> intro _) | apply bumpBy_keeps | apply linkCount_keeps
    | apply setPort_keeps | apply settleCopy_keeps | apply vineErr_keeps | apply fabIrq_keeps | apply setVine_keeps
    | apply reportPort_keeps | (fail_if_no_progress (refine mk_keeps ?_)) | intro _ _ _ | split | rfl | (simp; done)

theorem linkIdle_keeps [Fact (Part.vine ∈ K)] (p : Nat) (s : State) (hI : Keeps K B0 s) :
    Keeps K B0 (linkIdle p s) := by
  unfold linkIdle
  try dsimp only
  with_reducible repeat' first
    | assumption | apply foldl_keeps | (apply ite_keeps <;> intro _) | apply setPort_keeps
    | (fail_if_no_progress (refine mk_keeps ?_)) | intro _ _ _ | split | rfl | (simp; done)

theorem linkLost_keeps [Fact (Part.tbl ∈ K)] [Fact (Part.host ∈ K)] [Fact (Part.vine ∈ K)] [Fact (Part.grid ∈ K)] [Fact (Part.jet ∈ K)] [Fact (Part.ing ∈ K)] [Fact (Part.hc ∈ K)] [Fact (Part.nvm ∈ K)] (p : Nat) (c : DownCause) (s : State) (hI : Keeps K B0 s) :
    Keeps K B0 (linkLost p c s) := by
  unfold linkLost
  try dsimp only
  with_reducible repeat' first
    | assumption | apply foldl_keeps | (apply ite_keeps <;> intro _) | apply bumpBy_keeps | apply setVine_keeps
    | apply linkDown_keeps | apply linkIdle_keeps | (fail_if_no_progress (refine mk_keeps ?_)) | intro _ _ _ | split
    | rfl | (simp; done)

theorem setPortEn_keeps [Fact (Part.tbl ∈ K)] [Fact (Part.host ∈ K)] [Fact (Part.vine ∈ K)] [Fact (Part.grid ∈ K)] [Fact (Part.jet ∈ K)] [Fact (Part.ing ∈ K)] [Fact (Part.hc ∈ K)] [Fact (Part.nvm ∈ K)] (m : Nat) (s : State) (hI : Keeps K B0 s) :
    Keeps K B0 (setPortEn m s) := by
  unfold setPortEn
  try dsimp only
  with_reducible repeat' first
    | assumption | apply foldl_keeps | (apply ite_keeps <;> intro _) | apply setVine_keeps | apply linkDown_keeps
    | (fail_if_no_progress (refine mk_keeps ?_)) | intro _ _ _ | split | rfl | (simp; done)

theorem fabRefuse_keeps [Fact (Part.host ∈ K)] [Fact (Part.vine ∈ K)] (s : State) (hI : Keeps K B0 s) :
    Keeps K B0 (fabRefuse s) := by
  unfold fabRefuse
  try dsimp only
  with_reducible repeat' first
    | assumption | apply foldl_keeps | (apply ite_keeps <;> intro _) | apply vineErr_keeps | apply setVine_keeps
    | (fail_if_no_progress (refine mk_keeps ?_)) | intro _ _ _ | split | rfl | (simp; done)

theorem retreeOp_keeps [Fact (Part.tbl ∈ K)] [Fact (Part.host ∈ K)] [Fact (Part.vine ∈ K)] (s : State) (hI : Keeps K B0 s) :
    Keeps K B0 (retreeOp s) := by
  unfold retreeOp
  try dsimp only
  with_reducible repeat' first
    | assumption | apply foldl_keeps | (apply ite_keeps <;> intro _) | apply changeTree_keeps
    | (fail_if_no_progress (refine mk_keeps ?_)) | intro _ _ _ | split | rfl | (simp; done)

theorem resetNodeOp_keeps [Fact (Part.tick ∈ K)] [Fact (Part.free ∈ K)] [Fact (Part.tbl ∈ K)] [Fact (Part.host ∈ K)] [Fact (Part.bnd ∈ K)] [Fact (Part.txn ∈ K)] [Fact (Part.vine ∈ K)] [Fact (Part.enc ∈ K)] [Fact (Part.grid ∈ K)] [Fact (Part.jet ∈ K)] [Fact (Part.ing ∈ K)] [Fact (Part.hc ∈ K)] [Fact (Part.mot ∈ K)] [Fact (Part.vlv ∈ K)] [Fact (Part.vlvSel ∈ K)] [Fact (Part.rail ∈ K)] [Fact (Part.boot ∈ K)] [Fact (Part.pwr ∈ K)] [Fact (Part.cal ∈ K)] [Fact (Part.nvm ∈ K)] (s : State) (hI : Keeps K B0 s) :
    Keeps K B0 (resetNodeOp s) := by
  unfold resetNodeOp
  try dsimp only
  with_reducible repeat' first
    | assumption | apply foldl_keeps | (apply ite_keeps <;> intro _) | apply sendTo_keeps | apply coreReset_keeps
    | (fail_if_no_progress (refine mk_keeps ?_)) | intro _ _ _ | split | rfl | (simp; done)

theorem fabCtl_keeps [Fact (Part.tick ∈ K)] [Fact (Part.free ∈ K)] [Fact (Part.tbl ∈ K)] [Fact (Part.host ∈ K)] [Fact (Part.bnd ∈ K)] [Fact (Part.txn ∈ K)] [Fact (Part.vine ∈ K)] [Fact (Part.enc ∈ K)] [Fact (Part.grid ∈ K)] [Fact (Part.jet ∈ K)] [Fact (Part.ing ∈ K)] [Fact (Part.hc ∈ K)] [Fact (Part.mot ∈ K)] [Fact (Part.vlv ∈ K)] [Fact (Part.vlvSel ∈ K)] [Fact (Part.rail ∈ K)] [Fact (Part.boot ∈ K)] [Fact (Part.pwr ∈ K)] [Fact (Part.cal ∈ K)] [Fact (Part.nvm ∈ K)] (op portEn : Nat) (s : State) (hI : Keeps K B0 s) :
    Keeps K B0 (fabCtl op portEn s) := by
  unfold fabCtl
  try dsimp only
  with_reducible repeat' first
    | assumption | apply foldl_keeps | (apply ite_keeps <;> intro _) | apply startDiscovery_keeps
    | apply setPortEn_keeps | apply fabRefuse_keeps | apply retreeOp_keeps | apply resetNodeOp_keeps
    | (fail_if_no_progress (refine mk_keeps ?_)) | intro _ _ _ | split | rfl | (simp; done)

theorem fabReg_keeps [Fact (Part.tick ∈ K)] [Fact (Part.free ∈ K)] [Fact (Part.tbl ∈ K)] [Fact (Part.host ∈ K)] [Fact (Part.bnd ∈ K)] [Fact (Part.txn ∈ K)] [Fact (Part.vine ∈ K)] [Fact (Part.enc ∈ K)] [Fact (Part.grid ∈ K)] [Fact (Part.jet ∈ K)] [Fact (Part.ing ∈ K)] [Fact (Part.hc ∈ K)] [Fact (Part.mot ∈ K)] [Fact (Part.vlv ∈ K)] [Fact (Part.vlvSel ∈ K)] [Fact (Part.rail ∈ K)] [Fact (Part.boot ∈ K)] [Fact (Part.pwr ∈ K)] [Fact (Part.cal ∈ K)] [Fact (Part.nvm ∈ K)] (op portEn : Nat) (s : State) (hI : Keeps K B0 s) :
    Keeps K B0 (fabReg op portEn s) := by
  unfold fabReg
  try dsimp only
  with_reducible repeat' first
    | assumption | apply foldl_keeps | (apply ite_keeps <;> intro _) | apply fabCtl_keeps
    | (fail_if_no_progress (refine mk_keeps ?_)) | intro _ _ _ | split | rfl | (simp; done)

theorem dropPacket_keeps [Fact (Part.tbl ∈ K)] [Fact (Part.host ∈ K)] [Fact (Part.vine ∈ K)] (p off err cls units : Nat) (s : State) (hI : Keeps K B0 s) :
    Keeps K B0 (dropPacket p off err cls units s) := by
  unfold dropPacket
  try dsimp only
  with_reducible repeat' first
    | assumption | apply foldl_keeps | (apply ite_keeps <;> intro _) | apply linkCount_keeps | apply creditBack_keeps
    | apply vineErr_keeps | (fail_if_no_progress (refine mk_keeps ?_)) | intro _ _ _ | split | rfl | (simp; done)

theorem oweBuffer_keeps [Fact (Part.vine ∈ K)] (p n : Nat) (pkt : Packet) (s : State) (hI : Keeps K B0 s) :
    Keeps K B0 (oweBuffer p n pkt s) := by
  unfold oweBuffer
  try dsimp only
  with_reducible repeat' first
    | assumption | apply foldl_keeps | (apply ite_keeps <;> intro _) | apply setVine_keeps
    | (fail_if_no_progress (refine mk_keeps ?_)) | intro _ _ _ | split | rfl | (simp; done)

theorem learnFrom_keeps [Fact (Part.vine ∈ K)] (p r : Nat) (pkt : Packet) (s : State) (hI : Keeps K B0 s) :
    Keeps K B0 (learnFrom p r pkt s) := by
  unfold learnFrom
  try dsimp only
  with_reducible repeat' first
    | assumption | apply foldl_keeps | (apply ite_keeps <;> intro _) | apply learnRoute_keeps
    | (fail_if_no_progress (refine mk_keeps ?_)) | intro _ _ _ | split | rfl | (simp; done)

theorem forwardUnicast_keeps [Fact (Part.tbl ∈ K)] [Fact (Part.host ∈ K)] [Fact (Part.vine ∈ K)] (p : Nat) (pkt : Packet) (s : State) (hI : Keeps K B0 s) :
    Keeps K B0 (forwardUnicast p pkt s) := by
  unfold forwardUnicast
  try dsimp only
  with_reducible repeat' first
    | assumption | apply foldl_keeps | (apply ite_keeps <;> intro _) | apply setPort_keeps | apply sendOn_keeps
    | apply dropPacket_keeps | apply oweBuffer_keeps | apply learnFrom_keeps
    | (fail_if_no_progress (refine mk_keeps ?_)) | intro _ _ _ | split | rfl | (simp; done)

theorem forwardBroadcast_keeps [Fact (Part.tbl ∈ K)] [Fact (Part.txn ∈ K)] [Fact (Part.vine ∈ K)] (p : Nat) (pkt : Packet) (s : State) (hI : Keeps K B0 s) :
    Keeps K B0 (forwardBroadcast p pkt s) := by
  unfold forwardBroadcast
  try dsimp only
  with_reducible repeat' first
    | assumption | apply foldl_keeps | (apply ite_keeps <;> intro _) | apply bump32_keeps | apply sendTree_keeps
    | apply heardFrom_keeps | apply portArrived_keeps | apply oweBuffer_keeps
    | (fail_if_no_progress (refine mk_keeps ?_)) | intro _ _ _ | split | rfl | (simp; done)

theorem forwardPacket_keeps [Fact (Part.tbl ∈ K)] [Fact (Part.host ∈ K)] [Fact (Part.txn ∈ K)] [Fact (Part.vine ∈ K)] (p : Nat) (pkt : Packet) (s : State) (hI : Keeps K B0 s) :
    Keeps K B0 (forwardPacket p pkt s) := by
  unfold forwardPacket
  try dsimp only
  with_reducible repeat' first
    | assumption | apply foldl_keeps | (apply ite_keeps <;> intro _) | apply bump32_keeps | apply linkCount_keeps
    | apply creditBack_keeps | apply vineErr_keeps | apply dropPacket_keeps | apply forwardUnicast_keeps
    | apply forwardBroadcast_keeps | (fail_if_no_progress (refine mk_keeps ?_)) | intro _ _ _ | split | rfl
    | (simp; done)

theorem recvBytes_keeps [Fact (Part.tbl ∈ K)] [Fact (Part.host ∈ K)] [Fact (Part.txn ∈ K)] [Fact (Part.vine ∈ K)] (p : Nat) (bs : List Byte) (s : State) (hI : Keeps K B0 s) :
    Keeps K B0 (recvBytes p bs s) := by
  unfold recvBytes
  try dsimp only
  with_reducible repeat' first
    | assumption | apply foldl_keeps | (apply ite_keeps <;> intro _) | apply dropPacket_keeps
    | apply forwardPacket_keeps | (fail_if_no_progress (refine mk_keeps ?_)) | intro _ _ _ | split | rfl
    | (simp; done)

theorem answerDiscover_keeps [Fact (Part.tbl ∈ K)] [Fact (Part.host ∈ K)] [Fact (Part.vine ∈ K)] (p epoch : Nat) (src : Nat) (rootUid : BitVec 64) (s : State) (hI : Keeps K B0 s) :
    Keeps K B0 (answerDiscover p epoch src rootUid s) := by
  unfold answerDiscover
  try dsimp only
  with_reducible repeat' first
    | assumption | apply foldl_keeps | (apply ite_keeps <;> intro _) | apply setPort_keeps | apply nextSeq_keeps
    | apply sendOn_keeps | apply dualRoot_keeps | (fail_if_no_progress (refine mk_keeps ?_)) | intro _ _ _ | split
    | rfl | (simp; done)

theorem takeNumber_keeps [Fact (Part.vine ∈ K)] (p n : Nat) (rootUid : BitVec 64) (s : State) (hI : Keeps K B0 s) :
    Keeps K B0 (takeNumber p n rootUid s) := by
  unfold takeNumber
  try dsimp only
  with_reducible repeat' first
    | assumption | apply foldl_keeps | (apply ite_keeps <;> intro _) | apply setVine_keeps
    | (fail_if_no_progress (refine mk_keeps ?_)) | intro _ _ _ | split | rfl | (simp; done)

theorem passOn_keeps [Fact (Part.tbl ∈ K)] [Fact (Part.host ∈ K)] [Fact (Part.txn ∈ K)] [Fact (Part.vine ∈ K)] (p : Nat) (h : Hdr) (type : Nat) (ws : List Word) (s : State) (hI : Keeps K B0 s) :
    Keeps K B0 (passOn p h type ws s) := by
  unfold passOn
  try dsimp only
  with_reducible repeat' first
    | assumption | apply foldl_keeps | (apply ite_keeps <;> intro _) | apply forwardPacket_keeps
    | (fail_if_no_progress (refine mk_keeps ?_)) | intro _ _ _ | split | rfl | (simp; done)

theorem timePacket_keeps [Fact (Part.tbl ∈ K)] [Fact (Part.vine ∈ K)] (p type : Nat) (words : List Word) (s : State) (hI : Keeps K B0 s) :
    Keeps K B0 (timePacket p type words s) := by
  unfold timePacket
  try dsimp only
  with_reducible repeat' first
    | assumption | apply foldl_keeps | (apply ite_keeps <;> intro _) | apply nextSeq_keeps | apply sendOn_keeps
    | (fail_if_no_progress (refine mk_keeps ?_)) | intro _ _ _ | split | rfl | (simp; done)

theorem sendEchos_keeps [Fact (Part.tbl ∈ K)] [Fact (Part.vine ∈ K)] (s : State) (hI : Keeps K B0 s) :
    Keeps K B0 (sendEchos s) := by
  unfold sendEchos
  try dsimp only
  with_reducible repeat' first
    | assumption | apply foldl_keeps | (apply ite_keeps <;> intro _) | apply setPort_keeps | apply setVine_keeps
    | apply timePacket_keeps | (fail_if_no_progress (refine mk_keeps ?_)) | intro _ _ _ | split | rfl | (simp; done)

theorem answerEcho_keeps [Fact (Part.tbl ∈ K)] [Fact (Part.vine ∈ K)] (p num sport : Nat) (t1 : BitVec 32) (rxFrac : Nat) (s : State) (hI : Keeps K B0 s) :
    Keeps K B0 (answerEcho p num sport t1 rxFrac s) := by
  unfold answerEcho
  try dsimp only
  with_reducible repeat' first
    | assumption | apply foldl_keeps | (apply ite_keeps <;> intro _) | apply timePacket_keeps
    | (fail_if_no_progress (refine mk_keeps ?_)) | intro _ _ _ | split | rfl | (simp; done)

theorem takeEcho_keeps [Fact (Part.vine ∈ K)] (p sport : Nat) (t1 t2 t3 : BitVec 32) (rxFrac : Nat) (s : State) (hI : Keeps K B0 s) :
    Keeps K B0 (takeEcho p sport t1 t2 t3 rxFrac s) := by
  unfold takeEcho
  try dsimp only
  with_reducible repeat' first
    | assumption | apply foldl_keeps | (apply ite_keeps <;> intro _) | apply setPort_keeps | apply setVine_keeps
    | (fail_if_no_progress (refine mk_keeps ?_)) | intro _ _ _ | split | rfl | (simp; done)

theorem sendTick_keeps [Fact (Part.tbl ∈ K)] [Fact (Part.vine ∈ K)] (s : State) (hI : Keeps K B0 s) :
    Keeps K B0 (sendTick s) := by
  unfold sendTick
  try dsimp only
  with_reducible repeat' first
    | assumption | apply foldl_keeps | (apply ite_keeps <;> intro _) | apply broadcast_keeps | apply setVine_keeps
    | (fail_if_no_progress (refine mk_keeps ?_)) | intro _ _ _ | split | rfl | (simp; done)

theorem relayTick_keeps [Fact (Part.tbl ∈ K)] [Fact (Part.txn ∈ K)] [Fact (Part.vine ∈ K)] (p : Nat) (h : Hdr) (origin : BitVec 48) (corr rxFrac : Nat) (s : State) (hI : Keeps K B0 s) :
    Keeps K B0 (relayTick p h origin corr rxFrac s) := by
  unfold relayTick
  try dsimp only
  with_reducible repeat' first
    | assumption | apply foldl_keeps | (apply ite_keeps <;> intro _) | apply forwardBroadcast_keeps
    | (fail_if_no_progress (refine mk_keeps ?_)) | intro _ _ _ | split | rfl | (simp; done)

theorem alignTick_keeps [Fact (Part.tick ∈ K)] [Fact (Part.tbl ∈ K)] [Fact (Part.host ∈ K)] [Fact (Part.vine ∈ K)] [Fact (Part.grid ∈ K)] [Fact (Part.jet ∈ K)] [Fact (Part.ing ∈ K)] [Fact (Part.hc ∈ K)] (p : Nat) (origin : BitVec 48) (corr rxFrac : Nat) (s : State) (hI : Keeps K B0 s) :
    Keeps K B0 (alignTick p origin corr rxFrac s) := by
  unfold alignTick
  try dsimp only
  with_reducible repeat' first
    | assumption | apply foldl_keeps | (apply ite_keeps <;> intro _) | apply bump_keeps | apply setVine_keeps
    | apply setSync_keeps | (fail_if_no_progress (refine mk_keeps ?_)) | intro _ _ _ | split | rfl | (simp; done)

theorem syncTimeout_keeps [Fact (Part.host ∈ K)] [Fact (Part.vine ∈ K)] [Fact (Part.grid ∈ K)] [Fact (Part.jet ∈ K)] [Fact (Part.ing ∈ K)] [Fact (Part.hc ∈ K)] (s : State) (hI : Keeps K B0 s) :
    Keeps K B0 (syncTimeout s) := by
  unfold syncTimeout
  try dsimp only
  with_reducible repeat' first
    | assumption | apply foldl_keeps | (apply ite_keeps <;> intro _) | apply setSync_keeps
    | (fail_if_no_progress (refine mk_keeps ?_)) | intro _ _ _ | split | rfl | (simp; done)

end Sys2Proof.Machine
end

