-- ==== Sys2Proof/Laws/KeepsNode.lean ====
section
/-! SUPPORT. Every operation on trust, power, registers, start-up, host port, test access and the tick keeps the good form, the queue, the straps, a
locked protected region and every part of the state it has no hand in. -/

namespace Sys2Proof.Machine

set_option Elab.async false

set_option linter.all false

variable {K : List Part} {B0 : State}

/-! ### Machine/Trust.lean -/

theorem trustErr_keeps [Fact (Part.host ∈ K)] (code : Nat) (s : State) (hI : Keeps K B0 s) :
    Keeps K B0 (trustErr code s) := by
  unfold trustErr
  try dsimp only
  with_reducible repeat' first
    | assumption | apply foldl_keeps | (apply ite_keeps <;> intro _) | apply recErr_keeps
    | (fail_if_no_progress (refine mk_keeps ?_)) | intro _ _ _ | split | rfl | (simp; done)

theorem trustErrLees_keeps [Fact (Part.tbl ∈ K)] [Fact (Part.host ∈ K)] [Fact (Part.nvm ∈ K)] (code : Nat) (s : State) (hI : Keeps K B0 s) :
    Keeps K B0 (trustErrLees code s) := by
  unfold trustErrLees
  try dsimp only
  with_reducible repeat' first
    | assumption | apply foldl_keeps | (apply ite_keeps <;> intro _) | apply recErrLees_keeps
    | (fail_if_no_progress (refine mk_keeps ?_)) | intro _ _ _ | split | rfl | (simp; done)

theorem goodServe_keeps [Fact (Part.boot ∈ K)] (s : State) (hI : Keeps K B0 s) :
    Keeps K B0 (goodServe s) := by
  unfold goodServe
  try dsimp only
  with_reducible repeat' first
    | assumption | apply foldl_keeps | (apply ite_keeps <;> intro _) | (fail_if_no_progress (refine mk_keeps ?_))
    | intro _ _ _ | split | rfl | (simp; done)

theorem windowOpens_keeps [Fact (Part.host ∈ K)] [Fact (Part.boot ∈ K)] [Fact (Part.pwr ∈ K)] (s : State) (hI : Keeps K B0 s) :
    Keeps K B0 (windowOpens s) := by
  unfold windowOpens
  try dsimp only
  with_reducible repeat' first
    | assumption | apply foldl_keeps | (apply ite_keeps <;> intro _) | apply raise_keeps | apply wake_keeps
    | (fail_if_no_progress (refine mk_keeps ?_)) | intro _ _ _ | split | rfl | (simp; done)

theorem wdgReset_keeps [Fact (Part.tick ∈ K)] [Fact (Part.free ∈ K)] [Fact (Part.tbl ∈ K)] [Fact (Part.host ∈ K)] [Fact (Part.bnd ∈ K)] [Fact (Part.txn ∈ K)] [Fact (Part.vine ∈ K)] [Fact (Part.enc ∈ K)] [Fact (Part.grid ∈ K)] [Fact (Part.jet ∈ K)] [Fact (Part.ing ∈ K)] [Fact (Part.hc ∈ K)] [Fact (Part.mot ∈ K)] [Fact (Part.vlv ∈ K)] [Fact (Part.vlvSel ∈ K)] [Fact (Part.rail ∈ K)] [Fact (Part.boot ∈ K)] [Fact (Part.pwr ∈ K)] [Fact (Part.cal ∈ K)] [Fact (Part.nvm ∈ K)] (sub : Nat) (s : State) (hI : Keeps K B0 s) :
    Keeps K B0 (wdgReset sub s) := by
  unfold wdgReset
  try dsimp only
  with_reducible repeat' first
    | assumption | apply foldl_keeps | (apply ite_keeps <;> intro _) | apply coreReset_keeps
    | (fail_if_no_progress (refine mk_keeps ?_)) | intro _ _ _ | split | rfl | (simp; done)

theorem wdgAnswerOp_keeps [Fact (Part.tick ∈ K)] [Fact (Part.free ∈ K)] [Fact (Part.tbl ∈ K)] [Fact (Part.host ∈ K)] [Fact (Part.bnd ∈ K)] [Fact (Part.txn ∈ K)] [Fact (Part.vine ∈ K)] [Fact (Part.enc ∈ K)] [Fact (Part.grid ∈ K)] [Fact (Part.jet ∈ K)] [Fact (Part.ing ∈ K)] [Fact (Part.hc ∈ K)] [Fact (Part.mot ∈ K)] [Fact (Part.vlv ∈ K)] [Fact (Part.vlvSel ∈ K)] [Fact (Part.rail ∈ K)] [Fact (Part.boot ∈ K)] [Fact (Part.pwr ∈ K)] [Fact (Part.cal ∈ K)] [Fact (Part.nvm ∈ K)] (a : Word) (s : State) (hI : Keeps K B0 s) :
    Keeps K B0 (wdgAnswerOp a s) := by
  unfold wdgAnswerOp
  try dsimp only
  with_reducible repeat' first
    | assumption | apply foldl_keeps | (apply ite_keeps <;> intro _) | apply goodServe_keeps | apply wdgReset_keeps
    | (fail_if_no_progress (refine mk_keeps ?_)) | intro _ _ _ | split | rfl | (simp; done)

theorem wdgCtlWrite_keeps [Fact (Part.host ∈ K)] [Fact (Part.boot ∈ K)] (d : Word) (s : State) (hI : Keeps K B0 s) :
    Keeps K B0 (wdgCtlWrite d s) := by
  unfold wdgCtlWrite
  try dsimp only
  with_reducible repeat' first
    | assumption | apply foldl_keeps | (apply ite_keeps <;> intro _) | apply raise_keeps | apply trustErr_keeps
    | (fail_if_no_progress (refine mk_keeps ?_)) | intro _ _ _ | split | rfl | (simp; done)

theorem rstCauseWrite_keeps [Fact (Part.tick ∈ K)] [Fact (Part.free ∈ K)] [Fact (Part.tbl ∈ K)] [Fact (Part.host ∈ K)] [Fact (Part.bnd ∈ K)] [Fact (Part.txn ∈ K)] [Fact (Part.vine ∈ K)] [Fact (Part.enc ∈ K)] [Fact (Part.grid ∈ K)] [Fact (Part.jet ∈ K)] [Fact (Part.ing ∈ K)] [Fact (Part.hc ∈ K)] [Fact (Part.mot ∈ K)] [Fact (Part.vlv ∈ K)] [Fact (Part.vlvSel ∈ K)] [Fact (Part.rail ∈ K)] [Fact (Part.boot ∈ K)] [Fact (Part.pwr ∈ K)] [Fact (Part.cal ∈ K)] [Fact (Part.nvm ∈ K)] (d : Word) (s : State) (hI : Keeps K B0 s) :
    Keeps K B0 (rstCauseWrite d s) := by
  unfold rstCauseWrite
  try dsimp only
  with_reducible repeat' first
    | assumption | apply foldl_keeps | (apply ite_keeps <;> intro _) | apply coreReset_keeps | apply trustErr_keeps
    | (fail_if_no_progress (refine mk_keeps ?_)) | intro _ _ _ | split | rfl | (simp; done)

theorem quoteRefuse_keeps [Fact (Part.host ∈ K)] [Fact (Part.boot ∈ K)] (s : State) (hI : Keeps K B0 s) :
    Keeps K B0 (quoteRefuse s) := by
  unfold quoteRefuse
  try dsimp only
  with_reducible repeat' first
    | assumption | apply foldl_keeps | (apply ite_keeps <;> intro _) | apply trustErr_keeps
    | (fail_if_no_progress (refine mk_keeps ?_)) | intro _ _ _ | split | rfl | (simp; done)

theorem attCmd_keeps [Fact (Part.host ∈ K)] [Fact (Part.boot ∈ K)] (op : Nat) (v3en : Bool) (s : State) (hI : Keeps K B0 s) :
    Keeps K B0 (attCmd op v3en s) := by
  unfold attCmd
  try dsimp only
  with_reducible repeat' first
    | assumption | apply foldl_keeps | (apply ite_keeps <;> intro _) | apply quoteRefuse_keeps
    | (fail_if_no_progress (refine mk_keeps ?_)) | intro _ _ _ | split | rfl | (simp; done)

theorem quoteBuilt_keeps [Fact (Part.free ∈ K)] [Fact (Part.tbl ∈ K)] [Fact (Part.boot ∈ K)] (s : State) (hI : Keeps K B0 s) :
    Keeps K B0 (quoteBuilt s) := by
  unfold quoteBuilt
  try dsimp only
  with_reducible repeat' first
    | assumption | apply foldl_keeps | (apply ite_keeps <;> intro _) | apply tsetRun_keeps
    | (fail_if_no_progress (refine mk_keeps ?_)) | intro _ _ _ | split | rfl | (simp; done)

theorem attReg_keeps [Fact (Part.host ∈ K)] [Fact (Part.boot ∈ K)] [Fact (Part.pwr ∈ K)] (op : Nat) (v3en : Bool) (s : State) (hI : Keeps K B0 s) :
    Keeps K B0 (attReg op v3en s) := by
  unfold attReg
  try dsimp only
  with_reducible repeat' first
    | assumption | apply foldl_keeps | (apply ite_keeps <;> intro _) | apply routedOp_keeps | apply attCmd_keeps
    | (fail_if_no_progress (refine mk_keeps ?_)) | intro _ _ _ | split | rfl | (simp; done)

/-! ### Machine/Power.lean -/

theorem beginEntry_keeps [Fact (Part.free ∈ K)] [Fact (Part.hc ∈ K)] [Fact (Part.pwr ∈ K)] (t : Nat) (s : State) (hI : Keeps K B0 s) :
    Keeps K B0 (beginEntry t s) := by
  unfold beginEntry
  try dsimp only
  with_reducible repeat' first
    | assumption | apply foldl_keeps | (apply ite_keeps <;> intro _) | apply startWriteback_keeps
    | (fail_if_no_progress (refine mk_keeps ?_)) | intro _ _ _ | split | rfl | (simp; done)

theorem pwrReqOp_keeps [Fact (Part.free ∈ K)] [Fact (Part.host ∈ K)] [Fact (Part.hc ∈ K)] [Fact (Part.pwr ∈ K)] (t : Nat) (s : State) (hI : Keeps K B0 s) :
    Keeps K B0 (pwrReqOp t s) := by
  unfold pwrReqOp
  try dsimp only
  with_reducible repeat' first
    | assumption | apply foldl_keeps | (apply ite_keeps <;> intro _) | apply refusePower_keeps
    | apply beginEntry_keeps | (fail_if_no_progress (refine mk_keeps ?_)) | intro _ _ _ | split | rfl | (simp; done)

theorem pwrLees_keeps [Fact (Part.tbl ∈ K)] [Fact (Part.host ∈ K)] [Fact (Part.nvm ∈ K)] (code t : Nat) (s : State) (hI : Keeps K B0 s) :
    Keeps K B0 (pwrLees code t s) := by
  unfold pwrLees
  try dsimp only
  with_reducible repeat' first
    | assumption | apply foldl_keeps | (apply ite_keeps <;> intro _) | apply lees_keeps
    | (fail_if_no_progress (refine mk_keeps ?_)) | intro _ _ _ | split | rfl | (simp; done)

theorem discardCask_keeps [Fact (Part.tbl ∈ K)] [Fact (Part.host ∈ K)] [Fact (Part.txn ∈ K)] [Fact (Part.vine ∈ K)] [Fact (Part.jet ∈ K)] [Fact (Part.hc ∈ K)] [Fact (Part.mot ∈ K)] [Fact (Part.vlv ∈ K)] [Fact (Part.nvm ∈ K)] (s : State) (hI : Keeps K B0 s) :
    Keeps K B0 (discardCask s) := by
  unfold discardCask
  try dsimp only
  with_reducible repeat' first
    | assumption | apply foldl_keeps | (apply ite_keeps <;> intro _) | apply rollback_keeps
    | (fail_if_no_progress (refine mk_keeps ?_)) | intro _ _ _ | split | rfl | (simp; done)

theorem entryStep3_keeps [Fact (Part.tbl ∈ K)] [Fact (Part.host ∈ K)] [Fact (Part.txn ∈ K)] [Fact (Part.vine ∈ K)] [Fact (Part.jet ∈ K)] [Fact (Part.hc ∈ K)] [Fact (Part.mot ∈ K)] [Fact (Part.vlv ∈ K)] [Fact (Part.rail ∈ K)] [Fact (Part.pwr ∈ K)] [Fact (Part.nvm ∈ K)] (t : Nat) (s : State) (hI : Keeps K B0 s) :
    Keeps K B0 (entryStep3 t s) := by
  unfold entryStep3
  try dsimp only
  with_reducible repeat' first
    | assumption | apply foldl_keeps | (apply ite_keeps <;> intro _) | apply drainRails_keeps | apply pwrLees_keeps
    | apply discardCask_keeps | (fail_if_no_progress (refine mk_keeps ?_)) | intro _ _ _ | split | rfl | (simp; done)

theorem coreUnpowered_keeps [Fact (Part.tick ∈ K)] [Fact (Part.tbl ∈ K)] [Fact (Part.host ∈ K)] [Fact (Part.bnd ∈ K)] [Fact (Part.txn ∈ K)] [Fact (Part.vine ∈ K)] [Fact (Part.enc ∈ K)] [Fact (Part.grid ∈ K)] [Fact (Part.jet ∈ K)] [Fact (Part.ing ∈ K)] [Fact (Part.hc ∈ K)] [Fact (Part.mot ∈ K)] [Fact (Part.vlv ∈ K)] [Fact (Part.vlvSel ∈ K)] [Fact (Part.rail ∈ K)] [Fact (Part.boot ∈ K)] [Fact (Part.pwr ∈ K)] [Fact (Part.cal ∈ K)] [Fact (Part.nvm ∈ K)] (s : State) (hI : Keeps K B0 s) :
    Keeps K B0 (coreUnpowered s) := by
  unfold coreUnpowered
  try dsimp only
  with_reducible repeat' first
    | assumption | apply foldl_keeps | (apply ite_keeps <;> intro _) | apply blocksDown_keeps | apply vineLost_keeps
    | apply leesFlush_keeps | (fail_if_no_progress (refine mk_keeps ?_)) | intro _ _ _ | split | rfl | (simp; done)

theorem enterState_keeps [Fact (Part.tick ∈ K)] [Fact (Part.tbl ∈ K)] [Fact (Part.host ∈ K)] [Fact (Part.bnd ∈ K)] [Fact (Part.txn ∈ K)] [Fact (Part.vine ∈ K)] [Fact (Part.enc ∈ K)] [Fact (Part.grid ∈ K)] [Fact (Part.jet ∈ K)] [Fact (Part.ing ∈ K)] [Fact (Part.hc ∈ K)] [Fact (Part.mot ∈ K)] [Fact (Part.vlv ∈ K)] [Fact (Part.vlvSel ∈ K)] [Fact (Part.rail ∈ K)] [Fact (Part.boot ∈ K)] [Fact (Part.pwr ∈ K)] [Fact (Part.cal ∈ K)] [Fact (Part.nvm ∈ K)] (t : Nat) (s : State) (hI : Keeps K B0 s) :
    Keeps K B0 (enterState t s) := by
  unfold enterState
  try dsimp only
  with_reducible repeat' first
    | assumption | apply foldl_keeps | (apply ite_keeps <;> intro _) | apply bump_keeps | apply raise_keeps
    | apply leesFlush_keeps | apply coreUnpowered_keeps | (fail_if_no_progress (refine mk_keeps ?_)) | intro _ _ _
    | split | rfl | (simp; done)

theorem abortEntry_keeps [Fact (Part.tbl ∈ K)] [Fact (Part.host ∈ K)] [Fact (Part.pwr ∈ K)] [Fact (Part.nvm ∈ K)] (t : Nat) (s : State) (hI : Keeps K B0 s) : Keeps K B0 (abortEntry t s) := by
  unfold abortEntry abortEntry.pwrLeesCode
  exact raise_keeps _ _ (recErrLees_keeps _ _ _ _ (mk_keeps hI))

theorem abortDrained_keeps [Fact (Part.tick ∈ K)] [Fact (Part.tbl ∈ K)] [Fact (Part.host ∈ K)] [Fact (Part.bnd ∈ K)] [Fact (Part.txn ∈ K)] [Fact (Part.vine ∈ K)] [Fact (Part.enc ∈ K)] [Fact (Part.grid ∈ K)] [Fact (Part.jet ∈ K)] [Fact (Part.ing ∈ K)] [Fact (Part.hc ∈ K)] [Fact (Part.mot ∈ K)] [Fact (Part.vlv ∈ K)] [Fact (Part.vlvSel ∈ K)] [Fact (Part.rail ∈ K)] [Fact (Part.boot ∈ K)] [Fact (Part.pwr ∈ K)] [Fact (Part.cal ∈ K)] [Fact (Part.nvm ∈ K)] (t : Nat) (s : State) (hI : Keeps K B0 s) :
    Keeps K B0 (abortDrained t s) := by
  unfold abortDrained
  try dsimp only
  with_reducible repeat' first
    | assumption | apply foldl_keeps | (apply ite_keeps <;> intro _) | apply selfStart_keeps
    | apply coreUnpowered_keeps | apply abortEntry_keeps | (fail_if_no_progress (refine mk_keeps ?_)) | intro _ _ _
    | split | rfl | (simp; done)

theorem wakeTimer_keeps [Fact (Part.host ∈ K)] [Fact (Part.pwr ∈ K)] (s : State) (hI : Keeps K B0 s) :
    Keeps K B0 (wakeTimer s) := by
  unfold wakeTimer
  try dsimp only
  with_reducible repeat' first
    | assumption | apply foldl_keeps | (apply ite_keeps <;> intro _) | apply wake_keeps
    | (fail_if_no_progress (refine mk_keeps ?_)) | intro _ _ _ | split | rfl | (simp; done)

/-! ### Machine/Regs.lean -/

theorem tblLatch_keeps [Fact (Part.host ∈ K)] [Fact (Part.enc ∈ K)] [Fact (Part.mot ∈ K)] (t a : Nat) (s : State) (hI : Keeps K B0 s) :
    Keeps K B0 (tblLatch t a s) := by
  unfold tblLatch
  try dsimp only
  with_reducible repeat' first
    | assumption | apply foldl_keeps | (apply ite_keeps <;> intro _) | apply setEnc_keeps | apply setAxis_keeps
    | (fail_if_no_progress (refine mk_keeps ?_)) | intro _ _ _ | split | rfl | (simp; done)

theorem clear32_keeps [Fact (Part.tbl ∈ K)] (t a : Nat) (s : State) (hI : Keeps K B0 s) :
    Keeps K B0 (clear32 t a s) := by
  unfold clear32
  try dsimp only
  with_reducible repeat' first
    | assumption | apply foldl_keeps | (apply ite_keeps <;> intro _) | apply tset_keeps
    | (fail_if_no_progress (refine mk_keeps ?_)) | intro _ _ _ | split | rfl | (simp; done)

theorem encCtlWrite_keeps [Fact (Part.host ∈ K)] [Fact (Part.enc ∈ K)] [Fact (Part.grid ∈ K)] (c : Nat) (d : Word) (s : State) (hI : Keeps K B0 s) :
    Keeps K B0 (encCtlWrite c d s) := by
  unfold encCtlWrite
  try dsimp only
  with_reducible repeat' first
    | assumption | apply foldl_keeps | (apply ite_keeps <;> intro _) | apply encWrite_keeps
    | (fail_if_no_progress (refine mk_keeps ?_)) | intro _ _ _ | split | rfl | (simp; done)

theorem encStatWrite_keeps [Fact (Part.enc ∈ K)] (c : Nat) (d : Word) (s : State) (hI : Keeps K B0 s) :
    Keeps K B0 (encStatWrite c d s) := by
  unfold encStatWrite
  try dsimp only
  with_reducible repeat' first
    | assumption | apply foldl_keeps | (apply ite_keeps <;> intro _) | apply setEnc_keeps
    | (fail_if_no_progress (refine mk_keeps ?_)) | intro _ _ _ | split | rfl | (simp; done)

theorem encTblWrite_keeps [Fact (Part.host ∈ K)] [Fact (Part.enc ∈ K)] [Fact (Part.grid ∈ K)] (a : Nat) (d : Word) (s : State) (hI : Keeps K B0 s) :
    Keeps K B0 (encTblWrite a d s) := by
  unfold encTblWrite
  try dsimp only
  with_reducible repeat' first
    | assumption | apply foldl_keeps | (apply ite_keeps <;> intro _) | apply setEnc_keeps | apply countWriteOp_keeps
    | apply encCtlWrite_keeps | apply encStatWrite_keeps | (fail_if_no_progress (refine mk_keeps ?_)) | intro _ _ _
    | split | rfl | (simp; done)

theorem axisTblWrite_keeps [Fact (Part.tbl ∈ K)] (a : Nat) (d : Word) (s : State) (hI : Keeps K B0 s) :
    Keeps K B0 (axisTblWrite a d s) := by
  unfold axisTblWrite
  try dsimp only
  with_reducible repeat' first
    | assumption | apply foldl_keeps | (apply ite_keeps <;> intro _) | apply tset_keeps
    | (fail_if_no_progress (refine mk_keeps ?_)) | intro _ _ _ | split | rfl | (simp; done)

theorem groupTblWrite_keeps [Fact (Part.tbl ∈ K)] (a : Nat) (d : Word) (s : State) (hI : Keeps K B0 s) :
    Keeps K B0 (groupTblWrite a d s) := by
  unfold groupTblWrite
  try dsimp only
  with_reducible repeat' first
    | assumption | apply foldl_keeps | (apply ite_keeps <;> intro _) | apply tset_keeps
    | (fail_if_no_progress (refine mk_keeps ?_)) | intro _ _ _ | split | rfl | (simp; done)

theorem linkTblWrite_keeps [Fact (Part.tbl ∈ K)] (a : Nat) (s : State) (hI : Keeps K B0 s) :
    Keeps K B0 (linkTblWrite a s) := by
  unfold linkTblWrite
  try dsimp only
  with_reducible repeat' first
    | assumption | apply foldl_keeps | (apply ite_keeps <;> intro _) | apply tset_keeps | apply clear32_keeps
    | (fail_if_no_progress (refine mk_keeps ?_)) | intro _ _ _ | split | rfl | (simp; done)

theorem jetTblWrite_keeps [Fact (Part.tbl ∈ K)] (a : Nat) (s : State) (hI : Keeps K B0 s) :
    Keeps K B0 (jetTblWrite a s) := by
  unfold jetTblWrite
  try dsimp only
  with_reducible repeat' first
    | assumption | apply foldl_keeps | (apply ite_keeps <;> intro _) | apply tset_keeps | apply clear32_keeps
    | (fail_if_no_progress (refine mk_keeps ?_)) | intro _ _ _ | split | rfl | (simp; done)

theorem careTblWrite_keeps [Fact (Part.free ∈ K)] [Fact (Part.tbl ∈ K)] [Fact (Part.host ∈ K)] [Fact (Part.jet ∈ K)] [Fact (Part.hc ∈ K)] (a : Nat) (d : Word) (s : State) (hI : Keeps K B0 s) :
    Keeps K B0 (careTblWrite a d s) := by
  unfold careTblWrite
  try dsimp only
  with_reducible repeat' first
    | assumption | apply foldl_keeps | (apply ite_keeps <;> intro _) | apply tset_keeps | apply hcCmd_keeps
    | (fail_if_no_progress (refine mk_keeps ?_)) | intro _ _ _ | split | rfl | (simp; done)

theorem nvmTblWrite_keeps [Fact (Part.tbl ∈ K)] [Fact (Part.host ∈ K)] [Fact (Part.nvm ∈ K)] (a : Nat) (d : Word) (s : State) (hI : Keeps K B0 s) :
    Keeps K B0 (nvmTblWrite a d s) := by
  unfold nvmTblWrite
  try dsimp only
  with_reducible repeat' first
    | assumption | apply foldl_keeps | (apply ite_keeps <;> intro _) | apply tset_keeps | apply nvmWrite_keeps
    | (fail_if_no_progress (refine mk_keeps ?_)) | intro _ _ _ | split | rfl | (simp; done)

theorem gridTblWrite_keeps [Fact (Part.tbl ∈ K)] [Fact (Part.grid ∈ K)] (a : Nat) (d : Word) (s : State) (hI : Keeps K B0 s) :
    Keeps K B0 (gridTblWrite a d s) := by
  unfold gridTblWrite
  try dsimp only
  with_reducible repeat' first
    | assumption | apply foldl_keeps | (apply ite_keeps <;> intro _) | apply tset_keeps
    | (fail_if_no_progress (refine mk_keeps ?_)) | intro _ _ _ | split | rfl | (simp; done)

theorem plainWrite_keeps [Fact (Part.free ∈ K)] [Fact (Part.tbl ∈ K)] [Fact (Part.host ∈ K)] [Fact (Part.bnd ∈ K)] [Fact (Part.txn ∈ K)] [Fact (Part.vine ∈ K)] [Fact (Part.enc ∈ K)] [Fact (Part.grid ∈ K)] [Fact (Part.jet ∈ K)] [Fact (Part.ing ∈ K)] [Fact (Part.hc ∈ K)] [Fact (Part.mot ∈ K)] [Fact (Part.vlv ∈ K)] [Fact (Part.rail ∈ K)] [Fact (Part.boot ∈ K)] [Fact (Part.cal ∈ K)] [Fact (Part.nvm ∈ K)] (t a : Nat) (d : Word) (s : State) (hI : Keeps K B0 s) :
    Keeps K B0 (plainWrite t a d s) := by
  unfold plainWrite
  try dsimp only
  with_reducible repeat' first
    | assumption | apply foldl_keeps | (apply ite_keeps <;> intro _) | apply tset_keeps | apply gridCfgWriteOp_keeps
    | apply hcConfigWriteOp_keeps | apply railConfig_keeps | apply railCounter_keeps | apply ingWrite_keeps
    | apply ingCounter_keeps | apply descriptorWrite_keeps | apply clear32_keeps | apply encTblWrite_keeps
    | apply axisTblWrite_keeps | apply groupTblWrite_keeps | apply linkTblWrite_keeps | apply jetTblWrite_keeps
    | apply careTblWrite_keeps | apply nvmTblWrite_keeps | apply gridTblWrite_keeps
    | (fail_if_no_progress (refine mk_keeps ?_)) | intro _ _ _ | split | rfl | (simp; done)

theorem tblWrite_keeps [Fact (Part.free ∈ K)] [Fact (Part.tbl ∈ K)] [Fact (Part.host ∈ K)] [Fact (Part.bnd ∈ K)] [Fact (Part.txn ∈ K)] [Fact (Part.vine ∈ K)] [Fact (Part.enc ∈ K)] [Fact (Part.grid ∈ K)] [Fact (Part.jet ∈ K)] [Fact (Part.ing ∈ K)] [Fact (Part.hc ∈ K)] [Fact (Part.mot ∈ K)] [Fact (Part.vlv ∈ K)] [Fact (Part.rail ∈ K)] [Fact (Part.boot ∈ K)] [Fact (Part.cal ∈ K)] [Fact (Part.nvm ∈ K)] (t a : Nat) (d : Word) (s : State) (hI : Keeps K B0 s) :
    Keeps K B0 (tblWrite t a d s) := by
  unfold tblWrite
  try dsimp only
  with_reducible repeat' first
    | assumption | apply foldl_keeps | (apply ite_keeps <;> intro _) | apply ckWrite_keeps | apply plainWrite_keeps
    | (fail_if_no_progress (refine mk_keeps ?_)) | intro _ _ _ | split | rfl | (simp; done)

theorem incAddr_keeps [Fact (Part.host ∈ K)] (inc : Bool) (s : State) (hI : Keeps K B0 s) :
    Keeps K B0 (incAddr inc s) := by
  unfold incAddr
  try dsimp only
  with_reducible repeat' first
    | assumption | apply foldl_keeps | (apply ite_keeps <;> intro _) | (fail_if_no_progress (refine mk_keeps ?_))
    | intro _ _ _ | split | rfl | (simp; done)

theorem tableEnd_keeps [Fact (Part.host ∈ K)] (s : State) (hI : Keeps K B0 s) :
    Keeps K B0 (tableEnd s) := by
  unfold tableEnd
  try dsimp only
  with_reducible repeat' first
    | assumption | apply foldl_keeps | (apply ite_keeps <;> intro _) | apply recErr_keeps | apply hstFlag_keeps
    | (fail_if_no_progress (refine mk_keeps ?_)) | intro _ _ _ | split | rfl | (simp; done)

theorem windowRead_keeps [Fact (Part.host ∈ K)] [Fact (Part.enc ∈ K)] [Fact (Part.mot ∈ K)] (inc view : Bool) (s : State) (hI : Keeps K B0 s) :
    Keeps K B0 (windowRead inc view s).2 := by
  unfold windowRead
  try dsimp only
  with_reducible repeat' first
    | assumption | apply foldl_keeps | (apply ite_keeps <;> intro _) | apply tblLatch_keeps | apply incAddr_keeps
    | apply tableEnd_keeps | (fail_if_no_progress (refine mk_keeps ?_)) | intro _ _ _ | split | rfl | (simp; done)

theorem windowWrite_keeps [Fact (Part.free ∈ K)] [Fact (Part.tbl ∈ K)] [Fact (Part.host ∈ K)] [Fact (Part.bnd ∈ K)] [Fact (Part.txn ∈ K)] [Fact (Part.vine ∈ K)] [Fact (Part.enc ∈ K)] [Fact (Part.grid ∈ K)] [Fact (Part.jet ∈ K)] [Fact (Part.ing ∈ K)] [Fact (Part.hc ∈ K)] [Fact (Part.mot ∈ K)] [Fact (Part.vlv ∈ K)] [Fact (Part.rail ∈ K)] [Fact (Part.boot ∈ K)] [Fact (Part.cal ∈ K)] [Fact (Part.nvm ∈ K)] (inc : Bool) (d : Word) (s : State) (hI : Keeps K B0 s) :
    Keeps K B0 (windowWrite inc d s) := by
  unfold windowWrite
  try dsimp only
  with_reducible repeat' first
    | assumption | apply foldl_keeps | (apply ite_keeps <;> intro _) | apply tblWrite_keeps | apply incAddr_keeps
    | apply tableEnd_keeps | (fail_if_no_progress (refine mk_keeps ?_)) | intro _ _ _ | split | rfl | (simp; done)

theorem selectTable_keeps [Fact (Part.tbl ∈ K)] [Fact (Part.host ∈ K)] (d : Word) (s : State) (hI : Keeps K B0 s) :
    Keeps K B0 (selectTable d s) := by
  unfold selectTable
  try dsimp only
  with_reducible repeat' first
    | assumption | apply foldl_keeps | (apply ite_keeps <;> intro _) | apply bump_keeps | apply recErr_keeps
    | apply hstFlag_keeps | (fail_if_no_progress (refine mk_keeps ?_)) | intro _ _ _ | split | rfl | (simp; done)

theorem regRead_keeps [Fact (Part.host ∈ K)] [Fact (Part.enc ∈ K)] [Fact (Part.mot ∈ K)] (a : Nat) (inc view : Bool) (s : State) (hI : Keeps K B0 s) :
    Keeps K B0 (regRead a inc view s).2 := by
  unfold regRead
  try dsimp only
  with_reducible repeat' first
    | assumption | apply foldl_keeps | (apply ite_keeps <;> intro _) | apply windowRead_keeps
    | (fail_if_no_progress (refine mk_keeps ?_)) | intro _ _ _ | split | rfl | (simp; done)

theorem txnCtlWrite_keeps [Fact (Part.tbl ∈ K)] [Fact (Part.host ∈ K)] [Fact (Part.txn ∈ K)] [Fact (Part.vine ∈ K)] [Fact (Part.enc ∈ K)] [Fact (Part.grid ∈ K)] [Fact (Part.jet ∈ K)] [Fact (Part.hc ∈ K)] [Fact (Part.mot ∈ K)] [Fact (Part.vlv ∈ K)] [Fact (Part.boot ∈ K)] [Fact (Part.nvm ∈ K)] (d : Word) (s : State) (hI : Keeps K B0 s) :
    Keeps K B0 (txnCtlWrite d s) := by
  unfold txnCtlWrite
  try dsimp only
  with_reducible repeat' first
    | assumption | apply foldl_keeps | (apply ite_keeps <;> intro _) | apply txnCtl_keeps
    | (fail_if_no_progress (refine mk_keeps ?_)) | intro _ _ _ | split | rfl | (simp; done)

theorem irqClear_keeps [Fact (Part.host ∈ K)] (mask coincident : Word) (s : State) (hI : Keeps K B0 s) :
    Keeps K B0 (irqClear mask coincident s) := by
  unfold irqClear
  try dsimp only
  with_reducible repeat' first
    | assumption | apply foldl_keeps | (apply ite_keeps <;> intro _) | (fail_if_no_progress (refine mk_keeps ?_))
    | intro _ _ _ | split | rfl | (simp; done)

theorem jetStatWrite_keeps [Fact (Part.jet ∈ K)] (d : Word) (s : State) (hI : Keeps K B0 s) :
    Keeps K B0 (jetStatWrite d s) := by
  unfold jetStatWrite
  try dsimp only
  with_reducible repeat' first
    | assumption | apply foldl_keeps | (apply ite_keeps <;> intro _) | (fail_if_no_progress (refine mk_keeps ?_))
    | intro _ _ _ | split | rfl | (simp; done)

theorem ingestStatWrite_keeps [Fact (Part.ing ∈ K)] (d : Word) (s : State) (hI : Keeps K B0 s) :
    Keeps K B0 (ingestStatWrite d s) := by
  unfold ingestStatWrite
  try dsimp only
  with_reducible repeat' first
    | assumption | apply foldl_keeps | (apply ite_keeps <;> intro _) | (fail_if_no_progress (refine mk_keeps ?_))
    | intro _ _ _ | split | rfl | (simp; done)

theorem railStatWrite_keeps [Fact (Part.rail ∈ K)] [Fact (Part.nvm ∈ K)] (d : Word) (s : State) (hI : Keeps K B0 s) :
    Keeps K B0 (railStatWrite d s) := by
  unfold railStatWrite
  try dsimp only
  with_reducible repeat' first
    | assumption | apply foldl_keeps | (apply ite_keeps <;> intro _) | apply pfwClearOp_keeps
    | (fail_if_no_progress (refine mk_keeps ?_)) | intro _ _ _ | split | rfl | (simp; done)

theorem motStatWrite_keeps [Fact (Part.mot ∈ K)] (d : Word) (s : State) (hI : Keeps K B0 s) :
    Keeps K B0 (motStatWrite d s) := by
  unfold motStatWrite
  try dsimp only
  with_reducible repeat' first
    | assumption | apply foldl_keeps | (apply ite_keeps <;> intro _) | apply setAxis_keeps
    | (fail_if_no_progress (refine mk_keeps ?_)) | intro _ _ _ | split | rfl | (simp; done)

theorem vlvStatWrite_keeps [Fact (Part.vlv ∈ K)] (d : Word) (s : State) (hI : Keeps K B0 s) :
    Keeps K B0 (vlvStatWrite d s) := by
  unfold vlvStatWrite
  try dsimp only
  with_reducible repeat' first
    | assumption | apply foldl_keeps | (apply ite_keeps <;> intro _) | apply setValve_keeps
    | (fail_if_no_progress (refine mk_keeps ?_)) | intro _ _ _ | split | rfl | (simp; done)

theorem calStatWrite_keeps [Fact (Part.cal ∈ K)] (d : Word) (s : State) (hI : Keeps K B0 s) :
    Keeps K B0 (calStatWrite d s) := by
  unfold calStatWrite
  try dsimp only
  with_reducible repeat' first
    | assumption | apply foldl_keeps | (apply ite_keeps <;> intro _) | (fail_if_no_progress (refine mk_keeps ?_))
    | intro _ _ _ | split | rfl | (simp; done)

theorem fabCtlWrite_keeps [Fact (Part.tick ∈ K)] [Fact (Part.free ∈ K)] [Fact (Part.tbl ∈ K)] [Fact (Part.host ∈ K)] [Fact (Part.bnd ∈ K)] [Fact (Part.txn ∈ K)] [Fact (Part.vine ∈ K)] [Fact (Part.enc ∈ K)] [Fact (Part.grid ∈ K)] [Fact (Part.jet ∈ K)] [Fact (Part.ing ∈ K)] [Fact (Part.hc ∈ K)] [Fact (Part.mot ∈ K)] [Fact (Part.vlv ∈ K)] [Fact (Part.vlvSel ∈ K)] [Fact (Part.rail ∈ K)] [Fact (Part.boot ∈ K)] [Fact (Part.pwr ∈ K)] [Fact (Part.cal ∈ K)] [Fact (Part.nvm ∈ K)] (d : Word) (s : State) (hI : Keeps K B0 s) :
    Keeps K B0 (fabCtlWrite d s) := by
  unfold fabCtlWrite
  try dsimp only
  with_reducible repeat' first
    | assumption | apply foldl_keeps | (apply ite_keeps <;> intro _) | apply fabReg_keeps
    | (fail_if_no_progress (refine mk_keeps ?_)) | intro _ _ _ | split | rfl | (simp; done)

theorem anchorWrite_keeps [Fact (Part.tick ∈ K)] [Fact (Part.free ∈ K)] [Fact (Part.tbl ∈ K)] [Fact (Part.host ∈ K)] [Fact (Part.bnd ∈ K)] [Fact (Part.txn ∈ K)] [Fact (Part.vine ∈ K)] [Fact (Part.enc ∈ K)] [Fact (Part.grid ∈ K)] [Fact (Part.jet ∈ K)] [Fact (Part.ing ∈ K)] [Fact (Part.hc ∈ K)] [Fact (Part.mot ∈ K)] [Fact (Part.vlv ∈ K)] [Fact (Part.vlvSel ∈ K)] [Fact (Part.rail ∈ K)] [Fact (Part.boot ∈ K)] [Fact (Part.pwr ∈ K)] [Fact (Part.cal ∈ K)] [Fact (Part.nvm ∈ K)] (a : Nat) (d : Word) (s : State) (hI : Keeps K B0 s) :
    Keeps K B0 (anchorWrite a d s) := by
  unfold anchorWrite
  try dsimp only
  with_reducible repeat' first
    | assumption | apply foldl_keeps | (apply ite_keeps <;> intro _) | apply wdgAnswerOp_keeps
    | apply wdgCtlWrite_keeps | apply rstCauseWrite_keeps | apply txnCtlWrite_keeps | apply irqClear_keeps
    | apply fabCtlWrite_keeps | (fail_if_no_progress (refine mk_keeps ?_)) | intro _ _ _ | split | rfl | (simp; done)

theorem routedWrite_keeps [Fact (Part.free ∈ K)] [Fact (Part.tbl ∈ K)] [Fact (Part.host ∈ K)] [Fact (Part.bnd ∈ K)] [Fact (Part.txn ∈ K)] [Fact (Part.vine ∈ K)] [Fact (Part.enc ∈ K)] [Fact (Part.grid ∈ K)] [Fact (Part.jet ∈ K)] [Fact (Part.ing ∈ K)] [Fact (Part.hc ∈ K)] [Fact (Part.mot ∈ K)] [Fact (Part.vlv ∈ K)] [Fact (Part.vlvSel ∈ K)] [Fact (Part.rail ∈ K)] [Fact (Part.boot ∈ K)] [Fact (Part.pwr ∈ K)] [Fact (Part.cal ∈ K)] [Fact (Part.nvm ∈ K)] (a : Nat) (inc : Bool) (d : Word) (s : State) (hI : Keeps K B0 s) :
    Keeps K B0 (routedWrite a inc d s) := by
  unfold routedWrite
  try dsimp only
  with_reducible repeat' first
    | assumption | apply foldl_keeps | (apply ite_keeps <;> intro _) | apply motCmd_keeps | apply jetWrite_keeps
    | apply vlvCmd_keeps | apply railWrite_keeps | apply pfwCtl_keeps | apply calCmd_keeps | apply declareLayer_keeps
    | apply attCmd_keeps | apply pwrReqOp_keeps | apply windowWrite_keeps | apply selectTable_keeps
    | apply jetStatWrite_keeps | apply ingestStatWrite_keeps | apply railStatWrite_keeps | apply motStatWrite_keeps
    | apply vlvStatWrite_keeps | apply calStatWrite_keeps | (fail_if_no_progress (refine mk_keeps ?_)) | intro _ _ _
    | split | rfl | (simp; done)

theorem reservedAccess_keeps [Fact (Part.tbl ∈ K)] [Fact (Part.host ∈ K)] (s : State) (hI : Keeps K B0 s) :
    Keeps K B0 (reservedAccess s) := by
  unfold reservedAccess
  try dsimp only
  with_reducible repeat' first
    | assumption | apply foldl_keeps | (apply ite_keeps <;> intro _) | apply bump_keeps | apply recErr_keeps
    | apply hstFlag_keeps | (fail_if_no_progress (refine mk_keeps ?_)) | intro _ _ _ | split | rfl | (simp; done)

theorem nodeAccess_keeps [Fact (Part.tick ∈ K)] [Fact (Part.free ∈ K)] [Fact (Part.tbl ∈ K)] [Fact (Part.host ∈ K)] [Fact (Part.bnd ∈ K)] [Fact (Part.txn ∈ K)] [Fact (Part.vine ∈ K)] [Fact (Part.enc ∈ K)] [Fact (Part.grid ∈ K)] [Fact (Part.jet ∈ K)] [Fact (Part.ing ∈ K)] [Fact (Part.hc ∈ K)] [Fact (Part.mot ∈ K)] [Fact (Part.vlv ∈ K)] [Fact (Part.vlvSel ∈ K)] [Fact (Part.rail ∈ K)] [Fact (Part.boot ∈ K)] [Fact (Part.pwr ∈ K)] [Fact (Part.cal ∈ K)] [Fact (Part.nvm ∈ K)] (rnw inc view : Bool) (a : Nat) (d : Word) (s : State) (hI : Keeps K B0 s) :
    Keeps K B0 (nodeAccess rnw inc view a d s).2.2 := by
  unfold nodeAccess
  try dsimp only
  with_reducible repeat' first
    | assumption | apply foldl_keeps | (apply ite_keeps <;> intro _) | apply regRead_keeps | apply anchorWrite_keeps
    | apply routedWrite_keeps | apply reservedAccess_keeps | (fail_if_no_progress (refine mk_keeps ?_)) | intro _ _ _
    | split | rfl | (simp; done)

theorem nodeWrite_keeps [Fact (Part.tick ∈ K)] [Fact (Part.free ∈ K)] [Fact (Part.tbl ∈ K)] [Fact (Part.host ∈ K)] [Fact (Part.bnd ∈ K)] [Fact (Part.txn ∈ K)] [Fact (Part.vine ∈ K)] [Fact (Part.enc ∈ K)] [Fact (Part.grid ∈ K)] [Fact (Part.jet ∈ K)] [Fact (Part.ing ∈ K)] [Fact (Part.hc ∈ K)] [Fact (Part.mot ∈ K)] [Fact (Part.vlv ∈ K)] [Fact (Part.vlvSel ∈ K)] [Fact (Part.rail ∈ K)] [Fact (Part.boot ∈ K)] [Fact (Part.pwr ∈ K)] [Fact (Part.cal ∈ K)] [Fact (Part.nvm ∈ K)] (a : Nat) (inc : Bool) (d : Word) (s : State) (hI : Keeps K B0 s) :
    Keeps K B0 (nodeWrite a inc d s) := by
  unfold nodeWrite
  try dsimp only
  with_reducible repeat' first
    | assumption | apply foldl_keeps | (apply ite_keeps <;> intro _) | apply nodeAccess_keeps
    | (fail_if_no_progress (refine mk_keeps ?_)) | intro _ _ _ | split | rfl | (simp; done)

/-! ### Machine/Startup.lean -/

theorem loadDefaults_keeps [Fact (Part.tbl ∈ K)] (s : State) (hI : Keeps K B0 s) :
    Keeps K B0 (loadDefaults s) := by
  unfold loadDefaults
  try dsimp only
  with_reducible repeat' first
    | assumption | apply foldl_keeps | (apply ite_keeps <;> intro _) | apply tset_keeps
    | (fail_if_no_progress (refine mk_keeps ?_)) | intro _ _ _ | split | rfl | (simp; done)

theorem loadSelfRails_keeps [Fact (Part.tbl ∈ K)] (s : State) (hI : Keeps K B0 s) :
    Keeps K B0 (loadSelfRails s) := by
  unfold loadSelfRails
  try dsimp only
  with_reducible repeat' first
    | assumption | apply foldl_keeps | (apply ite_keeps <;> intro _) | apply tset_keeps
    | (fail_if_no_progress (refine mk_keeps ?_)) | intro _ _ _ | split | rfl | (simp; done)

theorem loadPfw_keeps [Fact (Part.tbl ∈ K)] [Fact (Part.rail ∈ K)] (s : State) (hI : Keeps K B0 s) :
    Keeps K B0 (loadPfw s) := by
  unfold loadPfw
  try dsimp only
  with_reducible repeat' first
    | assumption | apply foldl_keeps | (apply ite_keeps <;> intro _) | apply tset_keeps
    | (fail_if_no_progress (refine mk_keeps ?_)) | intro _ _ _ | split | rfl | (simp; done)

theorem vaonPowerOn_keeps [Fact (Part.tk ∈ K)] [Fact (Part.tick ∈ K)] [Fact (Part.free ∈ K)] [Fact (Part.tbl ∈ K)] [Fact (Part.swathRam ∈ K)] [Fact (Part.host ∈ K)] [Fact (Part.bnd ∈ K)] [Fact (Part.txn ∈ K)] [Fact (Part.vine ∈ K)] [Fact (Part.enc ∈ K)] [Fact (Part.grid ∈ K)] [Fact (Part.jet ∈ K)] [Fact (Part.ing ∈ K)] [Fact (Part.hc ∈ K)] [Fact (Part.mot ∈ K)] [Fact (Part.vlv ∈ K)] [Fact (Part.vlvSel ∈ K)] [Fact (Part.rail ∈ K)] [Fact (Part.boot ∈ K)] [Fact (Part.pwr ∈ K)] [Fact (Part.cal ∈ K)] [Fact (Part.nvm ∈ K)] [Fact (Part.tap ∈ K)] (h r q : List Bool) (s : State) (hI : Keeps K B0 s) :
    Keeps K { B0 with boot.hsel := strapValue h, boot.refsel := strapValue r, boot.seqSelf := strapValue q }
      (vaonPowerOn h r q s) := by
  unfold vaonPowerOn
  dsimp only
  have hn := cutNvm_keeps s hI
  have h1 : Keeps K { B0 with boot.hsel := strapValue h, boot.refsel := strapValue r, boot.seqSelf := strapValue q } { State.reset with
      free := (cutNvm s).free, pending := s.pending
      nvm := { mem := (cutNvm s).nvm.mem, keys := (cutNvm s).nvm.keys, locked := (cutNvm s).nvm.locked, defaults := (cutNvm s).nvm.defaults, bootCount := (cutNvm s).nvm.bootCount, cut := (cutNvm s).nvm.cut }
      boot.hsel := strapValue h, boot.refsel := strapValue r, boot.seqSelf := strapValue q } :=
    ⟨⟨rfl, hn.flash, rfl, hn.defs, rfl, rfl, rfl, rfl, rfl, rfl, rfl, rfl, rfl, rfl, rfl, rfl, rfl, rfl⟩, hI.queue, rfl, rfl, rfl, fun h => ⟨keySafe_idle (hn.lock h).1, (hn.lock h).2⟩, fun p hp => absurd (by cases p <;> exact Fact.out) hp⟩
  have h2 := loadPfw_keeps _ (loadDefaults_keeps _ (tset_keeps 0x03 0 (strapsWord h r q) h1))
  exact ite_keeps (fun _ => selfStart_keeps _ (loadSelfRails_keeps _ h2)) (fun _ => h2)

theorem refclkCheck_keeps [Fact (Part.tbl ∈ K)] [Fact (Part.boot ∈ K)] (kHz : Word) (s : State) (hI : Keeps K B0 s) :
    Keeps K B0 (refclkCheck kHz s) := by
  unfold refclkCheck
  try dsimp only
  with_reducible repeat' first
    | assumption | apply foldl_keeps | (apply ite_keeps <;> intro _) | apply tset_keeps
    | (fail_if_no_progress (refine mk_keeps ?_)) | intro _ _ _ | split | rfl | (simp; done)

theorem suppliesGood_keeps [Fact (Part.boot ∈ K)] (s : State) (hI : Keeps K B0 s) :
    Keeps K B0 (suppliesGood s) := by
  unfold suppliesGood
  try dsimp only
  with_reducible repeat' first
    | assumption | apply foldl_keeps | (apply ite_keeps <;> intro _) | (fail_if_no_progress (refine mk_keeps ?_))
    | intro _ _ _ | split | rfl | (simp; done)

theorem pllLocks_keeps [Fact (Part.tick ∈ K)] [Fact (Part.free ∈ K)] [Fact (Part.tbl ∈ K)] [Fact (Part.host ∈ K)] [Fact (Part.bnd ∈ K)] [Fact (Part.grid ∈ K)] [Fact (Part.hc ∈ K)] [Fact (Part.rail ∈ K)] [Fact (Part.boot ∈ K)] [Fact (Part.nvm ∈ K)] (s : State) (hI : Keeps K B0 s) :
    Keeps K B0 (pllLocks s) := by
  unfold pllLocks
  try dsimp only
  with_reducible repeat' first
    | assumption | apply foldl_keeps | (apply ite_keeps <;> intro _) | apply coreRelease_keeps
    | apply tryRelease_keeps | (fail_if_no_progress (refine mk_keeps ?_)) | intro _ _ _ | split | rfl | (simp; done)

theorem clockLoss_keeps [Fact (Part.tick ∈ K)] [Fact (Part.free ∈ K)] [Fact (Part.tbl ∈ K)] [Fact (Part.host ∈ K)] [Fact (Part.bnd ∈ K)] [Fact (Part.txn ∈ K)] [Fact (Part.vine ∈ K)] [Fact (Part.enc ∈ K)] [Fact (Part.grid ∈ K)] [Fact (Part.jet ∈ K)] [Fact (Part.ing ∈ K)] [Fact (Part.hc ∈ K)] [Fact (Part.mot ∈ K)] [Fact (Part.vlv ∈ K)] [Fact (Part.vlvSel ∈ K)] [Fact (Part.rail ∈ K)] [Fact (Part.boot ∈ K)] [Fact (Part.pwr ∈ K)] [Fact (Part.cal ∈ K)] [Fact (Part.nvm ∈ K)] (s : State) (hI : Keeps K B0 s) :
    Keeps K B0 (clockLoss s) := by
  unfold clockLoss
  try dsimp only
  with_reducible repeat' first
    | assumption | apply foldl_keeps | (apply ite_keeps <;> intro _) | apply holdCore_keeps
    | (fail_if_no_progress (refine mk_keeps ?_)) | intro _ _ _ | split | rfl | (simp; done)

theorem nresetLow_keeps [Fact (Part.tick ∈ K)] [Fact (Part.free ∈ K)] [Fact (Part.tbl ∈ K)] [Fact (Part.host ∈ K)] [Fact (Part.bnd ∈ K)] [Fact (Part.txn ∈ K)] [Fact (Part.vine ∈ K)] [Fact (Part.enc ∈ K)] [Fact (Part.grid ∈ K)] [Fact (Part.jet ∈ K)] [Fact (Part.ing ∈ K)] [Fact (Part.hc ∈ K)] [Fact (Part.mot ∈ K)] [Fact (Part.vlv ∈ K)] [Fact (Part.vlvSel ∈ K)] [Fact (Part.rail ∈ K)] [Fact (Part.boot ∈ K)] [Fact (Part.pwr ∈ K)] [Fact (Part.cal ∈ K)] [Fact (Part.nvm ∈ K)] (s : State) (hI : Keeps K B0 s) :
    Keeps K B0 (nresetLow s) := by
  unfold nresetLow
  try dsimp only
  with_reducible repeat' first
    | assumption | apply foldl_keeps | (apply ite_keeps <;> intro _) | apply wake_keeps | apply holdCore_keeps
    | apply selfStart_keeps | (fail_if_no_progress (refine mk_keeps ?_)) | intro _ _ _ | split | rfl | (simp; done)

theorem nresetRelease_keeps [Fact (Part.tick ∈ K)] [Fact (Part.free ∈ K)] [Fact (Part.tbl ∈ K)] [Fact (Part.host ∈ K)] [Fact (Part.bnd ∈ K)] [Fact (Part.grid ∈ K)] [Fact (Part.hc ∈ K)] [Fact (Part.rail ∈ K)] [Fact (Part.boot ∈ K)] [Fact (Part.nvm ∈ K)] (s : State) (hI : Keeps K B0 s) :
    Keeps K B0 (nresetRelease s) := by
  unfold nresetRelease
  try dsimp only
  with_reducible repeat' first
    | assumption | apply foldl_keeps | (apply ite_keeps <;> intro _) | apply tryRelease_keeps
    | (fail_if_no_progress (refine mk_keeps ?_)) | intro _ _ _ | split | rfl | (simp; done)

theorem testenRise_keeps [Fact (Part.tick ∈ K)] [Fact (Part.free ∈ K)] [Fact (Part.tbl ∈ K)] [Fact (Part.host ∈ K)] [Fact (Part.bnd ∈ K)] [Fact (Part.txn ∈ K)] [Fact (Part.vine ∈ K)] [Fact (Part.enc ∈ K)] [Fact (Part.grid ∈ K)] [Fact (Part.jet ∈ K)] [Fact (Part.ing ∈ K)] [Fact (Part.hc ∈ K)] [Fact (Part.mot ∈ K)] [Fact (Part.vlv ∈ K)] [Fact (Part.vlvSel ∈ K)] [Fact (Part.rail ∈ K)] [Fact (Part.boot ∈ K)] [Fact (Part.pwr ∈ K)] [Fact (Part.cal ∈ K)] [Fact (Part.nvm ∈ K)] (s : State) (hI : Keeps K B0 s) :
    Keeps K B0 (testenRise s) := by
  unfold testenRise
  try dsimp only
  with_reducible repeat' first
    | assumption | apply foldl_keeps | (apply ite_keeps <;> intro _) | apply holdCore_keeps
    | (fail_if_no_progress (refine mk_keeps ?_)) | intro _ _ _ | split | rfl | (simp; done)

theorem testenFall_keeps [Fact (Part.tick ∈ K)] [Fact (Part.free ∈ K)] [Fact (Part.tbl ∈ K)] [Fact (Part.host ∈ K)] [Fact (Part.bnd ∈ K)] [Fact (Part.grid ∈ K)] [Fact (Part.hc ∈ K)] [Fact (Part.rail ∈ K)] [Fact (Part.boot ∈ K)] [Fact (Part.nvm ∈ K)] (s : State) (hI : Keeps K B0 s) :
    Keeps K B0 (testenFall s) := by
  unfold testenFall
  try dsimp only
  with_reducible repeat' first
    | assumption | apply foldl_keeps | (apply ite_keeps <;> intro _) | apply tryRelease_keeps
    | (fail_if_no_progress (refine mk_keeps ?_)) | intro _ _ _ | split | rfl | (simp; done)

theorem imageRegister_keeps [Fact (Part.tick ∈ K)] [Fact (Part.free ∈ K)] [Fact (Part.tbl ∈ K)] [Fact (Part.host ∈ K)] [Fact (Part.bnd ∈ K)] [Fact (Part.txn ∈ K)] [Fact (Part.vine ∈ K)] [Fact (Part.enc ∈ K)] [Fact (Part.grid ∈ K)] [Fact (Part.jet ∈ K)] [Fact (Part.ing ∈ K)] [Fact (Part.hc ∈ K)] [Fact (Part.mot ∈ K)] [Fact (Part.vlv ∈ K)] [Fact (Part.vlvSel ∈ K)] [Fact (Part.rail ∈ K)] [Fact (Part.boot ∈ K)] [Fact (Part.pwr ∈ K)] [Fact (Part.cal ∈ K)] [Fact (Part.nvm ∈ K)] (a : Nat) (d : Word) (s : State) (hI : Keeps K B0 s) :
    Keeps K B0 (imageRegister a d s) := by
  unfold imageRegister
  try dsimp only
  with_reducible repeat' first
    | assumption | apply foldl_keeps | (apply ite_keeps <;> intro _) | apply anchorWrite_keeps
    | apply routedWrite_keeps | (fail_if_no_progress (refine mk_keeps ?_)) | intro _ _ _ | split | rfl | (simp; done)

theorem imageWord_keeps [Fact (Part.free ∈ K)] [Fact (Part.tbl ∈ K)] [Fact (Part.host ∈ K)] [Fact (Part.bnd ∈ K)] [Fact (Part.txn ∈ K)] [Fact (Part.vine ∈ K)] [Fact (Part.enc ∈ K)] [Fact (Part.grid ∈ K)] [Fact (Part.jet ∈ K)] [Fact (Part.ing ∈ K)] [Fact (Part.hc ∈ K)] [Fact (Part.mot ∈ K)] [Fact (Part.vlv ∈ K)] [Fact (Part.rail ∈ K)] [Fact (Part.boot ∈ K)] [Fact (Part.cal ∈ K)] [Fact (Part.nvm ∈ K)] (t a : Nat) (d : Word) (x : Cask × State) (hI : cellsWf tblDefault 0 x.1.mem = true ∧ Keeps K B0 x.2) :
    cellsWf tblDefault 0 (imageWord t a d x).1.mem = true ∧ Keeps K B0 (imageWord t a d x).2 := by
  unfold imageWord
  repeat' split
  · exact hI
  · exact hI
  · exact ⟨cellSet_wf (Nat.zero_le _) hI.1, hI.2⟩
  · exact ⟨hI.1, plainWrite_keeps _ _ _ _ hI.2⟩

theorem imageRun_keeps [Fact (Part.free ∈ K)] [Fact (Part.tbl ∈ K)] [Fact (Part.host ∈ K)] [Fact (Part.bnd ∈ K)] [Fact (Part.txn ∈ K)] [Fact (Part.vine ∈ K)] [Fact (Part.enc ∈ K)] [Fact (Part.grid ∈ K)] [Fact (Part.jet ∈ K)] [Fact (Part.ing ∈ K)] [Fact (Part.hc ∈ K)] [Fact (Part.mot ∈ K)] [Fact (Part.vlv ∈ K)] [Fact (Part.rail ∈ K)] [Fact (Part.boot ∈ K)] [Fact (Part.cal ∈ K)] [Fact (Part.nvm ∈ K)] (t : Nat) : ∀ (ds : List Word) (a : Nat) (x : Cask × State), cellsWf tblDefault 0 x.1.mem = true ∧ Keeps K B0 x.2 →
    cellsWf tblDefault 0 (imageRun t a ds x).1.mem = true ∧ Keeps K B0 (imageRun t a ds x).2
  | [], _, _, h => h
  | _ :: ds, _, _, h => imageRun_keeps t ds _ _ (imageWord_keeps _ _ _ _ h)

theorem imageRecord_keeps [Fact (Part.tick ∈ K)] [Fact (Part.free ∈ K)] [Fact (Part.tbl ∈ K)] [Fact (Part.host ∈ K)] [Fact (Part.bnd ∈ K)] [Fact (Part.txn ∈ K)] [Fact (Part.vine ∈ K)] [Fact (Part.enc ∈ K)] [Fact (Part.grid ∈ K)] [Fact (Part.jet ∈ K)] [Fact (Part.ing ∈ K)] [Fact (Part.hc ∈ K)] [Fact (Part.mot ∈ K)] [Fact (Part.vlv ∈ K)] [Fact (Part.vlvSel ∈ K)] [Fact (Part.rail ∈ K)] [Fact (Part.boot ∈ K)] [Fact (Part.pwr ∈ K)] [Fact (Part.cal ∈ K)] [Fact (Part.nvm ∈ K)] (ph : Phase) (x : Cask × State) (r : Nat × Nat × List Word) (hI : cellsWf tblDefault 0 x.1.mem = true ∧ Keeps K B0 x.2) :
    cellsWf tblDefault 0 (imageRecord ph x r).1.mem = true ∧ Keeps K B0 (imageRecord ph x r).2 := by
  unfold imageRecord
  split
  · exact hI
  · split
    · split
      · exact ⟨hI.1, imageRegister_keeps _ _ _ hI.2⟩
      · exact hI
    · exact imageRun_keeps _ _ _ _ hI

theorem imageBad_keeps [Fact (Part.host ∈ K)] [Fact (Part.cal ∈ K)] (s : State) (hI : Keeps K B0 s) :
    Keeps K B0 (imageBad s) := by
  unfold imageBad
  try dsimp only
  with_reducible repeat' first
    | assumption | apply foldl_keeps | (apply ite_keeps <;> intro _) | apply recErr_keeps | apply calFlag_keeps
    | (fail_if_no_progress (refine mk_keeps ?_)) | intro _ _ _ | split | rfl | (simp; done)

theorem imageDecant_keeps [Fact (Part.tbl ∈ K)] [Fact (Part.host ∈ K)] [Fact (Part.txn ∈ K)] [Fact (Part.enc ∈ K)] [Fact (Part.grid ∈ K)] [Fact (Part.jet ∈ K)] [Fact (Part.hc ∈ K)] [Fact (Part.mot ∈ K)] [Fact (Part.vlv ∈ K)] [Fact (Part.cal ∈ K)] (k : Cask) (s : State) (hI : Keeps K B0 s) : Keeps K B0 (imageDecant k s) := by
  unfold imageDecant
  split
  · exact imageBad_keeps _ (txnRefuseAt_keeps _ _ _ _ _ hI)
  · exact afterCask_keeps _ _ _ (underCask_keeps k s hI)

theorem applyImage_keeps [Fact (Part.tick ∈ K)] [Fact (Part.free ∈ K)] [Fact (Part.tbl ∈ K)] [Fact (Part.host ∈ K)] [Fact (Part.bnd ∈ K)] [Fact (Part.txn ∈ K)] [Fact (Part.vine ∈ K)] [Fact (Part.enc ∈ K)] [Fact (Part.grid ∈ K)] [Fact (Part.jet ∈ K)] [Fact (Part.ing ∈ K)] [Fact (Part.hc ∈ K)] [Fact (Part.mot ∈ K)] [Fact (Part.vlv ∈ K)] [Fact (Part.vlvSel ∈ K)] [Fact (Part.rail ∈ K)] [Fact (Part.boot ∈ K)] [Fact (Part.pwr ∈ K)] [Fact (Part.cal ∈ K)] [Fact (Part.nvm ∈ K)] (s : State) (hI : Keeps K B0 s) : Keeps K B0 (applyImage s) := by
  unfold applyImage
  dsimp only
  split
  · have hx : ∀ (l : List (Nat × Nat × List Word)) (x : Cask × State), cellsWf tblDefault 0 x.1.mem = true ∧ Keeps K B0 x.2 →
        cellsWf tblDefault 0 (l.foldl (imageRecord s.boot.phase) x).1.mem = true ∧ Keeps K B0 (l.foldl (imageRecord s.boot.phase) x).2 := by
      intro l
      induction l with
      | nil => intro x h; exact h
      | cons r l ih => intro x h; exact ih _ (imageRecord_keeps _ _ _ h)
    have h0 := hx (imageRecords (imageLength (imageBytes s) + 1) (((imageBytes s).drop 16).take (imageLength (imageBytes s)))) ({ mem := caskCells s.tbl }, s) ⟨cellsWf_filter hI.tbl, hI⟩
    generalize List.foldl (imageRecord s.boot.phase) _ _ = x at h0 ⊢
    exact ite_keeps (fun _ => h0.2) (fun _ => imageDecant_keeps _ _ h0.2)
  · exact calFlag_keeps _ _ hI

theorem extendV_keeps [Fact (Part.boot ∈ K)] (n : Nat) (d : List Byte) (s : State) (hI : Keeps K B0 s) :
    Keeps K B0 (extendV n d s) := by
  unfold extendV
  exact mk_keeps hI (h18 := extend_lengths hI.v _ _)

theorem bootRecord_keeps [Fact (Part.tbl ∈ K)] (tried : Nat) (runs : Option Bool) (s : State) (hI : Keeps K B0 s) :
    Keeps K B0 (bootRecord tried runs s) := by
  unfold bootRecord
  try dsimp only
  with_reducible repeat' first
    | assumption | apply foldl_keeps | (apply ite_keeps <;> intro _) | apply tsetRun_keeps
    | (fail_if_no_progress (refine mk_keeps ?_)) | intro _ _ _ | split | rfl | (simp; done)

theorem startErrors_keeps [Fact (Part.tbl ∈ K)] [Fact (Part.host ∈ K)] [Fact (Part.nvm ∈ K)] (s : State) (hI : Keeps K B0 s) :
    Keeps K B0 (startErrors s) := by
  unfold startErrors
  try dsimp only
  with_reducible repeat' first
    | assumption | apply foldl_keeps | (apply ite_keeps <;> intro _) | apply recErrLees_keeps
    | apply trustErrLees_keeps | (fail_if_no_progress (refine mk_keeps ?_)) | intro _ _ _ | split | rfl
    | (simp; done)

theorem enterRecovery_keeps [Fact (Part.tbl ∈ K)] [Fact (Part.host ∈ K)] [Fact (Part.boot ∈ K)] [Fact (Part.nvm ∈ K)] (s : State) (hI : Keeps K B0 s) :
    Keeps K B0 (enterRecovery s) := by
  unfold enterRecovery
  try dsimp only
  with_reducible repeat' first
    | assumption | apply foldl_keeps | (apply ite_keeps <;> intro _) | apply leesScan_keeps
    | apply trustErrLees_keeps | apply bootRecord_keeps | apply startErrors_keeps
    | (fail_if_no_progress (refine mk_keeps ?_)) | intro _ _ _ | split | rfl | (simp; done)

theorem startRecords_keeps [Fact (Part.tbl ∈ K)] [Fact (Part.host ∈ K)] [Fact (Part.nvm ∈ K)] (s : State) (hI : Keeps K B0 s) :
    Keeps K B0 (startRecords s) := by
  unfold startRecords
  try dsimp only
  with_reducible repeat' first
    | assumption | apply foldl_keeps | (apply ite_keeps <;> intro _) | apply lees_keeps | apply startErrors_keeps
    | (fail_if_no_progress (refine mk_keeps ?_)) | intro _ _ _ | split | rfl | (simp; done)

theorem applyCopy_keeps [Fact (Part.tbl ∈ K)] [Fact (Part.host ∈ K)] [Fact (Part.boot ∈ K)] [Fact (Part.cal ∈ K)] [Fact (Part.nvm ∈ K)] (s : State) (hI : Keeps K B0 s) :
    Keeps K B0 (applyCopy s) := by
  unfold applyCopy
  try dsimp only
  with_reducible repeat' first
    | assumption | apply foldl_keeps | (apply ite_keeps <;> intro _) | apply tsetRun_keeps | apply recErrLees_keeps
    | apply calFlag_keeps | apply extendV_keeps | (fail_if_no_progress (refine mk_keeps ?_)) | intro _ _ _ | split
    | rfl | (simp; done)

theorem enterFirmware_keeps [Fact (Part.tick ∈ K)] [Fact (Part.free ∈ K)] [Fact (Part.tbl ∈ K)] [Fact (Part.host ∈ K)] [Fact (Part.bnd ∈ K)] [Fact (Part.txn ∈ K)] [Fact (Part.vine ∈ K)] [Fact (Part.enc ∈ K)] [Fact (Part.grid ∈ K)] [Fact (Part.jet ∈ K)] [Fact (Part.ing ∈ K)] [Fact (Part.hc ∈ K)] [Fact (Part.mot ∈ K)] [Fact (Part.vlv ∈ K)] [Fact (Part.vlvSel ∈ K)] [Fact (Part.rail ∈ K)] [Fact (Part.boot ∈ K)] [Fact (Part.pwr ∈ K)] [Fact (Part.cal ∈ K)] [Fact (Part.nvm ∈ K)] (s : State) (hI : Keeps K B0 s) :
    Keeps K B0 (enterFirmware s) := by
  unfold enterFirmware
  try dsimp only
  with_reducible repeat' first
    | assumption | apply foldl_keeps | (apply ite_keeps <;> intro _) | apply leesScan_keeps | apply startRun_keeps
    | apply applyImage_keeps | apply extendV_keeps | apply startRecords_keeps | apply applyCopy_keeps
    | (fail_if_no_progress (refine mk_keeps ?_)) | intro _ _ _ | split | rfl | (simp; done)

theorem runSlot_keeps [Fact (Part.tick ∈ K)] [Fact (Part.free ∈ K)] [Fact (Part.tbl ∈ K)] [Fact (Part.host ∈ K)] [Fact (Part.bnd ∈ K)] [Fact (Part.txn ∈ K)] [Fact (Part.vine ∈ K)] [Fact (Part.enc ∈ K)] [Fact (Part.grid ∈ K)] [Fact (Part.jet ∈ K)] [Fact (Part.ing ∈ K)] [Fact (Part.hc ∈ K)] [Fact (Part.mot ∈ K)] [Fact (Part.vlv ∈ K)] [Fact (Part.vlvSel ∈ K)] [Fact (Part.rail ∈ K)] [Fact (Part.boot ∈ K)] [Fact (Part.pwr ∈ K)] [Fact (Part.cal ∈ K)] [Fact (Part.nvm ∈ K)] (s : State) (hI : Keeps K B0 s) :
    Keeps K B0 (runSlot s) := by
  unfold runSlot
  try dsimp only
  with_reducible repeat' first
    | assumption | apply foldl_keeps | (apply ite_keeps <;> intro _) | apply extendV_keeps | apply bootRecord_keeps
    | apply enterFirmware_keeps | (fail_if_no_progress (refine mk_keeps ?_)) | intro _ _ _ | split | rfl
    | (simp; done)

theorem bootSlotCheck_keeps [Fact (Part.tick ∈ K)] [Fact (Part.free ∈ K)] [Fact (Part.tbl ∈ K)] [Fact (Part.host ∈ K)] [Fact (Part.bnd ∈ K)] [Fact (Part.txn ∈ K)] [Fact (Part.vine ∈ K)] [Fact (Part.enc ∈ K)] [Fact (Part.grid ∈ K)] [Fact (Part.jet ∈ K)] [Fact (Part.ing ∈ K)] [Fact (Part.hc ∈ K)] [Fact (Part.mot ∈ K)] [Fact (Part.vlv ∈ K)] [Fact (Part.vlvSel ∈ K)] [Fact (Part.rail ∈ K)] [Fact (Part.boot ∈ K)] [Fact (Part.pwr ∈ K)] [Fact (Part.cal ∈ K)] [Fact (Part.nvm ∈ K)] (s : State) (hI : Keeps K B0 s) :
    Keeps K B0 (bootSlotCheck s) := by
  unfold bootSlotCheck
  try dsimp only
  with_reducible repeat' first
    | assumption | apply foldl_keeps | (apply ite_keeps <;> intro _) | apply trustErrLees_keeps
    | apply enterRecovery_keeps | apply runSlot_keeps | (fail_if_no_progress (refine mk_keeps ?_)) | intro _ _ _
    | split | rfl | (simp; done)

theorem startupComplete_keeps [Fact (Part.free ∈ K)] [Fact (Part.tbl ∈ K)] [Fact (Part.host ∈ K)] [Fact (Part.bnd ∈ K)] [Fact (Part.vine ∈ K)] [Fact (Part.grid ∈ K)] [Fact (Part.jet ∈ K)] [Fact (Part.ing ∈ K)] [Fact (Part.hc ∈ K)] [Fact (Part.boot ∈ K)] [Fact (Part.cal ∈ K)] [Fact (Part.nvm ∈ K)] (s : State) (hI : Keeps K B0 s) :
    Keeps K B0 (startupComplete s) := by
  unfold startupComplete
  try dsimp only
  with_reducible repeat' first
    | assumption | apply foldl_keeps | (apply ite_keeps <;> intro _) | apply tset_keeps | apply raise_keeps
    | apply startReads_keeps | apply startAuth_keeps | apply loadCounters_keeps | apply startRun_keeps
    | apply rootStarts_keeps | (fail_if_no_progress (refine mk_keeps ?_)) | intro _ _ _ | split | rfl | (simp; done)

theorem heldCmd_keeps [Fact (Part.tick ∈ K)] [Fact (Part.free ∈ K)] [Fact (Part.tbl ∈ K)] [Fact (Part.host ∈ K)] [Fact (Part.bnd ∈ K)] [Fact (Part.txn ∈ K)] [Fact (Part.vine ∈ K)] [Fact (Part.enc ∈ K)] [Fact (Part.grid ∈ K)] [Fact (Part.jet ∈ K)] [Fact (Part.ing ∈ K)] [Fact (Part.hc ∈ K)] [Fact (Part.mot ∈ K)] [Fact (Part.vlv ∈ K)] [Fact (Part.vlvSel ∈ K)] [Fact (Part.rail ∈ K)] [Fact (Part.boot ∈ K)] [Fact (Part.pwr ∈ K)] [Fact (Part.cal ∈ K)] [Fact (Part.nvm ∈ K)] (h : Held) (s : State) (hI : Keeps K B0 s) :
    Keeps K B0 (heldCmd h s) := by
  unfold heldCmd
  try dsimp only
  with_reducible repeat' first
    | assumption | apply foldl_keeps | (apply ite_keeps <;> intro _) | apply encOp_keeps | apply motOp_keeps
    | apply jetCmd_keeps | apply vlvOp_keeps | apply railCmd_keeps | apply ingCmd_keeps | apply tblWrite_keeps
    | apply nodeWrite_keeps | (fail_if_no_progress (refine mk_keeps ?_)) | intro _ _ _ | split | rfl | (simp; done)

theorem runHeld_keeps [Fact (Part.tick ∈ K)] [Fact (Part.free ∈ K)] [Fact (Part.tbl ∈ K)] [Fact (Part.host ∈ K)] [Fact (Part.bnd ∈ K)] [Fact (Part.txn ∈ K)] [Fact (Part.vine ∈ K)] [Fact (Part.enc ∈ K)] [Fact (Part.grid ∈ K)] [Fact (Part.jet ∈ K)] [Fact (Part.ing ∈ K)] [Fact (Part.hc ∈ K)] [Fact (Part.mot ∈ K)] [Fact (Part.vlv ∈ K)] [Fact (Part.vlvSel ∈ K)] [Fact (Part.rail ∈ K)] [Fact (Part.boot ∈ K)] [Fact (Part.pwr ∈ K)] [Fact (Part.cal ∈ K)] [Fact (Part.nvm ∈ K)] (s : State) (hI : Keeps K B0 s) :
    Keeps K B0 (runHeld s) := by
  unfold runHeld
  try dsimp only
  with_reducible repeat' first
    | assumption | apply foldl_keeps | (apply ite_keeps <;> intro _) | apply heldCmd_keeps
    | (fail_if_no_progress (refine mk_keeps ?_)) | intro _ _ _ | split | rfl | (simp; done)

theorem entryStep_keeps [Fact (Part.tick ∈ K)] [Fact (Part.free ∈ K)] [Fact (Part.tbl ∈ K)] [Fact (Part.host ∈ K)] [Fact (Part.bnd ∈ K)] [Fact (Part.txn ∈ K)] [Fact (Part.vine ∈ K)] [Fact (Part.enc ∈ K)] [Fact (Part.grid ∈ K)] [Fact (Part.jet ∈ K)] [Fact (Part.ing ∈ K)] [Fact (Part.hc ∈ K)] [Fact (Part.mot ∈ K)] [Fact (Part.vlv ∈ K)] [Fact (Part.vlvSel ∈ K)] [Fact (Part.rail ∈ K)] [Fact (Part.boot ∈ K)] [Fact (Part.pwr ∈ K)] [Fact (Part.cal ∈ K)] [Fact (Part.nvm ∈ K)] (s : State) (hI : Keeps K B0 s) :
    Keeps K B0 (entryStep s) := by
  unfold entryStep
  try dsimp only
  with_reducible repeat' first
    | assumption | apply foldl_keeps | (apply ite_keeps <;> intro _) | apply refusePower_keeps
    | apply entryStep3_keeps | apply enterState_keeps | apply abortEntry_keeps | apply abortDrained_keeps
    | apply runHeld_keeps | (fail_if_no_progress (refine mk_keeps ?_)) | intro _ _ _ | split | rfl | (simp; done)

theorem advanceTick_keeps [Fact (Part.tick ∈ K)] [Fact (Part.free ∈ K)] (s : State) (hI : Keeps K B0 s) :
    Keeps K B0 (advanceTick s) := by
  unfold advanceTick
  try dsimp only
  with_reducible repeat' first
    | assumption | apply foldl_keeps | (apply ite_keeps <;> intro _) | (fail_if_no_progress (refine mk_keeps ?_))
    | intro _ _ _ | split | rfl | (simp; done)

theorem inRun_keeps [Fact (Part.pwr ∈ K)] (st : Nat) (s : State) (hI : Keeps K B0 s) :
    Keeps K B0 (inRun st s) := by
  unfold inRun
  try dsimp only
  with_reducible repeat' first
    | assumption | apply foldl_keeps | (apply ite_keeps <;> intro _) | (fail_if_no_progress (refine mk_keeps ?_))
    | intro _ _ _ | split | rfl | (simp; done)

theorem freshPeriod_keeps [Fact (Part.boot ∈ K)] (s : State) (hI : Keeps K B0 s) :
    Keeps K B0 (freshPeriod s) := by
  unfold freshPeriod
  try dsimp only
  with_reducible repeat' first
    | assumption | apply foldl_keeps | (apply ite_keeps <;> intro _) | (fail_if_no_progress (refine mk_keeps ?_))
    | intro _ _ _ | split | rfl | (simp; done)

theorem corkExit_keeps [Fact (Part.swathRam ∈ K)] [Fact (Part.txn ∈ K)] [Fact (Part.ing ∈ K)] [Fact (Part.boot ∈ K)] (s : State) (hI : Keeps K B0 s) : Keeps K B0 (corkExit s) := by
  unfold corkExit
  refine freshPeriod_keeps _ ?_
  exact ⟨⟨hI.tbl, hI.flash, rfl, hI.defs, hI.cask, hI.enc, hI.axes, hI.vlv, hI.rails, hI.wdacs, (by simpa using hI.slots), hI.inputs, hI.temps, hI.reads, hI.cons, hI.ports, hI.routes, hI.v⟩, hI.queue, hI.hsel, hI.refsel, hI.seqs, hI.lock, same_mk hI⟩

theorem hushRetained_keeps [Fact (Part.tick ∈ K)] [Fact (Part.tbl ∈ K)] [Fact (Part.swathRam ∈ K)] [Fact (Part.host ∈ K)] [Fact (Part.bnd ∈ K)] [Fact (Part.txn ∈ K)] [Fact (Part.vine ∈ K)] [Fact (Part.enc ∈ K)] [Fact (Part.grid ∈ K)] [Fact (Part.jet ∈ K)] [Fact (Part.ing ∈ K)] [Fact (Part.hc ∈ K)] [Fact (Part.mot ∈ K)] [Fact (Part.vlv ∈ K)] [Fact (Part.vlvSel ∈ K)] [Fact (Part.boot ∈ K)] [Fact (Part.pwr ∈ K)] [Fact (Part.cal ∈ K)] [Fact (Part.nvm ∈ K)] (s : State) (hI : Keeps K B0 s) : Keeps K B0 (hushRetained s) := by
  unfold hushRetained
  have h := blocksDown_keeps s hI
  exact ⟨⟨cellsWf_filter hI.tbl, hI.flash, rfl, hI.defs, h.cask, h.enc, h.axes, h.vlv, h.rails, h.wdacs, h.slots, hI.inputs, hI.temps, rfl, hI.cons, h.ports, h.routes, hI.v⟩, hI.queue, hI.hsel, hI.refsel, hI.seqs, fun h => ⟨keySafe_idle (hI.lock h).1, (hI.lock h).2⟩, same_mk hI⟩

theorem exitRecord_keeps [Fact (Part.tbl ∈ K)] [Fact (Part.host ∈ K)] [Fact (Part.nvm ∈ K)] (st : Nat) (s : State) (hI : Keeps K B0 s) :
    Keeps K B0 (exitRecord st s) := by
  unfold exitRecord
  try dsimp only
  with_reducible repeat' first
    | assumption | apply foldl_keeps | (apply ite_keeps <;> intro _) | apply pwrLees_keeps
    | (fail_if_no_progress (refine mk_keeps ?_)) | intro _ _ _ | split | rfl | (simp; done)

theorem exitDue_keeps [Fact (Part.tick ∈ K)] [Fact (Part.free ∈ K)] [Fact (Part.tbl ∈ K)] [Fact (Part.host ∈ K)] [Fact (Part.bnd ∈ K)] [Fact (Part.txn ∈ K)] [Fact (Part.vine ∈ K)] [Fact (Part.enc ∈ K)] [Fact (Part.grid ∈ K)] [Fact (Part.jet ∈ K)] [Fact (Part.ing ∈ K)] [Fact (Part.hc ∈ K)] [Fact (Part.mot ∈ K)] [Fact (Part.vlv ∈ K)] [Fact (Part.vlvSel ∈ K)] [Fact (Part.rail ∈ K)] [Fact (Part.boot ∈ K)] [Fact (Part.pwr ∈ K)] [Fact (Part.cal ∈ K)] [Fact (Part.nvm ∈ K)] (s : State) (hI : Keeps K B0 s) :
    Keeps K B0 (exitDue s) := by
  unfold exitDue
  try dsimp only
  with_reducible repeat' first
    | assumption | apply foldl_keeps | (apply ite_keeps <;> intro _) | apply tempTrigger_keeps
    | apply idleBoundary_keeps | apply runHeld_keeps | (fail_if_no_progress (refine mk_keeps ?_)) | intro _ _ _
    | split | rfl | (simp; done)

theorem wakeExit_keeps [Fact (Part.tick ∈ K)] [Fact (Part.free ∈ K)] [Fact (Part.tbl ∈ K)] [Fact (Part.swathRam ∈ K)] [Fact (Part.host ∈ K)] [Fact (Part.bnd ∈ K)] [Fact (Part.txn ∈ K)] [Fact (Part.vine ∈ K)] [Fact (Part.enc ∈ K)] [Fact (Part.grid ∈ K)] [Fact (Part.jet ∈ K)] [Fact (Part.ing ∈ K)] [Fact (Part.hc ∈ K)] [Fact (Part.mot ∈ K)] [Fact (Part.vlv ∈ K)] [Fact (Part.vlvSel ∈ K)] [Fact (Part.rail ∈ K)] [Fact (Part.boot ∈ K)] [Fact (Part.pwr ∈ K)] [Fact (Part.cal ∈ K)] [Fact (Part.nvm ∈ K)] (s : State) (hI : Keeps K B0 s) :
    Keeps K B0 (wakeExit s) := by
  unfold wakeExit
  try dsimp only
  with_reducible repeat' first
    | assumption | apply foldl_keeps | (apply ite_keeps <;> intro _) | apply raise_keeps | apply selfStart_keeps
    | apply applyImage_keeps | apply runHeld_keeps | apply advanceTick_keeps | apply inRun_keeps
    | apply freshPeriod_keeps | apply corkExit_keeps | apply hushRetained_keeps | apply exitRecord_keeps
    | apply exitDue_keeps | (fail_if_no_progress (refine mk_keeps ?_)) | intro _ _ _ | split | rfl | (simp; done)

/-! ### Machine/HostPort.lean -/

theorem typedWrite_keeps [Fact (Part.tick ∈ K)] [Fact (Part.free ∈ K)] [Fact (Part.tbl ∈ K)] [Fact (Part.host ∈ K)] [Fact (Part.bnd ∈ K)] [Fact (Part.txn ∈ K)] [Fact (Part.vine ∈ K)] [Fact (Part.enc ∈ K)] [Fact (Part.grid ∈ K)] [Fact (Part.jet ∈ K)] [Fact (Part.ing ∈ K)] [Fact (Part.hc ∈ K)] [Fact (Part.mot ∈ K)] [Fact (Part.vlv ∈ K)] [Fact (Part.vlvSel ∈ K)] [Fact (Part.rail ∈ K)] [Fact (Part.boot ∈ K)] [Fact (Part.pwr ∈ K)] [Fact (Part.cal ∈ K)] [Fact (Part.nvm ∈ K)] (a : Nat) (inc : Bool) (d : Word) (s : State) (hI : Keeps K B0 s) :
    Keeps K B0 (typedWrite a inc d s) := by
  unfold typedWrite
  try dsimp only
  with_reducible repeat' first
    | assumption | apply foldl_keeps | (apply ite_keeps <;> intro _) | apply routedOp_keeps | apply nodeWrite_keeps
    | (fail_if_no_progress (refine mk_keeps ?_)) | intro _ _ _ | split | rfl | (simp; done)

theorem queueOverflow_keeps [Fact (Part.tbl ∈ K)] [Fact (Part.host ∈ K)] (s : State) (hI : Keeps K B0 s) :
    Keeps K B0 (queueOverflow s) := by
  unfold queueOverflow
  try dsimp only
  with_reducible repeat' first
    | assumption | apply foldl_keeps | (apply ite_keeps <;> intro _) | apply bump_keeps | apply recErr_keeps
    | apply hstFlag_keeps | (fail_if_no_progress (refine mk_keeps ?_)) | intro _ _ _ | split | rfl | (simp; done)

theorem pushResult_keeps [Fact (Part.host ∈ K)] (ready : Bool) (d : Word) (s : State) (hI : Keeps K B0 s) :
    Keeps K B0 (pushResult ready d s) := by
  unfold pushResult
  try dsimp only
  with_reducible repeat' first
    | assumption | apply foldl_keeps | (apply ite_keeps <;> intro _) | (fail_if_no_progress (refine mk_keeps ?_))
    | intro _ _ _ | split | rfl | (simp; done)

theorem localRead_keeps [Fact (Part.tick ∈ K)] [Fact (Part.free ∈ K)] [Fact (Part.tbl ∈ K)] [Fact (Part.host ∈ K)] [Fact (Part.bnd ∈ K)] [Fact (Part.txn ∈ K)] [Fact (Part.vine ∈ K)] [Fact (Part.enc ∈ K)] [Fact (Part.grid ∈ K)] [Fact (Part.jet ∈ K)] [Fact (Part.ing ∈ K)] [Fact (Part.hc ∈ K)] [Fact (Part.mot ∈ K)] [Fact (Part.vlv ∈ K)] [Fact (Part.vlvSel ∈ K)] [Fact (Part.rail ∈ K)] [Fact (Part.boot ∈ K)] [Fact (Part.pwr ∈ K)] [Fact (Part.cal ∈ K)] [Fact (Part.nvm ∈ K)] (a : Nat) (inc view : Bool) (s : State) (hI : Keeps K B0 s) :
    Keeps K B0 (localRead a inc view s) := by
  unfold localRead
  try dsimp only
  with_reducible repeat' first
    | assumption | apply foldl_keeps | (apply ite_keeps <;> intro _) | apply nodeAccess_keeps
    | apply pushResult_keeps | (fail_if_no_progress (refine mk_keeps ?_)) | intro _ _ _ | split | rfl | (simp; done)

theorem hostRead_keeps [Fact (Part.tick ∈ K)] [Fact (Part.free ∈ K)] [Fact (Part.tbl ∈ K)] [Fact (Part.host ∈ K)] [Fact (Part.bnd ∈ K)] [Fact (Part.txn ∈ K)] [Fact (Part.vine ∈ K)] [Fact (Part.enc ∈ K)] [Fact (Part.grid ∈ K)] [Fact (Part.jet ∈ K)] [Fact (Part.ing ∈ K)] [Fact (Part.hc ∈ K)] [Fact (Part.mot ∈ K)] [Fact (Part.vlv ∈ K)] [Fact (Part.vlvSel ∈ K)] [Fact (Part.rail ∈ K)] [Fact (Part.boot ∈ K)] [Fact (Part.pwr ∈ K)] [Fact (Part.cal ∈ K)] [Fact (Part.nvm ∈ K)] (a : Nat) (inc : Bool) (s : State) (hI : Keeps K B0 s) :
    Keeps K B0 (hostRead a inc s) := by
  unfold hostRead
  try dsimp only
  with_reducible repeat' first
    | assumption | apply foldl_keeps | (apply ite_keeps <;> intro _) | apply queueOverflow_keeps
    | apply localRead_keeps | (fail_if_no_progress (refine mk_keeps ?_)) | intro _ _ _ | split | rfl | (simp; done)

theorem broadcastReadOp_keeps [Fact (Part.tbl ∈ K)] [Fact (Part.host ∈ K)] (s : State) (hI : Keeps K B0 s) :
    Keeps K B0 (broadcastReadOp s) := by
  unfold broadcastReadOp
  try dsimp only
  with_reducible repeat' first
    | assumption | apply foldl_keeps | (apply ite_keeps <;> intro _) | apply bump_keeps | apply recErr_keeps
    | apply hstFlag_keeps | apply pushResult_keeps | (fail_if_no_progress (refine mk_keeps ?_)) | intro _ _ _ | split
    | rfl | (simp; done)

theorem frameFast_keeps [Fact (Part.tbl ∈ K)] [Fact (Part.host ∈ K)] (s : State) (hI : Keeps K B0 s) :
    Keeps K B0 (frameFast s) := by
  unfold frameFast
  try dsimp only
  with_reducible repeat' first
    | assumption | apply foldl_keeps | (apply ite_keeps <;> intro _) | apply bump_keeps | apply recErr_keeps
    | apply hstFlag_keeps | (fail_if_no_progress (refine mk_keeps ?_)) | intro _ _ _ | split | rfl | (simp; done)

theorem frameShort_keeps [Fact (Part.tbl ∈ K)] [Fact (Part.host ∈ K)] (s : State) (hI : Keeps K B0 s) :
    Keeps K B0 (frameShort s) := by
  unfold frameShort
  try dsimp only
  with_reducible repeat' first
    | assumption | apply foldl_keeps | (apply ite_keeps <;> intro _) | apply bump_keeps | apply recErr_keeps
    | apply hstFlag_keeps | (fail_if_no_progress (refine mk_keeps ?_)) | intro _ _ _ | split | rfl | (simp; done)

theorem frameBad_keeps [Fact (Part.tbl ∈ K)] [Fact (Part.host ∈ K)] (s : State) (hI : Keeps K B0 s) :
    Keeps K B0 (frameBad s) := by
  unfold frameBad
  try dsimp only
  with_reducible repeat' first
    | assumption | apply foldl_keeps | (apply ite_keeps <;> intro _) | apply bump_keeps | apply raise_keeps
    | apply recErr_keeps | (fail_if_no_progress (refine mk_keeps ?_)) | intro _ _ _ | split | rfl | (simp; done)

theorem frameComplete_keeps [Fact (Part.host ∈ K)] (s : State) (hI : Keeps K B0 s) :
    Keeps K B0 (frameComplete s) := by
  unfold frameComplete
  try dsimp only
  with_reducible repeat' first
    | assumption | apply foldl_keeps | (apply ite_keeps <;> intro _) | (fail_if_no_progress (refine mk_keeps ?_))
    | intro _ _ _ | split | rfl | (simp; done)

theorem enqueue_keeps [Fact (Part.host ∈ K)] (rnw inc : Bool) (a : Nat) (d : Word) (s : State) (hI : Keeps K B0 s) :
    Keeps K B0 (enqueue rnw inc a d s) := by
  unfold enqueue
  try dsimp only
  with_reducible repeat' first
    | assumption | apply foldl_keeps | (apply ite_keeps <;> intro _) | apply pushResult_keeps
    | (fail_if_no_progress (refine mk_keeps ?_)) | intro _ _ _ | split | rfl | (simp; done)

theorem barrierWrite_keeps [Fact (Part.tick ∈ K)] [Fact (Part.free ∈ K)] [Fact (Part.tbl ∈ K)] [Fact (Part.host ∈ K)] [Fact (Part.bnd ∈ K)] [Fact (Part.txn ∈ K)] [Fact (Part.vine ∈ K)] [Fact (Part.enc ∈ K)] [Fact (Part.grid ∈ K)] [Fact (Part.jet ∈ K)] [Fact (Part.ing ∈ K)] [Fact (Part.hc ∈ K)] [Fact (Part.mot ∈ K)] [Fact (Part.vlv ∈ K)] [Fact (Part.vlvSel ∈ K)] [Fact (Part.rail ∈ K)] [Fact (Part.boot ∈ K)] [Fact (Part.pwr ∈ K)] [Fact (Part.cal ∈ K)] [Fact (Part.nvm ∈ K)] (d : Word) (s : State) (hI : Keeps K B0 s) :
    Keeps K B0 (barrierWrite d s) := by
  unfold barrierWrite
  try dsimp only
  with_reducible repeat' first
    | assumption | apply foldl_keeps | (apply ite_keeps <;> intro _) | apply nodeWrite_keeps
    | (fail_if_no_progress (refine mk_keeps ?_)) | intro _ _ _ | split | rfl | (simp; done)

theorem countFrame_keeps [Fact (Part.tbl ∈ K)] (s : State) (hI : Keeps K B0 s) :
    Keeps K B0 (countFrame s) := by
  unfold countFrame
  try dsimp only
  with_reducible repeat' first
    | assumption | apply foldl_keeps | (apply ite_keeps <;> intro _) | apply bump32_keeps
    | (fail_if_no_progress (refine mk_keeps ?_)) | intro _ _ _ | split | rfl | (simp; done)

theorem frameExecute_keeps [Fact (Part.tick ∈ K)] [Fact (Part.free ∈ K)] [Fact (Part.tbl ∈ K)] [Fact (Part.host ∈ K)] [Fact (Part.bnd ∈ K)] [Fact (Part.txn ∈ K)] [Fact (Part.vine ∈ K)] [Fact (Part.enc ∈ K)] [Fact (Part.grid ∈ K)] [Fact (Part.jet ∈ K)] [Fact (Part.ing ∈ K)] [Fact (Part.hc ∈ K)] [Fact (Part.mot ∈ K)] [Fact (Part.vlv ∈ K)] [Fact (Part.vlvSel ∈ K)] [Fact (Part.rail ∈ K)] [Fact (Part.boot ∈ K)] [Fact (Part.pwr ∈ K)] [Fact (Part.cal ∈ K)] [Fact (Part.nvm ∈ K)] (f : BitVec 32) (s : State) (hI : Keeps K B0 s) :
    Keeps K B0 (frameExecute f s) := by
  unfold frameExecute
  try dsimp only
  with_reducible repeat' first
    | assumption | apply foldl_keeps | (apply ite_keeps <;> intro _) | apply nodeWrite_keeps
    | apply queueOverflow_keeps | apply localRead_keeps | apply broadcastReadOp_keeps | apply enqueue_keeps
    | apply barrierWrite_keeps | apply countFrame_keeps | (fail_if_no_progress (refine mk_keeps ?_)) | intro _ _ _
    | split | rfl | (simp; done)

theorem frameArrives_keeps [Fact (Part.tick ∈ K)] [Fact (Part.free ∈ K)] [Fact (Part.tbl ∈ K)] [Fact (Part.host ∈ K)] [Fact (Part.bnd ∈ K)] [Fact (Part.txn ∈ K)] [Fact (Part.vine ∈ K)] [Fact (Part.enc ∈ K)] [Fact (Part.grid ∈ K)] [Fact (Part.jet ∈ K)] [Fact (Part.ing ∈ K)] [Fact (Part.hc ∈ K)] [Fact (Part.mot ∈ K)] [Fact (Part.vlv ∈ K)] [Fact (Part.vlvSel ∈ K)] [Fact (Part.rail ∈ K)] [Fact (Part.boot ∈ K)] [Fact (Part.pwr ∈ K)] [Fact (Part.cal ∈ K)] [Fact (Part.nvm ∈ K)] (f : BitVec 32) (fast : Bool) (s : State) (hI : Keeps K B0 s) :
    Keeps K B0 (frameArrives f fast s) := by
  unfold frameArrives
  try dsimp only
  with_reducible repeat' first
    | assumption | apply foldl_keeps | (apply ite_keeps <;> intro _) | apply frameFast_keeps | apply frameBad_keeps
    | apply frameComplete_keeps | apply frameExecute_keeps | (fail_if_no_progress (refine mk_keeps ?_)) | intro _ _ _
    | split | rfl | (simp; done)

theorem remoteFails_keeps [Fact (Part.tbl ∈ K)] [Fact (Part.host ∈ K)] (s : State) (hI : Keeps K B0 s) :
    Keeps K B0 (remoteFails s) := by
  unfold remoteFails
  try dsimp only
  with_reducible repeat' first
    | assumption | apply foldl_keeps | (apply ite_keeps <;> intro _) | apply bump_keeps | apply recErr_keeps
    | apply hstFlag_keeps | (fail_if_no_progress (refine mk_keeps ?_)) | intro _ _ _ | split | rfl | (simp; done)

theorem completeItem_keeps [Fact (Part.tbl ∈ K)] [Fact (Part.host ∈ K)] (q : Routed) (ok : Bool) (d : Word) (s : State) (hI : Keeps K B0 s) :
    Keeps K B0 (completeItem q ok d s) := by
  unfold completeItem
  try dsimp only
  with_reducible repeat' first
    | assumption | apply foldl_keeps | (apply ite_keeps <;> intro _) | apply remoteFails_keeps
    | (fail_if_no_progress (refine mk_keeps ?_)) | intro _ _ _ | split | rfl | (simp; done)

theorem itemSent_keeps [Fact (Part.host ∈ K)] (q : Routed) (mask : Nat) (s : State) (hI : Keeps K B0 s) :
    Keeps K B0 (itemSent q mask s) := by
  unfold itemSent
  try dsimp only
  with_reducible repeat' first
    | assumption | apply foldl_keeps | (apply ite_keeps <;> intro _) | (fail_if_no_progress (refine mk_keeps ?_))
    | intro _ _ _ | split | rfl | (simp; done)

theorem startBroadcast_keeps [Fact (Part.tick ∈ K)] [Fact (Part.free ∈ K)] [Fact (Part.tbl ∈ K)] [Fact (Part.host ∈ K)] [Fact (Part.bnd ∈ K)] [Fact (Part.txn ∈ K)] [Fact (Part.vine ∈ K)] [Fact (Part.enc ∈ K)] [Fact (Part.grid ∈ K)] [Fact (Part.jet ∈ K)] [Fact (Part.ing ∈ K)] [Fact (Part.hc ∈ K)] [Fact (Part.mot ∈ K)] [Fact (Part.vlv ∈ K)] [Fact (Part.vlvSel ∈ K)] [Fact (Part.rail ∈ K)] [Fact (Part.boot ∈ K)] [Fact (Part.pwr ∈ K)] [Fact (Part.cal ∈ K)] [Fact (Part.nvm ∈ K)] (q : Routed) (s : State) (hI : Keeps K B0 s) :
    Keeps K B0 (startBroadcast q s) := by
  unfold startBroadcast
  try dsimp only
  with_reducible repeat' first
    | assumption | apply foldl_keeps | (apply ite_keeps <;> intro _) | apply broadcast_keeps | apply nodeAccess_keeps
    | apply completeItem_keeps | apply itemSent_keeps | (fail_if_no_progress (refine mk_keeps ?_)) | intro _ _ _
    | split | rfl | (simp; done)

theorem startRemote_keeps [Fact (Part.tbl ∈ K)] [Fact (Part.host ∈ K)] [Fact (Part.vine ∈ K)] (q : Routed) (s : State) (hI : Keeps K B0 s) :
    Keeps K B0 (startRemote q s) := by
  unfold startRemote
  try dsimp only
  with_reducible repeat' first
    | assumption | apply foldl_keeps | (apply ite_keeps <;> intro _) | apply sendTo_keeps | apply completeItem_keeps
    | apply itemSent_keeps | (fail_if_no_progress (refine mk_keeps ?_)) | intro _ _ _ | split | rfl | (simp; done)

theorem startLocal_keeps [Fact (Part.tick ∈ K)] [Fact (Part.free ∈ K)] [Fact (Part.tbl ∈ K)] [Fact (Part.host ∈ K)] [Fact (Part.bnd ∈ K)] [Fact (Part.txn ∈ K)] [Fact (Part.vine ∈ K)] [Fact (Part.enc ∈ K)] [Fact (Part.grid ∈ K)] [Fact (Part.jet ∈ K)] [Fact (Part.ing ∈ K)] [Fact (Part.hc ∈ K)] [Fact (Part.mot ∈ K)] [Fact (Part.vlv ∈ K)] [Fact (Part.vlvSel ∈ K)] [Fact (Part.rail ∈ K)] [Fact (Part.boot ∈ K)] [Fact (Part.pwr ∈ K)] [Fact (Part.cal ∈ K)] [Fact (Part.nvm ∈ K)] (q : Routed) (s : State) (hI : Keeps K B0 s) :
    Keeps K B0 (startLocal q s) := by
  unfold startLocal
  try dsimp only
  with_reducible repeat' first
    | assumption | apply foldl_keeps | (apply ite_keeps <;> intro _) | apply nodeAccess_keeps
    | apply completeItem_keeps | (fail_if_no_progress (refine mk_keeps ?_)) | intro _ _ _ | split | rfl
    | (simp; done)

theorem queueStep_keeps [Fact (Part.tick ∈ K)] [Fact (Part.free ∈ K)] [Fact (Part.tbl ∈ K)] [Fact (Part.host ∈ K)] [Fact (Part.bnd ∈ K)] [Fact (Part.txn ∈ K)] [Fact (Part.vine ∈ K)] [Fact (Part.enc ∈ K)] [Fact (Part.grid ∈ K)] [Fact (Part.jet ∈ K)] [Fact (Part.ing ∈ K)] [Fact (Part.hc ∈ K)] [Fact (Part.mot ∈ K)] [Fact (Part.vlv ∈ K)] [Fact (Part.vlvSel ∈ K)] [Fact (Part.rail ∈ K)] [Fact (Part.boot ∈ K)] [Fact (Part.pwr ∈ K)] [Fact (Part.cal ∈ K)] [Fact (Part.nvm ∈ K)] (s : State) (hI : Keeps K B0 s) :
    Keeps K B0 (queueStep s) := by
  unfold queueStep
  try dsimp only
  with_reducible repeat' first
    | assumption | apply foldl_keeps | (apply ite_keeps <;> intro _) | apply nodeWrite_keeps
    | apply completeItem_keeps | apply startBroadcast_keeps | apply startRemote_keeps | apply startLocal_keeps
    | (fail_if_no_progress (refine mk_keeps ?_)) | intro _ _ _ | split | rfl | (simp; done)

theorem takeAnswer_keeps [Fact (Part.tbl ∈ K)] [Fact (Part.host ∈ K)] (n seq status : Nat) (d : Word) (s : State) (hI : Keeps K B0 s) :
    Keeps K B0 (takeAnswer n seq status d s) := by
  unfold takeAnswer
  try dsimp only
  with_reducible repeat' first
    | assumption | apply foldl_keeps | (apply ite_keeps <;> intro _) | apply completeItem_keeps
    | (fail_if_no_progress (refine mk_keeps ?_)) | intro _ _ _ | split | rfl | (simp; done)

theorem remoteTimeout_keeps [Fact (Part.tbl ∈ K)] [Fact (Part.host ∈ K)] (s : State) (hI : Keeps K B0 s) :
    Keeps K B0 (remoteTimeout s) := by
  unfold remoteTimeout
  try dsimp only
  with_reducible repeat' first
    | assumption | apply foldl_keeps | (apply ite_keeps <;> intro _) | apply completeItem_keeps
    | (fail_if_no_progress (refine mk_keeps ?_)) | intro _ _ _ | split | rfl | (simp; done)

theorem fabricAccess_keeps [Fact (Part.tick ∈ K)] [Fact (Part.free ∈ K)] [Fact (Part.tbl ∈ K)] [Fact (Part.swathRam ∈ K)] [Fact (Part.host ∈ K)] [Fact (Part.bnd ∈ K)] [Fact (Part.txn ∈ K)] [Fact (Part.vine ∈ K)] [Fact (Part.enc ∈ K)] [Fact (Part.grid ∈ K)] [Fact (Part.jet ∈ K)] [Fact (Part.ing ∈ K)] [Fact (Part.hc ∈ K)] [Fact (Part.mot ∈ K)] [Fact (Part.vlv ∈ K)] [Fact (Part.vlvSel ∈ K)] [Fact (Part.rail ∈ K)] [Fact (Part.boot ∈ K)] [Fact (Part.pwr ∈ K)] [Fact (Part.cal ∈ K)] [Fact (Part.nvm ∈ K)] (rnw inc view : Bool) (a : Nat) (d : Word) (s : State) (hI : Keeps K B0 s) :
    Keeps K B0 (fabricAccess rnw inc view a d s).2.2 := by
  unfold fabricAccess
  try dsimp only
  with_reducible repeat' first
    | assumption | apply foldl_keeps | (apply ite_keeps <;> intro _) | apply reservedAccess_keeps
    | apply nodeAccess_keeps | apply wakeExit_keeps | (fail_if_no_progress (refine mk_keeps ?_)) | intro _ _ _
    | split | rfl | (simp; done)

theorem takeAccess_keeps [Fact (Part.tick ∈ K)] [Fact (Part.free ∈ K)] [Fact (Part.tbl ∈ K)] [Fact (Part.swathRam ∈ K)] [Fact (Part.host ∈ K)] [Fact (Part.bnd ∈ K)] [Fact (Part.txn ∈ K)] [Fact (Part.vine ∈ K)] [Fact (Part.enc ∈ K)] [Fact (Part.grid ∈ K)] [Fact (Part.jet ∈ K)] [Fact (Part.ing ∈ K)] [Fact (Part.hc ∈ K)] [Fact (Part.mot ∈ K)] [Fact (Part.vlv ∈ K)] [Fact (Part.vlvSel ∈ K)] [Fact (Part.rail ∈ K)] [Fact (Part.boot ∈ K)] [Fact (Part.pwr ∈ K)] [Fact (Part.cal ∈ K)] [Fact (Part.nvm ∈ K)] (port : Nat) (h : Hdr) (mask : Option (BitVec 64)) (rnw inc view : Bool) (a : Nat) (d : Word) (s : State) (hI : Keeps K B0 s) :
    Keeps K B0 (takeAccess port h mask rnw inc view a d s) := by
  unfold takeAccess
  try dsimp only
  with_reducible repeat' first
    | assumption | apply foldl_keeps | (apply ite_keeps <;> intro _) | apply respondTo_keeps | apply heardFrom_keeps
    | apply portArrived_keeps | apply fabricAccess_keeps | (fail_if_no_progress (refine mk_keeps ?_)) | intro _ _ _
    | split | rfl | (simp; done)

/-! ### Machine/Tap.lean -/

theorem tapRise_keeps [Fact (Part.free ∈ K)] [Fact (Part.tap ∈ K)] (tdi : Bool) (s : State) (hI : Keeps K B0 s) :
    Keeps K B0 (tapRise tdi s) := by
  unfold tapRise
  try dsimp only
  with_reducible repeat' first
    | assumption | apply foldl_keeps | (apply ite_keeps <;> intro _) | (fail_if_no_progress (refine mk_keeps ?_))
    | intro _ _ _ | split | rfl | (simp; done)

theorem tapFall_keeps [Fact (Part.tap ∈ K)] (s : State) (hI : Keeps K B0 s) :
    Keeps K B0 (tapFall s) := by
  unfold tapFall
  try dsimp only
  with_reducible repeat' first
    | assumption | apply foldl_keeps | (apply ite_keeps <;> intro _) | (fail_if_no_progress (refine mk_keeps ?_))
    | intro _ _ _ | split | rfl | (simp; done)

theorem tapCycle_keeps [Fact (Part.free ∈ K)] [Fact (Part.tap ∈ K)] (tms tdi ntrst : Bool) (s : State) (hI : Keeps K B0 s) :
    Keeps K B0 (tapCycle tms tdi ntrst s) := by
  unfold tapCycle
  try dsimp only
  with_reducible repeat' first
    | assumption | apply foldl_keeps | (apply ite_keeps <;> intro _) | apply tapRise_keeps | apply tapFall_keeps
    | (fail_if_no_progress (refine mk_keeps ?_)) | intro _ _ _ | split | rfl | (simp; done)

theorem bankDetect_keeps [Fact (Part.tbl ∈ K)] [Fact (Part.boot ∈ K)] (banks : Byte) (s : State) (hI : Keeps K B0 s) :
    Keeps K B0 (bankDetect banks s) := by
  unfold bankDetect
  try dsimp only
  with_reducible repeat' first
    | assumption | apply foldl_keeps | (apply ite_keeps <;> intro _) | apply tset_keeps
    | (fail_if_no_progress (refine mk_keeps ?_)) | intro _ _ _ | split | rfl | (simp; done)

/-! ### Machine/Tick.lean -/

theorem tickNext_keeps [Fact (Part.tick ∈ K)] [Fact (Part.tbl ∈ K)] [Fact (Part.vine ∈ K)] (s : State) (hI : Keeps K B0 s) :
    Keeps K B0 (tickNext s) := by
  unfold tickNext
  try dsimp only
  with_reducible repeat' first
    | assumption | apply foldl_keeps | (apply ite_keeps <;> intro _) | apply bump_keeps
    | (fail_if_no_progress (refine mk_keeps ?_)) | intro _ _ _ | split | rfl | (simp; done)

theorem tickMissed_keeps [Fact (Part.tbl ∈ K)] (s : State) (hI : Keeps K B0 s) :
    Keeps K B0 (tickMissed s) := by
  unfold tickMissed
  try dsimp only
  with_reducible repeat' first
    | assumption | apply foldl_keeps | (apply ite_keeps <;> intro _) | apply bump_keeps
    | (fail_if_no_progress (refine mk_keeps ?_)) | intro _ _ _ | split | rfl | (simp; done)

theorem sampleInputs_keeps [Fact (Part.enc ∈ K)] [Fact (Part.vlv ∈ K)] (s : State) (hI : Keeps K B0 s) :
    Keeps K B0 (sampleInputs s) := by
  unfold sampleInputs
  try dsimp only
  with_reducible repeat' first
    | assumption | apply foldl_keeps | (apply ite_keeps <;> intro _) | apply sampleEnc_keeps | apply sampleVlv_keeps
    | (fail_if_no_progress (refine mk_keeps ?_)) | intro _ _ _ | split | rfl | (simp; done)

theorem passTk_keeps [Fact (Part.tk ∈ K)] [Fact (Part.tick ∈ K)] [Fact (Part.tbl ∈ K)] [Fact (Part.host ∈ K)] [Fact (Part.vine ∈ K)] [Fact (Part.enc ∈ K)] [Fact (Part.grid ∈ K)] [Fact (Part.jet ∈ K)] [Fact (Part.ing ∈ K)] [Fact (Part.hc ∈ K)] [Fact (Part.mot ∈ K)] [Fact (Part.vlv ∈ K)] [Fact (Part.cal ∈ K)] [Fact (Part.nvm ∈ K)] (s : State) (hI : Keeps K B0 s) : Keeps K B0 (passTk s) := by
  unfold passTk
  dsimp only
  have h1 : Keeps K B0 { axisTicks s with grid.pHeld := gridP (axisTicks s), tk := (axisTicks s).tk + 1 } := by
    have h := axisTicks_keeps s hI
    generalize axisTicks s = t at h
    generalize gridP t = p
    exact Keeps.upd h rfl rfl rfl rfl rfl rfl rfl rfl rfl rfl rfl rfl rfl rfl rfl rfl rfl rfl rfl rfl rfl rfl rfl rfl rfl (same_mk h)
  exact noteForcedTest_keeps _ (stepTicks_keeps _ (vlvTicks_keeps _ (burstStarts_keeps _ (pulseCuts_keeps _
    (tickMissed_keeps _ (hvClock_keeps _ (sampleInputs_keeps _ (tickNext_keeps _ h1))))))))

end Sys2Proof.Machine
end

