-- ==== Sys2Proof/Tests/Slice0.lean ====
section
/-! SUPPORT. Tests: ill-formed commands refused, the worked examples of the spec, and for every obligation states that
meet its hypotheses. -/

open Sys2Proof Sys2Proof.Machine Sys2Proof.Claims

namespace Sys2Proof.Tests

set_option Elab.async false

/-! ### States -/

/-- Every clause of `WfState`, evaluated. -/
def wfB (s : State) : Bool :=
  tblWf s && nvmWf s && ramWf s && defaultsWf s && caskWf s && s.enc.length == 8 && s.mot.axes.length == 8
    && s.vlv.length == 16 && s.rail.rails.length == 12 && s.jet.wdacs.length == 8 && s.ing.slots.length == 8
    && s.hc.inputs.length == 3 && s.hc.temps.length == 32 && s.hc.reads.length == 32 && s.hc.cons.length == 8
    && s.vine.ports.length == 3 && s.vine.routes.length == 64 && s.boot.v.map List.length == List.replicate 4 32
/-- A node whose start-up has completed. -/
def up : State := { State.reset with tk := 1000000000000, tick := 5, boot.phase := .up }
/-- `up` in another phase. -/
def inPhase (p : Phase) : State := { up with boot.phase := p }
/-- Table words stored one after the other. -/
def withWords (ws : List (Nat × Nat × Nat)) (s : State) : State := ws.foldl (fun s w => tset w.1 w.2.1 (word w.2.2) s) s
/-- A queued write of 0 to this node's SCRATCH. -/
def aRouted : Routed :=
  { id := 1, rnw := false, inc := false, view := false, addr := 0x3F, data := 0, dst := 0 }
/-- Table 0x85 with the shipped values of table 0x7D (R322). -/
def goodDefaults : State := withWords
  [(0x85, 1, 1200), (0x85, 2, 800), (0x85, 3, 784), (0x85, 4, 776), (0x85, 5, 824), (0x85, 6, 80), (0x85, 7, 5),
   (0x85, 8, 20), (0x85, 9, 2), (0x85, 16, 1), (0x85, 17, 3600), (0x85, 18, 3300), (0x85, 19, 3170), (0x85, 20, 3135),
   (0x85, 21, 3465), (0x85, 22, 330), (0x85, 23, 5), (0x85, 24, 20), (0x85, 25, 2), (0x85, 32, 1), (0x85, 33, 1200),
   (0x85, 34, 1000), (0x85, 35, 970), (0x85, 36, 960), (0x85, 37, 1050), (0x85, 38, 100), (0x85, 39, 5), (0x85, 40, 20),
   (0x85, 41, 2), (0x85, 49, 0x32)] up
/-- A node whose position channel 3 is `e`. -/
def withEnc (e : Enc) (s : State) : State := { s with enc := s.enc.set 3 e }
/-- An enabled channel with every level known. -/
def quad : Enc := { en := true, levelA := some false, levelB := some false, levelZ := some false }
/-- Channel 3 reads an SSI frame of format word `f`: a clock of 25 TK, a position of 8 bits, a CRC of 8 bits, a monoflop of
1 µs. -/
def ssiReading (f : Nat) : State := withWords
  [(0xA0, 48, 0x8000), (0xA2, 48, f), (0xA2, 48 + 1, 8), (0xA2, 48 + 3, 0x0808), (0xA2, 48 + 4, 0x31), (0xA2, 48 + 6, 25),
   (0xA2, 48 + 8, 1), (0xA2, 48 + 9, 10)] (withEnc { quad with ssiBusy := true } up)
/-- The word that makes words 0 to `n` of a table sum to 0xFFFF. -/
def checked (t n : Nat) (s : State) : State := tset t n (0xFFFF - sumWords (twords s t 0 n)) s
/-- A node whose group 0 is in service: mode P, one channel of one nozzle, waveform 0; the samples have come. -/
def jetNode : State :=
  let s := checked 0x23 289 <| checked 0x20 1024 (checked 0x21 256 (withWords
    [(0x20, 0, 0x8000), (0x21, 0, 0xC000), (0x21, 1, 0x0400), (0x21, 2, 10), (0x21, 3, 100), (0x21, 5, 1000),
     (0x22, 0, 1), (0x22, 17, 0x1000), (0x22, 18, 50), (0x22, 63, 0xEFCC), (0x22, 64, 0x4001), (0x22, 82, 100),
     (0x22, 127, 0xBF9A), (0x24, 0, 0x0100)] up))
  { s with
    hc.temps := s.hc.temps.map fun h => { h with valid := true, at_ := s.tk }
    rail.rails := s.rail.rails.map fun r => { r with vAt := some s.tk } }
/-- One second of travel at one unit a TK. -/
def aPlan : Plan :=
  { t0 := 999999999000, segs := [{ dur := 16384000000000, x := 0, v := 1, a := 0, j := 0 }], endX := 0, endV := 0 }
/-- The record of a swath in flight. -/
def aRec : SwathRec := { serial := 0, layer := 0, swath := 0, pass := 0 }
/-- A descriptor of slot 0: LAYER 0, SWATH 7, four columns of one channel from 0 on, 8 bytes. -/
def descWords : List (Nat × Nat × Nat) :=
  [(0x41, 1, 1), (0x41, 18, 1), (0x40, 2, 7), (0x40, 7, 64), (0x40, 8, 4), (0x40, 9, 8), (0x40, 11, 1000), (0x40, 13, 50)]
/-- A node with the swath of `descWords` filled in slot 0. -/
def filled : State :=
  let s := checked 0x40 15 (withWords descWords jetNode)
  { s with ing.slots := s.ing.slots.set 0 { st := .filling, fill := 8 }
           swathRam := [(0, 0x40), (2, 0x40), (4, 0x40), (6, 0x40)] }
/-- The same node with slot 0 armed. -/
def armed : State := { filled with
  ing.slots := filled.ing.slots.set 0 { st := .armed, fill := 8 }, ing.armq := [0] }
/-- The same node with the swath a FABRIC one. -/
def fabricArmed : State := withWords [(0x40, 3, 0x0200)] armed
/-- The same node with slot 0 in flight, group 0 enabled and every gate open. -/
def printing : State := { filled with
  ing.slots := filled.ing.slots.set 0 { st := .active, fill := 8 }
  ing.active := some { slot := 0, rcd := aRec, next := [(0, 0)], starvedChans := [] }
  jet.en := 1
  hc.inputs := List.replicate 3 { closed := false, known := true, low := false }
  hc.tempClosed := 0, hc.headidClosed := 0, hc.hostClosed := 0, hc.gridClosed := false }
/-- That swath in flight. -/
def inFlight : Active := { slot := 0, rcd := aRec, next := [(0, 0)], starvedChans := [] }
/-- A pulse of channel 0, and its fire, which runs on. -/
def cutChan : ChanFire := { channel := 0, column := 0, from_ := up.tk, tap := 0, codes := [1], segs := [(0, 9)] }
@[inherit_doc cutChan] def cutFire : Fire :=
  { trig := 0, column := 0, start := up.tk, tap := 0, groups := [0], guardEnd := up.tk + 99, fireEnd := up.tk + 99
    chans := [cutChan] }
/-- A block of two words of data for slot 0's swath. -/
def aBlock : DataBlock := { slot := 0, last := false, swath := 7, offset := 0, data := [0x1234, 0x5678] }
/-- A node whose slot 0 takes data of swath 7. -/
def filling : State :=
  let s := withWords descWords up
  { s with ing.slots := s.ing.slots.set 0 { st := .filling }, ing.hvOn := true }
/-- The same node with HV_RDY high. -/
def takingBlocks : State := { filling with ing.rdy := true, ing.rdyEdges := [true, true, true, true] }
/-- A burst of group 0 that has ended: row 0 sensed nozzle 3 with waveform 0 and code 1. -/
def aBurst : Burst :=
  { group := 0, start := 999999000000, stop := 999999900000, sampler := some 0
    rows := some (3, 0, 1) :: List.replicate 7 none }
/-- A node with that burst in progress: eight samples a slot, any difference is bad, one bad verdict is enough. -/
def sensing : State := withWords [(0x59, 0, 0x8008), (0x59, 2, 71), (0x59, 3, 1), (0x20, 0, 0x8007)] { up with
  hc.bursts := [aBurst] }
/-- A node whose selected axis 2 is `a`: supply rail 0 at 24 V, limits of speed, acceleration and jerk. -/
def withAxis (a : Axis) (s : State) : State := withWords
  [(0x60, 64, 0x4000), (0x60, 65, 10000), (0x60, 67, 60000), (0x60, 69, 60000), (0x60, 71, 60000), (0x60, 88, 20)] { s with
    mot.sel := 2, mot.axes := s.mot.axes.set 2 a
    rail.rails := s.rail.rails.set 0 { vAt := some s.tk, v := 24000 } }
/-- An enabled axis at rest. -/
def atRest : Axis := { en := true, braked := false, drive := .on }
/-- An enabled axis that moves. -/
def moving : Axis := { atRest with plan := some aPlan }
/-- A cam of table 1 whose master is axis 3. -/
def aCam : Cam := { table := 1, encoder := false, unit := 3, morigin := 0, sorigin := 0 }
/-- Axis 2 follows encoder 3 with that cam, whose slope takes it far above its VMAX. -/
def runaway : State := withWords [(0x62, 2051, 0x7000), (0x63, 5, 64)] (withAxis
  { atRest with cam := some { aCam with encoder := true } } (withEnc { velFrozen := 5 } up))
/-- A node whose valve channel 5 is enabled, with a limit of 1,000 mA, and whose profile 0 has one phase of 500 mA. -/
def opening : State := withWords
  [(0x70, 40, 0x8000), (0x70, 41, 1000), (0x70, 42, 1000), (0x71, 2, 500), (0x71, 4, 10), (0x71, 31, 0xFE01)] up
/-- The same node with channel 5 in phase 0. -/
def openValve : State := { opening with vlv := opening.vlv.set 5 { running := true } }
/-- A suspect region. -/
def aRegion : Region := { id := 1, start := 100, relay := false, swaths := [0] }
/-- The grid follows channel 3, under LOCK, with intervals of 1,000 TK. -/
def locked : State := withWords [(0xA6, 0, 0x5800), (0xA0, 48, 0)] (withEnc { quad with count := 1 } { up with
  grid.lock := true, grid.intervals := [1000, 1000, 1000, 1000], grid.tb := 999999998997
  grid.lastStamp := some 999999998997 })
/-- The grid's source counts `n`, 40 counts a revolution within 3, the last index at 100; swath 0 is in doubt. -/
def indexed (n : Int) : State := withWords [(0xA0, 48, 0x0800), (0xA0, 48 + 1, 3), (0xA0, 48 + 2, 10)]
  { locked with
    enc := locked.enc.set 3 { quad with count := n, prevIndex := some 100 }
    grid.regions := [{ aRegion with firedIn := [0] }]
    ing.active := some { slot := 0, rcd := { aRec with state := 1, doubts := [1] }, next := [], starvedChans := [] } }
/-- A packet of class 0 for node 1. -/
def aPacket : Packet := { dst := 1, src := 9, type := 7, cls := 0, seq := 4, words := [0, 5] }
/-- A node whose slot 0 is in flight. -/
def inSwath : State := { up with ing.active := some { slot := 0, rcd := aRec, next := [], starvedChans := [] } }
/-- A node whose axis 0 is enabled and moves. -/
def movingAxis0 : State := { up with mot.axes := (List.replicate 8 {}).set 0 { en := true, drive := .on, plan := some aPlan } }
/-- A cask that touches axis 0's entry of table 0x60. -/
def badCask : Cask := { mem := [(tkey 0x60 1, 9)], touched := [(0x60, 0)] }
/-- A TXN_CTL write of tag 7 and kind `k`, with BCAST or not. -/
def ctl (k : BitVec 3) (b : Bool) : TxnCtl := { tag := 7, bcast := b, view := true, kind := k }
/-- The header of a packet for node `d` from node `a`. -/
def hdr (d a : BitVec 6) : Hdr := { dst := d, src := a, seq := 0 }
/-- A local transaction of tag 7, open with an empty cask. -/
def opened : State := { up with txn.phase := .opened, txn.tag := 7, txn.cask := some {} }
/-- Node 5 of a fabric whose root is behind port 0. -/
def node5 : State := { up with
  vine.nodeId := 5, vine.routes := (List.replicate 64 0).set 1 1
  vine.ports := [{ up := true, credit0 := 9, credit1 := 9, credit2 := 9 }, {}, {}] }
/-- Node 5 as a member of the transaction of tag 7. -/
def member : State := { node5 with txn.phase := .opened, txn.tag := 7, txn.scope := .member, txn.cask := some {} }
/-- The root of a fabric, with a neighbour behind port 0. -/
def rootNode : State := { up with
  boot.hsel := true, vine.nodeId := 1, vine.ready := true, vine.treePorts := 1
  vine.routes := (List.replicate 64 0).set 2 1
  vine.ports := [{ up := true, credit0 := 9, credit1 := 9, credit2 := 9 }, {}, {}] }
/-- The root with a transaction of nodes 1, 2 and 3. -/
def coordinator : State := { rootNode with
  txn.phase := .prepared, txn.tag := 7, txn.scope := .root, txn.group := 14, txn.collecting := true }
/-- A node whose rails 0 and 1 are configured at 3.3 V, rail 1 dependent on rail 0. -/
def railed : State := withWords
  [(0x78, 1, 5000), (0x78, 3, 3000), (0x78, 4, 2900), (0x78, 5, 3600), (0x78, 6, 300), (0x78, 7, 10), (0x78, 8, 10),
   (0x78, 16, 1), (0x78, 17, 5000), (0x78, 19, 3000), (0x78, 20, 2900), (0x78, 21, 3600), (0x78, 22, 300)] up
/-- Slot A with a one-byte image, its header's CRC right (R333). -/
def slotOne : List Host.Cell :=
  [(0, 0x53), (1, 0x54), (2, 0x57), (3, 0x44), (8, 0), (9, 0), (10, 0), (11, 1), (16, 38), (17, 204), (18, 143), (19, 174)]
/-- The command completes, and what it leaves satisfies `f`. -/
def ex (i : Instr) (s : State) (f : State → Bool) : Bool :=
  match exec i s with
  | .next t => f t
  | _ => false
/-- A step completes, and what it leaves satisfies `f`. -/
def stp (s : State) (f : State → Bool) : Bool :=
  match step s with
  | .next t => f t
  | _ => false

/-- `wfB` is `WfState`, evaluated. -/
theorem wf_of_wfB (s : State) (h : wfB s = true) : WfState s := by
  simp only [wfB, Bool.and_eq_true, beq_iff_eq] at h
  obtain ⟨⟨⟨⟨⟨⟨⟨⟨⟨⟨⟨⟨⟨⟨⟨⟨⟨h1, h2⟩, h3⟩, h4⟩, h5⟩, h6⟩, h7⟩, h8⟩, h9⟩, h10⟩, h11⟩, h12⟩, h13⟩, h14⟩, h15⟩, h16⟩,
    h17⟩, h18⟩ := h
  exact ⟨h1, h2, h3, h4, h5, h6, h7, h8, h9, h10, h11, h12, h13, h14, h15, h16, h17, h18⟩

/-! ### Ill-formed commands -/

/-- One ill-formed command for each check of `Instr.wf`. -/
def illFormed : List Instr :=
  [.vaonPowerOn [] (List.replicate 16 true) (List.replicate 16 true),
   .vaonPowerOn (List.replicate 16 true) (List.replicate 15 true) (List.replicate 16 true),
   .vaonPowerOn (List.replicate 16 true) (List.replicate 16 true) (List.replicate 17 true),
   .signatureBurst 0 [], .hmReadComplete 0 (List.replicate 63 0), .railScanEnd (List.replicate 11 0),
   .calItemDone .scanner [1, 2, 3], .txnReservedOp 4 { tag := 0, bcast := false, view := false, kind := 0 },
   .attReservedOp 1 false, .fabReservedOp 3 0, .jetReservedOp 5 0, .motReservedOp 12, .vlvReservedOp 4 0 0,
   .railReservedOp 4 0, .calReservedOp 2 0 0, .hcReservedOp 1 0, .hcReservedOp 8 0, .ingestReservedOp 4 0,
   .nvmReservedOp 1 0, .nvmReservedOp 6 0, .rstCauseInvalidWrite 0xC500, .rstCauseInvalidWrite 0x0045]

/-- Each is refused by the check, and faults. -/
theorem test_ill_formed_refused : illFormed.all (fun c => !c.wf && (match exec c up with
    | .fault .malformedOperand => true
    | _ => false)) = true := by
  decide +kernel

/-- At the boundary of each check the command is well formed. -/
theorem test_well_formed : ([.hcReservedOp 0 0, .hcReservedOp 9 0, .nvmReservedOp 0 0,
    .nvmReservedOp 7 0, .motReservedOp 13, .rstCauseInvalidWrite 0xC501] : List Instr).all Instr.wf = true := by decide +kernel

/-! ### Worked examples of the spec -/

/-- The CRCs and SDO frames of the host port's example (chapter 02, Worked example). -/
theorem test_host_frames : frameCrc 0x80000000 = 0x0B ∧ frameCrc 0x3F123400 = 0x57 ∧
    sdoFrame false false false false false false false 0 = 0x0100006B ∧
    sdoFrame false false true false false false false 0x4E56 = 0x214E5600 := by decide +kernel

/-- The bytes of the REG_WR packet of the fabric's example (chapter 03, Worked example: a remote register write). -/
theorem test_packet_bytes : packetBody { dst := 4, src := 1, type := 5, cls := 0, seq := 0x2C, words := [0x003F, 0x1234] }
    = [0x10, 0x12, 0x85, 0x80, 0x10, 0, 0, 0, 0x00, 0x3F, 0x12, 0x34] := by decide +kernel

/-- CRC-32 of the digits 1 to 9 is the check value of IEEE 802.3, which R84 names. -/
theorem test_crc32 : crc32 [0x31, 0x32, 0x33, 0x34, 0x35, 0x36, 0x37, 0x38, 0x39] = 0xCBF43926 := by decide +kernel

/-- The SSI channel of the position inputs' example. -/
def ssiChannel : State := withWords
  [(0xA2, 16, 0x82B0), (0xA2, 17, 0x18), (0xA2, 18, 0x18), (0xA2, 19, 0x61A), (0xA2, 20, 3), (0xA2, 22, 0x7D), (0xA2, 23, 8),
   (0xA2, 24, 0x14), (0xA2, 25, 0x32)] up

/-- Position field 0x01B2E7 decodes to 74,565 (chapter 04, Worked example: SSI table). -/
theorem test_ssi_position : ssiPosition ssiChannel 1
    ((List.range 24).map (fun i => (0x01B2E7 : Nat).testBit (23 - i)) ++ List.replicate 8 true) = 74565 := by
  decide +kernel

/-- The token sampled at TK 200 of the grid's example starts 9F 48 D4 80 (chapter 05, Worked example). -/
theorem test_grid_token :
    (tokenWords (withWords [(0xA6, 0, 0x4100)] { up with
      tick := 0x24F80
      grid := { up.grid with
        base := 3200128 * gu, tb := up.tk, intervals := [100, 100, 100, 100], verdictEpoch := 1
        openRegion := some { aRegion with swaths := [] } } })).take 2 = [0x9F48, 0xD480] := by
  decide +kernel

/-- The energy scale of the thermal example is 31,104 (chapter 06, Worked example: a thermal head). -/
theorem test_energy_scale : energyScale (withWords [(0x23, 512 * 6 + 176, 0x7C00), (0x23, 512 * 6 + 193, 0x7A00),
    (0x23, 512 * 6 + 177, 0x7800), (0x23, 512 * 6 + 194, 0x7600)] up) 6 660 15760 16000 = 31104 := by decide +kernel

/-- The levels of the piezo example play as 13,918 and 2,082 (chapter 06, Worked example: a piezo group). -/
theorem test_wdac_levels : let s := withWords [(0x22, 769, 8000), (0x22, 770, 14000), (0x22, 771, 2000)] up
    playLevel s 12 1 (some 32320) = 13918 ∧ playLevel s 12 2 (some 32320) = 2082 := by decide +kernel

/-- A group whose channel 66 senses, with the template of the nozzle example. -/
def senseGroup : State :=
  let s := tsetRun 0x58 544 (packWords [20, 60, 110, 140, 140, 120, 60, 25]) (withWords
    [(0x59, 64, 0x8008), (0x59, 66, 96), (0x59, 67, 3), (0x59, 68, 0x8001), (0x20, 264, 0x800F)] up)
  { s with hc.nozzles := [{ channel := 66, nozzle := 9, history := [true, true], fires := 0 }] }

/-- SAD is 170, and the third bad judgement prepares the entry 0xC009, 0x4201 (chapter 08, Worked example: a nozzle
declared out). -/
theorem test_nozzle_out : slotSad senseGroup 5 3 [21, 58, 90, 100, 96, 80, 40, 22] = 170 ∧
    (judgeSlot 66 (9, 5, 3) [21, 58, 90, 100, 96, 80, 40, 22] senseGroup).hc.prepared.map entryWords
      = [(0xC009, 0x4201)] := by decide +kernel

/-- DLIM of the valve example is 12,144 TK (chapter 10, Worked example). -/
theorem test_valve_dlim : vlvDlim (withWords [(0x70, 6, 0x0032)] up) 0 = 12144 := by decide +kernel

/-- The first serve of the watchdog's example (chapter 12, Worked example: the first taste). -/
theorem test_watchdog_answer : wdgExpected 0x1234 0 = 0x323A ∧ wdgLfsr 0x1234 = 0x091A ∧
    wdgExpected 0x1234 5 = 0x373F := by decide +kernel

/-- The record of the lees example (chapter 14, Worked example: one lees record). -/
theorem test_lees_record : (leesBytes 0x1F40
    { time := 0xA1, boot := 0xD2, block := 0x0C, code := 0x81, data := [3, 4, 0, 0x31] }).take 15
      = [0, 0, 0x1F, 0x40, 0, 0, 0, 0xA1, 0xD2, 0x0C, 0x81, 0x03, 0x04, 0x00, 0x31] := by decide +kernel

/-- A unique number that is not this device's, for `Obligations.DeviceIsNumbered`, whose own number is open. -/
theorem witness_another_uid : ∃ uid : BitVec 64, uid ≠ Config.uid := ⟨Config.uid + 1, by simp⟩

/-! ### Witnesses -/

/-- States and operands that meet the hypotheses of `Obligations.StepRunsTheFrontCommand`, a row for each of its clauses. -/
theorem witness_StepRunsTheFrontCommand : [
    (let s : State := { up with pending := [.idleBoundary, .wakeNcs] }; wfB s && decide (s.pending =
      [.idleBoundary, .wakeNcs]))
  ].all id = true := by decide +kernel

/-- States and operands that meet the hypotheses of `Obligations.IdleStepPassesOneTk`, a row for each of its clauses. -/
theorem witness_IdleStepPassesOneTk : [
    (let s : State := up; wfB s && decide (s.pending = [] ∧ tickRuns s = true)),
    (let s : State := { up with vine.lag := 32 }; wfB s && decide (s.pending = [] ∧ tickRuns s = true)),
    (let s : State := { up with vine.lag := -40 }; wfB s && decide (s.pending = [] ∧ tickRuns s = true)),
    (let s : State := { up with pwr.state := 2 }; wfB s && decide (s.pending = [] ∧ tickRuns s = false))
  ].all id = true := by decide +kernel

/-- States and operands that meet the hypotheses of `Obligations.WellFormedCommandsComplete`, a row for each of its clauses. -/
theorem witness_WellFormedCommandsComplete : [
    (let s : State := up; wfB s && decide (Instr.wf (.railReservedOp 5 0) = true ∧ Instr.wf (.railReservedOp 4 0)
      = false))
  ].all id = true := by decide +kernel

/-- States and operands that meet the hypotheses of `Obligations.StepKeepsGoodForm`, a row for each of its clauses. -/
theorem witness_StepKeepsGoodForm : [
    (let s : State := { up with pending := [.layerHiWrite 1] }; wfB s && decide (stp s (fun t => decide
      (t.bnd.layerHi = 1)) = true))
  ].all id = true := by decide +kernel

/-- States and operands that meet the hypotheses of `Obligations.CommandsKeepToTheirPartsAndLeaveTheQueue`, a row for each of its clauses. -/
theorem witness_CommandsKeepToTheirPartsAndLeaveTheQueue : [
    (let s : State := { up with pending := [.layerHiWrite 1] }; wfB s && decide (ex (.layerHiWrite 2) s (fun t =>
      decide (t.bnd.layerHi = 2 ∧ t.pending = s.pending)) = true ∧ Part.enc ∉ footprint (.layerHiWrite 2)))
  ].all id = true := by decide +kernel

/-- States and operands that meet the hypotheses of `Obligations.StrapsAreSampledAtPowerOn`, a row for each of its clauses. -/
theorem witness_StrapsAreSampledAtPowerOn : [
    (let s : State := up; wfB s && decide (ex (.layerHiWrite 2) s (fun _ => true) = true))
  ].all id = true := by decide +kernel

/-- States and operands that meet the hypotheses of `Obligations.LockedRegionStays`, a row for each of its clauses. -/
theorem witness_LockedRegionStays : [
    (let s : State := { up with nvm.locked := true, pending := [.layerHiWrite 1] }; wfB s && decide (keySafe s =
      true ∧ stp s (fun t => decide (t.nvm.locked = true)) = true))
  ].all id = true := by decide +kernel

/-- States and operands that meet the hypotheses of `Obligations.PowerOnResets`, a row for each of its clauses. -/
theorem witness_PowerOnResets : [
    (let s : State := up; wfB s && decide ((true :: List.replicate 15 false).length = 16 ∧ s.nvm.busy = none ∧
      s.cal.storing = none ∧ leesRuns s = false))
  ].all id = true := by decide +kernel

/-- States and operands that meet the hypotheses of `Obligations.StartUpSteps`, a row for each of its clauses. -/
theorem witness_StartUpSteps : [
    (let s : State := { (inPhase .pll) with boot.lastRefcheck := some (1000000000000 - 250000) }; wfB s && decide
      (s.boot.phase = .pll ∧ s.boot.refclkOk = false ∧ (s.boot.lastRefcheck = some 999999750000) ∧ 999999750000 +
      250000 ≤ s.tk)),
    (let s : State := inPhase .supplies; wfB s && decide (s.boot.phase = .supplies ∧ s.pwr.state = 0 ∧ (if
      s.boot.seqSelf = true then s.rail.selfSeq = .good else s.boot.pinLow = false))),
    (let s : State := { (inPhase .supplies) with boot.seqSelf := true, rail.selfSeq := .good }; wfB s && decide
      (s.boot.phase = .supplies ∧ s.pwr.state = 0 ∧ (if s.boot.seqSelf = true then s.rail.selfSeq = .good else
      s.boot.pinLow = false))),
    (let s : State := { (inPhase .pll) with boot.refclkOk := true, boot.testen := true }; wfB s && decide
      (s.boot.phase = .pll ∧ s.boot.refclkOk = true ∧ coreHeld s = true)),
    (let s : State := { (inPhase .pll) with boot.refclkOk := true, nvm.bootCount := 4294967295 }; wfB s && decide
      (s.boot.phase = .pll ∧ s.boot.refclkOk = true ∧ coreHeld s = false))
  ].all id = true := by decide +kernel

/-- States and operands that meet the hypotheses of `Obligations.BootSlotsAndStartUpEnd`, a row for each of its clauses. -/
theorem witness_BootSlotsAndStartUpEnd : [
    (let s : State := inPhase .rom; wfB s && decide (s.boot.phase = .rom ∧ logsFree s = true ∧ slotRunnable s
      s.boot.slotB = false ∧ s.boot.fallback = false)),
    (let s : State :=
      { (inPhase .rom) with boot.fallback := true, boot.slotB := true, nvm.leesQ := List.replicate 16 (leesRec up 0x0B 3 []) };
      wfB s && decide (s.boot.phase = .rom ∧ s.rail.barred = false ∧ s.nvm.leesQ.length ≤ 16 ∧ slotRunnable s
      s.boot.slotB = false ∧ s.boot.fallback = true)),
    (let s : State := { (inPhase .rom) with nvm.mem := slotOne }; wfB s && decide (s.boot.phase = .rom ∧
      slotRunnable s s.boot.slotB = true ∧ magicOk s true = false)),
    (let s : State := inPhase .firmware; wfB s && decide (s.boot.phase = .firmware ∧ s.cal.run = none)),
    (let s : State := { (inPhase .firmware) with boot.hsel := true }; wfB s && decide (s.boot.phase = .firmware ∧
      s.cal.run = none)),
    (let s : State :=
      { (inPhase .firmware) with cal.run := some { from_ := 0, startUp := true, todo := [.trims], results := [] } };
      wfB s && decide (coreRuns s = true ∧ 0 + 10000000 ≤ s.tk ∧ [CalItem.trims] ≠ []))
  ].all id = true := by decide +kernel

/-- States and operands that meet the hypotheses of `Obligations.CoreHoldsAndReleases`, a row for each of its clauses. -/
theorem witness_CoreHoldsAndReleases : [
    (let s : State := up; wfB s && decide (coreRuns s = true ∧ s.pwr.state ≤ 1 ∧ s.boot.clockLost = false)),
    (let s : State := up; wfB s && decide (coreRuns s = true ∧ s.boot.pinLow = false ∧ s.rail.selfSeq ≠ .failed ∧
      s.pwr.state = 0 ∧ s.pwr.entering = none)),
    (let s : State := up; wfB s && decide (coreRuns s = true ∧ s.boot.testen = false)),
    (let s : State := { (inPhase .held) with boot.pinLow := true }; wfB s && decide (s.boot.phase = .held)),
    (let s : State := { (inPhase .held) with boot.testen := true, boot.pinLow := true }; wfB s && decide
      (s.boot.phase = .held)),
    (let s : State := { (inPhase .held) with boot.clockLost := true }; wfB s && decide (s.boot.phase = .held ∧
      s.boot.clockLost = true))
  ].all id = true := by decide +kernel

/-- States and operands that meet the hypotheses of `Obligations.ResetCauseWrites`, a row for each of its clauses. -/
theorem witness_ResetCauseWrites : [
    (let s : State := { up with boot.cause := 0x83 }; wfB s && decide (portDecodes s = true ∧ (0xC501 : Word) ≠
      0xC500 ∧ (0xC501 : Word).extractLsb' 8 8 ≠ 0 ∧ (0x0100 : Word) ≠ 0xC500 ∧ (0x0100 : Word).extractLsb' 8 8 ≠
      0))
  ].all id = true := by decide +kernel

/-- States and operands that meet the hypotheses of `Obligations.WatchdogResets`, a row for each of its clauses. -/
theorem witness_WatchdogResets : [
    (let s : State := { up with boot.wdgFrom := 1000000000000 - 512000000 }; wfB s && decide (portDecodes s = true
      ∧ 250000 * 2 ^ s.boot.period ≤ 2 * (s.tk - s.boot.wdgFrom) ∧ s.tk - s.boot.wdgFrom < 250000 * 2 ^
      s.boot.period ∧ (0 : Word) ≠ wdgExpected s.boot.wdgQ s.boot.serves)),
    (let s : State := { up with boot.wdgFrom := 1000000000000 - 511999999 }; wfB s && decide (portDecodes s = true
      ∧ 2 * (s.tk - s.boot.wdgFrom) < 250000 * 2 ^ s.boot.period)),
    (let s : State := { up with boot.wdgFrom := 1000000000000 - 1024000000 }; wfB s && decide (portDecodes s =
      true ∧ 250000 * 2 ^ s.boot.period ≤ s.tk - s.boot.wdgFrom))
  ].all id = true := by decide +kernel

/-- States and operands that meet the hypotheses of `Obligations.WatchdogWindowAndServe`, a row for each of its clauses. -/
theorem witness_WatchdogWindowAndServe : [
    (let s : State := { up with boot.wdgFrom := 1000000000000 - 512000000 }; wfB s && decide (coreRuns s = true ∧
      s.pwr.state ≤ 1 ∧ s.pwr.entering = none ∧ s.boot.wdgSeen = false ∧ 250000 * 2 ^ s.boot.period ≤ 2 * (s.tk -
      s.boot.wdgFrom) ∧ s.tk - s.boot.wdgFrom < 250000 * 2 ^ s.boot.period ∧ portDecodes s = true ∧ ((0x0D00 :
      Word).extractLsb' 8 4).toNat ≤ 13 ∧ 13 < ((0x0E00 : Word).extractLsb' 8 4).toNat)),
    (let s : State := { up with boot.wdgFrom := 1000000000000 - 511999999 }; wfB s && decide (portDecodes s = true
      ∧ 2 * (s.tk - s.boot.wdgFrom) < 250000 * 2 ^ s.boot.period))
  ].all id = true := by decide +kernel

/-- States and operands that meet the hypotheses of `Obligations.Attestation`, a row for each of its clauses. -/
theorem witness_Attestation : [
    (let s : State := withWords [(0x92, 15, 1)] up; wfB s && decide (inRest s = false ∧ clocked s = true ∧
      s.boot.busy = false ∧ (nonceBytes s).any (· != 0) = true)),
    (let s : State := up; wfB s && decide (inRest s = false ∧ clocked s = true ∧ (nonceBytes s).all (· == 0) =
      true)),
    (let s : State := { up with boot.busy := true, boot.v3Pending := some [1, 2] }; wfB s && decide (inRest s =
      false ∧ coreRuns s = true ∧ s.boot.busy = true ∧ clocked s = true ∧ s.boot.v3Pending = some [1, 2]))
  ].all id = true := by decide +kernel

/-- States and operands that meet the hypotheses of `Obligations.NvmCommandsStart`, a row for each of its clauses. -/
theorem witness_NvmCommandsStart : [
    (let s : State := withWords [(0x84, 3, 4096), (0x85, 0, 1)] up; wfB s && decide (inRest s = false ∧ nvmAnswers
      s = true ∧ s.rail.barred = false ∧ s.nvm.busy = none ∧ tnat s 0x84 3 ≤ 4096 ∧ tnat32 s 0x84 1 + tnat s 0x84
      3 ≤ 0x100000 ∧ s.nvm.locked = false ∧ s.nvm.keys.any (fun k => k.1 == 7) = false ∧ (nvmBuffer s 16).all (·
      == 0) = false ∧ (nvmBuffer s 16).all (· == 0xFF) = false)),
    (let s : State := withWords [(0x84, 1, 0xF000), (0x84, 2, 0x000C), (0x84, 3, 16)] up; wfB s && decide (inRest
      s = false ∧ nvmAnswers s = true ∧ s.rail.barred = false ∧ s.nvm.busy = none ∧ ((tnat32 s 0x84 1 < 0x060000 →
      s.boot.phase = .recovery ∨ s.boot.slotB = true) ∧ (0x060000 ≤ tnat32 s 0x84 1 → tnat32 s 0x84 1 < 0x0C0000 →
      s.boot.phase = .recovery ∨ s.boot.slotB = false) ∧ tnat32 s 0x84 1 < 0x0D0000) ∧ tnat32 s 0x84 1 % 4096 = 0
      ∧ tnat s 0x84 3 % 16 = 0 ∧ 16 ≤ tnat s 0x84 3 ∧ tnat32 s 0x84 1 / 4096 = (tnat32 s 0x84 1 + tnat s 0x84 3 -
      1) / 4096 ∧ (nvmBytes s (tnat32 s 0x84 1) (tnat s 0x84 3)).all (· == 0xFF) = true)),
    (let s : State := withWords [(0x84, 2, 0x0006), (0x84, 3, 16)] up; wfB s && decide (inRest s = false ∧
      nvmAnswers s = true ∧ s.rail.barred = false ∧ s.nvm.busy = none ∧ ((tnat32 s 0x84 1 < 0x060000 →
      s.boot.phase = .recovery ∨ s.boot.slotB = true) ∧ (0x060000 ≤ tnat32 s 0x84 1 → tnat32 s 0x84 1 < 0x0C0000 →
      s.boot.phase = .recovery ∨ s.boot.slotB = false) ∧ tnat32 s 0x84 1 < 0x0D0000) ∧ tnat32 s 0x84 1 % 4096 =
      0)),
    (let s : State := goodDefaults; wfB s && decide (inRest s = false ∧ nvmAnswers s = true ∧ s.rail.barred =
      false ∧ s.nvm.busy = none ∧ s.nvm.locked = false ∧ defaultsBad (twords s 0x85 0 50) = false)),
    (let s : State := up; wfB s && decide (inRest s = false ∧ nvmAnswers s = true ∧ s.pwr.entering = none ∧ ((0 :
      BitVec 4).toNat = 0 ∨ 7 ≤ (0 : BitVec 4).toNat) ∧ ((7 : BitVec 4).toNat = 0 ∨ 7 ≤ (7 : BitVec 4).toNat)))
  ].all id = true := by decide +kernel

/-- States and operands that meet the hypotheses of `Obligations.NvmCommandsEndAndLeesRecords`, a row for each of its clauses. -/
theorem witness_NvmCommandsEndAndLeesRecords : [
    (let s : State :=
      { up with nvm.busy := some { op := 1, addr := 0xC0000, len := 0, ksel := 0, data := [] }, nvm.mem := [(0xC0000, 0), (0xC0FFF, 1), (0xC1000, 2)] };
      wfB s && decide (nvmAnswers s = true ∧ s.nvm.busy.isSome = true)),
    (let s : State :=
      { up with nvm.busy := some { op := 2, addr := 0xC0010, len := 16, ksel := 0, data := List.replicate 16 7 } };
      wfB s && decide (nvmAnswers s = true ∧ s.nvm.busy.isSome = true)),
    (let s : State :=
      { up with nvm.busy := some { op := 3, addr := 0xF7FF8, len := 16, ksel := 0, data := [] }, nvm.mem := [(0xF7FFF, 0x55), (0xF8000, 0x66)] };
      wfB s && decide (nvmAnswers s = true ∧ s.nvm.busy.isSome = true)),
    (let s : State :=
      { up with nvm.busy := some { op := 4, addr := 0, len := 0, ksel := 3, data := List.replicate 16 7 } }; wfB s
      && decide (nvmAnswers s = true ∧ s.nvm.busy.isSome = true)),
    (let s : State := { up with nvm.busy := some { op := 6, addr := 0, len := 0, ksel := 0, data := [] } }; wfB s
      && decide (nvmAnswers s = true ∧ s.nvm.busy.isSome = true)),
    (let s : State := { up with nvm.leesQ := [leesRec up 0x0B 3 [1, 2]], nvm.leesSeq := 4294967294 }; wfB s &&
      decide (coreRuns s = true ∧ s.boot.phase ≠ .rom ∧ s.nvm.leesQ = [leesRec up 0x0B 3 [1, 2]] ∧ s.rail.barred =
      false ∧ s.nvm.busy = none)),
    (let s : State :=
      { up with nvm.busy := some { op := 5, addr := 0, len := 0, ksel := 0, data := List.replicate 100 0xFF } }; wfB
      s && decide (nvmAnswers s = true ∧ s.nvm.busy.isSome = true)),
    (let s : State :=
      { up with nvm.leesQ := [leesRec up 0x0B 3 [1, 2]], nvm.leesNext := 199, nvm.mem := [(0xD9000, 5)], nvm.busy := some { op := 2, addr := 0xC0010, len := 16, ksel := 0, data := List.replicate 16 7 } };
      wfB s && decide (coreRuns s = true ∧ s.boot.phase ≠ .rom ∧ s.nvm.leesQ = [leesRec up 0x0B 3 [1, 2]] ∧
      s.rail.barred = false ∧ (s.nvm.busy.all fun o => decide (o.op ≠ 1)) = true ∧ 199 ≤ leesNextFree s 8192
      s.nvm.leesNext % 256 ∧ leesFree (leesLine s ((leesNextFree s 8192 s.nvm.leesNext / 256 + 1) % 32 * 256)) =
      false))
  ].all id = true := by decide +kernel

/-- States and operands that meet the hypotheses of `Obligations.CalibrationCommands`, a row for each of its clauses. -/
theorem witness_CalibrationCommands : [
    (let s : State := up; wfB s && decide (inRest s = false ∧ clocked s = true ∧ s.cal.run = none)),
    (let s : State :=
      { up with cal.run := some { from_ := 0, startUp := false, todo := [.wdacs], results := [] } }; wfB s &&
      decide (inRest s = false ∧ clocked s = true ∧ s.cal.run.isSome = true))
  ].all id = true := by decide +kernel

/-- States and operands that meet the hypotheses of `Obligations.CalibrationRun`, a row for each of its clauses. -/
theorem witness_CalibrationRun : [
    (let s : State :=
      { up with cal.run := some { from_ := 0, startUp := false, todo := [.trims, .wdacs], results := [] } }; wfB s
      && decide (coreRuns s = true ∧ CalItem.trims ∈ [CalItem.trims, .wdacs] ∧ [CalItem.trims, .wdacs].filter (·
      != .trims) ≠ [] ∧ (List.replicate (calItemBytes .trims) (1 : Byte)).length = calItemBytes .trims ∧ 0 +
      15000000000 ≤ s.tk)),
    (let s : State :=
      { up with bnd.idle := true, cal.run := some { from_ := 0, startUp := false, todo := [.wdacs], results := [] } };
      wfB s && decide (coreRuns s = true ∧ (CalItem.wdacs = .wdacs → s.bnd.idle = true) ∧ [CalItem.wdacs].filter
      (· != .wdacs) = [])),
    (let s : State :=
      { up with cal.run := some { from_ := 0, startUp := false, todo := [.headTemp], results := [] } }; wfB s &&
      decide (coreRuns s = true ∧ (∀ f ∈ s.jet.fires, 0 ∈ f.groups → f.fireEnd + 500000000 ≤ s.tk) ∧
      [CalItem.headTemp].filter (· != .headTemp) = [] ∧ 0 + 15000000000 ≤ s.tk)),
    (let s : State :=
      { up with cal.run := some { from_ := 0, startUp := false, todo := [.samplers, .wdacs], results := [] }, hc.bursts := [{ aBurst with stop := 999999995000 }] };
      wfB s && decide (coreRuns s = true ∧ (∀ b ∈ s.hc.bursts, b.sampler = some 0 → b.stop + 5000 ≤ s.tk)
      ∧ [CalItem.samplers, .wdacs].filter (· != .samplers) ≠ []))
  ].all id = true := by decide +kernel

/-- States and operands that meet the hypotheses of `Obligations.CalibrationAftermathAndDieTemperature`, a row for each of its clauses. -/
theorem witness_CalibrationAftermathAndDieTemperature : [
    (let s : State := { up with cal.storing := some true }; wfB s && decide (coreRuns s = true ∧ s.cal.storing =
      some true)),
    (let s : State :=
      { up with cal.staged := [.trims, .wdacs], cal.maxDefer := 1, cal.stagedFrom := 1000000000000 - 15000000000 };
      wfB s && decide (clocked s = true ∧ s.cal.staged.any (fun i => i != .trims) = true ∧ s.cal.stagedFrom +
      250000 * (60000 * s.cal.maxDefer) ≤ s.tk)),
    (let s : State := { up with cal.forceTestAt := some 999990000000, cal.forcing := true }; wfB s && decide
      (clocked s = true ∧ s.cal.forceTestAt = some 999990000000 ∧ s.cal.forcing = true ∧ 999990000000 + 10000000 ≤
      s.tk)),
    (let s : State := { up with cal.samples := List.replicate 14 400 }; wfB s && decide (s.boot.phase ≠ .supplies
      ∧ s.boot.phase ≠ .pll ∧ s.pwr.state ≤ 1 ∧ s.cal.samples.length < 15)),
    (let s : State := { up with cal.samples := List.replicate 15 400, cal.delta := 0 }; wfB s && decide
      (s.boot.phase ≠ .supplies ∧ s.boot.phase ≠ .pll ∧ s.pwr.state ≤ 1 ∧ 15 ≤ s.cal.samples.length ∧ s.boot.hot =
      false ∧ s.cal.delta = 0)),
    (let s : State := { up with cal.samples := List.replicate 15 2480 }; wfB s && decide (15 ≤
      s.cal.samples.length ∧ s.boot.hot = false ∧ coreRuns s = true)),
    (let s : State := { (inPhase .held) with cal.samples := List.replicate 16 2400, boot.hot := true }; wfB s &&
      decide (15 ≤ s.cal.samples.length ∧ s.boot.hot = true)),
    (let s : State := { (inPhase .held) with cal.samples := List.replicate 16 400, boot.hot := true }; wfB s &&
      decide (15 ≤ s.cal.samples.length ∧ s.boot.hot = true ∧ s.boot.phase = .held)),
    (let s : State :=
      { up with cal.dieAt := some (1000000000000 - 250000), cal.samples := List.replicate 15 400, cal.delta := 0 };
      wfB s && decide (s.cal.dieAt = some 999999750000 ∧ 999999750000 + 250000 ≤ s.tk ∧ 15 ≤ s.cal.samples.length ∧
      s.boot.hot = false))
  ].all id = true := by decide +kernel

/-- States and operands that meet the hypotheses of `Obligations.HostRegisters`, a row for each of its clauses. -/
theorem witness_HostRegisters : [
    (let s : State := { up with host.irqPend := 0x000F, host.crcerr := 300, host.hstFlags := 0x81 }; wfB s &&
      decide (inRest s = false ∧ portDecodes s = true ∧ isUp s = true ∧ outstanding s < 16)),
    (let s : State := { up with host.errCount := 65535 }; wfB s && decide (coreRuns s = true)),
    (let s : State :=
      { up with host.errCount := 65534, host.irqAt := up.tk, host.irqSame := 0x0004, host.irqPend := 0x000F }; wfB s
      && decide (coreRuns s = true ∧ portDecodes s = true ∧ s.host.irqAt = s.tk ∧ isUp s = true ∧ inRest s = false))
  ].all id = true := by decide +kernel

/-- States and operands that meet the hypotheses of `Obligations.TableWindow`, a row for each of its clauses. -/
theorem witness_TableWindow : [
    (let s : State := { up with host.tblSel := 0x92, host.tblAddr := 15 }; wfB s && decide (inRest s = false ∧
      clocked s = true ∧ (0xFF : Word).toNat < 256 ∧ tblLen 0x92 ≠ 0 ∧ tblLen 0xFF = 0 ∧ outstanding s < 16 ∧ 15 <
      tblLen 0x92 ∧ s.host.tblAddr.toNat < 16)),
    (let s : State := { up with host.tblSel := 0x92, host.tblAddr := BitVec.ofNat 24 (tblLen 0x92) }; wfB s &&
      decide (inRest s = false ∧ outstanding s < 16 ∧ tblLen s.host.tblSel.toNat ≠ 0 ∧ tblLen s.host.tblSel.toNat
      ≤ s.host.tblAddr.toNat)),
    (let s : State := { up with host.tblSel := 0x9F, host.tblAddr := 3 }; wfB s && decide (inRest s = false ∧
      clocked s = true ∧ outstanding s < 16 ∧ tblLen s.host.tblSel.toNat = 0 ∧ tblLen ((0x129F : Word).toNat % 256)
      = 0 ∧ tblLen ((0x1292 : Word).toNat % 256) ≠ 0))
  ].all id = true := by decide +kernel

/-- States and operands that meet the hypotheses of `Obligations.FramesDiscardedAndAccessesRefused`, a row for each of its clauses. -/
theorem witness_FramesDiscardedAndAccessesRefused : [
    (let s : State := up; wfB s && decide (inRest s = false ∧ portDecodes s = true ∧ frameCrcOk 0x06BEEF00 =
      false)),
    (let s : State := { up with host.crcerr := 255 }; wfB s && decide (inRest s = false ∧ portDecodes s = true ∧
      frameCrcOk 0x06BEEF00 = false)),
    (let s : State := up; wfB s && decide (inRest s = false ∧ isAnchor 0x0C = false ∧ outstanding s < 16 ∧ answers
      s 0x17 = false)),
    (let s : State := up; wfB s && decide (portDecodes s = true ∧ (1 : BitVec 5) ≠ 0 ∧ (31 : BitVec 5) ≠ 0)),
    (let s : State := { up with host.queue := List.replicate 16 aRouted }; wfB s && decide (portDecodes s = true ∧
      isAnchor 0x0C = false ∧ 16 ≤ outstanding s)),
    (let s : State := { up with host.errCount := 65535 }; wfB s && decide (portDecodes s = true ∧ ¬ s.host.errCount
      < 65535 ∧ frameCrcOk 0x06BEEF00 = false))
  ].all id = true := by decide +kernel

/-- States and operands that meet the hypotheses of `Obligations.FramesExecuted`, a row for each of its clauses. -/
theorem witness_FramesExecuted : [
    (let s : State := { up with vine.fabDst := 9 }; wfB s && decide (portDecodes s = true ∧ frameCrcOk 0x06BEEF67
      = true ∧ frameCrcOk 0x3F123457 = true ∧ frameCrcOk 0xBF0000AD = true ∧ s.vine.fabDst ≠ 63 ∧ outstanding s <
      16 ∧ (0xBF0000AD : BitVec 32).extractLsb' 24 8 = 0xBF)),
    (let s : State := { up with host.queue := List.replicate 16 aRouted }; wfB s && decide (portDecodes s = true ∧
      frameCrcOk 0x3F123457 = true ∧ 16 ≤ outstanding s))
  ].all id = true := by decide +kernel

/-- States and operands that meet the hypotheses of `Obligations.RoutedAndRemoteAccesses`, a row for each of its clauses. -/
theorem witness_RoutedAndRemoteAccesses : [
    (let s : State := { up with host.queue := [{ aRouted with data := 7 }] }; wfB s && decide (inRest s = false ∧
      clocked s = true ∧ aRouted.barrier = false ∧ aRouted.inFlight = false ∧ aRouted.dst = 0 ∧ aRouted.rnw =
      false ∧ aRouted.addr = 0x3F ∧ s.pwr.state = 0)),
    (let s : State :=
      { up with host.queue := [{ aRouted with dst := 5 }], vine.routes := (List.replicate 64 0).set 5 2 }; wfB s
      && decide (inRest s = false ∧ clocked s = true ∧ routable s 5 = true)),
    (let s : State :=
      { up with host.queue := [{ aRouted with dst := 62, rnw := true }], host.results := [{ id := 1, ready := false, data := 5 }] };
      wfB s && decide (inRest s = false ∧ clocked s = true ∧ routable s 62 = false)),
    (let s : State :=
      { up with host.queue := [{ aRouted with dst := 62, inFlight := true, deadline := 1000000000000 }] }; wfB s
      && decide (inRest s = false ∧ clocked s = true ∧ 1000000000000 ≤ s.tk))
  ].all id = true := by decide +kernel

/-- States and operands that meet the hypotheses of `Obligations.LayersAndIdle`, a row for each of its clauses. -/
theorem witness_LayersAndIdle : [
    (let s : State := { up with bnd.layerHi := 2, bnd.held := some 9 }; wfB s && decide (inRest s = false ∧
      clocked s = true ∧ swathActive s = false)),
    (let s : State := { inSwath with bnd.layerHi := 2, bnd.held := some 9 }; wfB s && decide (inRest s = false ∧
      clocked s = true ∧ swathActive s = true)),
    (let s : State := { up with bnd.gapFrom := 1000000000000 - 12500000 }; wfB s && decide (inRest s = false ∧
      clocked s = true ∧ swathActive s = false ∧ s.bnd.idle = false ∧ s.bnd.gapFrom + 250000 * s.bnd.idleMin ≤
      s.tk)),
    (let s : State := { up with bnd.gapFrom := 1000000000000 - 12499999 }; wfB s && decide (inRest s = false ∧
      s.tk < s.bnd.gapFrom + 250000 * s.bnd.idleMin)),
    (let s : State := { up with bnd.idle := true }; wfB s && decide (inRest s = false ∧ s.bnd.idle = true)),
    (let s : State := inSwath; wfB s && decide (inRest s = false ∧ swathActive s = true))
  ].all id = true := by decide +kernel

/-- States and operands that meet the hypotheses of `Obligations.TransactionBegins`, a row for each of its clauses. -/
theorem witness_TransactionBegins : [
    (let s : State := up; wfB s && decide (portDecodes s = true ∧ s.txn.phase = .none ∧ (ctl 1 false).bcast =
      false ∧ logsFree s = true ∧ (ctl 1 true).bcast = true ∧ isRoot s = false)),
    (let s : State := opened; wfB s && decide (portDecodes s = true ∧ s.txn.phase ≠ .none)),
    (let s : State := { rootNode with vine.fabGroup := 1 }; wfB s && decide (portDecodes s = true ∧ s.txn.phase =
      .none ∧ isRoot s = true))
  ].all id = true := by decide +kernel

/-- States and operands that meet the hypotheses of `Obligations.TransactionWritesAndRefusals`, a row for each of its clauses. -/
theorem witness_TransactionWritesAndRefusals : [
    (let s : State := { opened with host.tblSel := 0x60, host.tblAddr := 7 }; wfB s && decide (inRest s = false ∧
      clocked s = true ∧ caskable 0x60 = true ∧ 7 < tblLen 0x60 ∧ ckMask 0x60 7 ≠ 0 ∧ s.txn.cask.isSome = true ∧
      s.txn.phase = .opened ∧ s.txn.scope ≠ .member)),
    (let s : State := { movingAxis0 with host.tblSel := 0x60, host.tblAddr := 7 }; wfB s && decide (inRest s = false
      ∧ clocked s = true ∧ caskable 0x60 = true ∧ 7 < tblLen 0x60 ∧ ckMask 0x60 7 ≠ 0 ∧ s.txn.cask = none ∧
      entryIdle s 0x60 (caskEntry 0x60 7) = false)),
    (let s : State := up; wfB s && decide (portDecodes s = true ∧ 5 ≤ (5 : BitVec 3).toNat ∧ logsFree s = true ∧
      s.txn.phase = .none ∧ (ctl 4 false).kind.toNat < 5 ∧ 5 ≤ (ctl 5 false).kind.toNat)),
    (let s : State := member; wfB s && decide (portDecodes s = true ∧ logsFree s = true ∧ s.txn.phase ≠ .none ∧ (ctl
      1 false).tag.toNat = s.txn.tag ∧ s.txn.scope = .member ∧ (ctl 1 false).kind.toNat < 5)),
    (let s : State := { opened with txn.tag := 8 }; wfB s && decide (portDecodes s = true ∧ logsFree s = true ∧
      s.txn.phase ≠ .none ∧ (ctl 1 false).tag.toNat ≠ s.txn.tag)),
    (let s : State := { opened with txn.phase := .pending }; wfB s && decide (portDecodes s = true ∧ logsFree s =
      true ∧ s.txn.phase ∉ [.none, .opened, .resolving] ∧ (ctl 1 false).tag.toNat = s.txn.tag ∧ s.txn.scope ≠
      .member)),
    (let s : State := { coordinator with txn.strandedMask := 4 }; wfB s && decide (portDecodes s = true ∧
      s.txn.phase ≠ .none ∧ s.txn.scope = .root ∧ s.txn.strandedMask ≠ 0 ∧ (ctl 3 false).tag.toNat = s.txn.tag ∧
      (ctl 3 false).kind.toNat < 5))
  ].all id = true := by decide +kernel

/-- States and operands that meet the hypotheses of `Obligations.LocalCommit`, a row for each of its clauses. -/
theorem witness_LocalCommit : [
    (let s : State := opened; wfB s && decide (portDecodes s = true ∧ s.txn.scope = .localScope ∧
      s.txn.cask.isSome = true ∧ s.txn.phase = .opened ∧ (ctl 4 false).tag.toNat = s.txn.tag ∧ (ctl 4
      false).kind.toNat < 5)),
    (let s : State :=
      { up with txn.phase := .validating, txn.tag := 7, txn.kind := 4, txn.validUntil := 1000000000000, txn.cask := some { mem := [], touched := [] } };
      wfB s && decide (portDecodes s = true ∧ s.txn.scope = .localScope ∧ s.txn.phase = .validating ∧ judgeCask {}
      s = none ∧ s.txn.kind = 4 ∧ logsFree s = true)),
    (let s : State :=
      { up with txn.phase := .validating, txn.tag := 7, txn.kind := 1, txn.cask := some {}, bnd.layer := 3 }; wfB
      s && decide (s.txn.phase = .validating ∧ judgeCask {} s = none ∧ s.txn.kind = 1 ∧ logsFree s = true)),
    (let s : State :=
      { movingAxis0 with txn.phase := .validating, txn.tag := 7, txn.kind := 4, txn.cask := some badCask }; wfB s
      && decide (s.txn.scope = .localScope ∧ s.txn.phase = .validating ∧ (judgeCask badCask s).isSome = true ∧
      logsFree s = true))
  ].all id = true := by decide +kernel

/-- States and operands that meet the hypotheses of `Obligations.TransactionDiscards`, a row for each of its clauses. -/
theorem witness_TransactionDiscards : [
    (let s : State := opened; wfB s && decide (s.txn.phase ≠ .none ∧ s.txn.phase ≠ .resolving ∧ portDecodes s =
      true ∧ (ctl 0 false).tag.toNat = s.txn.tag ∧ s.txn.scope ≠ .member ∧ coreRuns s = true ∧ s.pwr.state ≤ 2 ∧
      s.txn.phase = .opened ∧ s.txn.leaseEnd ≤ s.tk)),
    (let s : State := { opened with txn.leaseEnd := 1000000000001 }; wfB s && decide (s.tk < s.txn.leaseEnd)),
    (let s : State := member; wfB s && decide (clocked s = true ∧ (hdr 5 1).src = 1 ∧ s.vine.nodeId ≠ 0 ∧ isRoot s
      = false ∧ (32 : BitVec 64).getLsbD s.vine.nodeId = true ∧ s.txn.scope = .member ∧ s.txn.tag < 256 ∧
      s.txn.lastFromRoot + 250000 * s.txn.carriedLease < s.tk)),
    (let s : State := { member with txn.lastFromRoot := 1000000000000 }; wfB s && decide (s.tk ≤
      s.txn.lastFromRoot + 250000 * s.txn.carriedLease)),
    (let s : State :=
      { coordinator with txn.phase := .opened, txn.strandedMask := 4, txn.collecting := false, txn.cask := some {} };
      wfB s && decide (s.txn.phase ≠ .none ∧ s.txn.phase ≠ .resolving ∧ portDecodes s = true ∧ (ctl 0
      false).tag.toNat = s.txn.tag ∧ s.txn.scope = .root ∧ s.txn.strandedMask ≠ 0))
  ].all id = true := by decide +kernel

/-- States and operands that meet the hypotheses of `Obligations.GroupTransactions`, a row for each of its clauses. -/
theorem witness_GroupTransactions : [
    (let s : State := node5; wfB s && decide (clocked s = true ∧ (hdr 63 1).dst = 63 ∧ (hdr 63 1).src = 1 ∧
      s.vine.nodeId ≠ 0 ∧ isRoot s = false ∧ (32 : BitVec 64).getLsbD s.vine.nodeId = true ∧ s.txn.phase = .none ∧
      logsFree s = true)),
    (let s : State := member; wfB s && decide (clocked s = true ∧ (hdr 63 1).dst = 63 ∧ s.txn.phase ≠ .none ∧
      s.txn.scope = .member ∧ s.txn.tag = (7 : Byte).toNat ∧ s.txn.phase = .opened)),
    (let s : State :=
      { member with txn.phase := .prepared, txn.kind := 1, txn.named := { layer := 4, swath := 0, next := false } };
      wfB s && decide (s.txn.scope = .member ∧ s.txn.tag = (7 : Byte).toNat ∧ s.txn.phase = .prepared ∧
      s.txn.present = false ∧ s.txn.late = none ∧ s.txn.collecting = false ∧ s.txn.kind = 1 ∧ s.txn.stage ≠ 3 ∧
      s.txn.named.layer ≠ 0 ∧ swathActive s = false ∧ inRest s = false ∧ s.txn.named.layer ≤ s.bnd.layerHi ++ (4 :
      Word))),
    (let s : State := { member with txn.phase := .stranded }; wfB s && decide (s.txn.scope = .member ∧ s.txn.phase =
      .stranded ∧ (1 : BitVec 3) = 1)),
    (let s : State := coordinator; wfB s && decide (clocked s = true ∧ isRoot s = true ∧ s.vine.nodeId = 1 ∧
      s.txn.scope = .root ∧ s.txn.collecting = true ∧ s.txn.tag < 256 ∧ (hdr 1 2).dst = 1 ∧ (hdr 1 2).src.toNat ∈
      voters s ∧ (hdr 1 2).src ≠ 1 ∧ (∃ m ∈ voters s, m ≠ 2 ∧ ∀ p ∈ s.txn.votes, p.1 ≠ m) ∧ s.txn.voteEnd ≤ s.tk ∧
      (firstRefusal s).isSome = true)),
    (let s : State :=
      { coordinator with txn.strandedMask := 4, txn.votes := [(1, .ready), (2, .refuse 0x60 3 5), (3, .ready)] };
      wfB s && decide (s.txn.collecting = true ∧ s.txn.voteEnd ≤ s.tk ∧ firstRefusal s = some (2, 0x60, 5, 3) ∧
      s.txn.strandedMask ≠ 0)),
    (let s : State := { coordinator with txn.votes := [(1, .ready), (2, .ready), (3, .ready)] }; wfB s && decide
      (clocked s = true ∧ s.txn.collecting = true ∧ s.txn.voteEnd ≤ s.tk ∧ firstRefusal s = none ∧ s.txn.present =
      false)),
    (let s : State := { coordinator with txn.collecting := false, txn.phase := .pending }; wfB s && decide
      (s.txn.tag < 256 ∧ bit s.txn.group (2 : BitVec 6).toNat = true ∧ (2 : BitVec 6) ≠ 1 ∧ s.txn.phase ≠ .none)),
    (let s : State := { coordinator with txn.collecting := false, txn.phase := .none }; wfB s && decide (s.txn.tag <
      256 ∧ bit s.txn.group (3 : BitVec 6).toNat = true ∧ (3 : BitVec 6) ≠ 1 ∧ s.txn.phase = .none)),
    (let s : State := { coordinator with txn.collecting := false, txn.phase := .resolving, txn.strandedMask := 4 };
      wfB s && decide (s.txn.tag < 256 ∧ s.txn.phase = .resolving ∧ s.txn.strandedMask = 2 ^ (2 : BitVec 6).toNat ∧
      (2 : BitVec 6) ≠ 1 ∧ ((1 : Word) = 1 ∨ (1 : Word) = 2)))
  ].all id = true := by decide +kernel

/-- States and operands that meet the hypotheses of `Obligations.PortsAndFabricCommands`, a row for each of its clauses. -/
theorem witness_PortsAndFabricCommands : [
    (let s : State := up; wfB s && decide (vineOn s = true ∧ isRoot s = false ∧ (portOf s 2).up = false ∧ (portOf s
      2).idle = false ∧ s.vine.portEn.testBit 2 = true ∧ s.vine.nodeId = 0 ∧ coreRuns s = true)),
    (let s : State := node5; wfB s && decide (vineOn s = true ∧ isRoot s = false ∧ (portOf s 2).up = false ∧ (portOf
      s 2).idle = false ∧ s.vine.portEn.testBit 2 = true ∧ s.vine.nodeId ≠ 0 ∧ routeOf s 1 = 0 + 1 ∧ canSend s 0 0 =
      true)),
    (let s : State := { node5 with vine.nodeId := 0 }; wfB s && decide (vineOn s = true ∧ isRoot s = false ∧
      DownCause.codes ≠ DownCause.idle ∧ DownCause.signal ≠ DownCause.idle ∧ (portOf s 0).up = true ∧ s.vine.nodeId = 0 ∧ coreRuns s =
      true ∧ portDecodes s = true)),
    (let s : State := node5; wfB s && decide (vineOn s = true ∧ isRoot s = false ∧ (portOf s 0).up = true)),
    (let s : State := up; wfB s && decide (portDecodes s = true ∧ isUp s = true ∧ isRoot s = false ∧ 4 ≤ (4 : BitVec
      3).toNat ∧ s.vine.fabDst = 0)),
    (let s : State := { node5 with vine.fabDst := 1 }; wfB s && decide (portDecodes s = true ∧ s.vine.fabDst ≠ 0 ∧
      s.vine.fabDst ≠ s.vine.nodeId ∧ s.vine.fabDst ≠ 63 ∧ routeOf s s.vine.fabDst = 0 + 1 ∧ canSend s 0 0 = true)),
    (let s : State := rootNode; wfB s && decide (portDecodes s = true ∧ isUp s = true ∧ isRoot s = true ∧
      s.vine.nodeId = 1 ∧ s.vine.ready = true ∧ s.vine.disc = none ∧ canSend s 0 0 = true)),
    (let s : State :=
      { rootNode with vine.ports := [{}, {}, {}], vine.dir := [{ node := 2, uid := 3, reach := 1 }, { node := 3, uid := 4, reach := 0 }] };
      wfB s && decide (isUp s = true ∧ isRoot s = true ∧ s.vine.nodeId = 1 ∧ (∀ q : Fin 3, (portOf s q).up =
      false)))
  ].all id = true := by decide +kernel

/-- States and operands that meet the hypotheses of `Obligations.DeviceIsNumbered`, a row for each of its clauses. -/
theorem witness_DeviceIsNumbered : [
    (let s : State := node5; wfB s && decide (vineOn s = true ∧ (portOf s 0).up = true ∧ isRoot s = false ∧
      canSend s 0 0 = true ∧ forMe (hdr 5 1) s = true ∧ (hdr 5 1).src = 1 ∧ (List.replicate 11 (0x5555 :
      Word)).length = 11 ∧ (List.replicate 10 (0 : Word)).length ≠ 11 ∧ coreRuns s = true))
  ].all id = true := by decide +kernel

/-- States and operands that meet the hypotheses of `Obligations.RootDiscovers`, a row for each of its clauses. -/
theorem witness_RootDiscovers : [
    (let s : State :=
      { rootNode with vine.epoch := 3, vine.disc := some { stack := [(1, 1)], probe := some (1, 1), deadline := 1000000000000 } };
      wfB s && decide (vineOn s = true ∧ rootUp s = true ∧ (portOf s 0).up = true ∧ s.vine.waiting = [] ∧
      s.vine.disc.any (fun d => !d.known) = true ∧ (∀ e ∈ s.vine.dir, e.uid ≠ 9 ∧ e.node ≠ 2) ∧ s.vine.dualroot =
      false ∧ (1000000000000 ≤ s.tk))),
    (let s : State :=
      { rootNode with vine.disc := some { stack := [(1, 1)], probe := some (1, 1), deadline := 1000000000001 } };
      wfB s && decide (vineOn s = true ∧ rootUp s = true ∧ s.tk < 1000000000001)),
    (let s : State :=
      { rootNode with vine.links := [{ nodeA := 1, portA := 1, nodeB := 2, portB := 1 }, { nodeA := 1, portA := 2, nodeB := 2, portB := 2, standby := true }] };
      wfB s && decide (vineOn s = true ∧ rootUp s = true ∧ s.vine.disc = none ∧ s.vine.ready = true ∧ (linkAt 1 1
      s).any (fun l => l.up && !l.standby) = true ∧ (linkAt 1 2 s).any (fun l => l.up && l.standby) = true)),
    (let s : State :=
      { rootNode with vine.links := [{ nodeA := 1, portA := 1, nodeB := 2, portB := 1, up := false }] }; wfB s &&
      decide (vineOn s = true ∧ rootUp s = true ∧ s.vine.disc = none ∧ s.vine.ready = true ∧ (linkAt 1 1 s).any (fun
      l => !l.up) = true ∧ (2 : BitVec 6) ≠ 0))
  ].all id = true := by decide +kernel

/-- States and operands that meet the hypotheses of `Obligations.PacketsReadBack`, a row for each of its clauses. -/
theorem witness_PacketsReadBack : [
    (let s : State := up; wfB s && decide
      (({ dst := 63, src := 62, type := 31, cls := 3, seq := 255, words := [1, 2] } : Packet).dst < 64))
  ].all id = true := by decide +kernel

/-- States and operands that meet the hypotheses of `Obligations.Forwarding`, a row for each of its clauses. -/
theorem witness_Forwarding : [
    (let s : State := node5; wfB s && decide (vineOn s = true ∧ (portOf s 0).up = true ∧ packetCrcOk (List.replicate
      12 1) = false ∧ coreRuns s = true ∧ (portOf s 0).txq = [])),
    (let s : State :=
      { node5 with vine.ports := [{ up := true, txq := [{ dst := 1, src := 5, type := 6, cls := 0, seq := 0, words := [] }] }, {}, {}] };
      wfB s && decide ((portOf s 0).txq = [{ dst := 1, src := 5, type := 6, cls := 0, seq := 0, words := [] }] ∧
      (portOf s 0).idle = false ∧ (portOf s 0).credit0 = 0 ∧ 1 ≤ (1 : Byte).toNat)),
    (let s : State := { node5 with vine.ports := [{ up := true, credit0 := 9 }, { up := true, credit0 := 9 }, {}] };
      wfB s && decide (vineOn s = true ∧ (portOf s 1).up = true ∧ packetFormOk aPacket = true ∧ aPacket.owe = none ∧
      aPacket.rx = none ∧ noBuffer 1 aPacket s = false ∧ s.vine.nodeId ≠ 0 ∧ eventReserved s aPacket = false ∧
      aPacket.dst ≠ s.vine.nodeId ∧ routeOf s aPacket.dst = 0 + 1 ∧ canSend s 0 aPacket.cls = true ∧ aPacket.cls < 2
      ∧ packetFormOk { aPacket with dst := 5 } = true ∧ noBuffer 1 { aPacket with dst := 5 } s = false ∧
      eventReserved s { aPacket with dst := 5 } = false ∧ packetFormOk { aPacket with cls := 1 } = false ∧
      packetFormOk { aPacket with type := 0x0A, cls := 3 } = false))
  ].all id = true := by decide +kernel

/-- States and operands that meet the hypotheses of `Obligations.FabricTime`, a row for each of its clauses. -/
theorem witness_FabricTime : [
    (let s : State := rootNode; wfB s && decide (rootUp s = true ∧ s.vine.ready = true ∧ s.vine.disc = none ∧
      s.vine.lastTickPkt + 1024 ≤ s.tk ∧ onTree s 0 = true ∧ canSend s 0 1 = true ∧ vineOn s = true ∧ (portOf s
      0).echoNext ≤ s.tk ∧ (portOf s 0).up = true)),
    (let s : State := { rootNode with vine.lastTickPkt := 999999999999 }; wfB s && decide (s.tk <
      s.vine.lastTickPkt + 1024)),
    (let s : State := { node5 with tick := 1000 }; wfB s && decide (vineOn s = true ∧ clocked s = true ∧
      s.vine.nodeId ≠ 0 ∧ isRoot s = false ∧ (portOf s 0).up = true ∧ s.vine.sync = false ∧ swathActive s =
      false)),
    (let s : State := { node5 with tick := 1000, vine.sync := true, vine.bad := 3 }; wfB s && decide (s.vine.sync
      = true ∨ swathActive s = true)),
    (let s : State := { node5 with tick := 1000, vine.good := 15 }; wfB s && decide (s.vine.sync = false)),
    (let s : State := { node5 with vine.sync := true, vine.lastTickPkt := 1000000000000 - 65536 }; wfB s && decide
      (clocked s = true ∧ isRoot s = false ∧ s.vine.sync = true ∧ s.vine.lastTickPkt + 65536 ≤ s.tk)),
    (let s : State := { node5 with vine.routes := (List.replicate 64 0).set 1 1, vine.parentPort := 1 }; wfB s &&
      decide (vineOn s = true ∧ clocked s = true ∧ isRoot s = false ∧ (portOf s 0).up = true ∧ owedUnits 0 1 s < 4 ∧
      canSend s 0 1 = true ∧ (portOf s 0).echoNext ≤ s.tk))
  ].all id = true := by decide +kernel

/-- States and operands that meet the hypotheses of `Obligations.RoutedAndRemoteAccesses`, a row for each of its clauses. -/
theorem witness_RoutedAndRemoteAccesses_2 : [
    (let s : State := node5; wfB s && decide (inRest s = false ∧ vineOn s = true ∧ (portOf s 0).up = true ∧ forMe
      (hdr 5 1) s = true ∧ (hdr 5 1).src ≠ (hdr 5 1).dst ∧ routeOf s 1 = 0 + 1 ∧ canSend s 0 0 = true ∧ isUp s =
      true ∧ s.pwr.state = 0 ∧ coreRuns s = true ∧ s.boot.phase ≠ .recovery)),
    (let s : State := { node5 with boot.phase := .recovery }; wfB s && decide (inRest s = false ∧ coreRuns s =
      false ∨ s.boot.phase = .recovery)),
    (let s : State :=
      { node5 with host.queue := [{ aRouted with rnw := true, dst := 1, inFlight := true, seq := 9, deadline := 1000000000001 }], host.results := [{ id := 1, ready := false, data := 5 }] };
      wfB s && decide (inRest s = false ∧ portDecodes s = true ∧ s.host.queue.length = 1 ∧
      s.host.queue.all (fun q => q.seq == ({ hdr 5 1 with seq := 9 } : Hdr).seq.toNat) = true))
  ].all id = true := by decide +kernel

/-- States and operands that meet the hypotheses of `Obligations.PositionChannels`, a row for each of its clauses. -/
theorem witness_PositionChannels : [
    (let s : State := up; wfB s && decide (inRest s = false ∧ clocked s = true ∧ (encOf s 3).en = false ∧
      s.pwr.entering = none ∧ encMode s 3 ≠ 2)),
    (let s : State := withEnc { quad with count := 7, velFrozen := 9 } up; wfB s && decide (inRest s = false ∧
      clocked s = true ∧ s.pwr.entering = none ∧ (encOf s 3).en = true ∧ 16777216 < s.tk - (encOf s 3).lastCount ∧
      encMode s 3 ≠ 2)),
    (let s : State := withWords [(0xA0, 48 + 4, 0xFFFF), (0xA0, 48 + 5, 0xFFFF), (0xA0, 48 + 6, 100)] (withEnc quad
      up); wfB s && decide (inRest s = false ∧ encMode s 3 ≠ 2 ∧ (softLimits s 3) = (-1, 100))),
    (let s : State := withEnc { en := true, smpA := { w := 0xF, n := 4 } } up; wfB s && decide ((encOf s 3).en =
      true ∧ (encOf s 3).levelA = none ∧ smpHeld (max (encFilt s 3 + 1) 4) (smpPut true (encOf s 3).smpA) = some
      true)),
    (let s : State := withEnc quad up; wfB s && decide (encActive s 3 = true ∧ encMode s 3 = 0 ∧ ¬ indexRises s 3
      false)),
    (let s : State := withWords [(0xA0, 48 + 9, 50)] (withEnc { quad with rehomeArmed := true, uncertain := true }
      up); wfB s && decide (encActive s 3 = true ∧ indexRises s 3 true ∧ encMode s 3 = 0 ∧ (encOf s 3).prevIndex =
      none ∧ (encOf s 3).rehomeArmed = true ∧ isGridSource s 3 = false)),
    (let s : State := withWords [(0xA0, 48, 0x0800), (0xA0, 48 + 1, 3), (0xA0, 48 + 2, 10)] (withEnc
      { quad with count := 136, prevIndex := some 100 } up); wfB s && decide (encActive s 3 = true ∧ indexRises s 3
      true ∧ encMode s 3 = 0 ∧ (encOf s 3).prevIndex = some 100 ∧ (encOf s 3).rehomeArmed = false ∧ isGridSource s 3
      = false ∧ bit (encCfg s 3) 11 = true ∧ (encOf s 3).broken = false ∧ 10 = tnat32 s 0xA0 (16 * 3 + 2) ∧ (tnat s
      0xA0 (16 * 3 + 1) : Int) < (4 * 10 : Int) - ((encOf s 3).count - 100).natAbs)),
    (let s : State := withWords [(0xA0, 48, 0x0800), (0xA0, 48 + 1, 3), (0xA0, 48 + 2, 10)] (withEnc
      { quad with count := 144, prevIndex := some 100 } up); wfB s && decide (encActive s 3 = true ∧ indexRises s 3
      true ∧ (tnat s 0xA0 (16 * 3 + 1) : Int) < ((encOf s 3).count - 100).natAbs - (4 * 10 : Int)))
  ].all id = true := by decide +kernel

/-- States and operands that meet the hypotheses of `Obligations.PositionCounting`, a row for each of its clauses. -/
theorem witness_PositionCounting : [
    (let s : State := withEnc quad up; wfB s && decide (clocked s = true ∧ encActive s 3 = true ∧ encMode s 3 = 0 ∧
      levelAfter s 3 0 false = (encOf s 3).levelA ∧ levelAfter s 3 1 false = (encOf s 3).levelB)),
    (let s : State := withEnc quad up; wfB s && decide (levelAfter s 3 0 true = some true ∧ levelAfter s 3 1 false =
      some false ∧ ((encOf s 3).levelA = some true ↔ (encOf s 3).levelB ≠ some false) ∧ (encOf s 3).lastEdge = none
      ∧ (encOf s 3).count + 1 ≤ (softLimits s 3).2)),
    (let s : State := withWords [(0xA0, 48, 0x0010)] (withEnc { quad with smpA := { w := 2, n := 9 } } up); wfB s &&
      decide (levelAfter s 3 0 true = some true ∧ encFilt s 3 = 1)),
    (let s : State := withEnc { quad with lastEdge := some 999999999991 } up; wfB s && decide (encActive s 3 = true
      ∧ encMode s 3 = 0 ∧ levelAfter s 3 0 true = some true ∧ levelAfter s 3 1 false = some false ∧ (encOf s
      3).levelA ≠ some true ∧ s.tk - 999999999991 < 10)),
    (let s : State := withWords [(0xA0, 48 + 6, 5)] (withEnc { quad with count := 5 } up); wfB s && decide
      (encActive s 3 = true ∧ encMode s 3 = 0 ∧ min ((encOf s 3).count + 1) (softLimits s 3).2 ≠ (encOf s 3).count +
      1)),
    (let s : State := withEnc { quad with lastEdge := some 999999999990 } up; wfB s && decide (encActive s 3 = true
      ∧ levelAfter s 3 0 true = some true ∧ levelAfter s 3 1 true = some true ∧ (encOf s 3).levelA ≠ some true ∧
      (encOf s 3).levelB ≠ some true ∧ bit (encCfg s 3) 13 = false ∧ 10 ≤ s.tk - 999999999990)),
    (let s : State := withWords [(0xA0, 48, 0x4000)] (withEnc { quad with hallLast := some 1, rawpos := 1 } up); wfB
      s && decide (clocked s = true ∧ encActive s 3 = true ∧ encMode s 3 = 1 ∧ (∀ i < 3, levelAfter s 3 i ((3 :
      BitVec 3).getLsbD (2 - i)) = some ((3 : BitVec 3).getLsbD (2 - i))) ∧ (∀ i < 3, levelAfter s 3 i ((6 : BitVec
      3).getLsbD (2 - i)) = some ((6 : BitVec 3).getLsbD (2 - i))) ∧ hallPlace 1 ≠ 6 ∧ hallPlace 3 ≠ 6 ∧ hallPlace 6
      ≠ 6 ∧ (encOf s 3).hallLast = some 1 ∧ ((hallPlace 3 + 6 - hallPlace 1) % 6 = 1 ∨ (hallPlace 3 + 6 - hallPlace
      1) % 6 = 5) ∧ (hallPlace 6 + 6 - hallPlace 1) % 6 ∈ [2, 3, 4] ∧ (encOf s 3).rawpos = (1 : BitVec 3).toNat)),
    (let s : State := withWords [(0xA0, 48, 0x4000)] (withEnc { quad with hallLast := some 1, rawpos := 0 } up); wfB
      s && decide (encMode s 3 = 1 ∧ (encOf s 3).rawpos ≠ (1 : BitVec 3).toNat ∧ (hallPlace 1 + 6 - hallPlace 1) % 6
      = 0)),
    (let s : State := withWords [(0xA0, 48, 0x8000), (0xA2, 48 + 9, 10)] (withEnc
      { quad with ssiNext := 1000000000000 } up); wfB s && decide (clocked s = true ∧ encActive s 3 = true ∧ encMode
      s 3 = 2 ∧ (encOf s 3).ssiNext ≤ s.tk)),
    (let s : State := ssiReading 0x2000; wfB s && decide (encActive s 3 = true ∧ encMode s 3 = 2 ∧ (encOf s
      3).ssiBusy = true ∧ ssiEndTk s 3 [(30, true), (190, false), (0, true)] = 220 ∧ 220 ≤ s.tk ∧ ssiMonoflop s 3
      [(30, true), (190, false), (0, true)] = (220, true) ∧ ssiCrcBad s 3 (ssiBits s 3 [(30, true), (190, false),
      (0, true)]) = false ∧ ssiErrBad s 3 (ssiBits s 3 [(30, true), (190, false), (0, true)]) = false ∧ ssiPosition
      s 3 (ssiBits s 3 [(30, true), (190, false), (0, true)]) = 128)),
    (let s : State := ssiReading 0x4020; wfB s && decide (encActive s 3 = true ∧ encMode s 3 = 2 ∧ ssiMonoflop s 3
      [(215, false), (190, true), (15, false), (0, true)] = (420, true) ∧ ssiCrcBad s 3 (ssiBits s 3 [(215, false),
      (190, true), (15, false), (0, true)]) = true ∧ ssiErrBad s 3 (ssiBits s 3 [(215, false), (190, true), (15,
      false), (0, true)]) = false)),
    (let s : State := ssiReading 0x2080; wfB s && decide (ssiMonoflop s 3 [(463, false), (0, true)] = (463, true) ∧
      ssiErrBad s 3 (ssiBits s 3 [(463, false), (0, true)]) = true)),
    (let s : State := ssiReading 0x2000; wfB s && decide (ssiMonoflop s 3 [(464, false), (0, true)] = (463, false) ∧
      ssiMonoflop s 3 [(0, true)] = (214, false)))
  ].all id = true := by decide +kernel

/-- States and operands that meet the hypotheses of `Obligations.GridOnCounts`, a row for each of its clauses. -/
theorem witness_GridOnCounts : [
    (let s : State := up; wfB s && decide (inRest s = false ∧ clocked s = true ∧ swathActive s = false ∧ gridCfgOk s
      3 127 = false ∧ gridCfgOk s 3 128 = true)),
    (let s : State := inSwath; wfB s && decide (inRest s = false ∧ clocked s = true ∧ swathActive s = true)),
    (let s : State := { locked with grid.tb := 1000000000000 - 1750 }; wfB s && decide (clocked s = true ∧
      countIsLate s = true)),
    (let s : State := locked; wfB s && decide (gridSrc s = 1 ∧ encActive s (gridUnit s) = true ∧ (encOf s (gridUnit
      s)).count ≠ s.grid.lastG ∧ s.grid.lock = true ∧ s.grid.openRegion = none ∧ s.grid.dirDown = (encOf s (gridUnit
      s)).down ∧ inWindow s (999999999997 - s.grid.tb) = true ∧ winLo s * (tavg s).1 ≤ (999999999997 - s.grid.tb) *
      16 * (tavg s).2)),
    (let s : State := { locked with grid.lock := false, grid.intervals := [1000, 1000, 1000] }; wfB s && decide
      (s.grid.lock = false ∧ s.grid.dirDown = (encOf s (gridUnit s)).down ∧ s.grid.lastStamp = some 999999998997 ∧
      inWindow s (999999999997 - 999999998997) = true)),
    (let s : State := { locked with grid.tb := 999999999897 }; wfB s && decide (s.grid.lock = true ∧
      s.grid.openRegion = none ∧ s.grid.dirDown = (encOf s (gridUnit s)).down ∧ (999999999997 - s.grid.tb) * 16 *
      (tavg s).2 < winLo s * (tavg s).1)),
    (let s : State := { locked with grid.dirDown := true }; wfB s && decide (s.grid.lock = true ∧ s.grid.openRegion
      = none ∧ s.grid.dirDown ≠ (encOf s (gridUnit s)).down ∧ swathActive s = false)),
    (let s : State := { locked with grid.dirDown := true, ing.active := inSwath.ing.active }; wfB s && decide
      (s.grid.lock = true ∧ s.grid.openRegion = none ∧ s.grid.dirDown ≠ (encOf s (gridUnit s)).down ∧ swathActive s
      = true)),
    (let s : State :=
      { locked with grid.base := 64 * 65536 - 4194304, grid.openRegion := some aRegion, grid.regions := [aRegion] };
      wfB s && decide (s.grid.lock = true ∧ s.grid.openRegion = some aRegion ∧ s.grid.dirDown = (encOf s (gridUnit
      s)).down ∧ s.grid.lastStamp = some 999999998997 ∧ s.grid.tb ≤ 999999998997 ∧ inWindow s (999999999997 -
      999999998997) = true ∧ (roundDivTowardZero (gridPred { s with grid.lastDown := (encOf s (gridUnit s)).down }
      999999999997 - 64 * 1 * 65536) 4194304).natAbs ≤ tnat s 0xA6 2 % 16)),
    (let s : State :=
      { locked with grid.base := 64 * 65536 * 9, grid.openRegion := some aRegion, grid.regions := [aRegion], ing.active := inSwath.ing.active };
      wfB s && decide (s.grid.lock = true ∧ s.grid.openRegion = some aRegion ∧ s.grid.lastStamp = some 999999998997
      ∧ s.grid.tb ≤ 999999998997 ∧ inWindow s (999999999997 - 999999998997) = true ∧ tnat s 0xA6 2 % 16 <
      (roundDivTowardZero (gridPred { s with grid.lastDown := (encOf s (gridUnit s)).down } 999999999997 - 64 * 1 *
      65536) 4194304).natAbs ∧ s.ing.active.isSome = true))
  ].all id = true := by decide +kernel

/-- States and operands that meet the hypotheses of `Obligations.GridVerdictsAndRelay`, a row for each of its clauses. -/
theorem witness_GridVerdictsAndRelay : [
    (let s : State := indexed 140; wfB s && decide (clocked s = true ∧ isGridSource s 3 = true ∧ encActive s 3 =
      true ∧ indexRises s 3 true ∧ encMode s 3 = 0 ∧ (encOf s 3).rehomeArmed = false ∧ s.grid.regions =
      [{ aRegion with firedIn := [0] }] ∧ s.ing.active.any (fun a => a.rcd.state == 1 && a.rcd.serial == 0 &&
      a.rcd.doubts == [1] && !a.rcd.lasting) = true ∧ indexVerdict s 3 = some false)),
    (let s : State := indexed 144; wfB s && decide (isGridSource s 3 = true ∧ encActive s 3 = true ∧ indexRises s 3
      true ∧ indexVerdict s 3 = some true)),
    (let s : State := withWords [(0xA6, 0, 0x5900)] { rootNode with tick := 640 }; wfB s && decide (clocked s = true
      ∧ tokensOn s = true ∧ s.tick.toNat % 64 = 0 ∧ onTree s 0 = true ∧ canSend s 0 1 = true ∧ s.grid.verdictEpoch <
      4)),
    (let s : State := up; wfB s && decide ((hdr 63 9).src.toNat ≠ relayNode s ∨ gridSrc s ≠ 2)),
    (let s : State := withWords [(0xA6, 0, 0x8000), (0xA6, 4, 9)]
      { node5 with tick := 640, grid.rxEpoch := some 1 }; wfB s && decide (clocked s = true ∧ s.vine.nodeId ≠ 0 ∧
      (hdr 63 9).src.toNat = relayNode s ∧ gridSrc s = 2 ∧ s.grid.openRegion = none ∧ s.grid.rxEpoch = some 1 ∧
      s.grid.tokenTs = none)),
    (let s : State := withWords [(0xA6, 0, 0x8000), (0xA6, 4, 9)]
      { node5 with tick := 640, grid.rxEpoch := some 1, grid.tokenTs := some (2 ^ 48 - 64) }; wfB s && decide
      (s.grid.tokenTs = some (2 ^ 48 - 64) ∧ (s.tick.toNat + 2 ^ 49 - (s.tick.toNat + 32768 - 3 * 64) % 32768 - (2 ^
      48 - 64)) % 2 ^ 48 = 256)),
    (let s : State := withWords [(0xA6, 0, 0x8000), (0xA6, 4, 9)]
      { node5 with tick := 640, grid.rxEpoch := some 1, grid.tokenTs := some 192 }; wfB s && decide (s.grid.tokenTs
      = some 192 ∧ (s.tick.toNat + 2 ^ 49 - (s.tick.toNat + 32768 - 3 * 64) % 32768 - 192) % 2 ^ 48 = 0)),
    (let s : State := withWords [(0xA6, 0, 0x8000)] up; wfB s && decide (clocked s = true ∧ gridSrc s = 2 ∧
      s.grid.lost = false ∧ tnat s 0xA6 3 ≤ s.tk - s.grid.lastToken)),
    (let s : State := withWords [(0xA6, 0, 0x8000)] { inSwath with grid.lost := true }; wfB s && decide (gridSrc s =
      2 ∧ s.grid.lost = true ∧ s.grid.lostOut = false ∧ s.ing.active.isSome = true ∧ relayMaxTk s ≤ s.tk -
      s.grid.lastToken)),
    (let s : State := withWords [(0xA6, 0, 0x8000)] { up with grid.lost := true }; wfB s && decide (gridSrc s = 2 ∧
      s.grid.lost = true ∧ s.grid.lostOut = false ∧ s.ing.active = none ∧ relayMaxTk s ≤ s.tk - s.grid.lastToken))
  ].all id = true := by decide +kernel

/-- States and operands that meet the hypotheses of `Obligations.JetCommands`, a row for each of its clauses. -/
theorem witness_JetCommands : [
    (let s : State := jetNode; wfB s && decide (inRest s = false ∧ clocked s = true ∧ s.pwr.entering = none ∧
      swathActive s = false ∧ groupValid s 0 = true ∧ inputsOk s 0 = true ∧ grDrive s 0 ≠ 1 ∧ (0 : BitVec 5).toNat ≤
      7 ∧ wdacBusy s 0 = false ∧ waveOk s 1 (wdacWf s 0) = true ∧ wdacSelected s 0 = false ∧ (wdacOf s 0).on = false
      ∧ groupValid s 1 = false ∧ 7 < (8 : BitVec 5).toNat ∧ 6 ≤ (6 : BitVec 3).toNat)),
    (let s : State := withWords [(0x24, 4, 0)] jetNode; wfB s && decide (wdacBusy s 1 = false ∧ waveOk s 1 (wdacWf s
      1) = false)),
    (let s : State := { jetNode with jet.wdacs := (List.replicate 8 {}).set 7 { on := true, ready := true } }; wfB s
      && decide (clocked s = true ∧ (7 : BitVec 5).toNat ≤ 7 ∧ wdacBusy s 7 = false ∧ (wdacOf s 7).on = true)),
    (let s : State := withWords [(0x21, 0, 0xD000), (0x24, 0, 0x0109)] jetNode; wfB s && decide (wdacBusy s 0 =
      false ∧ waveOk s 1 (wdacWf s 0) = true ∧ wdacSelected s 0 = true ∧ wdacFaults s 0 ≠ [])),
    (let s : State :=
      { jetNode with jet.wdacs := (List.replicate 8 {}).set 7 { on := true, glideUp := false, glideEnd := some 1000000000000 } };
      wfB s && decide ((wdacOf s 7).glideEnd = some 1000000000000 ∧ 1000000000000 ≤ s.tk)),
    (let s : State :=
      { jetNode with jet.wdacs := (List.replicate 8 {}).set 0 { on := true, glideUp := true, glideEnd := some 1000000000001 } };
      wfB s && decide ((wdacOf s 0).glideEnd = some 1000000000001 ∧ s.tk < 1000000000001)),
    (let s : State := { printing with jet.fires := [cutFire] }; wfB s && decide (clocked s = true ∧ swathActive s =
      true ∧ s.jet.fires[0]? = some cutFire ∧ cutFire.chans[0]? = some cutChan ∧ cutChan.channel / 8 = 0 ∧ s.tk <
      cutFire.fireEnd ∧ cutChan.channel < 256)),
    (let s : State := { jetNode with tk := 1000000250000 }; wfB s && decide (grMode s 0 ≠ 0 ∧ s.jet.staleAt = [] ∧
      (tempOf s 0).at_ + 250000 ≤ s.tk)),
    (let s : State := { jetNode with tk := 1000000249999 }; wfB s && decide (grMode s 0 ≠ 0 ∧ s.jet.staleAt = [] ∧
      s.tk < (tempOf s 0).at_ + 250000 ∧ s.tk < (s.rail.rails.getD (grSupply s 0) {}).vAt.getD 0 + 250000))
  ].all id = true := by decide +kernel

/-- States and operands that meet the hypotheses of `Obligations.UnitFires`, a row for each of its clauses. -/
theorem witness_UnitFires : [
    (let s : State := printing; wfB s && decide (s.ing.active.isSome = true ∧ (0 : Int) ≤ (unitCols s 0 0).2 ∧
      reached s 0 (target s 0 0 0) = true ∧ (s.grid.openRegion.isSome || (gridSrc s == 1 && !s.grid.lock)) = false ∧
      (unitMembers s 0).all (fun c => (fun p => p.skipped == 0 && !p.under && !p.bad && p.codes.any (· != 0))
      (present s inFlight 0 c 0)) = true ∧ ((unitGroups s 0).filter (grEn s)).filter (groupGateOpen s) = [0] ∧
      unitMembers s 0 ≠ [] ∧ lastFire s 0 = none ∧ inFlight.gone.contains (0, s.tk) = false)),
    (let s : State := { printing with ing.active := some { inFlight with gone := [(0, up.tk)] } }; wfB s && decide
      (s.ing.active.any (fun a => a.gone.contains (0, s.tk)) = true ∧ reached s 0 (target s 0 0 0) = true)),
    (let s : State :=
      { printing with jet.fires := [{ trig := 0, column := 9, start := 0, tap := 0, groups := [], guardEnd := 1000000000001, fireEnd := 0, chans := [] }] };
      wfB s && decide ((lastFire s 0).any (fun f => decide ((firePlace s 0 (target s 0 0 0)).1 < f.guardEnd)) = true
      ∧ (unitGroups s 0).filter (grEn s) = [0])),
    (let s : State := { printing with hc.hostClosed := 1 }; wfB s && decide (((unitGroups s 0).filter (grEn
      s)).filter (groupGateOpen s) = [] ∧ lastFire s 0 = none)),
    (let s : State := { printing with jet.en := 0 }; wfB s && decide ((unitGroups s 0).filter (grEn s) = [])),
    (let s : State := withWords [(0xA6, 0, 0x0200)] { printing with grid.openRegion := some aRegion }; wfB s &&
      decide (s.grid.openRegion.isSome = true ∧ gridPolicy s = 1)),
    (let s : State := withWords [(0xA6, 0, 0x0400)] { printing with grid.openRegion := some aRegion }; wfB s &&
      decide (s.grid.openRegion.isSome = true ∧ gridPolicy s = 2))
  ].all id = true := by decide +kernel

/-- States and operands that meet the hypotheses of `Obligations.SwathDataArrives`, a row for each of its clauses. -/
theorem witness_SwathDataArrives : [
    (let s : State := takingBlocks; wfB s && decide (clocked s = true ∧ s.ing.hvOn = true ∧ s.ing.hvBuf = [] ∧
      s.ing.hvSkip = 0 ∧ s.ing.rdy = true ∧ s.ing.rdyEdges.any (fun r => r) = true ∧ s.ing.rdyLowFrom = none ∧
      s.ing.fifo = [] ∧ blockFits s aBlock ∧ aBlock.data.length ≤ 508 ∧ 8 ≤ hvFree s ∧ (0 : Word) ≠ 0xA5C3 ∧
      s.pwr.entering = none)),
    (let s : State := takingBlocks; wfB s && decide (([0xA5C3, 0, 7, 0, 0, 0, 1] : List Word).length = 7 +
      (([0xA5C3, 0, 7, 0, 0, 0, 1] : List Word).getD 5 0).toNat ∧ sumWords [0xA5C3, 0, 7, 0, 0, 0, 1] ≠ 0xFFFF ∧
      bits (0x0001 : Word).toNat 5 0 ≠ 0 ∧ 508 < (509 : Word).toNat)),
    (let s : State := { filling with ing.rdyEdges := [false, false, false, false] }; wfB s && decide (s.ing.hvOn =
      true ∧ ∀ r ∈ s.ing.rdyEdges, r = false)),
    (let s : State := { takingBlocks with ing.hvBuf := List.replicate 2041 0 }; wfB s && decide (s.ing.hvOn = true ∧
      s.ing.rdy = true ∧ hvFree s < 8)),
    (let s : State := { filling with vine.nodeId := 5 }; wfB s && decide (s.vine.nodeId ≠ 0 ∧ (hdr 5 1).dst.toNat =
      s.vine.nodeId ∧ s.ing.vineHeld = [] ∧ (portOf s 0).used2 + blockUnits aBlock ≤ 64 ∧ (bulkSeq (hdr 5 1) s).1 =
      false ∧ slotSize s 0 ≠ 0 ∧ blockFits s aBlock ∧ ({ aBlock with offset := 2 } : DataBlock).offset.toNat ≠
      (slotOf s 0).fill)),
    (let s : State := { filling with vine.nodeId := 5, ing.slots := List.replicate 8 {} }; wfB s && decide ((slotOf
      s 0).st = .empty)),
    (let s : State := { filling with ing.fifo := [(0, aBlock)] }; wfB s && decide (s.ing.fifo = [(0, aBlock)] ∧
      s.ing.vineHeld = [] ∧ blockFits s aBlock)),
    (let s : State := armed; wfB s && decide (inRest s = false ∧ (slotOf s 0).st = .armed)),
    (let s : State := filling; wfB s && decide (inRest s = false ∧ (slotOf s 0).st = .filling ∧ (0 : Fin 128).val %
      16 ≠ 14)),
    (let s : State := up; wfB s && decide (inRest s = false ∧ s.pwr.entering = none ∧ s.ing.hvOn = false ∧ (slotOf s
      7).st = .empty ∧ (127 : Fin 128).val % 16 ≠ 14))
  ].all id = true := by decide +kernel

/-- States and operands that meet the hypotheses of `Obligations.SwathLife`, a row for each of its clauses. -/
theorem witness_SwathLife : [
    (let s : State := filled; wfB s && decide (inRest s = false ∧ clocked s = true ∧ s.pwr.entering = none ∧
      slotSize s 0 ≠ 0 ∧ armOk s 0 = true ∧ armOk s 7 = false ∧ slotSize s 7 = 0 ∧ 5 ≤ (5 : BitVec 3).toNat)),
    (let s : State := armed; wfB s && decide (inRest s = false ∧ (slotOf s 0).st = .armed ∧ armHead s = some 0 ∧
      gapOpen s = true ∧ descLayer s 0 = s.bnd.layer ∧ speedPass s 0 = true ∧ descFabric s 0 = false ∧ speedOf s 0
      = descVreq s 0)),
    (let s : State := withWords [(0x40, 11, 0xFFFF), (0x40, 12, 0xFFFF), (0x40, 13, 1), (0x60, 256, 0x8000)]
      armed; wfB s && decide (inRest s = false ∧ armHead s = some 0 ∧ gapOpen s = true ∧ descLayer s 0 =
      s.bnd.layer ∧ speedPass s 0 = false)),
    (let s : State := withWords [(0x40, 11, 7000), (0x60, 256, 0x8000)] armed; wfB s && decide (inRest s = false ∧
      armHead s = some 0 ∧ gapOpen s = true ∧ speedPass s 0 = true ∧ speedOf s 0 < descVreq s 0 ∧ printAxisOn s =
      true ∧ s.mot.permits.length < 8)),
    (let s : State := { armed with bnd.layer := 1 }; wfB s && decide (inRest s = false ∧ descLayer s 0 ≠
      s.bnd.layer ∧ s.ing.seqSeen ≠ some (0, s.bnd.layer) ∧ gapOpen s = true)),
    (let s : State := printing; wfB s && decide (inRest s = false ∧ (slotOf s 0).st = .active ∧
      s.ing.active.isSome = true ∧ swathOver s = false)),
    (let s : State :=
      { printing with ing.active := some { slot := 0, rcd := { aRec with swath := 7 }, next := [(0, 4)], starvedChans := [] }, bnd.held := some 3 };
      wfB s && decide (inRest s = false ∧ swathOver s = true ∧ s.ing.active.isSome = true)),
    (let s : State := { armed with ing.waitFrom := some 999750000000 }; wfB s && decide (inRest s = false ∧
      s.ing.waitFrom = some 999750000000 ∧ s.ing.starveDone = false ∧ 999750000000 + 250000000 ≤ s.tk)),
    (let s : State := withWords [(0xA6, 0, 0x8000)] armed; wfB s && decide (gridSrc s = 2 ∧ s.grid.lostOut = false ∧
      armHead s = some 0 ∧ gapOpen s = true ∧ (slotOf s 0).st = .armed))
  ].all id = true := by decide +kernel

/-- States and operands that meet the hypotheses of `Obligations.FabricAdmission`, a row for each of its clauses. -/
theorem witness_FabricAdmission : [
    (let s : State := { fabricArmed with vine := node5.vine }; wfB s && decide (clocked s = true ∧ isRoot s = false
      ∧ s.vine.nodeId ≠ 0 ∧ fabricHead s = some 0 ∧ gapOpen s = true ∧ descLayer s 0 = s.bnd.layer ∧ speedPass s 0 =
      true ∧ s.ing.lastReport = none ∧ routeOf s 1 = 0 + 1 ∧ canSend s 0 0 = true)),
    (let s : State := withWords [(0x41, 41, 0x0010), (0x12, 4, 4)] rootNode; wfB s && decide (clocked s = true ∧
      isRoot s = true ∧ s.vine.nodeId = 1 ∧ s.ing.reports = [] ∧ admitNodes s = [(2 : BitVec 6).toNat] ∧ onTree s 0
      = true ∧ canSend s 0 0 = true)),
    (let s : State := up; wfB s && decide (s.vine.nodeId = 0)),
    (let s : State := { fabricArmed with ing.admitValue := some 9 }; wfB s && decide (0 < 8 ∧ armHead s = some 0 ∧
      gapOpen s = true ∧ descLayer s 0 = s.bnd.layer ∧ speedPass s 0 = true ∧ descFabric s 0 = true ∧
      s.ing.admitValue = some 9 ∧ gridSrc s ≠ 2)),
    (let s : State := fabricArmed; wfB s && decide (armHead s = some 0 ∧ gapOpen s = true ∧ speedPass s 0 = true ∧
      descFabric s 0 = true ∧ s.ing.admitValue = none))
  ].all id = true := by decide +kernel

/-- States and operands that meet the hypotheses of `Obligations.HeadCareGates`, a row for each of its clauses. -/
theorem witness_HeadCareGates : [
    (let s : State := up; wfB s && decide (inRest s = false ∧ clocked s = true ∧ swathActive s = false ∧ hcSize
      0x59 ≤ 256 ∧ 3 < hcSize 0x59 ∧ hcBreaks (tset 0x59 3 (9 &&& word (hcMask 0x59 3)) s) 0x59 3 ((9 : Word) &&&
      word (hcMask 0x59 3)).toNat = true ∧ hcBreaks (tset 0x59 3 (8 &&& word (hcMask 0x59 3)) s) 0x59 3 ((8 :
      Word) &&& word (hcMask 0x59 3)).toNat = false ∧ s.hc.jamWait = false ∧ inputClosed s 2 = true ∧
      dwellStart (s.hc.inputs.getD 0 {}) + dwellTk s 0 ≤ s.tk)),
    (let s : State := inSwath; wfB s && decide (inRest s = false ∧ clocked s = true ∧ swathActive s = true)),
    (let s : State := printing; wfB s && decide (inRest s = false ∧ clocked s = true ∧ inputClosed s 0 = false ∧
      inputClosed s 2 = false ∧ logsFree s = true ∧ s.hc.jamWait = false)),
    (let s : State := { up with hc.jamWait := true }; wfB s && decide (inRest s = false ∧ s.hc.jamWait = true)),
    (let s : State := { up with hc.inputs := [{ lowAt := 1000000000000 }, {}, {}] }; wfB s && decide (inRest s =
      false ∧ inputClosed s 0 = true ∧ s.tk < dwellStart (s.hc.inputs.getD 0 {}) + dwellTk s 0)),
    (let s : State := { up with hc.inputs := [{ lowRun := 3, lowAt := 999999999999 }, {}, {}] }; wfB s && decide
      (inRest s = false ∧ (s.hc.inputs.getD 0 {}).lowRun = 3 ∧ (s.hc.inputs.getD 0 {}).lowAt + 1 = s.tk)),
    (let s : State := up; wfB s && decide (inRest s = false ∧ (0x59 : Byte).toNat ∈ [0x51, 0x52, 0x54, 0x58, 0x59] ∧
      swathActive s = false ∧ hcSize 0x59 ≤ (300 : BitVec 24).toNat ∧ ((0 : BitVec 4).toNat < 1 ∨ 8 < (0 : BitVec
      4).toNat) ∧ ((9 : BitVec 4).toNat < 1 ∨ 8 < (9 : BitVec 4).toNat)))
  ].all id = true := by decide +kernel

/-- States and operands that meet the hypotheses of `Obligations.HeadRecordsAndTemperature`, a row for each of its clauses. -/
theorem witness_HeadRecordsAndTemperature : [
    (let s : State := withWords [(0x51, 2, 0x8000), (0x51, 3, 0x0000)] up; wfB s && decide (inRest s = false ∧
      clocked s = true ∧ swathActive s = false ∧ (1 : Nat) ∈ hcTargets 32 1 ∧ headEn s 1 = true ∧ hcTargets 32 40
      = [])),
    (let s : State := withWords [(0x51, 2, 0x8000)]
      { up with hc.reads := (List.replicate 32 {}).set 1 { busy := true, active := true } }; wfB s && decide (inRest s = false ∧
      (List.replicate 64 (7 : Byte)).length = 64 ∧ (s.hc.reads.getD 1 {}).busy = true ∧ (s.hc.reads.getD 1
      {}).retryAt = none ∧ (s.hc.reads.getD 1 {}).tries < 3 ∧ headEn s 1 = true ∧ headBus s 1 = (0 : Fin 5).val ∧
      (s.hc.reads.getD 0 {}).active = false ∧ (s.hc.reads.getD 1 {}).active = true)),
    (let s : State := { up with hc.reads := (List.replicate 32 {}).set 1 { busy := true, active := true, tries := 3 } };
      wfB s && decide (inRest s = false ∧ (s.hc.reads.getD 1 {}).active = true ∧ 3 ≤ (s.hc.reads.getD 1 {}).tries)),
    (let s : State :=
      { up with hc.reads := (List.replicate 32 {}).set 1 { busy := true, active := true, tries := 1, retryAt := some 1000000000000 } };
      wfB s && decide (inRest s = false ∧ (s.hc.reads.getD 1 {}).retryAt = some 1000000000000)),
    (let s : State := withWords [(0x54, 8, 0x8000), (0x54, 9, 100), (0x54, 10, 0x1000), (0x54, 11, 100), (0x54,
      12, 500)] up; wfB s && decide (inRest s = false ∧ 15 < (16 : BitVec 12).toNat ∧ (16 : BitVec 12).toNat <
      4080 ∧ tempW s 1 1 + (calibratedCode (tempCal s 1) 16 : Int) * tempW s 1 2 / 4096 ≤ tempW s 1 4 ∧ tempW s 1 3 ≤ tempW s 1 1 + (calibratedCode (tempCal s 1) 16 : Int) * tempW s 1 2 /
      4096 ∧ (tempOf s 1).st = .normal)),
    (let s : State := withWords [(0x54, 8, 0x8000), (0x54, 9, 100), (0x54, 10, 0x1000), (0x54, 11, 100), (0x54,
      12, 500)] { up with hc.temps := (List.replicate 32 {}).set 1 { overRun := 7 } }; wfB s && decide (inRest s =
      false ∧ tempW s 1 4 < tempW s 1 1 + (calibratedCode (tempCal s 1) 4079 : Int) * tempW s 1 2 / 4096 ∧ (tempOf s 1).st ≠ .over ∧ (tempOf s
      1).overRun = 7 ∧ logsFree s = true)),
    (let s : State := withWords [(0x54, 8, 0x8000), (0x54, 9, 100), (0x54, 10, 0x1000), (0x54, 11, 100), (0x54,
      12, 500)] { up with hc.temps := (List.replicate 32 {}).set 1 { st := .over, bandRun := 7 } }; wfB s &&
      decide (inRest s = false ∧ tempW s 1 3 + 8 ≤ tempW s 1 1 + (calibratedCode (tempCal s 1) 16 : Int) * tempW s 1 2 / 4096 ∧ (tempOf s 1).st ≠
      .normal ∧ (tempOf s 1).bandRun = 7 ∧ tempEn s 1 = true ∧ dwellTk s 3 ≤ s.tk - (tempOf s 1).bandFrom)),
    (let s : State := { up with hc.temps := (List.replicate 32 {}).set 1 { scanAt := some 1000000000000 } }; wfB s
      && decide ((tempOf s 1).scanAt = some 1000000000000 ∧ s.tk < 1000000000000 + tempPeriod s)),
    (let s : State := { up with hc.temps := (List.replicate 32 {}).set 1 { scanAt := some 999990000000 } }; wfB s &&
      decide ((tempOf s 1).scanAt = some 999990000000 ∧ 999990000000 + tempPeriod s ≤ s.tk))
  ].all id = true := by decide +kernel

/-- States and operands that meet the hypotheses of `Obligations.Consumables`, a row for each of its clauses. -/
theorem witness_Consumables : [
    (let s : State := withWords [(0x52, 16, 0x8000)] up; wfB s && decide (inRest s = false ∧ clocked s = true ∧
      consEn s 2 = true ∧ consEn s 3 = false ∧ (consOf s 3).auth = false)),
    (let s : State := { up with hc.cons := (List.replicate 8 {}).set 2 { auth := true } }; wfB s && decide (inRest
      s = false ∧ (consOf s 2).auth = true)),
    (let s : State := withWords [(0x52, 16, 0x8000), (0x52, 256, 0x8002), (0x52, 18, 20)]
      { up with hc.cons := (List.replicate 8 {}).set 2 { authBusy := true, byCommand := true, seen := true, pending10 := 9, pollFrom := 999995000000 }, nvm.keys := [(0, List.replicate 16 7)] };
      wfB s && decide (inRest s = false ∧ (consOf s 2).authBusy = true ∧ macOk s 2 0x81
      { cid := 5, remain := 10, mac := replyMac (List.replicate 16 7) 0x81 0 { cid := 5, remain := 10, mac := [] } }
      = true ∧ logsFree s = true ∧ (consOf s 2).pollFrom + 5000000 ≤ s.tk)),
    (let s : State :=
      { up with hc.cons := (List.replicate 8 {}).set 2 { auth := true, authBusy := true, pollFrom := 999995000001 } };
      wfB s && decide (inRest s = false ∧ macOk s 2 0x81 { cid := 5, remain := 10, mac := [] } = false ∧ s.tk <
      (consOf s 2).pollFrom + 5000000 ∧ logsFree s = true)),
    (let s : State :=
      { up with hc.cons := (List.replicate 8 {}).set 2 { auth := true, wbBusy := true, wbDec := 3, remain := 10, pending10 := 30009, cid := 5 }, nvm.keys := [(0, List.replicate 16 7)] };
      wfB s && decide (inRest s = false ∧ (consOf s 2).wbBusy = true ∧ (consOf s 2).wbRetryAt = none ∧ macOk s 2
      0x82
      { cid := 5, remain := 7, mac := replyMac (List.replicate 16 7) 0x82 0 { cid := 5, remain := 7, mac := [] } }
      = true ∧ (7 : BitVec 32).toNat = (consOf s 2).remain - (consOf s 2).wbDec)),
    (let s : State :=
      { up with hc.cons := (List.replicate 8 {}).set 2 { auth := true, wbBusy := true, wbTries := 2 } }; wfB s &&
      decide (inRest s = false ∧ macOk s 2 0x82 { cid := 5, remain := 7, mac := [] } = false ∧ (consOf s
      2).atEntry = false ∧ (consOf s 2).wbTries < 3)),
    (let s : State :=
      { up with hc.cons := (List.replicate 8 {}).set 2 { auth := true, wbBusy := true, wbTries := 3 } }; wfB s &&
      decide (inRest s = false ∧ 3 ≤ (consOf s 2).wbTries ∧ logsFree s = true)),
    (let s : State :=
      { up with hc.cons := (List.replicate 8 {}).set 2 { wbBusy := true, wbTries := 3, wbRetryAt := some 1000000000000 } };
      wfB s && decide (inRest s = false ∧ (consOf s 2).wbRetryAt = some 1000000000000 ∧ 1000000000000 ≤ s.tk)),
    (let s : State :=
      { up with hc.cons := (List.replicate 8 {}).set 2 { auth := true, wbBusy := true, wbTries := 2, cid := 4 } };
      wfB s && decide ((consOf s 2).wbBusy = true ∧ (consOf s 2).wbRetryAt = none ∧ (consOf s 2).cid ≠ 5 ∧ (consOf s
      2).atEntry = false ∧ (consOf s 2).wbTries < 3)),
    (let s : State :=
      { up with hc.cons := (List.replicate 8 {}).set 2 { auth := true, wbBusy := true, wbTries := 2, cid := 5 } };
      wfB s && decide (macOk s 2 0x82 { cid := 5, remain := 7, mac := [] } = false ∧ (consOf s 2).cid = 5 ∧ (consOf
      s 2).wbTries < 3)),
    (let s : State :=
      { up with hc.cons := (List.replicate 8 {}).set 2 { auth := true, wbBusy := true, wbTries := 3, cid := 5 } };
      wfB s && decide (macOk s 2 0x82 { cid := 5, remain := 7, mac := [] } = false ∧ (consOf s 2).cid = 5 ∧ (consOf
      s 2).atEntry = false ∧ 3 ≤ (consOf s 2).wbTries ∧ logsFree s = true))
  ].all id = true := by decide +kernel

/-- States and operands that meet the hypotheses of `Obligations.NozzleSignatures`, a row for each of its clauses. -/
theorem witness_NozzleSignatures : [
    (let s : State := { up with hc.nozzles := [{ channel := 8, nozzle := 3, wait := 5, history := [true] }] }; wfB
      s && decide (inRest s = false ∧ clocked s = true ∧ swathActive s = false ∧ hcTargets 32 1 ≠ [] ∧ s.hc.learn
      = none)),
    (let s : State := { inSwath with hc.learn := some { wf := 4, until_ := 1000000000001 } }; wfB s && decide
      (inRest s = false ∧ swathActive s = true ∧ s.hc.learn.isSome = true)),
    (let s : State := { up with hc.learn := some { wf := 4, until_ := 1000000000001 } }; wfB s && decide (inRest s
      = false ∧ s.tk < 1000000000001)),
    (let s : State :=
      { up with hc.learn := some { wf := 4, until_ := 1000000000000, sums := [[100, 101], [], []], counts := [2, 0, 0] } };
      wfB s && decide (inRest s = false ∧ s.hc.learn.isSome = true ∧ 1000000000000 ≤ s.tk)),
    (let s : State := sensing; wfB s && decide (inRest s = false ∧ clocked s = true ∧ sigLen s 0 = 8 ∧
      (List.replicate 8 (List.replicate 8 (9 : Byte))).length = 8 ∧ s.hc.bursts = [aBurst] ∧ aBurst.stop ≤ s.tk ∧
      s.hc.learn = none)),
    (let s : State := withWords [(0x59, 2, 72)] sensing; wfB s && decide (inRest s = false ∧ sigLen s 0 = 8 ∧
      s.hc.bursts = [aBurst])),
    (let s : State := sensing; wfB s && decide (aBurst.group = (0 : Fin 32).val ∧ aBurst.sampler.isSome = true ∧
      samplerBytes s aBurst (List.replicate 8 9) = List.replicate 8 9 ∧ samplerBytes s aBurst (255 :: List.replicate
      7 9) = 255 :: List.replicate 7 9))
  ].all id = true := by decide +kernel

/-- States and operands that meet the hypotheses of `Obligations.AxisDrive`, a row for each of its clauses. -/
theorem witness_AxisDrive : [
    (let s : State := withAxis {} up; wfB s && decide (inRest s = false ∧ clocked s = true ∧ s.pwr.entering = none
      ∧ s.mot.sel = (2 : Fin 8).val ∧ (axisOf s 2).en = false ∧ (axisOf s 2).fault = false ∧ axMoving s 2 = false
      ∧ 13 ≤ (13 : BitVec 4).toNat ∧ (axisOf s 2).cam = none)),
    (let s : State := withWords [(0x61, 64 + 13, 5)] (withAxis { atRest with x := 9 } up); wfB s && decide (inRest
      s = false ∧ s.mot.sel = (2 : Fin 8).val ∧ (axisOf s 2).en = true ∧ axMoving s 2 = false ∧ brkAuto s 2 = true
      ∧ (axisOf s 2).plan = none ∧ (axisOf s 2).next = none ∧ disableRuns (axisOf s 2) = false ∧ (axisOf s 2).v = 0 ∧ (axisOf s 2).restFrom + 250000
      * (if axW s 2 15 = 0 then 200 else axW s 2 15) ≤ s.tk)),
    (let s : State := withAxis moving up; wfB s && decide (inRest s = false ∧ axMoving s 2 = true ∧ (axisOf s
      2).en = true)),
    (let s : State := withAxis { fault := true } up; wfB s && decide (inRest s = false ∧ (axisOf s 2).en = false ∧
      supplyBad s 2 = false)),
    (let s : State := { withAxis { atRest with fault := true } up with rail.rails := List.replicate 12 { v := 9, vAt := some 999999999999 } };
      wfB s && decide (inRest s = false ∧ (axisOf s 2).fault = true ∧ supplyBad s 2 = false ∧ (axisOf s 2).en = true ∧
      disableRuns (axisOf s 2) = false)),
    (let s : State := withWords [(0x60, 64 + 21, 25000)] (withAxis { atRest with fault := true } up); wfB s &&
      decide (inRest s = false ∧ (axisOf s 2).en = true ∧ supplyBad s 2 = true)),
    (let s : State := withWords [(0x61, 64, 1), (0x61, 67, 3), (0x62, 2048, 4), (0x63, 5, 100), (0x63, 7, 0xFF97)]
      (withAxis atRest up); wfB s && decide (inRest s = false ∧ (axisOf s 2).en = true ∧ axMoving s 2 = false ∧
      camValid s (bits (tnat s 0x61 (32 * 2)) 1 0) = true ∧ bits (tnat s 0x61 (32 * 2 + 3)) 2 0 ≠ 2)),
    (let s : State := withAxis { atRest with drive := .enabling 1000000000000, braked := true } up; wfB s &&
      decide (inRest s = false ∧ (axisOf s 2).drive = .enabling 1000000000000 ∧ (axisOf s 2).heldGo = none ∧
      1000000000000 ≤ s.tk)),
    (let s : State := withAxis { atRest with drive := .brakeWait 1000000000000, hold := true } up; wfB s && decide
      (inRest s = false ∧ disableRuns (axisOf s 2) = true ∧ (axisOf s 2).drive = .brakeWait 1000000000000)),
    (let s : State := withWords [(0x60, 64 + 21, 25000)] (withAxis { moving with v := 7 } up); wfB s && decide
      (inRest s = false ∧ (axisOf s 2).en = true ∧ (axisOf s 2).fault = false ∧ supplyBad s 2 = true ∧ logsFree s
      = true)),
    (let s : State := withWords [(0x60, 64, 0)] (withAxis atRest up); wfB s && decide (s.mot.sel = (2 : Fin 8).val ∧
      (axisOf s 2).en = true ∧ disableRuns (axisOf s 2) = false ∧ axMoving s 2 = false ∧ brkAuto s 2 = false)),
    (let s : State := withWords [(0x61, 64 + 13, 5)] (withAxis
      { atRest with x := 9, next := some { aPlan with t0 := 1000000000500, byGo := true, target := 70 } } up); wfB s
      && decide (axMoving s 2 = false ∧ (axisOf s 2).next.any (fun p => p.byGo && p.mode != 2) = true)),
    (let s : State := withAxis { fault := true } up; wfB s && decide (supplyBad s 2 = false ∧ (axisOf s 2).en =
      false)),
    (let s : State := withAxis { atRest with drive := .brakeWait 1000000000000 } up; wfB s && decide ((axisOf s
      2).en = true ∧ disableRuns (axisOf s 2) = true ∧ supplyBad s 2 = false)),
    (let s : State := withWords [(0x61, 64, 1), (0x61, 67, 3), (0x62, 2048, 4), (0x63, 5, 100), (0x63, 7, 0xFF97)]
      (withAxis { atRest with hold := true }
      { up with txn.phase := .prepared, txn.present := true, txn.tag := 7, txn.cask := some { mem := [], touched := [(0x60, 2)] } });
      wfB s && decide (camValid s 1 = true ∧ bits (tnat s 0x61 67) 2 0 ≠ 2 ∧ axisHeld s 2 = true))
  ].all id = true := by decide +kernel

/-- States and operands that meet the hypotheses of `Obligations.AxisProfiles`, a row for each of its clauses. -/
theorem witness_AxisProfiles : [
    (let s : State := withWords [(0x61, 65, 100)] (withAxis atRest up); wfB s && decide (inRest s = false ∧
      clocked s = true ∧ s.pwr.entering = none ∧ s.mot.sel = (2 : Fin 8).val ∧ goRefused s 2 = false ∧ (stagedMove
      s 2).mode = 0 ∧ (stagedMove s 2).swath = false ∧ axisHeld s 2 = false ∧ (axisOf s 2).drive = .on ∧ (axisOf s
      2).en = true ∧ (axisOf s 2).cam = none)),
    (let s : State := withWords [(0x61, 65, 100), (0x60, 64, 0x6000), (0x60, 64 + 13, 50)] (withAxis
      { atRest with hold := true } up); wfB s && decide (inRest s = false ∧ goRefused s 2 = false ∧ (stagedMove s
      2).mode = 0 ∧ limitTarget s 2 100 ≠ 100)),
    (let s : State := withWords [(0x61, 64, 0xC000)] (withAxis atRest up); wfB s && decide (inRest s = false ∧
      goRefused s 2 = true)),
    (let s : State := withWords [(0x61, 64, 0x4000)] (withAxis moving up); wfB s && decide (inRest s = false ∧
      goRefused s 2 = false ∧ (stagedMove s 2).mode = 1 ∧ axMoving s 2 = true ∧ (axisOf s 2).plan.isSome = true ∧
      (axisOf s 2).cam = none)),
    (let s : State := withWords [(0x61, 64, 0x2000), (0x60, 256, 0x8002)] (withAxis atRest up); wfB s && decide
      (inRest s = false ∧ goRefused s 2 = false ∧ (stagedMove s 2).swath = true ∧ (axisOf s 2).drive = .on ∧
      (axisOf s 2).plan = none ∧ s.mot.permits = [])),
    (let s : State := withWords [(0x60, 257, 0), (0x60, 258, 1)] (withAxis
      { atRest with goWait := some { mode := 0, swath := true, target := 100 }, waitTurn := true }
      { up with mot.permits := [64, 9] }); wfB s && decide (inRest s = false ∧ waitingAxis s = some (2,
      { mode := 0, swath := true, target := 100 }) ∧ axisHeld s 2 = false ∧ s.mot.permits = 64 :: [9] ∧ 64 * 1000
      * tnat32 s 0x60 257 / 4194304 < axW32 s 2 1)),
    (let s : State := withAxis { atRest with next := some { aPlan with t0 := 1000000000000 } } up; wfB s && decide
      (inRest s = false ∧ (axisOf s 2).next.any (fun p => decide (p.t0 ≤ s.tk)) = true)),
    (let s : State := withAxis { atRest with plan := some { aPlan with t0 := 999750000000, endX := 77 } } up; wfB
      s && decide (inRest s = false ∧ (axisOf s 2).plan.any (fun p => p.segs != [] && decide (segsDur p.segs ≤
      (s.tk - p.t0) * 65536) && p.endV == 0) = true ∧ (axisOf s 2).attgt = false ∧ (axisOf s 2).heldGo = none)),
    (let s : State := withWords [(0x60, 64, 0x6000), (0x60, 64 + 13, 50)] (withAxis
      { atRest with mode := 2, plan := some { t0 := 999999999999, segs := [], endX := 60 * 4294967296, endV := 4294967296 } }
      up); wfB s && decide (inRest s = false ∧ (axisOf s 2).plan.isSome = true ∧ (axisOf s 2).cam = none ∧ (axisOf
      s 2).mode = 2 ∧ (vlimits s 2) = some (0, 50))),
    (let s : State := withWords [(0x60, 64, 0x4200)] (withAxis
      { atRest with refLevel := some true, homeArmed := true } up); wfB s && decide (inRest s = false ∧ (axisOf s
      2).refLevel = some (!false) ∧ (axisOf s 2).homeArmed = true ∧ bits (axW s 2 0) 10 9 = 1 ∧ bit (axW s 2 0) 8
      = false)),
    (let s : State := withWords [(0x63, 5, 100)] (withAxis { atRest with cam := some aCam }
      { up with mot.axes := (List.replicate 8 {}).set 3 { atRest with x := 100 * 4294967296 } }); wfB s && decide
      (inRest s = false ∧ (axisOf s 2).cam = some aCam ∧ bit (tnat s 0x63 4) 15 = false ∧ camSpan s 1 * 4294967296
      ≤ masterPos s aCam s.tk - aCam.morigin)),
    (let s : State := withAxis { atRest with next := some { aPlan with t0 := 1000000000000 } }
      { up with txn.phase := .prepared, txn.present := true, txn.tag := 7, txn.cask := some { mem := [], touched := [(0x60, 2)] } };
      wfB s && decide (axMoving s 2 = false ∧ axisHeld s 2 = true)),
    (let s : State := withAxis { atRest with refLevel := some false, smpRef := { w := 0, n := 16 } } up; wfB s &&
      decide ((axisOf s 2).refLevel = some false ∧ smpLevel (refFilt s 2) (some false) (smpPut false (axisOf s
      2).smpRef) = some false)),
    (let s : State := withWords [(0x60, 64, 0x4200)] (withAxis
      { atRest with refLevel := some true, homeArmed := true, past := [0, 4294967296, 2 * 4294967296, 3 * 4294967296], smpRef := { w := 0, n := 16 } }
      up); wfB s && decide ((axisOf s 2).refLevel = some (!false) ∧ smpLevel (refFilt s 2) (some true) (smpPut false
      (axisOf s 2).smpRef) = some false ∧ (axisOf s 2).homeArmed = true ∧ bits (axW s 2 0) 10 9 = 1 ∧ bit (axW s 2
      0) 8 = false)),
    (let s : State := withWords [(0x63, 5, 64)] (withAxis { atRest with cam := some { aCam with encoder := true } } up);
      wfB s && decide ((axisOf s 2).cam = some { aCam with encoder := true } ∧ (axisKin s 2 s.tk).v.natAbs ≤ axW32 s 2 1
      * 4294967296)),
    (let s : State := runaway; wfB s && decide ((axisOf s 2).cam.isSome = true ∧ axW32 s 2 1 * 4294967296 < (axisKin s
      2 s.tk).v.natAbs)),
    (let s : State :=
      { withAxis atRest up with mot := { (withAxis atRest up).mot with pwmAt := some 999999994881 } }; wfB s &&
      decide (s.mot.pwmAt = some 999999994881 ∧ s.tk < 999999994881 + 5120)),
    (let s : State :=
      { withAxis atRest up with mot := { (withAxis atRest up).mot with pwmAt := some 999999994880 } }; wfB s &&
      decide (s.mot.pwmAt = some 999999994880 ∧ 999999994880 + 5120 ≤ s.tk ∧ (axisOf s 2).en = true ∧ (axisOf s
      2).fault = false))
  ].all id = true := by decide +kernel

/-- States and operands that meet the hypotheses of `Obligations.ValveCommands`, a row for each of its clauses. -/
theorem witness_ValveCommands : [
    (let s : State := opening; wfB s && decide (inRest s = false ∧ clocked s = true ∧ s.pwr.entering = none ∧
      openRefused s 5 0 = false ∧ valveHeld s 5 0 = false ∧ (valveOf s 5).heldOpen = none ∧ (valveOf s 5).running
      = false ∧ 5 ≤ (5 : BitVec 4).toNat)),
    (let s : State := openValve; wfB s && decide (inRest s = false ∧ (valveOf s 5).running = true ∧ (valveOf s
      5).heldOpen = none ∧ (valveOf s 5).offing = false ∧ (valveOf s 5).faultBr = false ∧ (valveOf s 5).relBr =
      false ∧ vlvMaster s 5 = 5)),
    (let s : State := withWords [(0x70, 40, 0x8000), (0x71, 1, 3)] opening; wfB s && decide (vlvPossrc s 5 = 0 ∧
      tnat s 0x71 (32 * (0 : BitVec 4).toNat + 1) ≠ 0)),
    (let s : State :=
      { opening with txn.phase := .prepared, txn.present := true, txn.tag := 7, txn.cask := some { mem := [], touched := [(0x70, 5)] } };
      wfB s && decide (openRefused s 5 0 = false ∧ valveHeld s 5 0 = true)),
    (let s : State := { opening with vlv := opening.vlv.set 5 { heldOpen := some 0 } }; wfB s && decide ((valveOf s
      5).heldOpen.isSome = true)),
    (let s : State := { opening with vlv := opening.vlv.set 5 { running := true, offing := true } }; wfB s && decide
      (vlvMaster s 5 = 5 ∧ (valveOf s 5).offing = true))
  ].all id = true := by decide +kernel

/-- States and operands that meet the hypotheses of `Obligations.ValveSupervision`, a row for each of its clauses. -/
theorem witness_ValveSupervision : [
    (let s : State := openValve; wfB s && decide (clocked s = true ∧ vlvPaired s 5 = false ∧ logsFree s = true ∧
      s.tick.toNat % 12500 ≠ 3125 * (5 % 4))),
    (let s : State := { openValve with tick := 3125 }; wfB s && decide (s.tick.toNat % 12500 = 3125 * (5 % 4) ∧
      (valveOf s 5).sample = none)),
    (let s : State :=
      { openValve with vlv := openValve.vlv.set 5 { running := true, ocRun := 1, sample := some { at_ := 999999999900, code := 1023, partner := 0, known := false, act := false } } };
      wfB s && decide (s.tk = 999999999900 + 100 ∧ (valveOf s 5).ocRun = 1 ∧ (valveOf s 5).offing = false ∧
      (vlvLimit s 5 : Int) ≤ vlvAmps s 5 1023)),
    (let s : State :=
      { openValve with vlv := openValve.vlv.set 5 { running := true, offing := true, offFrom := 999999000000, idleRun := 1, sample := some { at_ := 999999999900, code := 0, partner := 0, known := false, act := false } } };
      wfB s && decide (s.tk = 999999999900 + 100 ∧ (valveOf s 5).offing = true ∧ (valveOf s 5).idleRun = 1 ∧
      (valveOf s 5).offFrom ≤ 999999999900 ∧ vlvCode s 5 0 ≤ 4 ∧ vlvAmps s 5 0 < (vlvLimit s 5 : Int))),
    (let s : State :=
      { openValve with vlv := openValve.vlv.set 5 { running := true, phaseFrom := 999999750000, sample := some { at_ := 999999999744, code := 0, partner := 0, known := false, act := false } } };
      wfB s && decide (s.tk = 999999999744 + 256 ∧ (valveOf s 5).kept = none ∧ (valveOf s 5).shareRun < 8 ∧ (valveOf
      s 5).closePend = false ∧ phEnd s 0 0 = 0 ∧ phDur s 0 0 * 25000 ≤ s.tk - (valveOf s 5).phaseFrom ∧ (phLast s 0
      0 = true ∨ profPhases s 0 ≤ 1))),
    (let s : State := withWords [(0x71, 0, 0x1000), (0x71, 3, 0)]
      { openValve with vlv := openValve.vlv.set 5 { running := true, phaseFrom := 999999750000, sample := some { at_ := 999999999744, code := 0, partner := 0, known := false, act := false } } };
      wfB s && decide (s.tk = 999999999744 + 256 ∧ phLast s 0 0 = false ∧ 0 + 1 < profPhases s 0 ∧ phDur s 0 0 *
      25000 ≤ s.tk - (valveOf s 5).phaseFrom)),
    (let s : State :=
      { openValve with vlv := openValve.vlv.set 5 { running := true, checkEnd := some 1000000000000 } }; wfB s &&
      decide ((valveOf s 5).checkEnd = some 1000000000000 ∧ 1000000000000 ≤ s.tk ∧ (valveOf s 5).running = true ∧
      (valveOf s 5).kept = none ∧ profFault s (valveOf s 5).profile = 0)),
    (let s : State :=
      { openValve with vlv := openValve.vlv.set 5 { running := true, offing := true, checkEnd := some 1000000000000 } };
      wfB s && decide ((valveOf s 5).checkEnd = some 1000000000000 ∧ (valveOf s 5).running = true ∧ (valveOf s
      5).offing = true)),
    (let s : State := withWords [(0x71, 0, 0x1020)]
      { openValve with vlv := openValve.vlv.set 5 { running := true, checkEnd := some 1000000000000 } }; wfB s &&
      decide (profFault s (valveOf s 5).profile ≠ 0)),
    (let s : State :=
      { openValve with vlv := openValve.vlv.set 5 { running := true, checkEnd := some 1000000000001 } }; wfB s &&
      decide ((valveOf s 5).checkEnd = some 1000000000001 ∧ s.tk < 1000000000001)),
    (let s : State :=
      { openValve with vlv := openValve.vlv.set 5 { running := true, offing := true, offFrom := 999987500000 } };
      wfB s && decide ((valveOf s 5).offing = true ∧ (valveOf s 5).offFrom + 12500000 ≤ s.tk)),
    (let s : State :=
      { openValve with vlv := openValve.vlv.set 5 { running := true, offing := true, offFrom := 999987500001 } };
      wfB s && decide (s.tk < (valveOf s 5).offFrom + 12500000)),
    (let s : State := openValve; wfB s && decide (vlvPossrc s 5 = 0)),
    (let s : State := withWords [(0x70, 40, 0x9000)] openValve; wfB s && decide (vlvPossrc s 5 = 1)),
    (let s : State := withWords [(0x70, 40, 0xA101), (0x70, 45, 1000)] openValve; wfB s && decide (vlvPossrc s 5 = 2
      ∧ bits (vlvW s 5 0) 11 9 = (0 : Fin 8).val ∧ (valveOf s 5).posAt = none ∧ vlvW s 5 5 % 4096 + 8 * bits (vlvW s
      5 0) 3 0 < calibratedCode (senseCal s) 1009 ∧ calibratedCode (senseCal s) 991 + 8 * bits (vlvW s 5 0) 3 0 <
      vlvW s 5 5 % 4096 ∧ calibratedCode (senseCal s) 1000 = 1000)),
    (let s : State := withWords [(0x70, 40, 0xA101), (0x70, 45, 1000)]
      { openValve with vlv := openValve.vlv.set 5 { running := true, posAt := some 999999976001 } }; wfB s && decide
      ((valveOf s 5).posAt = some 999999976001 ∧ s.tk < 999999976001 + 24000))
  ].all id = true := by decide +kernel

/-- States and operands that meet the hypotheses of `Obligations.RailCommands`, a row for each of its clauses. -/
theorem witness_RailCommands : [
    (let s : State := railed; wfB s && decide (inRest s = false ∧ clocked s = true ∧ s.pwr.entering = none ∧
      onRefused s (railsOf (3 : BitVec 10).toNat) = false ∧ (railsOf (3 : BitVec 10).toNat).any (railSelf s) =
      false)),
    (let s : State := withWords [(0x78, 32, 0x8000)] railed; wfB s && decide (inRest s = false ∧ (railsOf (4 :
      BitVec 10).toNat).any (railSelf s) = true ∧ railSelf s 2 = true)),
    (let s : State := railTo railed 1 { uv := true }; wfB s && decide (inRest s = false ∧ (railOf s 1).uv = true)),
    (let s : State := { railed with rail := { railed.rail with pfw := true } }; wfB s && decide (inRest s = false
      ∧ s.rail.cmptrip = false ∧ ((List.range 12).all fun r => !(railOf s r).uv && !(railOf s r).ov) = true ∧
      swathActive s = false ∧ logsFree s = true)),
    (let s : State := railTo railed 1 { st := .good }; wfB s && decide (inRest s = false ∧ (railOf s 1).st ≠ .off
      ∧ (railOf s 1).st ≠ .fail ∧ railSelf s 1 = false ∧ railWordBad 1 1 (1200 : Word).toNat = false)),
    (let s : State := railed; wfB s && decide (inRest s = false ∧ (railOf s 1).st = .off ∧ railSelf s 1 = false ∧
      railWordBad 1 1 (1200 : Word).toNat = false ∧ 10 ≤ 11)),
    (let s : State := withWords [(0x78, 16, 0x800)] (railTo railed 1 { st := .good, ren := true }); wfB s &&
      decide (inRest s = false ∧ bit (railDeps s 1) 11 = true ∧ (railOf s 1).ren = true)),
    (let s : State := printing; wfB s && decide (inRest s = false ∧ swathActive s = true)),
    (let s : State := railed; wfB s && decide (s.rail.pfw = false ∧ s.rail.force = false ∧ (0x4001 : Word).getLsbD
      14 = true)),
    (let s : State := railTo railed 1 { st := .good, leaving := true }; wfB s && decide ((railsOf (2 : BitVec
      10).toNat).any (railSelf s) = false ∧ (railsOf (2 : BitVec 10).toNat) = [1]))
  ].all id = true := by decide +kernel

/-- States and operands that meet the hypotheses of `Obligations.RailSupervision`, a row for each of its clauses. -/
theorem witness_RailSupervision : [
    (let s : State := { railed with rail.lastScan := 1000000000000 }; wfB s && decide (isUp s = true ∧ s.pwr.state ≤
      4 ∧ railSelf s 0 = false ∧ s.tk < s.rail.lastScan + scanPeriod s)),
    (let s : State := railTo railed 0 { st := .ramp, ren := true, target := true, goodRun := 1 }; wfB s && decide
      (isUp s = true ∧ s.pwr.state ≤ 4 ∧ railSelf s 0 = false ∧ s.rail.lastScan + scanPeriod s ≤ s.tk ∧ (railOf s
      0).leaving = false ∧ railSet s 0 = true ∧ railGoodThr s 0 ≤ calibratedCode (railCal s) 2700 * tnat s 0x78 1 /
      4096 ∧ (calibratedCode (railCal s) 2700 * tnat s 0x78 1 / 4096 : Int) ≤ railOv s 0)),
    (let s : State := railTo railed 0 { target := true }; wfB s && decide ((railOf s 0).st = .off ∧ (railOf s
      0).leaving = false ∧ (railOf s 0).target = true ∧ railDeps s 0 = 0 ∧ ((List.range 12).all fun q => q == 0 ||
      (railOf s q).st == .off) = true)),
    (let s : State := railTo railed 0 { st := .good, ren := true, leaving := true }; wfB s && decide ((railOf s
      0).leaving = true ∧ (railOf s 0).st = .good)),
    (let s : State := withWords [(0x7A, 4, 1)] (railTo railed 0
      { st := .good, ren := true, target := true, lowRun := 1 }); wfB s && decide ((railOf s 0).st = .good ∧ (railOf
      s 0).uv = false ∧ ((0 : Int) < railUv s 0) ∧ calibratedCode (railCal s) 0 * tnat s 0x78 1 / 4096 = 0 ∧
      railFact s 0 ≠ 2 ∧ bit (tnat s 0x7A 4) 0 = true)),
    (let s : State := withWords [(0x78, 7, 1), (0x78, 8, 1)] (railTo { railed with rail.lastScan := 999999250000 } 0
      { st := .ramp, ren := true, target := true, renAt := 999999000000 }); wfB s && decide (logsFree s = true ∧
      (railOf s 0).ren = true ∧ (railOf s 0).renAt + 250000 * tnat s 0x78 7 ≤ s.rail.lastScan)),
    (let s : State := withWords [(0x78, 7, 1), (0x78, 8, 1)] (railTo { railed with rail.lastScan := 999999250000 } 0
      { st := .drain, everOn := true, renAt := 999999000000 }); wfB s && decide (logsFree s = true ∧ (railOf s
      0).ren = false ∧ (railOf s 0).everOn = true ∧ (railOf s 0).wasOff = false ∧ (railOf s 0).forced = false ∧
      (railOf s 0).renAt + 250000 * tnat s 0x78 8 ≤ s.rail.lastScan)),
    (let s : State := railTo
      { railed with rail := { railed.rail with holdEnd := some 1000000000000, rails := railed.rail.rails } } 0
      { st := .good, ren := true, pending := true }; wfB s && decide (s.rail.holdEnd = some 1000000000000 ∧
      1000000000000 ≤ s.tk ∧ s.rail.selfFault = false)),
    (let s : State := railTo
      { railed with rail := { railed.rail with holdEnd := some 1000000000000, selfFault := true } } 0
      { st := .good, ren := true }; wfB s && decide (s.rail.holdEnd = some 1000000000000 ∧ s.rail.selfFault = true)),
    (let s : State := { railed with rail.holdEnd := some 1000000000001 }; wfB s && decide (s.rail.holdEnd = some
      1000000000001 ∧ s.tk < 1000000000001)),
    (let s : State := withWords [(0x79, 0, 0x8000), (0x79, 1, 0xFFFD)] (railTo
      { railed with rail.lastScan := 999999999000 } 0 { st := .good, ren := true }); wfB s && decide
      (s.rail.marginAt + 25000 ≤ s.rail.lastScan ∧ marginTarget s 0 = -3)),
    (let s : State := { railed with rail.lastScan := 24999 }; wfB s && decide (s.rail.lastScan < s.rail.marginAt +
      25000)),
    (let s : State := withWords [(0x7A, 32, 1)] { railed with rail.cmpen := true }; wfB s && decide (s.rail.cmptrip
      = false ∧ s.rail.cmpen = true ∧ (4687 : BitVec 21).toNat * 256 < tnat s 0x7A 32 % 256 * 1200000 ∧ tnat s 0x7A
      32 % 256 * 1200000 ≤ (4688 : BitVec 21).toNat * 256 ∧ s.rail.cmpAbove = none)),
    (let s : State := withWords [(0x7A, 32, 1)]
      { railed with rail.cmptrip := true, rail.cmpAbove := some 999999975000 }; wfB s && decide (s.rail.cmpAbove =
      some 999999975000 ∧ 999999975000 + 25000 ≤ s.tk)),
    (let s : State := withWords [(0x7A, 32, 1)]
      { railed with rail.cmptrip := true, rail.cmpAbove := some 999999975001 }; wfB s && decide (s.tk < 999999975001
      + 25000 ∧ s.rail.cmpen = false)),
    (let s : State := withWords [(0x78, 32, 0x8000)] { railed with rail.selfSeq := .retryWait 1000000000000 }; wfB s
      && decide (s.rail.selfSeq = .retryWait 1000000000000 ∧ 1000000000000 ≤ s.tk ∧ railSelf s 0 = false)),
    (let s : State := { railed with rail.selfSeq := .retryWait 1000000000001 }; wfB s && decide (s.rail.selfSeq =
      .retryWait 1000000000001 ∧ s.tk < 1000000000001))
  ].all id = true := by decide +kernel

/-- States and operands that meet the hypotheses of `Obligations.PowerLadder`, a row for each of its clauses. -/
theorem witness_PowerLadder : [
    (let s : State := up; wfB s && decide (clocked s = true ∧ s.pwr.entering = none ∧ pwrReason s 1 = none ∧
      swathActive s = false ∧ s.ing.armq = [] ∧ s.txn.phase ≠ .validating ∧ s.txn.phase ≠ .prepared ∧ blocksInUse
      s = false ∧ nvmWriting s = false)),
    (let s : State := printing; wfB s && decide (clocked s = true ∧ swathActive s = true ∧ (2 : BitVec 3) ≠ 0)),
    (let s : State := withEnc quad { up with pwr.imageDirty := true }; wfB s && decide (blocksInUse s = true)),
    (let s : State := { up with pwr.imageDirty := true }; wfB s && decide (blocksInUse s = false ∧ nvmWriting s =
      false ∧ s.pwr.imageDirty = true)),
    (let s : State := { up with txn.phase := .prepared, txn.tag := 7, txn.cask := some {} }; wfB s && decide
      (s.txn.phase = .prepared)),
    (let s : State := { up with pwr.entering := some 1 }; wfB s && decide (s.pwr.entering = some 1 ∧ ((List.range
      8).all fun f => !(consOf s f).atEntry) = true ∧ s.pwr.step3Done = false ∧ s.pwr.wakeSeen = false ∧
      s.pwr.wbFailed = false)),
    (let s : State := { up with pwr.entering := some 2 }; wfB s && decide (s.pwr.entering = some 2 ∧ ((List.range
      8).all fun f => !(consOf s f).atEntry) = true ∧ s.pwr.step3Done = false ∧ s.pwr.wakeSeen = false ∧
      s.pwr.wbFailed = false)),
    (let s : State := { up with pwr.entering := some 3 }; wfB s && decide (s.pwr.entering = some 3 ∧
      s.pwr.step3Done = false ∧ s.pwr.wbFailed = false ∧ s.rail.barred = false ∧ s.nvm.busy = none)),
    (let s : State := { up with pwr.entering := some 5 }; wfB s && decide (s.pwr.entering = some 5 ∧ selfRails s =
      [] ∧ s.pwr.wakeSeen = false)),
    (let s : State := { up with pwr.entering := some 4, pwr.wakeSeen := true }; wfB s && decide (s.pwr.entering =
      some 4 ∧ s.pwr.wakeSeen = true ∧ s.pwr.wbFailed = false ∧ s.host.held = [])),
    (let s : State :=
      { goodDefaults with tbl := (withWords [(0x08, 0, 0x78), (0x08, 1, 8)] goodDefaults).tbl, pwr.state := 3, pwr.since := 999998000000 };
      wfB s && decide (s.pwr.entering = none ∧ s.pwr.waking = false ∧ tnat32 s 0x08 1 = 8 ∧ s.pwr.since + 250000 *
      8 ≤ s.tk)),
    (let s : State := withWords [(0x08, 0, 0x78), (0x08, 1, 9)]
      { up with pwr.state := 3, pwr.since := 999998000000 }; wfB s && decide (tnat32 s 0x08 1 = 9 ∧ s.tk <
      s.pwr.since + 250000 * 9)),
    (let s : State := { up with pwr.state := 1, pwr.waking := true, pwr.since := 999000000000 }; wfB s && decide
      (s.pwr.waking = true ∧ s.pwr.state = 1 ∧ s.host.held = [])),
    (let s : State := { up with pwr.state := 3, pwr.waking := true, pwr.since := 999000000000 }; wfB s && decide
      (s.pwr.waking = true ∧ s.pwr.state = 3 ∧ s.host.held = [])),
    (let s : State := { up with pwr.state := 5, pwr.waking := true, pwr.since := 999000000000 }; wfB s && decide
      (s.pwr.waking = true ∧ 5 ≤ s.pwr.state)),
    (let s : State := { up with pwr.entering := some 1 }; wfB s && decide (clocked s = true ∧
      s.pwr.entering.isSome = true)),
    (let s : State :=
      { up with pwr.state := 1, pwr.waking := true, pwr.since := 999000000000, host.held := [.jet 1 3] }; wfB s &&
      decide (s.pwr.waking = true ∧ s.pwr.state = 1 ∧ s.pwr.entering = none ∧ isUp s = true ∧ s.host.held = [.jet
      1 (3 : BitVec 5).toNat])),
    (let s : State := { up with pwr.state := 1, mot.sel := 2 }; wfB s && decide (clocked s = true ∧ s.pwr.state =
      1 ∧ s.pwr.entering = none ∧ (routedForm s (.calNone 1 2)).isSome = true))
  ].all id = true := by decide +kernel

/-- States and operands that meet the hypotheses of `Obligations.BanksAndBoundaryScan`, a row for each of its clauses. -/
theorem witness_BanksAndBoundaryScan : [
    (let s : State := up; wfB s && decide (vineOn s = true)),
    (let s : State := { State.reset with rail.selfSeq := .draining }; wfB s && decide (vineOn s = false)),
    (let s : State := { up with tap := { up.tap with st := .capDr } }; wfB s && decide (vineOn s = true ∧ s.tap.st
      = .capDr ∧ s.tap.ir = 1)),
    (let s : State := { up with tap := { up.tap with st := .shDr, drShift := [false, true], ir := 0x3F } }; wfB s
      && decide (vineOn s = true ∧ s.tap.st = .shDr)),
    (let s : State := { up with tap := { up.tap with st := .shIr, irShift := 9 } }; wfB s && decide (vineOn s =
      true ∧ s.tap.st = .shIr)),
    (let s : State := { up with tap := { up.tap with st := .capDr, ir := 5 } }; wfB s && decide (3 ≤
      s.tap.ir.toNat ∧ s.boot.testen = false ∧ s.tap.st = .capDr)),
    (let s : State := { up with boot.bankAt := some 999999750000 }; wfB s && decide (s.boot.bankAt = some
      999999750000 ∧ 999999750000 + 250000 ≤ s.tk)),
    (let s : State := { up with boot.bankAt := some 999999750001 }; wfB s && decide (s.boot.bankAt = some
      999999750001 ∧ s.tk < 999999750001 + 250000))
  ].all id = true := by decide +kernel

/-- A fire of the unit of `jetNode`'s group 0 that its strobe's last TK is in. -/
def aFire : Fire :=
  { trig := 0, column := 0, start := 999999999997, tap := 0, groups := [0], guardEnd := 1000000002497
    fireEnd := 1000000000997, chans := [] }
/-- Group 0 in mode S with a strobe of 4 TK, enabled, after a fire. -/
def serialNode : State :=
  let s := withWords [(0x20, 0, 0x8001), (0x21, 0, 0x8000), (0x21, 1, 0x0400)] up
  { s with jet.en := 1, jet.fires := [aFire] }

/-- States and operands that meet the hypotheses of `Obligations.OutputPins`, a row for each of its clauses. -/
theorem witness_OutputPins : [
    (let s : State := { up with boot.phase := .held, pwr.state := 4 }; wfB s && decide (coreRuns s = false ∧
      s.pwr.state < 5)),
    (let s : State := serialNode; wfB s && decide (portDecodes s = true ∧ grEn s 0 = true ∧ groupFire s 0 = some aFire ∧
      grMode s 0 = 2 ∧ chUsed s 0 = true ∧ hgLat s 0 = .high ∧ hgLat { s with tk := s.tk + 1 } 0 = .low ∧
      jchN s 0 ≠ jchP s 0)),
    (let s : State := { jetNode with jet.en := 1 }; wfB s && decide (portDecodes s = true ∧ grEn s 0 = true ∧
      chUsed s 0 = true ∧ grMode s 0 = 3)),
    (let s : State := movingAxis0; wfB s && decide (portDecodes s = true ∧ (axisOf s 0).configured = false)),
    (let s : State := withAxis { atRest with configured := true, hold := true } up; wfB s &&
      decide (portDecodes s = true ∧ (axisOf s 2).configured = true ∧ (axisOf s 2).en = true ∧
      (axisOf s 2).hold = true ∧ bit (axW s 2 0) 12 = false)),
    decide (0 < 2 ∧ 2 ∣ 640 ∧ nozzleOrder 6 2 = [0, 2, 4, 1, 3, 5])
  ].all id = true := by decide +kernel

/-- The worked example of R181: format word 0x6410, nozzle 0 at code 3 and nozzle 2 at code 1. -/
theorem test_nozzle_bits : (nozzleBits 0x6410 [3, 0, 1, 0]).take 4 = [true, true, false, true] := by decide +kernel

/-- Its header 0xA55A goes out from bit 15 down (R167). -/
theorem test_header_bits : (fieldBits 16 0xA55A).take 8 = [true, false, true, false, false, true, false, true] := by
  decide +kernel

/-- The cycle table of R276 for a duty of 300 TK and a dead time of 50 TK: slow decay after the drive interval. -/
theorem test_valve_cycle :
    let s := { openValve with
      tbl := (withWords [(0x70, 46, 50)] openValve).tbl
      vlv := openValve.vlv.set 5 { running := true, d := 300, gates := .slow, dutyAt := up.tk } }
    [256, 305, 306, 605, 606, 655, 656, 12755].map (fun x => valveGates { s with tk := s.tk + x } 5)
      = [(false, false), (false, false), (true, false), (true, false), (false, false), (false, false), (false, true),
         (false, true)] := by decide +kernel

/-- A drive of 100 TK with a dead time of 10 TK leaves 90 TK with the high gate on (R258). -/
theorem test_half_bridge :
    ((List.range 5120).filter fun x => (halfBridge 100 10 x).1).length = 90 ∧ halfBridge 100 10 109 = (false, false) ∧
      halfBridge 100 10 110 = (false, true) := by decide +kernel

end Sys2Proof.Tests
end

section
/-! The TK of an idle step (O2): everything but `tickNext` leaves the clock, TICK and the queue alone. -/

namespace Sys2Proof.Machine

/-- The parts of the state that an idle step is about: the TK count, TICK and the waiting commands. -/
def timePart (s : State) : Nat × BitVec 48 × List Instr := (s.tk, s.tick, s.pending)

/-- What each round of a fold leaves alone, the fold leaves alone. -/
theorem foldl_same {β γ : Type} {π : State → γ} {f : State → β → State} (hf : ∀ s x, π (f s x) = π s) (l : List β)
    (s : State) : π (l.foldl f s) = π s := by
  induction l generalizing s with
  | nil => rfl
  | cons x xs ih => rw [List.foldl_cons, ih, hf]

variable (s : State)

@[simp] theorem timePart_raise (n : Nat) : timePart (raise n s) = timePart s := rfl
@[simp] theorem timePart_tset (t a : Nat) (v : Word) : timePart (tset t a v s) = timePart s := rfl
@[simp] theorem timePart_bump (t a : Nat) : timePart (bump t a s) = timePart s := rfl
@[simp] theorem timePart_bumpBy (t a n : Nat) : timePart (bumpBy t a n s) = timePart s := rfl
@[simp] theorem timePart_setAxis (n : Nat) (f : Axis → Axis) : timePart (setAxis n f s) = timePart s := rfl
@[simp] theorem timePart_setValve (n : Nat) (f : Valve → Valve) : timePart (setValve n f s) = timePart s := rfl
@[simp] theorem timePart_recErr (b c : Nat) : timePart (recErr b c s) = timePart s := by simp [timePart]
@[simp] theorem timePart_recErrLees (b c : Nat) (d : List Nat) : timePart (recErrLees b c d s) = timePart s := by
  simp [timePart, recErrLees]

/-! ### The valve channels -/

@[simp] theorem timePart_vlvErr (n c : Nat) : timePart (vlvErr n c s) = timePart s := by
  unfold vlvErr; split <;> simp

@[simp] theorem timePart_vlvOff (n t : Nat) : timePart (vlvOff n t s) = timePart s := by
  unfold vlvOff; dsimp only; split <;> simp

@[simp] theorem timePart_vlvPhase (n i t : Nat) : timePart (vlvPhase n i t s) = timePart s := by
  simp [vlvPhase]

@[simp] theorem timePart_vlvRelease (n t : Nat) : timePart (vlvRelease n t s) = timePart s := by
  unfold vlvRelease; dsimp only; split <;> simp

@[simp] theorem timePart_vlvFault (n t : Nat) : timePart (vlvFault n t s) = timePart s := by
  unfold vlvFault; dsimp only; (repeat' split) <;> simp

@[simp] theorem timePart_vlvClosing (n t : Nat) : timePart (vlvClosing n t s) = timePart s := by
  unfold vlvClosing; dsimp only; split <;> simp

@[simp] theorem timePart_vlvNext (n t : Nat) : timePart (vlvNext n t s) = timePart s := by
  unfold vlvNext; dsimp only; split <;> simp

@[simp] theorem timePart_vlvResense (old : State) (n : Nat) : timePart (vlvResense old n s) = timePart s := by
  unfold vlvResense; (repeat' split) <;> simp

@[simp] theorem timePart_vlvUnkeep (n : Nat) : timePart (vlvUnkeep n s) = timePart s := by
  unfold vlvUnkeep; split <;> simp

@[simp] theorem timePart_vlvIdle (n : Nat) : timePart (vlvIdle n s) = timePart s := by
  unfold vlvIdle; dsimp only; split <;> simp

@[simp] theorem timePart_vlvConvert (n : Nat) (p : VlvSample) : timePart (vlvConvert n p s) = timePart s := by
  unfold vlvConvert vlvOvercur; dsimp only; (repeat' split) <;> simp

@[simp] theorem timePart_vlvEvents (n : Nat) (p : VlvSample) : timePart (vlvEvents n p s) = timePart s := by
  unfold vlvEvents vlvTimeout; dsimp only; (repeat' split) <;> simp

@[simp] theorem timePart_vlvDuty (n : Nat) (p : VlvSample) : timePart (vlvDuty n p s) = timePart s := by
  unfold vlvDuty; dsimp only; (repeat' split) <;> simp

@[simp] theorem timePart_vlvDecide (n : Nat) (p : VlvSample) : timePart (vlvDecide n p s) = timePart s := by
  unfold vlvDecide vlvMoved; split <;> simp

@[simp] theorem timePart_vlvTick (n : Nat) : timePart (vlvTick n s) = timePart s := by
  unfold vlvTick; (repeat' split) <;> simp

@[simp] theorem timePart_vlvTicks : timePart (vlvTicks s) = timePart s := by
  unfold vlvTicks; split
  · exact foldl_same (fun st n => timePart_vlvTick st n) _ s
  · rfl

/-! ### The other blocks -/

@[simp] theorem timePart_stepTick (n : Nat) : timePart (stepTick n s) = timePart s := by
  unfold stepTick; dsimp only; (repeat' split) <;> simp

@[simp] theorem timePart_stepTicks : timePart (stepTicks s) = timePart s := by
  unfold stepTicks; split
  · exact foldl_same (fun st n => timePart_stepTick st n) _ s
  · rfl

@[simp] theorem timePart_noteForcedTest : timePart (noteForcedTest s) = timePart s := by
  unfold noteForcedTest; (repeat' split) <;> rfl

@[simp] theorem timePart_burstLost : timePart (burstLost s) = timePart s := by
  simp [burstLost, hcErr]

@[simp] theorem timePart_burstStart : timePart (burstStart s) = timePart s := by
  unfold burstStart
  split
  · rfl
  · dsimp only
    (repeat' split)
    · exact timePart_burstLost _
    · rfl
    · simp only [timePart_burstLost]; rfl
    · simp only [timePart_burstLost]; rfl

@[simp] theorem timePart_burstStarts : timePart (burstStarts s) = timePart s :=
  foldl_same (fun st _ => timePart_burstStart st) _ s

@[simp] theorem timePart_noteCuts (g n : Nat) : timePart (noteCuts g n s) = timePart s := by
  unfold noteCuts jetErr; split
  · rfl
  · simp; rfl

@[simp] theorem timePart_pulseCuts : timePart (pulseCuts s) = timePart s := by
  unfold pulseCuts; dsimp only; split
  · rfl
  · exact foldl_same (fun st g => timePart_noteCuts st g _) _ s

@[simp] theorem timePart_tickMissed : timePart (tickMissed s) = timePart s := by
  unfold tickMissed; dsimp only; split <;> simp

@[simp] theorem timePart_sampleInputs : timePart (sampleInputs s) = timePart s := by
  unfold sampleInputs; split <;> rfl

@[simp] theorem timePart_hvRdyTo (r : Bool) : timePart (hvRdyTo r s) = timePart s := by
  unfold hvRdyTo; (repeat' split) <;> rfl

@[simp] theorem timePart_hvClock : timePart (hvClock s) = timePart s := by
  unfold hvClock; split
  · exact timePart_hvRdyTo _ _
  · rfl

/-- Before the clock counts, an idle step changes only the axes. -/
theorem axisTicks_eq : ∃ m, axisTicks s = { s with mot := m } := by
  unfold axisTicks
  split
  · refine List.foldlRecOn (motive := fun st : State => ∃ m, st = { s with mot := m }) _ _ ⟨s.mot, rfl⟩ ?_
    rintro _ ⟨m, rfl⟩ n -
    exact ⟨_, rfl⟩
  · exact ⟨s.mot, rfl⟩

/-- TICK in the next TK (R10, R108). -/
theorem tickNext_tick : (tickNext s).tick =
    if tickRuns s = false then s.tick else if correctionDue s then (if 0 < s.vine.lag then s.tick + 2 else s.tick)
      else s.tick + 1 := by
  unfold tickNext
  cases tickRuns s <;> simp
  split <;> simp

theorem tickNext_tk : (tickNext s).tk = s.tk ∧ (tickNext s).pending = s.pending := by
  unfold tickNext
  (repeat' split) <;> exact ⟨rfl, rfl⟩

/-- Of an idle step only `tickNext` moves TICK. -/
theorem timePart_passTk : timePart (passTk s) = timePart (tickNext
    { axisTicks s with grid.pHeld := gridP (axisTicks s), tk := (axisTicks s).tk + 1 }) := by
  simp [passTk]

end Sys2Proof.Machine

open Sys2Proof.Machine

/-- Settles O2: `tickNext` moves TICK, and no other part of the step touches clock, TICK or queue. -/
theorem idleStepPassesOneTk : Obligations.IdleStepPassesOneTk := by
  intro s hs
  have h := timePart_passTk s
  obtain ⟨htk, hp⟩ := tickNext_tk { axisTicks s with grid.pHeld := gridP (axisTicks s), tk := (axisTicks s).tk + 1 }
  simp only [timePart, Prod.mk.injEq, htk, hp, tickNext_tick] at h
  obtain ⟨m, hm⟩ := axisTicks_eq s
  rw [hm] at h
  obtain ⟨h1, h2, h3⟩ := h
  refine ⟨passTk s, step_nil s hs, h1, h3.trans hs, h2.trans ?_⟩
  simp [tickRuns, correctionDue, coreRuns]
end


section
/-! What the shared operations do where the core runs, in the forms the proofs below cite. -/

namespace Sys2Proof.Machine

open Sys2Proof.Claims

/-- A lees record goes into the queue where the core runs, writing is not barred and there is room (R389). -/
theorem lees_queued {s : State} (hr : coreRuns s = true) (hf : logsFree s = true) (b c : Nat) (d : List Nat) :
    lees b c d s = { s with nvm.leesQ := s.nvm.leesQ ++ [leesRec s b c d] } := by
  simp only [logsFree, Bool.and_eq_true, Bool.not_eq_true', decide_eq_true_eq] at hf
  simp [lees, hr, hf.1, hf.2, leesRec]

theorem coreRuns_of_clocked {s : State} (h : clocked s = true) : coreRuns s = true := by
  have : s.boot.phase = .up := by simpa [isUp] using (Bool.and_eq_true_iff.mp h).1
  simp [coreRuns, this]

theorem newestError_recErr {s : State} (h : coreRuns s = true) (b c : Nat) :
    newestError (recErr b c s) s.tick (errWord b c) := by
  simp [newestError, recErr, h, errNoted, errWord]

/-- An error with its lees record, where the record goes into the queue. -/
theorem recErrLees_queued {s : State} (hr : coreRuns s = true) (hf : logsFree s = true) (b c : Nat) (d : List Nat) :
    recErrLees b c d s = { recErr b c s with nvm.leesQ := s.nvm.leesQ ++ [leesRec s b c d] } := by
  have hr' : coreRuns (recErr b c s) = true := by simpa [coreRuns] using hr
  have hf' : logsFree (recErr b c s) = true := by simpa [logsFree] using hf
  rw [recErrLees, lees_queued hr' hf']
  simp [leesRec]

/-- The pending interrupts after an event of source `n` (R72). -/
theorem irqPend_raise (n m : Nat) (s : State) :
    (raise n s).host.irqPend.getLsbD m = (s.host.irqPend.getLsbD m || (decide (m < 16) && decide (n = m))) := by
  simp only [raise, word, BitVec.getLsbD_or, BitVec.getLsbD_ofNat, Nat.testBit_two_pow]

/-- A table reads the same in two states with the same table words. -/
theorem tget_congr {s t : State} (h : t.tbl = s.tbl) : tget t = tget s := by
  funext tb a; unfold tget; rw [h]

theorem tblWf_congr {s t : State} (h : t.tbl = s.tbl) : tblWf t = tblWf s := by
  unfold tblWf; rw [h]

end Sys2Proof.Machine
end

section
/-! Reading and writing members of the lists of axes and valve channels, said through `axisTo` and `valveTo`. -/

namespace Sys2Proof.Machine

open Sys2Proof.Claims

variable {α : Type}

/-- A change of an element is a replacement by its changed value. -/
theorem modifyNth_const (f : α → α) (d : α) : ∀ (l : List α) (n : Nat),
    modifyNth f l n = modifyNth (fun _ => f (l.getD n d)) l n
  | [], _ => rfl
  | _ :: _, 0 => rfl
  | x :: xs, n + 1 => by simpa [modifyNth] using modifyNth_const f d xs n

/-- Two changes of one element. -/
theorem modifyNth_modifyNth (f g : α → α) : ∀ (l : List α) (n : Nat),
    modifyNth g (modifyNth f l n) n = modifyNth (fun x => g (f x)) l n
  | [], _ => rfl
  | _ :: _, 0 => rfl
  | _ :: xs, n + 1 => by simp [modifyNth, modifyNth_modifyNth f g xs n]

/-- A replacement by the element that stands there. -/
theorem modifyNth_self (d : α) : ∀ (l : List α) (n : Nat), modifyNth (fun _ => l.getD n d) l n = l
  | [], _ => rfl
  | _ :: _, 0 => rfl
  | x :: xs, n + 1 => by simpa [modifyNth] using modifyNth_self d xs n

/-! ### Valve channels -/

theorem setValve_eq (n : Nat) (f : Valve → Valve) (s : State) : setValve n f s = valveTo s n (f (valveOf s n)) :=
  congrArg (fun l => { s with vlv := l }) (modifyNth_const f {} s.vlv n)

@[simp] theorem valveTo_valveTo (s : State) (n : Nat) (v w : Valve) : valveTo (valveTo s n v) n w = valveTo s n w :=
  congrArg (fun l => { s with vlv := l }) (modifyNth_modifyNth _ _ s.vlv n)

theorem valveOf_valveTo_same {s : State} {n : Nat} (h : n < s.vlv.length) (v : Valve) : valveOf (valveTo s n v) n = v :=
  modifyNth_get_same (fun _ => v) {} s.vlv n h

theorem valveOf_valveTo_other {s : State} {n m : Nat} (h : m ≠ n) (v : Valve) :
    valveOf (valveTo s n v) m = valveOf s m :=
  modifyNth_get_other (fun _ => v) {} s.vlv n m h

end Sys2Proof.Machine
end

section
/-! The operations of VLV_CMD (O54). -/

namespace Sys2Proof.Machine

open Sys2Proof.Claims

/-- A VLV_CMD write acts at once where the core is clocked and neither REST nor a power entry holds it. -/
theorem vlvReg_ready {s : State} (hc : clocked s = true) (he : s.pwr.entering = none) (hr : inRest s = false)
    (op p n : Nat) : vlvReg op p n s = vlvOp op p n { s with vlvSel := n } := by
  simp [vlvReg, hc, routedOp, hr, vlvCmd, entryHolds, he]

/-- A channel's words in force depend on the tables and on what a decant left it only. -/
theorem vlvW_congr {s t : State} {n : Nat} (ht : t.tbl = s.tbl) (hk : (valveOf t n).kept = (valveOf s n).kept) (o : Nat) :
    vlvW t n o = vlvW s n o := by
  unfold vlvW tnat tget vlvT
  rw [hk]
  cases (valveOf s n).kept <;> simp [ht]

@[simp] theorem vlvW_vlvSel (s : State) (k n o : Nat) : vlvW { s with vlvSel := k } n o = vlvW s n o :=
  vlvW_congr (s := s) (t := { s with vlvSel := k }) rfl rfl o

/-- CHAN is not among what an OPEN is judged by. -/
@[simp] theorem openRefused_vlvSel (s : State) (k n p : Nat) :
    openRefused { s with vlvSel := k } n p = openRefused s n p := by
  simp only [openRefused, vlvEn, vlvPaired, vlvLimit, vlvPossrc, vlvW_vlvSel]; rfl

/-- Which channel controls channel `n` depends on the words of the first channel of its pair only. -/
theorem vlvMaster_congr {s t : State} {n : Nat} (h : vlvW t (n / 2 * 2) 0 = vlvW s (n / 2 * 2) 0) :
    vlvMaster t n = vlvMaster s n := by
  have hp : vlvPaired t n = vlvPaired s n := congrArg (fun w => bit w 14) h
  unfold vlvMaster; rw [hp]

@[simp] theorem vlvMaster_vlvSel (s : State) (k n : Nat) : vlvMaster { s with vlvSel := k } n = vlvMaster s n :=
  vlvMaster_congr (vlvW_vlvSel s k _ 0)

/-- A refusal of VLV_CMD: REFUSED, error 0x01, VLV. -/
theorem vlvRefuse_eq (n : Nat) (s : State) :
    vlvRefuse n s = raise 10 (recErr 0x0A 1 (valveTo s n { valveOf s n with refused := true })) := by
  simp [vlvRefuse, vlvErr, irqVlv, setValve_eq]

/-- What OPEN is refused for (R294). -/
theorem openRefused_of {s : State} {n p : Nat} (h :
    (valveOf s n).running = true ∨ (valveOf s n).heldOpen.isSome = true ∨ vlvEn s n = false ∨
    (valveOf s n).stuck = true ∨ (valveOf s n).tmo = true ∨ (valveOf s n).overcur = true ∨
    (valveOf s n).share = true ∨ vlvMaster s n ≠ n ∨ profCheck s p = false ∨
    (∃ i < profPhases s p, vlvLimit s n ≤ phTarget s p i) ∨
    (vlvPossrc s n = 0 ∧ (tnat s 0x71 (32 * p + 1) ≠ 0 ∨ ∃ i < profPhases s p, phEnd s p i = 1 ∨ phEnd s p i = 2))) :
    openRefused s n p = true := by
  have hm : vlvMaster s n ≠ n → vlvPaired s n = true ∧ n % 2 = 1 := by
    unfold vlvMaster
    split <;> simp [*]; omega
  rcases h with h | h | h | h | h | h | h | h | h | ⟨i, hi, h⟩ | ⟨h0, h | ⟨i, hi, h⟩⟩
  case inr.inr.inr.inr.inr.inr.inr.inl => simp [openRefused, hm h]
  case inr.inr.inr.inr.inr.inr.inr.inr.inr.inl =>
    have : ∃ i < profPhases s p, vlvLimit s n ≤ phTarget s p i := ⟨i, hi, h⟩
    simp [openRefused, this]
  case inr.inr.inr.inr.inr.inr.inr.inr.inr.inr.inr =>
    have : ∃ i < profPhases s p, phEnd s p i = 1 ∨ phEnd s p i = 2 := ⟨i, hi, h⟩
    simp [openRefused, h0, this]
  all_goals simp [openRefused, *]

/-- OPEN where nothing refuses it and no prepared transaction holds it (R282, R286). -/
theorem vlvOpenOp_starts {s : State} {n p : Nat} (hr : openRefused s n p = false) (hh : valveHeld s n p = false) :
    vlvOpenOp n p s = vlvStart n p s := by simp [vlvOpenOp, hr, hh]

/-- OPEN where a prepared transaction touches the channel or the profile (R43). -/
theorem vlvOpenOp_held {s : State} {n p : Nat} (hr : openRefused s n p = false) (hh : valveHeld s n p = true) :
    vlvOpenOp n p s = valveTo s n { valveOf s n with heldOpen := some p } := by simp [vlvOpenOp, hr, hh, setValve_eq]

/-- CLOSE of a channel whose profile runs outside the branches waits for the next TK 256 (R289). -/
theorem vlvCloseOp_running {s : State} {n : Nat} (hh : (valveOf s n).heldOpen = none)
    (hr : (valveOf s n).running = true) (ho : (valveOf s n).offing = false) (hf : (valveOf s n).faultBr = false)
    (hb : (valveOf s n).relBr = false) : vlvCloseOp n s = valveTo s n { valveOf s n with closePend := true } := by
  simp [vlvCloseOp, hh, hr, ho, hf, hb, setValve_eq]

theorem vlvCloseOp_idle {s : State} {n : Nat} (hh : (valveOf s n).heldOpen = none)
    (hr : (valveOf s n).running = false) : vlvCloseOp n s = s := by simp [vlvCloseOp, hh, hr]

/-- CLOSE drops an OPEN that a prepared transaction holds. -/
theorem vlvCloseOp_held {s : State} {n : Nat} (hh : (valveOf s n).heldOpen.isSome = true) :
    vlvCloseOp n s = valveTo s n { valveOf s n with heldOpen := none } := by simp [vlvCloseOp, hh, setValve_eq]

/-! ### OFF and OFF_ALL -/

/-- A channel after OFF at TK `tk`: a held OPEN is dropped, and it enters switch-off if it runs (R294). -/
def offAt (tk : Nat) (w : Valve) : Valve :=
  if w.running && !w.offing then { w with
    heldOpen := none, offing := true, offFrom := tk, gates := .off, d := 0, dPartner := 0, acc := 0, r := 0
    closePend := false, idleRun := 0 }
  else { w with heldOpen := none }

theorem offAt_runs {tk : Nat} {w : Valve} (hr : w.running = true) (ho : w.offing = false) : offAt tk w = { w with
    heldOpen := none, offing := true, offFrom := tk, gates := .off, d := 0, dPartner := 0, acc := 0, r := 0
    closePend := false, idleRun := 0 } := by simp [offAt, hr, ho]

theorem offAt_still {tk : Nat} {w : Valve} (h : w.running = false ∨ w.offing = true) :
    offAt tk w = { w with heldOpen := none } := by
  rcases h with h | h <;> simp [offAt, h]

@[simp] theorem offAt_kept (tk : Nat) (w : Valve) : (offAt tk w).kept = w.kept := by
  unfold offAt; split <;> rfl

/-- OFF on a channel that has met it changes nothing. -/
@[simp] theorem offAt_offAt (tk : Nat) (w : Valve) : offAt tk (offAt tk w) = offAt tk w := by
  by_cases h : w.running = true ∧ w.offing = false
  · rw [offAt_runs h.1 h.2, offAt_still (.inr rfl)]
  · have h' : w.running = false ∨ w.offing = true := by
      cases hr : w.running <;> simp_all
    rw [offAt_still h', offAt_still (w := { w with heldOpen := none }) h']

theorem offAt_offing {tk : Nat} {w : Valve} (h : w.running = true) : (offAt tk w).offing = true := by
  cases ho : w.offing
  · rw [offAt_runs h ho]
  · rw [offAt_still (.inr ho)]; exact ho

theorem vlvMaster_lt (s : State) {n : Nat} (h : n < 16) : vlvMaster s n < 16 := by
  unfold vlvMaster; split <;> omega

/-- OFF of channel `n` acts on the channel that controls it. -/
theorem vlvOffOp_eq {s : State} {n : Nat} (h : vlvMaster s n < s.vlv.length) :
    vlvOffOp n s = valveTo s (vlvMaster s n) (offAt s.tk (valveOf s (vlvMaster s n))) := by
  unfold vlvOffOp vlvOff offAt
  simp only [setValve_eq, valveOf_valveTo_same h, valveTo_valveTo]
  split <;> rfl

/-- What OFF_ALL has done once its fold has passed the channels of `done`: each channel is as it was or has met OFF, and
one of `done` that controls itself has met it. -/
structure SwitchedOff (s : State) (done : List Nat) (t : State) : Prop where
  only : t = { s with vlv := t.vlv }
  len : t.vlv.length = 16
  some_ : ∀ k, valveOf t k = valveOf s k ∨ valveOf t k = offAt s.tk (valveOf s k)
  did : ∀ k ∈ done, vlvMaster s k = k → valveOf t k = offAt s.tk (valveOf s k)

/-- The pairing of the channels stays while OFF_ALL runs. -/
theorem SwitchedOff.master {s t : State} {done : List Nat} (h : SwitchedOff s done t) (n : Nat) :
    vlvMaster t n = vlvMaster s n := by
  have htbl : t.tbl = s.tbl := by rw [h.only]
  have hk : (valveOf t (n / 2 * 2)).kept = (valveOf s (n / 2 * 2)).kept := by
    rcases h.some_ (n / 2 * 2) with e | e <;> simp [e]
  exact vlvMaster_congr (vlvW_congr htbl hk 0)

/-- One round of OFF_ALL. -/
theorem SwitchedOff.round {s t : State} {done : List Nat} (h : SwitchedOff s done t) {m : Nat} (hm : m < 16) :
    SwitchedOff s (done ++ [m]) (vlvOffOp m t) := by
  have hM := h.master m
  have hlt : vlvMaster t m < t.vlv.length := by rw [h.len]; exact vlvMaster_lt t hm
  have htk : t.tk = s.tk := by rw [h.only]
  rw [vlvOffOp_eq hlt, hM, htk]
  rw [hM] at hlt
  have same : valveOf (valveTo t (vlvMaster s m) (offAt s.tk (valveOf t (vlvMaster s m)))) (vlvMaster s m)
      = offAt s.tk (valveOf s (vlvMaster s m)) := by
    rw [valveOf_valveTo_same hlt]
    rcases h.some_ (vlvMaster s m) with e | e <;> simp [e]
  refine ⟨?_, ?_, fun k => ?_, fun k hk hmk => ?_⟩
  · rw [h.only]; rfl
  · simp [valveTo, setValve, h.len]
  · by_cases e : k = vlvMaster s m
    · subst e; exact .inr same
    · rw [valveOf_valveTo_other e]; exact h.some_ k
  · by_cases e : k = vlvMaster s m
    · subst e; exact same
    · rw [valveOf_valveTo_other e]
      rcases List.mem_append.mp hk with hd | hd
      · exact h.did k hd hmk
      · have : k = m := by simpa using hd
        exact absurd (this ▸ hmk).symm (this ▸ e)

/-- OFF_ALL over a list of channels. -/
theorem SwitchedOff.foldl {s : State} : ∀ (l : List Nat) (done : List Nat) (t : State), (∀ m ∈ l, m < 16) →
    SwitchedOff s done t → SwitchedOff s (done ++ l) (l.foldl (fun st m => vlvOffOp m st) t)
  | [], done, t, _, h => by simpa using h
  | m :: l, done, t, hl, h => by
    have := SwitchedOff.foldl l (done ++ [m]) _ (fun x hx => hl x (by simp [hx])) (h.round (hl m (by simp)))
    simpa using this

/-- OFF_ALL (R294). -/
theorem vlvOffAll_spec (s : State) (hl : s.vlv.length = 16) (p n : Nat) :
    SwitchedOff s (List.range 16) (vlvOp 4 p n s) :=
  SwitchedOff.foldl (List.range 16) [] s (fun m hm => List.mem_range.mp hm)
    ⟨rfl, hl, fun _ => .inl rfl, fun _ h => absurd h (by simp)⟩

end Sys2Proof.Machine

open Sys2Proof.Machine Sys2Proof.Claims

/-- Settles O54: the operations of VLV_CMD one by one; OFF_ALL by what its fold has done so far. -/
theorem valveCommands : Obligations.ValveCommands := by
  intro s n p hw hc he hr s1 v m refused pw
  have reg (op p' : Nat) : vlvReg op p' n.toNat s = vlvOp op p' n.toNat s1 := vlvReg_ready hc he hr op p' n.toNat
  have hn : n.toNat < 16 := n.isLt
  have hlen : s1.vlv.length = 16 := hw.vlv
  have hm : m < 16 := vlvMaster_lt s hn
  have hm1 : vlvMaster s1 n.toNat = m := vlvMaster_vlvSel s n.toNat n.toNat
  have hsel := openRefused_vlvSel s n.toNat n.toNat p.toNat
  refine ⟨?_, ?_, ?_, ?_, ?_, ?_, ?_, ?_, ⟨?_, ?_⟩, ?_⟩
  · exact congrArg Host.Outcome.next (reg 0 0)
  · intro op hop
    have h5 : vlvOp op.toNat p.toNat n.toNat s1 = vlvRefuse n.toNat s1 := by
      unfold vlvOp; split <;> first | omega | rfl
    have he : exec (.vlvReservedOp op p n) s = .next (vlvReg op.toNat p.toNat n.toNat s) := if_neg (by omega)
    rw [he, reg, h5, vlvRefuse_eq]; rfl
  · intro h
    have hr := hsel.trans (openRefused_of h)
    refine congrArg Host.Outcome.next ((reg 1 p.toNat).trans ?_)
    rw [show vlvOp 1 p.toNat n.toNat s1 = vlvRefuse n.toNat s1 from if_pos hr, vlvRefuse_eq]; rfl
  · intro hr hh
    refine congrArg Host.Outcome.next ((reg 1 p.toNat).trans ?_)
    rw [show vlvOp 1 p.toNat n.toNat s1 = vlvOpenOp n.toNat p.toNat s1 from rfl, vlvOpenOp_held (hsel.trans hr) hh]; rfl
  · intro hr hh
    refine congrArg Host.Outcome.next ((reg 1 p.toNat).trans ?_)
    rw [show vlvOp 1 p.toNat n.toNat s1 = vlvOpenOp n.toNat p.toNat s1 from rfl, vlvOpenOp_starts (hsel.trans hr) hh,
      vlvStart, setValve_eq]; rfl
  · intro hh hrun hoff hf hrel
    refine congrArg Host.Outcome.next ((reg 2 0).trans ?_)
    exact vlvCloseOp_running (s := s1) hh hrun hoff hf hrel
  · intro hh hrun
    refine congrArg Host.Outcome.next ((reg 2 0).trans ?_)
    exact vlvCloseOp_idle (s := s1) hh hrun
  · intro hh
    refine congrArg Host.Outcome.next ((reg 2 0).trans ?_)
    exact vlvCloseOp_held (s := s1) hh
  · intro hrun hoff
    refine congrArg Host.Outcome.next ((reg 3 0).trans ?_)
    rw [show vlvOp 3 0 n.toNat s1 = vlvOffOp n.toNat s1 from rfl, vlvOffOp_eq (by rw [hm1, hlen]; exact hm), hm1]
    exact congrArg (valveTo s1 m) (offAt_runs hrun hoff)
  · intro h
    refine congrArg Host.Outcome.next ((reg 3 0).trans ?_)
    rw [show vlvOp 3 0 n.toNat s1 = vlvOffOp n.toNat s1 from rfl, vlvOffOp_eq (by rw [hm1, hlen]; exact hm), hm1]
    exact congrArg (valveTo s1 m) (offAt_still h)
  · obtain ⟨honly, -, -, hdid⟩ := vlvOffAll_spec s1 hlen 0 n.toNat
    refine ⟨_, congrArg Host.Outcome.next (reg 4 0), honly, fun k hk hmk hrun => ?_⟩
    have e := hdid k (List.mem_range.mpr hk) ((vlvMaster_vlvSel s n.toNat k).trans hmk)
    rw [e]
    refine ⟨offAt_offing hrun, fun hoff => ?_⟩
    rw [show offAt s1.tk (valveOf s1 k) = _ from offAt_runs hrun hoff]
    exact ⟨rfl, rfl⟩
end


section
/-! Axes: the rules of the state operations the commands of MOT_CMD are made of. -/

namespace Sys2Proof.Machine

open Sys2Proof.Claims

theorem setAxis_eq (n : Nat) (f : Axis → Axis) (s : State) : setAxis n f s = axisTo s n (f (axisOf s n)) :=
  congrArg (fun l => { s with mot.axes := l }) (modifyNth_const f {} s.mot.axes n)

@[simp] theorem axisTo_axisTo (s : State) (n : Nat) (a b : Axis) : axisTo (axisTo s n a) n b = axisTo s n b :=
  congrArg (fun l => { s with mot.axes := l }) (modifyNth_modifyNth _ _ s.mot.axes n)

@[simp] theorem axisTo_axisOf (s : State) (n : Nat) : axisTo s n (axisOf s n) = s :=
  congrArg (fun l => { s with mot.axes := l }) (modifyNth_self {} s.mot.axes n)

theorem axisOf_axisTo_same {s : State} {n : Nat} (h : n < s.mot.axes.length) (a : Axis) :
    axisOf (axisTo s n a) n = a :=
  modifyNth_get_same (fun _ => a) {} s.mot.axes n h

theorem axisOf_axisTo_other {s : State} {n m : Nat} (h : m ≠ n) (a : Axis) : axisOf (axisTo s n a) m = axisOf s m :=
  modifyNth_get_other (fun _ => a) {} s.mot.axes n m h

@[simp] theorem axisTo_length (s : State) (n : Nat) (a : Axis) : (axisTo s n a).mot.axes.length = s.mot.axes.length :=
  modifyNth_length _ _ _

@[simp] theorem axisOf_raise (k n : Nat) (s : State) : axisOf (raise k s) n = axisOf s n := rfl
@[simp] theorem axisOf_bump (t a n : Nat) (s : State) : axisOf (bump t a s) n = axisOf s n := rfl
@[simp] theorem axisOf_recErr (b c n : Nat) (s : State) : axisOf (recErr b c s) n = axisOf s n := by
  simp [axisOf]
@[simp] theorem axisOf_lees (b c n : Nat) (d : List Nat) (s : State) : axisOf (lees b c d s) n = axisOf s n := by
  simp [axisOf]

/-! ### MOT_CMD -/

/-- A MOT_CMD write acts at once on the axis selected, where neither REST nor a power entry holds it. -/
theorem motReg_ready {s : State} {n : Nat} (hc : clocked s = true) (he : s.pwr.entering = none)
    (hr : inRest s = false) (hs : s.mot.sel = n) (op : Nat) : motReg op s = motOp op n s := by
  simp [motReg, hc, routedOp, hr, motCmd, entryHolds, he, selAxis, hs]

theorem motRefuse_eq (n code : Nat) (s : State) : motRefuse n code s = motRefused s n code := by
  simp only [motRefuse, setAxis_eq]; rfl

/-- At rest, the brake engages and the drive goes off, after BRK_DELAY where the brake is automatic (R268). -/
theorem disableAtRest_eq (n : Nat) (s : State) : disableAtRest n s = axisTo s n { axisOf s n with
    braked := true, en := brkAuto s n, hold := (axisOf s n).hold && brkAuto s n
    drive := if brkAuto s n then .brakeWait (s.tk + 250000 * axW s n 24) else .off } := by
  simp [disableAtRest, setAxis_eq, msTk, Nat.mul_comm]

theorem enableOp_refused {s : State} {n : Nat} (h : (axisOf s n).en = true ∨ (axisOf s n).fault = true) :
    enableOp n s = motRefused s n 1 := by
  rcases h with h | h <;> simp [enableOp, h, motRefuse_eq]

theorem enableOp_on {s : State} {n : Nat} (he : (axisOf s n).en = false) (hf : (axisOf s n).fault = false) :
    enableOp n s = axisTo s n { axisOf s n with
      en := true, restFrom := s.tk, hold := false, dutyA := 0, dutyB := 0, dutyBOld := 0
      drive := if brkAuto s n then .enabling (s.tk + 250000 * axW s n 24) else .on } := by
  simp [enableOp, he, hf, setAxis_eq, msTk, Nat.mul_comm]

theorem disableOp_idle {s : State} {n : Nat} (h : (axisOf s n).en = false ∨ disableRuns (axisOf s n) = true) :
    disableOp n s = s := by
  rcases h with h | h <;> simp [disableOp, h]

/-- DISABLE at rest drops every GO and then lets the brake engage (R268). -/
theorem disableOp_rest {s : State} {n : Nat} (hn : n < s.mot.axes.length) (he : (axisOf s n).en = true)
    (hd : disableRuns (axisOf s n) = false) (hm : axMoving s n = false) :
    disableOp n s = axisTo s n { axisOf s n with
      next := none, heldGo := none, heldCam := none, goWait := none, waitTurn := false, braked := true
      en := brkAuto s n, hold := (axisOf s n).hold && brkAuto s n
      drive := if brkAuto s n then .brakeWait (s.tk + 250000 * axW s n 24) else .off } := by
  have hpc : ((axisOf s n).plan.isSome || (axisOf s n).cam.isSome) = false := hm
  simp only [disableOp, he, hd, hpc, setAxis_eq, disableAtRest_eq, axisOf_axisTo_same hn, axisTo_axisTo]
  rfl

/-- A command of MOT_CMD that asks for an enabled axis refuses one that is not (R252). -/
theorem motOp_disabled {s : State} {n op : Nat} (h : (axisOf s n).en = false) (hop : op ∈ [3, 4, 5, 6, 8, 10]) :
    motOp op n s = motRefused s n 1 := by
  fin_cases hop <;>
    simp [motOp, goOp, goRefused, stopCmd, qstopCmd, homeOp, camEngageOp, camEngage, camRefused, brakeReleaseOp, h,
      motRefuse_eq]

/-- A command of MOT_CMD that asks for rest refuses an axis that moves (R252). -/
theorem motOp_moving {s : State} {n op : Nat} (h : axMoving s n = true) (hop : op ∈ [7, 8, 11]) :
    motOp op n s = motRefused s n 1 := by
  fin_cases hop <;> simp [motOp, setPosOp, camEngageOp, camEngage, camRefused, brakeEngageOp, h, motRefuse_eq]

theorem clearFaultOp_refused {s : State} {n : Nat} (he : (axisOf s n).en = true) (hb : supplyBad s n = true) :
    clearFaultOp n s = motRefused s n 1 := by simp [clearFaultOp, he, hb, motRefuse_eq]

/-- CLEAR_FAULT of an axis that is not driven only clears FAULT (R269). -/
theorem clearFaultOp_off {s : State} {n : Nat} (hb : supplyBad s n = false)
    (h : (axisOf s n).en = false ∨ disableRuns (axisOf s n) = true) :
    clearFaultOp n s = axisTo s n { axisOf s n with fault := false } := by
  rcases h with h | h <;> simp [clearFaultOp, hb, h, setAxis_eq]

/-- CLEAR_FAULT of an enabled axis takes the drive up as ENABLE does (R269). -/
theorem clearFaultOp_on {s : State} {n : Nat} (hf : (axisOf s n).fault = true) (hb : supplyBad s n = false)
    (he : (axisOf s n).en = true) (hd : disableRuns (axisOf s n) = false) :
    clearFaultOp n s = axisTo s n { axisOf s n with
      fault := false, restFrom := s.tk, hold := false, dutyA := 0, dutyB := 0, dutyBOld := 0
      drive := if brkAuto s n then .enabling (s.tk + 250000 * axW s n 24) else .on } := by
  simp [clearFaultOp, hb, hf, he, hd, setAxis_eq, msTk, Nat.mul_comm]

theorem cam_none_of_rest {s : State} {n : Nat} (h : axMoving s n = false) : (axisOf s n).cam = none := by
  simpa using (Bool.or_eq_false_iff.mp h).2

theorem plan_none_of_rest {s : State} {n : Nat} (h : axMoving s n = false) : (axisOf s n).plan = none := by
  simpa using (Bool.or_eq_false_iff.mp h).1

/-- CAM_ENGAGE of a valid cam by an enabled axis at rest (R264); a prepared transaction that touches axis or cam holds
it (R43). -/
theorem camEngage_eq {s : State} {n : Nat} {c : Cam} (he : (axisOf s n).en = true) (hm : axMoving s n = false)
    (hv : camValid s c.table = true) (hu : c.encoder = true ∨ c.unit ≠ n) :
    camEngage n c s = axisTo s n (if axisHeld s n || camHeld s c.table then { axisOf s n with
        hold := false, next := none, heldGo := none, goWait := none, waitTurn := false, heldCam := some c
        restFrom := if (axisOf s n).hold then s.tk else (axisOf s n).restFrom }
      else { axisOf s n with
        hold := false, next := none, heldGo := none, goWait := none, waitTurn := false, heldCam := none
        cam := some { c with morigin := masterPos s c s.tk
                             sorigin := (axisOf s n).x - camPoint s c.table 0 * 4294967296 } }) := by
  have hr : camRefused s n c = false := by
    rcases hu with h | h <;> simp [camRefused, he, hm, hv, h]
  have hc := cam_none_of_rest hm
  simp only [camEngage, hr, setAxis_eq, fx]
  cases axisHeld s n || camHeld s c.table <;> simp [hc]

/-! ### Plans -/

/-- The commanded position of an axis at rest is the one it holds (R250). -/
theorem axisX_rest {s : State} {n : Nat} (h : axMoving s n = false) : axisX s n = (axisOf s n).x := by
  simp [axisX, axisKin, axisKinVia, cam_none_of_rest h, plan_none_of_rest h]

/-- What a target is limited to depends on the limits, on whether the axis moves, and on where it stands (R262). -/
theorem limitTarget_congr {s t : State} {n : Nat} (ht : t.tbl = s.tbl) (hm : axMoving t n = axMoving s n)
    (hx : axisX t n = axisX s n) (x : Int) : limitTarget t n x = limitTarget s n x := by
  have hv : vlimits t n = vlimits s n := by
    unfold vlimits tint32 tnat32 tnat; rw [tget_congr ht]
  simp only [limitTarget, hv, hx, hm]

theorem limitTarget_congr_rest {s t : State} {n : Nat} (ht : t.tbl = s.tbl) (hm : axMoving s n = false)
    (hp : (axisOf t n).plan = (axisOf s n).plan) (hc : (axisOf t n).cam = (axisOf s n).cam)
    (hx : (axisOf t n).x = (axisOf s n).x) (x : Int) : limitTarget t n x = limitTarget s n x := by
  have hm' : axMoving t n = axMoving s n := by simp only [axMoving, hp, hc]
  refine limitTarget_congr ht hm' ?_ x
  rw [axisX_rest hm, axisX_rest (hm'.trans hm), hx]

@[simp] theorem makePlan_t0 (s : State) (n mode : Nat) (x : Int) (cap : Option Nat) (t0 : Nat) :
    (makePlan s n mode x cap t0).t0 = t0 := by unfold makePlan; dsimp only; split <;> rfl

@[simp] theorem makePlan_cap (s : State) (n mode : Nat) (x : Int) (cap : Option Nat) (t0 : Nat) :
    (makePlan s n mode x cap t0).cap = cap := by unfold makePlan; dsimp only; split <;> rfl

/-- A plan to a position ends there, at rest (R254). -/
theorem makePlan_end {mode : Nat} (h : mode ≠ 2) (s : State) (n : Nat) (x : Int) (cap : Option Nat) (t0 : Nat) :
    (makePlan s n mode x cap t0).endX = x * 4294967296 ∧ (makePlan s n mode x cap t0).endV = 0 := by
  simp [makePlan, h, fx]

@[simp] theorem stopPlan_t0 (s : State) (n t0 : Nat) : (stopPlan s n t0).t0 = t0 := rfl
@[simp] theorem stopPlan_endV (s : State) (n t0 : Nat) : (stopPlan s n t0).endV = 0 := rfl

/-- The target a plan goes to: a position as the virtual limits bound it, a velocity as asked for (R254, R262). -/
def planTarget (s : State) (n mode : Nat) (target : Int) : Int := if mode = 2 then target else limitTarget s n target

/-- A stored plan (R254), with LIMIT and error 0x03 where the virtual limits bound its target (R262). -/
theorem setPlan_eq {s : State} {n : Nat} (hn : n < s.mot.axes.length) (mode : Nat) (target : Int) (cap : Option Nat)
    (byGo : Bool) (t0 : Nat) :
    let x := planTarget s n mode target
    let a : Axis := { axisOf s n with
      mode := mode, target := x, next := some { makePlan s n mode x cap t0 with byGo := byGo }, planVmax := capV s n cap }
    setPlan n mode target cap byGo t0 s =
      if x = target then axisTo s n a else raise 9 (recErr 9 3 (axisTo s n { a with limit := true })) := by
  simp only [setPlan, planTarget, setAxis_eq, axisOf_axisTo_same hn, axisTo_axisTo, motErr, irqMot, ite_not]
  rfl

end Sys2Proof.Machine
end

section
/-! The drive of an axis (O52). -/

namespace Sys2Proof.Machine

open Sys2Proof.Claims

/-- SET_POS of an axis at rest (R263): the position, the angle and the step position. -/
def posSet (s : State) (n : Nat) : Axis :=
  let a := axisOf s n
  let x := tint32 s 0x61 (32 * n + 13) * 4294967296
  { a with
    x := x, xofs := if n < 4 then a.xofs + (a.x - x) else a.xofs
    step := { a.step with pos := tint32 s 0x61 (32 * n + 13) } }

theorem setPosOp_alone {s : State} {n : Nat} (hm : axMoving s n = false) (hx : (axisOf s n).next = none) :
    setPosOp n s = axisTo s n (posSet s n) := by
  simp only [setPosOp, hm, hx, setAxis_eq, posSet, fx, Int.mul_ediv_cancel _ (by decide : (4294967296 : Int) ≠ 0)]
  rfl

/-- A plan of a GO that waits for its t0 is made anew from the position set (R263). -/
theorem setPosOp_planned {s : State} {n : Nat} {p : Plan} (hm : axMoving s n = false) (hx : (axisOf s n).next = some p)
    (hg : p.byGo = true) :
    setPosOp n s = setPlan n p.mode p.target p.cap true p.t0 (axisTo s n (posSet s n)) := by
  simp only [setPosOp, hm, hx, setAxis_eq, posSet, fx, Int.mul_ediv_cancel _ (by decide : (4294967296 : Int) ≠ 0),
    renewPlan, hg]
  rfl

/-- The axis that a stored plan to a position belongs to, and that the plan ends where the axis may go from here. -/
theorem setPlan_rest {mode : Nat} (h : mode ≠ 2) {s : State} {n : Nat} (hn : n < s.mot.axes.length)
    (hm : axMoving s n = false) (target : Int) (cap : Option Nat) (byGo : Bool) (t0 : Nat) :
    ∃ q, (axisOf (setPlan n mode target cap byGo t0 s) n).x = (axisOf s n).x ∧
      (axisOf (setPlan n mode target cap byGo t0 s) n).next = some q ∧ q.t0 = t0 ∧
      q.endX = limitTarget (setPlan n mode target cap byGo t0 s) n target * 4294967296 ∧ q.endV = 0 := by
  obtain ⟨hx, hv⟩ := makePlan_end h s n (limitTarget s n target) cap t0
  have ht : planTarget s n mode target = limitTarget s n target := if_neg h
  have key : ∀ t : State, t.tbl = s.tbl → (∃ l, axisOf t n = { axisOf s n with
        mode := mode, target := limitTarget s n target, planVmax := capV s n cap, limit := l
        next := some { makePlan s n mode (limitTarget s n target) cap t0 with byGo := byGo } }) →
      ∃ q, (axisOf t n).x = (axisOf s n).x ∧ (axisOf t n).next = some q ∧ q.t0 = t0 ∧
        q.endX = limitTarget t n target * 4294967296 ∧ q.endV = 0 := by
    rintro t ht ⟨l, ha⟩
    refine ⟨{ makePlan s n mode (limitTarget s n target) cap t0 with byGo := byGo }, by rw [ha], by rw [ha], by simp, ?_, hv⟩
    rw [limitTarget_congr_rest ht hm (by rw [ha]) (by rw [ha]) (by rw [ha])]
    exact hx
  rw [setPlan_eq hn, ht]
  split
  · exact key _ rfl ⟨(axisOf s n).limit, axisOf_axisTo_same hn _⟩
  · refine key _ (by simp; rfl) ⟨true, ?_⟩
    rw [axisOf_raise, axisOf_recErr, axisOf_axisTo_same hn]

theorem brakeReleaseOp_eq {s : State} {n : Nat} (he : (axisOf s n).en = true) :
    brakeReleaseOp n s = axisTo s n { axisOf s n with braked := false } := by
  simp only [brakeReleaseOp, he, setAxis_eq]; rfl

theorem brakeEngageOp_eq {s : State} {n : Nat} (hm : axMoving s n = false) :
    brakeEngageOp n s = axisTo s n { axisOf s n with braked := true } := by
  simp only [brakeEngageOp, hm, setAxis_eq]; rfl

theorem homeOp_eq {s : State} {n : Nat} (he : (axisOf s n).en = true) :
    homeOp n s = axisTo s n { axisOf s n with homeArmed := true } := by
  simp only [homeOp, he, setAxis_eq]; rfl

theorem camDisengageOp_refused {s : State} {n : Nat} (hc : (axisOf s n).cam = none) :
    camDisengageOp n s = motRefused s n 1 := by
  simp [camDisengageOp, hc, motRefuse_eq]

/-- The end of the brake's delay after ENABLE, with no GO held (R268). -/
theorem brkDelayOp_enabled {s : State} {n k : Nat} (hd : (axisOf s n).drive = .enabling k)
    (hg : (axisOf s n).heldGo = none) (hk : k ≤ s.tk) :
    brkDelayOp n s = axisTo s n { axisOf s n with drive := .on, braked := false } := by
  simp only [brkDelayOp, hd, hg, hk, setAxis_eq]; rfl

/-- The end of the brake's delay after DISABLE (R268). -/
theorem brkDelayOp_disabled {s : State} {n k : Nat} (hd : (axisOf s n).drive = .brakeWait k) (hk : k ≤ s.tk) :
    brkDelayOp n s = axisTo s n { axisOf s n with drive := .off, en := false, hold := false } := by
  simp only [brkDelayOp, hd, hk, setAxis_eq]; rfl

/-- An axis that a supply fault has cut (R269). -/
def supplyCut (s : State) (n : Nat) : Axis := { axisOf s n with
  x := axisX s n, v := 0, fault := true, braked := true, plan := none, next := none, cam := none
  heldGo := none, heldCam := none, goWait := none, waitTurn := false, hold := false
  drive := match (axisOf s n).drive with
    | .disabling => .brakeWait (s.tk + 250000 * axW s n 24)
    | .brakeWait k => .brakeWait k
    | _ => .on }

/-- A supply fault cuts an enabled axis, with error 0x05 and its record (R269). -/
theorem supplyFaultOp_eq {s : State} {n : Nat} (hc : coreRuns s = true) (hl : logsFree s = true)
    (he : (axisOf s n).en = true) (hf : (axisOf s n).fault = false) (hb : supplyBad s n = true) :
    supplyFaultOp n s = raise 9 { recErr 9 5 (axisTo s n (supplyCut s n)) with
      nvm.leesQ := s.nvm.leesQ ++ [leesRec s 9 5 [n]] } := by
  have : supplyFaultOp n s = raise 9 (recErrLees 9 5 [n] (axisTo s n (supplyCut s n))) := by
    simp only [supplyFaultOp, he, hf, hb, setAxis_eq, irqMot, msTk, supplyCut, Nat.mul_comm]
    rfl
  rw [this, recErrLees_queued (s := axisTo s n (supplyCut s n)) hc hl]
  rfl

/-- Hold is entered after the standstill (R261); an axis in hold stays there. -/
theorem holdOp_eq {s : State} {n : Nat} (he : (axisOf s n).en = true) (hf : (axisOf s n).fault = false)
    (hp : (axisOf s n).plan = none) (hn : (axisOf s n).next = none) (hc : (axisOf s n).cam = none)
    (hv : (axisOf s n).v = 0)
    (ht : (axisOf s n).restFrom + 250000 * (if axW s n 15 = 0 then 200 else axW s n 15) ≤ s.tk) :
    holdOp n s = axisTo s n { axisOf s n with hold := true } := by
  cases hh : (axisOf s n).hold
  · have hd : decide ((axisOf s n).restFrom + msTk (if axW s n 15 = 0 then 200 else axW s n 15) ≤ s.tk) = true := by
      rw [decide_eq_true_eq, msTk, Nat.mul_comm]; exact ht
    simp only [holdOp, he, hf, hp, hn, hc, hv, hh, hd, setAxis_eq]
    rfl
  · have : axisOf s n = { axisOf s n with hold := true } := by rw [← hh]
    rw [← this, axisTo_axisOf]
    simp [holdOp, hh]

end Sys2Proof.Machine

open Sys2Proof.Machine Sys2Proof.Claims

/-- Settles O52: each command of MOT_CMD on the selected axis by the rule of its operation, then the events. -/
theorem axisDrive : Obligations.AxisDrive := by
  intro s n hw hc hs ready a delay go refused
  have hn : n.val < s.mot.axes.length := by rw [hw.axes]; exact n.isLt
  have hrun := coreRuns_of_clocked hc
  refine ⟨fun ⟨he, hr⟩ => ?_, ?_, ?_, ?_, ?_⟩
  · have reg (op : Nat) : motReg op s = motOp op n s := motReg_ready hc he hr hs op
    have off {i : Sys2Proof.Instr} {op : Nat} (hi : exec i s = .next (motReg op s)) (hen : a.en = false)
        (hop : op ∈ [3, 4, 5, 6, 8, 10]) : refused i :=
      hi.trans (congrArg _ ((reg op).trans (motOp_disabled hen hop)))
    have moving {i : Sys2Proof.Instr} {op : Nat} (hi : exec i s = .next (motReg op s)) (hm : axMoving s n = true)
        (hop : op ∈ [7, 8, 11]) : refused i :=
      hi.trans (congrArg _ ((reg op).trans (motOp_moving hm hop)))
    have does {i : Sys2Proof.Instr} {op : Nat} {t : State} (hi : exec i s = .next (motReg op s)) (ht : motOp op n s = t) :
        exec i s = .next t := hi.trans (congrArg _ ((reg op).trans ht))
    refine ⟨does (op := 0) rfl rfl, ?_, ?_, ?_, ?_, ?_, ?_, ?_, ?_, ?_, ?_, ?_, ?_, ?_, ?_, ?_⟩
    · intro op hop
      refine does (op := op.toNat) (if_neg (by omega)) ?_
      have : motOp op.toNat n s = motRefuse n 1 s := by unfold motOp; split <;> first | omega | rfl
      rw [this, motRefuse_eq]
    · exact fun hen hf => does (op := 1) rfl (enableOp_on hen hf)
    · exact fun h => does (op := 1) rfl (enableOp_refused h)
    · exact fun _ hd => does (op := 2) rfl (disableOp_idle (.inr hd))
    · intro hen hd hm hb
      refine does (op := 2) rfl ((disableOp_rest hn hen hd hm).trans ?_)
      simp only [hb, Bool.and_true, if_true]
      rw [← hen]
    · intro hen hd hm hb
      refine does (op := 2) rfl ((disableOp_rest hn hen hd hm).trans ?_)
      simp [hb, a]
    · intro hen
      exact ⟨does (op := 2) rfl (disableOp_idle (.inl hen)), off (op := 3) rfl hen (by decide), off (op := 4) rfl hen (by decide),
        off (op := 5) rfl hen (by decide), off (op := 6) rfl hen (by decide), off (op := 10) rfl hen (by decide),
        off (op := 8) rfl hen (by decide)⟩
    · exact fun hen => ⟨does (op := 10) rfl (brakeReleaseOp_eq hen), does (op := 6) rfl (homeOp_eq hen)⟩
    · intro hm
      refine ⟨does (op := 11) rfl (brakeEngageOp_eq hm), fun hnext => ?_, fun p hp hgo hmode => ?_⟩
      · exact does (op := 7) rfl (setPosOp_alone hm hnext)
      · have hax := axisOf_axisTo_same hn (posSet s n)
        have hm' : axMoving (axisTo s n (posSet s n)) n = false := by
          unfold axMoving; rw [hax]; exact hm
        obtain ⟨q, hx, hq⟩ := setPlan_rest hmode (by rwa [axisTo_length]) hm' p.target p.cap true p.t0
        exact ⟨_, q, does (op := 7) rfl (setPosOp_planned hm hp hgo), hx.trans (by rw [hax]; rfl), hq⟩
    · exact fun hm => ⟨moving (op := 11) rfl hm (by decide), moving (op := 7) rfl hm (by decide),
        moving (op := 8) rfl hm (by decide)⟩
    · exact fun hb h => does (op := 12) rfl (clearFaultOp_off hb h)
    · exact fun hf hb hen hd => does (op := 12) rfl (clearFaultOp_on hf hb hen hd)
    · exact fun hen hb => does (op := 12) rfl (clearFaultOp_refused hen hb)
    · intro hen hm k w c b hv hu
      have heng := camEngage_eq (c := c) hen hm hv hu
      refine ⟨fun hah hch => does (op := 8) rfl (heng.trans ?_), fun hheld => does (op := 8) rfl (heng.trans ?_)⟩
      · rw [if_neg (by simp [hah, show camHeld s c.table = false from hch])]
      · rw [if_pos (Bool.or_eq_true_iff.mpr hheld)]
    · exact fun hcam => does (op := 9) rfl (camDisengageOp_refused hcam)
  · exact fun k hd hg hk => congrArg Host.Outcome.next ((if_pos hc).trans (brkDelayOp_enabled hd hg hk))
  · exact fun k hd hk => congrArg Host.Outcome.next ((if_pos hc).trans (brkDelayOp_disabled hd hk))
  · exact fun hen hf hp hnx hcam hv ht => congrArg Host.Outcome.next ((if_pos hc).trans (holdOp_eq hen hf hp hnx hcam hv ht))
  · intro hen hf hb hlog
    refine ⟨_, congrArg Host.Outcome.next ((if_pos hc).trans (supplyFaultOp_eq hrun hlog hen hf hb)),
      newestError_recErr (s := axisTo s n (supplyCut s n)) hrun 9 5, ?_, rfl, ?_, fun m hmn => ?_⟩
    · simp [irqPend_raise]
    · exact (axisOf_recErr 9 5 n _).trans (axisOf_axisTo_same hn _)
    · exact (axisOf_recErr 9 5 m _).trans (axisOf_axisTo_other (Fin.val_ne_of_ne hmn) _)
end


section
/-! Profiles of an axis (O53). -/

namespace Sys2Proof.Machine

open Sys2Proof.Claims

/-! ### GO -/

/-- A GO that is refused (R252, R256). -/
theorem goOp_refused {s : State} {n : Nat} (h : goRefused s n = true) : goOp n s = motRefused s n 1 := by
  simp only [goOp, h, if_true, motRefuse_eq]

/-- A GO to a new velocity while the axis moves is refused with error 0x02. -/
theorem goOp_velocity {s : State} {n : Nat} (h : goRefused s n = false) (hm : (stagedMove s n).mode = 1)
    (hx : axMoving s n = true) : goOp n s = motRefused s n 2 := by
  simp only [goOp, h, hm, hx, and_self, if_true, motRefuse_eq]; rfl

/-- A GO of a driven axis runs. -/
theorem goOp_runs {s : State} {n : Nat} (h : goRefused s n = false) (hm : (stagedMove s n).mode = 0)
    (hd : (axisOf s n).drive = .on) : goOp n s = runMove n (stagedMove s n) s := by
  simp only [goOp, h, hm, hd]; rfl

theorem cam_none_of_go {s : State} {n : Nat} (h : goRefused s n = false) : (axisOf s n).cam = none := by
  simp only [goRefused, Bool.or_eq_false_iff] at h
  simpa using h.1.1.2

/-- The axis a GO clears before it plans (R254, R261, R266). -/
def goCleared (a : Axis) : Axis :=
  { a with hold := false, goWait := none, heldGo := none, heldCam := none, waitTurn := false }

/-- Where an axis without a cam stands depends on its plan and on the position it holds. -/
theorem axisX_congr {s t : State} {n : Nat} (hk : t.tk = s.tk) (hc : (axisOf s n).cam = none)
    (hc' : (axisOf t n).cam = none) (hp : (axisOf t n).plan = (axisOf s n).plan) (hx : (axisOf t n).x = (axisOf s n).x) :
    axisX t n = axisX s n := by
  simp only [axisX, axisKin, axisKinVia, hc, hc', hp, hx, hk]
  cases (axisOf s n).plan <;> rfl

/-- The limit a target meets does not depend on what a GO clears, for an axis without a cam. -/
theorem limitTarget_goCleared {s : State} {n : Nat} (hn : n < s.mot.axes.length) (hc : (axisOf s n).cam = none) (x : Int) :
    limitTarget (axisTo s n (goCleared (axisOf s n))) n x = limitTarget s n x := by
  have ha := axisOf_axisTo_same hn (goCleared (axisOf s n))
  have hc' : (axisOf (axisTo s n (goCleared (axisOf s n))) n).cam = none := by rw [ha]; exact hc
  have hp : (axisOf (axisTo s n (goCleared (axisOf s n))) n).plan = (axisOf s n).plan := by rw [ha]; rfl
  have hm : axMoving (axisTo s n (goCleared (axisOf s n))) n = axMoving s n := by simp only [axMoving, hp, hc', hc]
  have hX : axisX (axisTo s n (goCleared (axisOf s n))) n = axisX s n := axisX_congr rfl hc hc' hp (by rw [ha]; rfl)
  exact limitTarget_congr (s := s) (t := axisTo s n _) rfl hm hX x

/-- The target of a GO, as its plan takes it. -/
abbrev goTarget (s : State) (n : Nat) (m : Move) : Int := planTarget s n m.mode m.target

/-- The plan of a GO, under a swath permit's clamp if it has one (R254, R266). -/
def goPlan (s : State) (n : Nat) (m : Move) (cap : Option Nat) : Plan :=
  { makePlan (axisTo s n (goCleared (axisOf s n))) n m.mode (goTarget s n m) cap
      (s.tk + planDelay (axisOf s n)) with byGo := true }

theorem goPlan_t0 (s : State) (n : Nat) (m : Move) (cap : Option Nat) :
    (goPlan s n m cap).t0 = s.tk + if (axisOf s n).hold then 5120 else 2500 := by simp [goPlan, planDelay]

theorem goPlan_cap (s : State) (n : Nat) (m : Move) (cap : Option Nat) : (goPlan s n m cap).cap = cap := by
  simp [goPlan]

theorem goPlan_end {m : Move} (hm : m.mode = 0) (s : State) (n : Nat) (cap : Option Nat) :
    (goPlan s n m cap).endX = goTarget s n m * 4294967296 ∧ (goPlan s n m cap).endV = 0 :=
  makePlan_end (by rw [hm]; decide) _ _ _ _ _

/-- An axis whose GO is accepted. -/
def goPlanned (s : State) (n : Nat) (m : Move) (cap : Option Nat) : Axis :=
  { goCleared (axisOf s n) with
    mode := m.mode, target := goTarget s n m, next := some (goPlan s n m cap), planVmax := capV s n cap
    limit := (axisOf s n).limit || decide (goTarget s n m ≠ m.target) }

/-- A GO plans to its target, with LIMIT and error 0x03 where the virtual limits bound it (R254, R262). -/
theorem startMove_eq {s : State} {n : Nat} (hn : n < s.mot.axes.length) (hc : (axisOf s n).cam = none) (m : Move)
    (cap : Option Nat) :
    startMove n m cap s = if goTarget s n m = m.target then axisTo s n (goPlanned s n m cap)
      else raise 9 (recErr 9 3 (axisTo s n (goPlanned s n m cap))) := by
  have hn' : n < (axisTo s n (goCleared (axisOf s n))).mot.axes.length := by simpa using hn
  have h := setPlan_eq hn' m.mode m.target cap true (s.tk + planDelay (axisOf s n))
  have ht : planTarget (axisTo s n (goCleared (axisOf s n))) n m.mode m.target = goTarget s n m := by
    unfold goTarget planTarget; rw [limitTarget_goCleared hn hc]
  simp only [ht, axisOf_axisTo_same hn, axisTo_axisTo] at h
  have hs : startMove n m cap s = setPlan n m.mode m.target cap true (s.tk + planDelay (axisOf s n))
      (axisTo s n (goCleared (axisOf s n))) := congrArg _ (setAxis_eq n _ s)
  rw [hs, h, goPlanned]
  by_cases e : goTarget s n m = m.target
  · have hl : ((axisOf s n).limit || decide (goTarget s n m ≠ m.target)) = (axisOf s n).limit := by simp [e]
    rw [if_pos e, if_pos e, hl]; rfl
  · have hl : ((axisOf s n).limit || decide (goTarget s n m ≠ m.target)) = true := by simp [e]
    rw [if_neg e, if_neg e, hl]; rfl

/-- What a GO does to its axis, and what it leaves alone. -/
theorem startMove_spec {s : State} {n : Nat} (hn : n < s.mot.axes.length) (hr : coreRuns s = true)
    (hc : (axisOf s n).cam = none) (m : Move) (cap : Option Nat) :
    axisOf (startMove n m cap s) n = goPlanned s n m cap ∧
    (∀ k, k ≠ n → axisOf (startMove n m cap s) k = axisOf s k) ∧
    (startMove n m cap s).mot.permits = s.mot.permits ∧
    (startMove n m cap s).mot.axes.length = s.mot.axes.length ∧
    (goTarget s n m = m.target → (startMove n m cap s).host = s.host) ∧
    (goTarget s n m ≠ m.target → newestError (startMove n m cap s) s.tick 0x0903) := by
  rw [startMove_eq hn hc]
  split
  · rename_i e
    exact ⟨axisOf_axisTo_same hn _, fun k hk => axisOf_axisTo_other hk _, rfl, axisTo_length _ _ _, fun _ => rfl,
      fun h => absurd e h⟩
  · rename_i e
    refine ⟨(axisOf_recErr 9 3 n _).trans (axisOf_axisTo_same hn _),
      fun k hk => (axisOf_recErr 9 3 k _).trans (axisOf_axisTo_other hk _), ?_, ?_, fun h => absurd h e,
      fun _ => newestError_recErr (s := axisTo s n _) hr 9 3⟩
    · show (recErr 9 3 (axisTo s n _)).mot.permits = _
      rw [recErr_mot]; rfl
    · show (recErr 9 3 (axisTo s n _)).mot.axes.length = _
      rw [recErr_mot]; exact axisTo_length _ _ _

/-- A swath GO at rest, without a permit, waits out of hold (R261, R266). -/
theorem runMove_waits {s : State} {n : Nat} {m : Move} (hh : axisHeld s n = false) (hs : m.swath = true)
    (hm : axMoving s n = false) (hp : s.mot.permits = []) : runMove n m s = axisTo s n { axisOf s n with
      goWait := some m, waitTurn := true, heldGo := none, heldCam := none, hold := false
      restFrom := if (axisOf s n).hold then s.tk else (axisOf s n).restFrom
      next := if (axisOf s n).next.any (·.byGo) then none else (axisOf s n).next } := by
  simp only [runMove, hh, hs, hm, takePermit, hp, keepGo, setAxis_eq]
  rfl

/-- A GO that no transaction holds and that asks for no permit plans at once (R266). -/
theorem runMove_starts {s : State} {n : Nat} {m : Move} (hh : axisHeld s n = false) (hs : m.swath = false) :
    runMove n m s = startMove n m none s := by
  simp only [runMove, hh, hs]; rfl

/-! ### Stops -/

/-- STOP's plan begins at its t0 and ends at rest; QSTOP's begins now (R255). -/
def stopped (s : State) (n : Nat) : Axis :=
  let p := stopPlan s n (s.tk + planDelay (axisOf s n))
  { axisOf s n with
    mode := 0, target := p.endX / 4294967296, next := some p, hold := false, goWait := none, heldGo := none
    heldCam := none, waitTurn := false }

theorem stopOp_eq (n : Nat) (s : State) : stopOp n s = axisTo s n (stopped s n) := setAxis_eq n _ s

theorem stopPlan_delay (s : State) (n : Nat) : (stopPlan s n (s.tk + planDelay (axisOf s n))).t0 =
    s.tk + if (axisOf s n).hold then 5120 else 2500 := rfl

/-- STOP of an enabled axis without a cam (R252). -/
theorem stopCmd_eq {s : State} {n : Nat} (he : (axisOf s n).en = true) (hc : (axisOf s n).cam = none) :
    stopCmd n s = axisTo s n (stopped s n) := by
  simp [stopCmd, he, hc, stopOp_eq]

/-- An axis that QSTOP brakes (R255). -/
def qstopped (s : State) (n : Nat) : Axis := { axisOf s n with
  mode := 0, target := (qstopPlan s n).endX / 4294967296, plan := some (qstopPlan s n), next := none, cam := none
  goWait := none, heldGo := none, heldCam := none, waitTurn := false, attgt := false }

theorem qstopOp_eq (n : Nat) (s : State) : qstopOp n s = axisTo s n (qstopped s n) := setAxis_eq n _ s

/-- QSTOP of an enabled axis without a cam (R252). -/
theorem qstopCmd_eq {s : State} {n : Nat} (he : (axisOf s n).en = true) (hc : (axisOf s n).cam = none) :
    qstopCmd n s = axisTo s n { qstopped s n with cam := (axisOf s n).cam } := by
  simp [qstopCmd, he, hc, qstopOp_eq, qstopped]

/-- Leaving a cam changes its axis alone; the axis has no cam then (R264). -/
theorem releaseCam_spec {s : State} {n : Nat} (hn : n < s.mot.axes.length) :
    ∃ a : Axis, releaseCam n s = axisTo s n a ∧ a.cam = none := by
  have hl : leaveCam n s = axisTo s n _ := setAxis_eq n _ s
  unfold releaseCam
  dsimp only
  split
  · exact ⟨_, hl, rfl⟩
  · rw [hl, setAxis_eq, axisTo_axisTo, axisOf_axisTo_same hn]
    exact ⟨_, rfl, rfl⟩

/-- DISABLE of an axis that executes a plan stops it first (R268). -/
theorem disableOp_moving {s : State} {n : Nat} (hn : n < s.mot.axes.length) (he : (axisOf s n).en = true)
    (hd : disableRuns (axisOf s n) = false) (hp : (axisOf s n).plan.isSome = true) (hc : (axisOf s n).cam = none) :
    disableOp n s = axisTo s n { stopped s n with drive := .disabling } := by
  have : disableOp n s = setAxis n (fun a => { a with drive := .disabling }) (stopOp n s) := by
    simp [disableOp, he, hd, hp, hc]
  rw [this, stopOp_eq, setAxis_eq, axisTo_axisTo, axisOf_axisTo_same hn]

/-- CAM_DISENGAGE stops the axis from the motion the cam gave it (R264). -/
theorem camDisengageOp_spec {s : State} {n : Nat} {c : Cam} (hn : n < s.mot.axes.length)
    (hc : (axisOf s n).cam = some c) : ∃ (a : Axis) (p : Plan), camDisengageOp n s = axisTo s n a ∧ a.cam = none ∧
      a.next = some p ∧ p.endV = 0 ∧ a.mode = 0 := by
  obtain ⟨b, hb, hcam⟩ := releaseCam_spec hn
  have : camDisengageOp n s = stopOp n (releaseCam n s) := by simp [camDisengageOp, hc]
  rw [this, stopOp_eq, hb, axisTo_axisTo]
  refine ⟨_, _, rfl, ?_, rfl, rfl, rfl⟩
  simp only [stopped, axisOf_axisTo_same hn, hcam]

/-! ### Permits -/

theorem waitingAxis_spec {s : State} {n : Nat} {m : Move} (h : waitingAxis s = some (n, m)) :
    axMoving s n = false := by
  obtain ⟨k, -, hk⟩ := List.exists_of_findSome?_eq_some h
  split at hk
  · cases hk
  · obtain ⟨m', -, he⟩ := Option.map_eq_some_iff.mp hk
    cases he
    exact Bool.eq_false_iff.mpr ‹_›

/-- A waiting swath GO takes the first permit, which clamps VMAX (R266). -/
theorem takePermit_spec {s : State} {n v : Nat} {rest : List Nat} (hn : n < s.mot.axes.length) (hr : coreRuns s = true)
    (hc : (axisOf s n).cam = none) (m : Move) (hp : s.mot.permits = v :: rest) :
    let cl := v * 1000 * tnat32 s 0x60 257 / 4194304
    let s' : State := { s with mot.permits := rest }
    (∀ k, k ≠ n → axisOf (takePermit n m s) k = axisOf s k) ∧ (takePermit n m s).mot.permits = rest ∧
    axisOf (takePermit n m s) n = { goPlanned s' n m (some cl) with
      clamped := (axisOf s n).clamped || decide (cl < axW32 s n 1) } := by
  intro cl s'
  obtain ⟨hax, hoth, hper, hlen, -, -⟩ := startMove_spec (s := s') hn hr hc m (some cl)
  have ht : takePermit n m s = if cl < axW32 s n 1 then
      raise 9 (setAxis n (fun a => { a with clamped := true }) (startMove n m (some cl) s'))
      else startMove n m (some cl) s' := by
    simp only [takePermit, hp]; rfl
  rw [ht]
  split
  · rename_i h
    rw [setAxis_eq]
    refine ⟨fun k hk => (axisOf_axisTo_other hk _).trans (hoth k hk), hper, ?_⟩
    refine (axisOf_axisTo_same (by rw [hlen]; exact hn) _).trans ?_
    rw [hax, decide_eq_true h, Bool.or_true]
  · rename_i h
    refine ⟨hoth, hper, hax.trans ?_⟩
    rw [decide_eq_false h, Bool.or_false]; rfl

/-! ### Events -/

/-- At t0 a plan takes over (R254). -/
theorem planStartOp_eq {s : State} {n : Nat} {p : Plan} (hp : (axisOf s n).next = some p) (ht : p.t0 ≤ s.tk)
    (h : axMoving s n = true ∨ axisHeld s n = false) :
    planStartOp n s = axisTo s n { axisOf s n with plan := some p, next := none, attgt := false } := by
  have : (axMoving s n || !axisHeld s n) = true := by rcases h with h | h <;> simp [h]
  simp only [planStartOp, hp, ht, this, setAxis_eq]
  rfl

/-- A prepared transaction holds the start of an axis at rest (R43). -/
theorem planStartOp_held {s : State} {n : Nat} (hm : axMoving s n = false) (hh : axisHeld s n = true) :
    planStartOp n s = s := by
  unfold planStartOp
  split
  · simp [hm, hh]
  · rfl

/-- The end of a plan to rest, with no DISABLE under way and no GO held (R254). -/
theorem planEndOp_eq {s : State} {n : Nat} {p : Plan} (hn : n < s.mot.axes.length) (hp : (axisOf s n).plan = some p)
    (ha : (axisOf s n).attgt = false) (hs : p.segs ≠ []) (hd : segsDur p.segs ≤ (s.tk - p.t0) * 65536)
    (hv : p.endV = 0) (ho : (axisOf s n).drive = .on) (hg : (axisOf s n).heldGo = none) :
    planEndOp n s = raise 9 (axisTo s n { axisOf s n with
      attgt := true, plan := none, x := (clampPos { x := p.endX, v := 0, a := 0 }).x, v := 0, restFrom := s.tk }) := by
  have hend : ((axisOf s n).attgt || (p.segs.isEmpty && (axisOf s n).next.isSome)
      || decide ((s.tk - p.t0) * 65536 < segsDur p.segs)) = false := by
    simp [ha, hs]; omega
  simp only [planEndOp, hp, hend, hv, ho, hg, setAxis_eq]
  have hcomm : ∀ (a b : Axis), axisTo (raise 9 (axisTo s n a)) n b = raise 9 (axisTo s n b) :=
    fun a b => congrArg (raise 9) (axisTo_axisTo s n a b)
  have hof : ∀ a : Axis, axisOf (raise irqMot (axisTo s n a)) n = a := fun a => axisOf_axisTo_same hn a
  rw [hof]
  exact hcomm _ _

/-- The axis of a moving axis that has reached its limit: LIMIT and its count (R262). -/
def limited (s : State) (n : Nat) : State :=
  raise 9 (bump 0x61 (32 * n + 21) (axisTo s n { axisOf s n with limit := true }))

theorem vlimitOp_eq {s : State} {n : Nat} {p : Plan} {lim : Int} (hp : (axisOf s n).plan = some p)
    (hc : (axisOf s n).cam = none) (hm : (axisOf s n).mode = 2) (hl : limitReached s n = some lim) :
    vlimitOp n s = if canStopAt s n lim then
      setAxis n (fun a => { a with
        mode := 0, target := lim, plan := some (makePlan (limited s n) n 0 lim none s.tk), next := none
        attgt := false }) (limited s n)
      else recErrLees 0x09 4 [n] (axisTo (limited s n) n (qstopped (limited s n) n)) := by
  have hg : ((axisOf s n).cam.isSome || ((axisOf s n).mode == 2 && (axisOf s n).plan.isSome)) = true := by
    simp [hp, hm]
  have hr : (if (axisOf s n).cam.isSome = true then releaseCam n s else s) = s := by simp [hc]
  simp only [vlimitOp, hg, hl, hr, setAxis_eq n (fun a : Axis => { a with limit := true }), qstopOp_eq]
  rfl

/-- The lees record of an error leaves the words of table 0x61 alone. -/
theorem tget_lees_other {s : State} (hw : tblWf s = true) (b c : Nat) (d : List Nat) {tb a : Nat}
    (h1 : tkey tb a ≠ tkey 0x7B 48) (h2 : tkey tb a ≠ tkey 0x89 4) : tget (lees b c d s) tb a = tget s tb a := by
  unfold lees
  dsimp only
  split
  · exact tget_bump_other hw h1
  · split
    · rfl
    · split
      · rfl
      · split
        · rfl
        · rw [tget_congr (recErr_tbl _ 0x0E 0x0A)]
          exact tget_bump_other hw h2

theorem axisOf_limited {s : State} {n : Nat} (hn : n < s.mot.axes.length) :
    axisOf (limited s n) n = { axisOf s n with limit := true } := axisOf_axisTo_same hn _

theorem axisOf_limited_other {s : State} {n k : Nat} (hk : k ≠ n) : axisOf (limited s n) k = axisOf s k :=
  axisOf_axisTo_other hk _

theorem limited_counted {s : State} (hw : tblWf s = true) (n : Nat) : countedOne s (limited s n) 0x61 (32 * n + 21) :=
  tget_bump (s := axisTo s n _) hw 0x61 (32 * n + 21)

/-- An axis that can stop at its limit is planned to it (R262). -/
theorem vlimitOp_stops {s : State} {n : Nat} {p : Plan} {lim : Int} (hw : tblWf s = true) (hn : n < s.mot.axes.length)
    (hp : (axisOf s n).plan = some p) (hc : (axisOf s n).cam = none) (hm : (axisOf s n).mode = 2)
    (hl : limitReached s n = some lim) (hs : canStopAt s n lim = true) :
    ∃ (a : Axis) (q : Plan), axisOf (vlimitOp n s) n = a ∧ (∀ k, k ≠ n → axisOf (vlimitOp n s) k = axisOf s k) ∧
      a.limit = true ∧ countedOne s (vlimitOp n s) 0x61 (32 * n + 21) ∧ a.mode = 0 ∧ a.plan = some q ∧
      q.endX = lim * 4294967296 ∧ q.endV = 0 := by
  have hn' : n < (limited s n).mot.axes.length := (axisTo_length s n _).symm ▸ hn
  rw [vlimitOp_eq hp hc hm hl, if_pos hs, setAxis_eq, axisOf_limited hn]
  obtain ⟨hx, hv⟩ := makePlan_end (by decide : (0 : Nat) ≠ 2) (limited s n) n lim none s.tk
  refine ⟨_, _, axisOf_axisTo_same hn' _, fun k hk => ?_, rfl, limited_counted hw n, rfl, rfl, hx, hv⟩
  rw [axisOf_axisTo_other hk, axisOf_limited_other hk]

/-- An axis that cannot stop at its limit brakes, with error 0x04 (R262). -/
theorem vlimitOp_brakes {s : State} {n : Nat} {p : Plan} {lim : Int} (hw : tblWf s = true) (hr : coreRuns s = true)
    (hn : n < s.mot.axes.length) (h8 : n < 8) (hp : (axisOf s n).plan = some p) (hc : (axisOf s n).cam = none)
    (hm : (axisOf s n).mode = 2) (hl : limitReached s n = some lim) (hs : canStopAt s n lim = false) :
    ∃ (a : Axis) (q : Plan), axisOf (vlimitOp n s) n = a ∧ (∀ k, k ≠ n → axisOf (vlimitOp n s) k = axisOf s k) ∧
      a.limit = true ∧ countedOne s (vlimitOp n s) 0x61 (32 * n + 21) ∧ a.mode = 0 ∧ a.plan = some q ∧ q.qstop = true ∧
      (logsFree s = true → newestError (vlimitOp n s) s.tick 0x0904) := by
  have hn' : n < (limited s n).mot.axes.length := (axisTo_length s n _).symm ▸ hn
  have hw' : tblWf (limited s n) = true := bump_wf (s := axisTo s n _) hw _ _
  rw [vlimitOp_eq hp hc hm hl, if_neg (by simp [hs])]
  have ha : ∀ (u : State) k, axisOf (recErrLees 9 4 [n] u) k = axisOf u k := fun u k => by simp [recErrLees]
  refine ⟨qstopped (limited s n) n, qstopPlan (limited s n) n, (ha _ n).trans (axisOf_axisTo_same hn' _), fun k hk => ?_,
    ?_, ?_, rfl, rfl, rfl, fun hlog => ?_⟩
  · rw [ha, axisOf_axisTo_other hk, axisOf_limited_other hk]
  · exact congrArg Axis.limit (axisOf_limited hn)
  · have hcount := limited_counted hw n
    have hrec := recErr_tbl (axisTo (limited s n) n (qstopped (limited s n) n)) 9 4
    refine (tget_lees_other ((tblWf_congr hrec).trans hw') 9 4 [n] (tb := 0x61) (a := 32 * n + 21)
      (by unfold tkey; omega) (by unfold tkey; omega)).trans ?_
    rw [tget_congr hrec]
    exact hcount
  · rw [recErrLees_queued (s := axisTo (limited s n) n _) hr hlog]
    exact newestError_recErr (s := axisTo (limited s n) n _) hr 9 4

/-! ### The reference input -/

theorem refKnown_eq (n : Nat) (b : Bool) (s : State) : refKnown n b s = axisTo s n { axisOf s n with
    smpRef := smpPut b (axisOf s n).smpRef
    refLevel := match (axisOf s n).refLevel with
      | some l => some l
      | none => smpFirst (refFilt s n) (smpPut b (axisOf s n).smpRef) } := setAxis_eq n _ s

/-- A sample that leaves the filtered level of REFn as it is (R121). -/
theorem refSample_same {s : State} {n : Nat} {b y : Bool} (hr : (axisOf s n).refLevel = some y)
    (hl : smpLevel (refFilt s n) (some y) (smpPut b (axisOf s n).smpRef) = some y) :
    refSample n b s = axisTo s n { axisOf s n with smpRef := smpPut b (axisOf s n).smpRef } := by
  simp only [refSample, hr, hl, setAxis_eq]
  simp

/-- The edge of REFn that HOME waits for latches the position of the pin edge (R263). -/
theorem refSample_edge {s : State} {n : Nat} {b : Bool} (hn : n < s.mot.axes.length)
    (hr : (axisOf s n).refLevel = some (!b))
    (hl : smpLevel (refFilt s n) (some (!b)) (smpPut b (axisOf s n).smpRef) = some b)
    (ha : (axisOf s n).homeArmed = true) (hk : bits (axW s n 0) 10 9 = (if b then 0 else 1))
    (hs : bit (axW s n 0) 8 = false) :
    refSample n b s = raise 9 (axisTo s n { axisOf s n with
      smpRef := smpPut b (axisOf s n).smpRef, refLevel := some b, latched := true, homeArmed := false
      latch := (axisOf s n).past.getD (refFilt s n + 2) 0 / 4294967296 }) := by
  have hedge : refSample n b s = refEdgeOp n b (axisTo s n { axisOf s n with smpRef := smpPut b (axisOf s n).smpRef }) := by
    simp only [refSample, hr, hl, setAxis_eq]
    simp
  have hsel : (bits (axW s n 0) 10 9 == 2 || (bits (axW s n 0) 10 9 == 0 && b) || (bits (axW s n 0) 10 9 == 1 && !b)) = true := by
    rw [hk]; cases b <;> rfl
  have hW : ∀ a, axW (axisTo s n a) n 0 = axW s n 0 := fun _ => rfl
  rw [hedge]
  simp only [refEdgeOp, pastX, setAxis_eq, axisOf_axisTo_same hn, axisTo_axisTo, hW, ha, hsel, hs, Bool.and_self, if_true]
  rfl

/-! ### Cams -/

/-- A cam ends at MSPAN: the axis leaves it at its present position (R264). -/
theorem camEndOp_eq {s : State} {n : Nat} {c : Cam} (hc : (axisOf s n).cam = some c)
    (hb : bit (tnat s 0x63 (4 * c.table)) 15 = false)
    (hm : camSpan s c.table * 4294967296 ≤ masterPos s c s.tk - c.morigin) :
    camEndOp n s = axisTo s n { axisOf s n with
      cam := none, x := axisX s n, v := 0, mode := 0, target := axisX s n / 4294967296, restFrom := s.tk } := by
  have hend : (!bit (tnat s 0x63 (4 * c.table)) 15
      && decide (camSpan s c.table * fx ≤ masterPos s c s.tk - c.morigin)) = true := by
    rw [hb]; exact decide_eq_true hm
  simp only [camEndOp, hc, hend, leaveCam, setAxis_eq]
  rfl

theorem camOverspeedOp_within {s : State} {n : Nat}
    (h : (axisKin s n s.tk).v.natAbs ≤ (axW32 s n 1 : Int) * 4294967296) : camOverspeedOp n s = s := by
  have : ((axisOf s n).cam.isSome && decide ((axW32 s n 1 : Int) * fx < (axisKin s n s.tk).v.natAbs)) = false := by
    unfold fx; rw [decide_eq_false (not_lt.mpr h), Bool.and_false]
  exact if_neg (Bool.eq_false_iff.mp this)

/-- A slave above VMAX leaves its cam and brakes, with CAMERR and error 0x07 (R264). -/
theorem camOverspeedOp_spec {s : State} {n : Nat} {c : Cam} (hn : n < s.mot.axes.length) (hr : coreRuns s = true)
    (hc : (axisOf s n).cam = some c) (h : (axW32 s n 1 : Int) * 4294967296 < (axisKin s n s.tk).v.natAbs) :
    ∃ a : Axis, axisOf (camOverspeedOp n s) n = a ∧ (∀ k, k ≠ n → axisOf (camOverspeedOp n s) k = axisOf s k) ∧
      a.cam = none ∧ a.camerr = true ∧ newestError (camOverspeedOp n s) s.tick 0x0907 := by
  obtain ⟨b, hb, -⟩ := releaseCam_spec hn
  have hq : camOverspeedOp n s = raise 9 (recErr 9 7 (axisTo s n { qstopped (axisTo s n b) n with camerr := true })) := by
    have hfast : ((axisOf s n).cam.isSome && decide ((axW32 s n 1 : Int) * fx < (axisKin s n s.tk).v.natAbs)) = true := by
      unfold fx; rw [hc, decide_eq_true h]; rfl
    have hn' : n < (axisTo s n b).mot.axes.length := (axisTo_length s n b).symm ▸ hn
    refine (if_pos hfast).trans (congrArg (fun t => raise 9 (recErr 9 7 t)) ?_)
    rw [hb, qstopOp_eq, setAxis_eq, axisTo_axisTo, axisOf_axisTo_same hn', axisTo_axisTo]
  rw [hq]
  exact ⟨_, (axisOf_recErr 9 7 n _).trans (axisOf_axisTo_same hn _),
    fun k hk => (axisOf_recErr 9 7 k _).trans (axisOf_axisTo_other hk _), rfl, rfl,
    newestError_recErr (s := axisTo s n _) hr 9 7⟩

/-! ### Bridge duties -/

/-- The bound of a bridge axis's duties (R257). -/
def dutyLim (s : State) (n : Nat) : Int := 5120 - 2 * (axW s n 22 % 256 : Nat)

theorem dutyLim_pos (s : State) (n : Nat) : 0 ≤ dutyLim s n := by unfold dutyLim; omega

theorem clampInt_bounds {x lo hi : Int} (h : lo ≤ hi) : clampInt x lo hi ≤ hi ∧ lo ≤ clampInt x lo hi := by
  unfold clampInt; (repeat' split) <;> omega

/-- The duties of an axis lie within a bound. -/
def dutiesWithin (lim : Int) (a : Axis) : Prop :=
  a.dutyA ≤ lim ∧ -lim ≤ a.dutyA ∧ a.dutyB ≤ lim ∧ -lim ≤ a.dutyB

/-- Duties as an axis takes them: clamped, with SAT and a count where the clamp changed one (R257). -/
def clampDuties (s : State) (n : Nat) (lim dA dB : Int) : State :=
  let s1 := setAxis n (fun a => { a with
    dutyA := clampInt dA (-lim) lim, dutyB := clampInt dB (-lim) lim, dutyBOld := a.dutyB }) s
  if clampInt dA (-lim) lim ≠ dA ∨ clampInt dB (-lim) lim ≠ dB then
    motErr 6 (bump 0x61 (32 * n + 19) (setAxis n (fun a => { a with sat := true }) s1))
  else s1

theorem bridgeDuty_eq (n : Nat) (s : State) : ∃ dA dB, bridgeDuty n s = clampDuties s n (dutyLim s n) dA dB :=
  ⟨_, _, rfl⟩

theorem clampDuties_spec {s : State} {n : Nat} {lim : Int} (hn : n < s.mot.axes.length) (hl : 0 ≤ lim) (dA dB : Int) :
    ∃ a : Axis, dutiesWithin lim a ∧ a.x = (axisOf s n).x ∧ a.plan = (axisOf s n).plan ∧
      (clampDuties s n lim dA dB = axisTo s n a ∨
        clampDuties s n lim dA dB = motErr 6 (bump 0x61 (32 * n + 19) (axisTo s n a))) := by
  have hin (x : Int) := clampInt_bounds (x := x) (lo := -lim) (hi := lim) (by omega)
  simp only [clampDuties, setAxis_eq, axisTo_axisTo, axisOf_axisTo_same hn]
  split
  · refine ⟨_, ?_, ?_, ?_, .inr rfl⟩
    exacts [⟨(hin _).1, (hin _).2, (hin _).1, (hin _).2⟩, rfl, rfl]
  · refine ⟨_, ?_, ?_, ?_, .inl rfl⟩
    exacts [⟨(hin _).1, (hin _).2, (hin _).1, (hin _).2⟩, rfl, rfl]

/-- What the duties of a period leave as it was. -/
structure DutyKept (s t : State) : Prop where
  wf : tblWf t = true
  length : t.mot.axes.length = s.mot.axes.length
  margin : ∀ k, dutyLim t k = dutyLim s k
  x : ∀ k, (axisOf t k).x = (axisOf s k).x
  plan : ∀ k, (axisOf t k).plan = (axisOf s k).plan

theorem bridgeDuty_kept {s t : State} {n : Nat} (hn : n < s.mot.axes.length) (h : DutyKept s t) :
    DutyKept s (bridgeDuty n t) ∧ dutiesWithin (dutyLim s n) (axisOf (bridgeDuty n t) n) ∧
      ∀ k, k ≠ n → axisOf (bridgeDuty n t) k = axisOf t k := by
  have hn' : n < t.mot.axes.length := h.length ▸ hn
  obtain ⟨dA, dB, hd⟩ := bridgeDuty_eq n t
  obtain ⟨a, hin, hx, hp, heq⟩ := clampDuties_spec hn' (dutyLim_pos t n) dA dB
  rw [← hd] at heq
  have hsame : axisOf (bridgeDuty n t) n = a := by
    rcases heq with e | e <;> rw [e]
    · exact axisOf_axisTo_same hn' a
    · exact (axisOf_recErr 9 6 n _).trans (axisOf_axisTo_same hn' a)
  have hoth : ∀ k, k ≠ n → axisOf (bridgeDuty n t) k = axisOf t k := by
    intro k hk
    rcases heq with e | e <;> rw [e]
    · exact axisOf_axisTo_other hk a
    · exact (axisOf_recErr 9 6 k _).trans (axisOf_axisTo_other hk a)
  have hbump : tblWf (bump 0x61 (32 * n + 19) (axisTo t n a)) = true := bump_wf (s := axisTo t n a) h.wf _ _
  have htbl : (motErr 6 (bump 0x61 (32 * n + 19) (axisTo t n a))).tbl = (bump 0x61 (32 * n + 19) (axisTo t n a)).tbl :=
    recErr_tbl _ 9 6
  refine ⟨⟨?_, ?_, fun k => ?_, fun k => ?_, fun k => ?_⟩, h.margin n ▸ hsame ▸ hin, hoth⟩
  · rcases heq with e | e <;> rw [e]
    · exact h.wf
    · exact (tblWf_congr htbl).trans hbump
  · rw [← h.length]
    rcases heq with e | e <;> rw [e]
    · exact axisTo_length t n a
    · exact (congrArg (fun m => m.axes.length) (recErr_mot (bump 0x61 (32 * n + 19) (axisTo t n a)) 9 6)).trans
        (axisTo_length t n a)
  · rw [← h.margin k]
    rcases heq with e | e <;> rw [e]
    · rfl
    · unfold dutyLim axW tnat
      rw [tget_congr htbl, tget_bump_other (s := axisTo t n a) h.wf (by unfold tkey; omega)]; rfl
  · by_cases hk : k = n
    · rw [hk, hsame, hx, h.x]
    · rw [hoth k hk, h.x]
  · by_cases hk : k = n
    · rw [hk, hsame, hp, h.plan]
    · rw [hoth k hk, h.plan]

/-- A property that one member's step brings about, and no step takes away, holds after a fold over the members. -/
theorem foldl_reaches {σ β : Type} {f : σ → β → σ} {I P : σ → Prop} {n : β} {l : List β} {t : σ}
    (hI : ∀ t, ∀ x ∈ l, I t → I (f t x)) (hP : ∀ t, n ∈ l → I t → P (f t n))
    (hk : ∀ t, ∀ x ∈ l, I t → P t → P (f t x))
    (ht : I t) (h : n ∈ l ∨ P t) : P (l.foldl f t) ∧ I (l.foldl f t) := by
  induction l generalizing t with
  | nil => exact ⟨h.resolve_left List.not_mem_nil, ht⟩
  | cons x l ih =>
    refine ih (fun u y hy => hI u y (.tail x hy)) (fun u hu => hP u (.tail x hu)) (fun u y hy => hk u y (.tail x hy))
      (hI t x (.head l) ht) ?_
    rcases h with h | h
    · rcases List.mem_cons.mp h with rfl | h
      · exact .inr (hP t (.head l) ht)
      · exact .inl h
    · exact .inr (hk t x (.head l) ht h)

/-- A PWM period sets the duties of every enabled axis within their limit (R257). -/
theorem bridgeDuties_within {s t : State} {n : Nat} (hlen : s.mot.axes.length = 8) (h4 : n < 4)
    (hen : ((axisOf s n).en && !(axisOf s n).fault) = true) (ht : DutyKept s t) :
    let t' := [0, 1, 2, 3].foldl (fun st k => if (axisOf s k).en && !(axisOf s k).fault then bridgeDuty k st else st) t
    dutiesWithin (dutyLim s n) (axisOf t' n) ∧ DutyKept s t' := by
  have hbound : ∀ k ∈ [0, 1, 2, 3], k < s.mot.axes.length := by
    rw [hlen]; decide
  have hmem : n ∈ [0, 1, 2, 3] := by
    have : n = 0 ∨ n = 1 ∨ n = 2 ∨ n = 3 := by omega
    simpa using this
  refine foldl_reaches (n := n) (P := fun u => dutiesWithin (dutyLim s n) (axisOf u n)) ?_ ?_ ?_ ht (.inl hmem)
  · intro u k hk hu
    split
    · exact (bridgeDuty_kept (hbound k hk) hu).1
    · exact hu
  · intro u hk hu
    rw [if_pos hen]
    exact (bridgeDuty_kept (hbound n hk) hu).2.1
  · intro u k hk hu hP
    split
    · by_cases e : n = k
      · exact e ▸ (bridgeDuty_kept (hbound k hk) hu).2.1
      · rw [(bridgeDuty_kept (hbound k hk) hu).2.2 n e]; exact hP
    · exact hP

end Sys2Proof.Machine

open Sys2Proof.Machine Sys2Proof.Claims

/-- Settles O53: the commands by the plans they make, then each event by the rule of its operation. -/
theorem axisProfiles : Obligations.AxisProfiles := by
  intro s n hw hc hs ready a m others
  have hn : n.val < s.mot.axes.length := by rw [hw.axes]; exact n.isLt
  have hrun := coreRuns_of_clocked hc
  have does {op : Nat} {t : State} (hr : ready) (ht : motOp op n s = t) :
      (Host.Outcome.next (motReg op s) : Out) = .next t :=
    congrArg _ ((motReg_ready hc hr.1 hr.2 hs op).trans ht)
  have ev {f : State → State} {t : State} (ht : f s = t) :
      (Host.Outcome.next (if clocked s then f s else s) : Out) = .next t := congrArg _ ((if_pos hc).trans ht)
  refine ⟨?_, ?_, ?_, ?_, ?_, ?_, ?_, ?_, ?_, ?_, ?_, ?_, ?_, ?_, ?_, ?_⟩
  · intro hr hg hm hsw hh hd x
    have hgo : motOp 3 n s = startMove n m none s := (goOp_runs hg hm hd).trans (runMove_starts hh hsw)
    obtain ⟨hax, hoth, -, -, hsame, herr⟩ := startMove_spec hn hrun (cam_none_of_go hg) m none
    have hx : goTarget s n m = x := if_neg (by rw [hm]; decide)
    obtain ⟨hex, hev⟩ := goPlan_end hm s n none
    rw [hx] at hsame herr
    refine ⟨_, goPlan s n m none, does hr hgo, fun k hk => hoth k (Fin.val_ne_of_ne hk), goPlan_t0 s n m none, ?_, hev,
      hax.trans ?_, hsame, herr⟩
    · rw [hex, hx]
    · have hcap : capV s n none = axW32 s n 1 := Nat.min_self _
      rw [goPlanned, hcap, hx, hm]; rfl
  · exact fun hr hg => does (op := 3) hr (goOp_refused hg)
  · exact fun hr hg hm hx => does (op := 3) hr (goOp_velocity hg hm hx)
  · intro hr hg hm hsw hh hd hp hperm
    have hx : axMoving s n = false := by simp only [axMoving, cam_none_of_go hg, show (axisOf s n).plan = none from hp]; rfl
    exact does (op := 3) hr ((goOp_runs hg hm hd).trans (runMove_waits hh hsw hx hperm))
  · intro v rest mv hwait hh hperm cl
    have hx := waitingAxis_spec hwait
    obtain ⟨hoth, hper, hax⟩ := takePermit_spec hn hrun (cam_none_of_rest hx) mv hperm
    have hexec : exec .permitTake s = .next (takePermit n mv s) := by
      have : exec .permitTake s = execPermitTake s := rfl
      rw [this, execPermitTake, hwait, hperm, hc]
      simp [hh]
    refine ⟨_, hexec, fun k hk => hoth k (Fin.val_ne_of_ne hk), hper, ?_, ?_, ?_, ?_, ?_⟩
    all_goals rw [hax]
    · rfl
    · rfl
    · rfl
    · exact ⟨_, rfl, goPlan_cap _ n mv (some cl), goPlan_t0 { s with mot.permits := rest } n mv (some cl)⟩
    · intro h; simp [cl, h]
  · intro hr hen hcam
    refine ⟨⟨_, does (op := 4) hr (stopCmd_eq hen hcam), stopPlan_delay s n, rfl⟩,
      ⟨qstopPlan s n, does (op := 5) hr (qstopCmd_eq hen hcam), rfl, rfl, rfl⟩⟩
  · intro hr hen hd hp hcam
    refine ⟨_, stopPlan s n (s.tk + planDelay a), does (op := 2) hr (disableOp_moving hn hen hd hp hcam),
      fun k hk => axisOf_axisTo_other (Fin.val_ne_of_ne hk) _, ?_⟩
    rw [axisOf_axisTo_same hn]
    exact ⟨rfl, rfl, rfl⟩
  · intro c hcam hr
    obtain ⟨b, p, hb, h1, h2, h3, h4⟩ := camDisengageOp_spec hn hcam
    refine ⟨_, p, does (op := 9) hr hb, fun k hk => axisOf_axisTo_other (Fin.val_ne_of_ne hk) _, ?_⟩
    rw [axisOf_axisTo_same hn]
    exact ⟨h1, h2, h3, h4⟩
  · exact fun p hp ht h => ev (planStartOp_eq hp ht h)
  · exact fun hm hh => ev (planStartOp_held hm hh)
  · exact fun p hp ha hsg hd hv ho hg => ev (planEndOp_eq hn hp ha hsg hd hv ho hg)
  · intro p lim hp hcam hmode hlim
    have h8 := n.isLt
    by_cases hs' : canStopAt s n lim = true
    · obtain ⟨b, q, hb, hoth, h1, h2, h3, h4, h5, h6⟩ := vlimitOp_stops hw.tbl hn hp hcam hmode hlim hs'
      refine ⟨_, ev rfl, fun k hk => hoth k (Fin.val_ne_of_ne hk), ?_, h2, ?_, fun _ => ⟨q, ?_, h5, h6⟩, fun h => ?_⟩
      · rw [hb, h1]
      · rw [hb, h3]
      · rw [hb, h4]
      · exact absurd (hs'.symm.trans h) (by decide)
    · rw [Bool.not_eq_true] at hs'
      obtain ⟨b, q, hb, hoth, h1, h2, h3, h4, h5, h6⟩ := vlimitOp_brakes hw.tbl hrun hn h8 hp hcam hmode hlim hs'
      refine ⟨_, ev rfl, fun k hk => hoth k (Fin.val_ne_of_ne hk), ?_, h2, ?_, fun h => ?_, fun _ hf => ⟨h6 hf, q, ?_, h5⟩⟩
      · rw [hb, h1]
      · rw [hb, h3]
      · exact absurd (hs'.symm.trans h) (by decide)
      · rw [hb, h4]
  · intro l x
    have rev {t : State} (hk : a.refLevel.isSome = true) (ht : refSample n l s = t) : exec (.refEdge n l) s = .next t := by
      have hg : (clocked s && (axisOf s n).refLevel.isSome) = true := by rw [hc]; exact hk
      exact congrArg _ ((if_pos hg).trans ht)
    refine ⟨ev (refKnown_eq n l s), fun y hy hl => rev (by rw [hy]; rfl) (refSample_same hy hl),
      fun hr hl ha hk hb => rev (by rw [hr]; rfl) (refSample_edge hn hr hl ha hk hb)⟩
  · intro c hcam
    refine ⟨fun hb hm => ev (camEndOp_eq hcam hb hm), fun hv => ?_, fun hv => ev (camOverspeedOp_within hv)⟩
    obtain ⟨b, hb, hoth, h1, h2, h3⟩ := camOverspeedOp_spec hn hrun hcam hv
    refine ⟨_, ev rfl, fun k hk => hoth k (Fin.val_ne_of_ne hk), ?_, ?_, h3⟩
    · rw [hb, h1]
    · rw [hb, h2]
  · intro k hk ht
    have : (clocked s && periodDue s.mot.pwmAt 5120 s) = false := by
      simp [hk, periodDue]; omega
    exact congrArg _ (if_neg (Bool.eq_false_iff.mp this))
  · intro h4 hen hf hp
    have hdue : (clocked s && periodDue s.mot.pwmAt 5120 s) = true := by
      rw [hc]
      cases hk : s.mot.pwmAt with
      | none => rfl
      | some k => simpa [periodDue] using hp k hk
    have hkept : DutyKept s { s with mot.pwmAt := some (periodNow s.mot.pwmAt 5120 s) } :=
      ⟨hw.tbl, rfl, fun _ => rfl, fun _ => rfl, fun _ => rfl⟩
    have hon : ((axisOf s n).en && !(axisOf s n).fault) = true := by simp [a] at hen hf; simp [hen, hf]
    obtain ⟨⟨h1, h2, h3, h5⟩, hkt⟩ := bridgeDuties_within hw.axes h4 hon hkept
    exact ⟨_, congrArg Host.Outcome.next (if_pos hdue), h1, h2, h3, h5, hkt.x n, hkt.plan n⟩
end


section
/-! Layers and the idle boundary (O27). -/

namespace Sys2Proof.Machine

theorem Keeps.start {s : State} (K : List Part) (h : WfState s) : Keeps K s s :=
  ⟨h, rfl, rfl, rfl, rfl, fun hk => ⟨hk, rfl, rfl⟩, fun p _ => by cases p <;> rfl⟩

/-- The parts that the deferred actions of a boundary may change (R21, R401). -/
def deferredParts : List Part :=
  [.free, .tbl, .host, .txn, .vine, .enc, .grid, .jet, .hc, .mot, .vlv, .boot, .cal, .nvm]

theorem deferredActions_same {s : State} (hw : WfState s) (sw ly idle : Bool) (p : Part) (hp : p ∉ deferredParts) :
    p.same s (deferredActions sw ly idle s) := by
  have hin : ∀ q ∈ deferredParts, Fact (q ∈ deferredParts) := fun q hq => ⟨hq⟩
  have := hin .free (by decide); have := hin .tbl (by decide); have := hin .host (by decide)
  have := hin .txn (by decide); have := hin .vine (by decide); have := hin .enc (by decide)
  have := hin .grid (by decide); have := hin .jet (by decide); have := hin .hc (by decide)
  have := hin .mot (by decide); have := hin .vlv (by decide); have := hin .boot (by decide)
  have := hin .cal (by decide); have := hin .nvm (by decide)
  exact (deferredActions_keeps sw ly idle s (Keeps.start deferredParts hw)).stay p hp

/-- A change of the boundary registers leaves the memories and the lists in good form. -/
theorem WfState.withBnd {s : State} (h : WfState s) (b : Bnd) : WfState { s with bnd := b } :=
  ⟨h.tbl, h.flash, h.ram, h.defs, h.cask, h.enc, h.axes, h.vlv, h.rails, h.wdacs, h.slots, h.inputs, h.temps, h.reads,
    h.cons, h.ports, h.routes, h.v⟩

/-- An event of a source leaves it pending (R72). -/
theorem irqPend_raise_self {n : Nat} (h : n < 16) (s : State) : (raise n s).host.irqPend.getLsbD n = true := by
  simp [irqPend_raise, h]

/-- A layer boundary leaves the swath buffer, ingest and the rails alone; of the boundary registers it sets LAST (R20). -/
theorem layerBoundary_spec {s : State} (hw : WfState s) :
    let t := boundaryEvent false true false s
    t.bnd = { s.bnd with last := 2 } ∧ t.host.irqPend.getLsbD 3 = true ∧ t.swathRam = s.swathRam ∧ t.ing = s.ing ∧
      t.rail = s.rail := by
  have hs := deferredActions_same (hw.withBnd { s.bnd with last := 2 }) false true false
  exact ⟨hs .bnd (by decide), irqPend_raise_self (by decide) _, hs .swathRam (by decide), hs .ing (by decide),
    hs .rail (by decide)⟩

/-- An idle boundary sets LAST, and a forced gap ends with it (R16, R20). -/
theorem idleEvent_spec {s : State} (hw : WfState s) :
    let t := boundaryEvent false false true s
    t.bnd = { s.bnd with last := 3 } ∧ t.host.irqPend.getLsbD 3 = true ∧ t.cal.forcing = false ∧ t.ing = s.ing := by
  have hs := deferredActions_same (hw.withBnd { s.bnd with last := 3 }) false false true
  exact ⟨hs .bnd (by decide), irqPend_raise_self (by decide) _, rfl, hs .ing (by decide)⟩

/-- A write of this node's own registers out of REST acts (R362). -/
theorem routedOp_acts {s : State} (h : inRest s = false) (c : Held) (f : State → State) : routedOp c f s = f s := by
  simp [routedOp, h]

theorem isUp_of_clocked {s : State} (h : clocked s = true) : isUp s = true :=
  (Bool.and_eq_true_iff.mp h).1

theorem layerHiWrite_eq {s : State} (hc : clocked s = true) (hr : inRest s = false) (d : Word) :
    exec (.layerHiWrite d) s = .next { s with bnd.layerHi := d } :=
  congrArg Host.Outcome.next ((if_pos hc).trans (routedOp_acts hr _ _))

theorem layerLoWrite_eq {s : State} (hc : clocked s = true) (hr : inRest s = false) (d : Word) :
    exec (.layerLoWrite d) s = .next (declareLayer d s) :=
  congrArg Host.Outcome.next ((if_pos hc).trans (routedOp_acts hr _ _))

theorem declareLayer_held {s : State} (ha : swathActive s = true) (d : Word) : declareLayer d s = { s with
    bnd.held := some (s.bnd.layerHi ++ d), bnd.lrepl := s.bnd.lrepl || s.bnd.held.isSome } := by
  simp [declareLayer, ha]

theorem declareLayer_now {s : State} (hc : clocked s = true) (ha : swathActive s = false) (d : Word) :
    declareLayer d s =
      boundaryEvent false true false { s with bnd.layer := s.bnd.layerHi ++ d, bnd.lrepl := false } := by
  simp [declareLayer, ha, isUp_of_clocked hc]

theorem idleDue_false {s : State}
    (h : swathActive s = true ∨ s.bnd.idle = true ∨ s.tk < s.bnd.gapFrom + 250000 * s.bnd.idleMin) :
    idleDue s = false := by
  rcases h with h | h | h
  · simp [idleDue, h]
  · simp [idleDue, h]
  · have : ¬ s.bnd.gapFrom + msTk s.bnd.idleMin ≤ s.tk := by unfold msTk; omega
    simp [idleDue, this]

theorem idleDue_true {s : State} (hc : clocked s = true) (ha : swathActive s = false) (hi : s.bnd.idle = false)
    (ht : s.bnd.gapFrom + 250000 * s.bnd.idleMin ≤ s.tk) : idleDue s = true := by
  have : s.bnd.gapFrom + msTk s.bnd.idleMin ≤ s.tk := by unfold msTk; omega
  simp [idleDue, hc, ha, hi, this]

end Sys2Proof.Machine

open Sys2Proof.Machine

/-- Settles O27: a declaration by where it comes, and what a boundary leaves alone. -/
theorem layersAndIdle : Obligations.LayersAndIdle := by
  refine ⟨fun s hw hc hr => ⟨layerHiWrite_eq hc hr, fun d ha => ?_, fun d ha => ?_⟩,
    fun s hw => ⟨fun hc ha hi ht => ?_, fun h => ?_⟩⟩
  · rw [layerLoWrite_eq hc hr, declareLayer_held ha]
  · refine ⟨_, layerLoWrite_eq hc hr d, ?_⟩
    rw [declareLayer_now hc ha]
    exact layerBoundary_spec (hw.withBnd _)
  · exact ⟨_, congrArg Host.Outcome.next (if_pos (idleDue_true hc ha hi ht)), idleEvent_spec (hw.withBnd _)⟩
  · exact congrArg Host.Outcome.next (if_neg (by rw [idleDue_false h]; decide))
end


section
/-! Ends of a transaction on a node whose routing table names a port that it does not have (O31, O32). `WfState` bounds
the number of route entries and not their values: the report of a stranded node (R47) to such a port is counted as a
packet to a port that is down (R83), and word `16 * p + 7` of table 0x13 of a port `p` far outside the node's three
is a word of another table, here word 7 of the cask-able table 0x20. -/

namespace Sys2Proof.Machine

open Sys2Proof.Claims

/-- A routing table that sends packets for the root, and no others, to a port that no node has. -/
def farRoutes : List Nat := [0, 0x0D00001] ++ List.replicate 62 0

/-- A stranded member whose route to the root is `farRoutes`. -/
def farMember : State := { State.reset with
  boot.phase := .up, txn.phase := .stranded, txn.scope := .member, vine.nodeId := 2, vine.routes := farRoutes }

theorem farMember_wf : WfState farMember :=
  ⟨rfl, rfl, rfl, rfl, rfl, rfl, rfl, rfl, rfl, rfl, rfl, rfl, rfl, rfl, rfl, rfl, rfl, rfl⟩

/-- ABORT from the root ends the member's transaction. -/
theorem farMember_abort : exec (.pktAbort ⟨63, 1, 0⟩ (BitVec.ofNat 8 farMember.txn.tag) 4) farMember =
    .next (recvAbort 0 farMember) := rfl

/-- The member's report counts into a word in force. -/
theorem farMember_after : tget (recvAbort 0 farMember) 0x20 7 = 1 := by decide +kernel

theorem farMember_before : tget farMember 0x20 7 = 0 := rfl

/-- A root that collects votes in the phase of a stranded node, with the vote of node 2 missing. -/
def farRoot : State := { State.reset with
  boot.phase := .up, boot.hsel := true, vine.nodeId := 1, vine.routes := farRoutes
  txn.phase := .stranded, txn.scope := .root, txn.collecting := true, txn.group := 4 }

theorem farRoot_wf : WfState farRoot :=
  ⟨rfl, rfl, rfl, rfl, rfl, rfl, rfl, rfl, rfl, rfl, rfl, rfl, rfl, rfl, rfl, rfl, rfl, rfl⟩

/-- The missing vote is a refusal of node 2 with reason 0x09 (R44). -/
theorem farRoot_refusal : firstRefusal farRoot = some (2, 0, 0, 9) := by decide

theorem farRoot_timeout : exec .voteTimeout farRoot = .next (decide2 farRoot) := rfl

/-- The root's report to itself counts into a word in force. -/
theorem farRoot_after : tget (decide2 farRoot) 0x20 7 = 1 := by decide +kernel

theorem farRoot_before : tget farRoot 0x20 7 = 0 := rfl

end Sys2Proof.Machine

open Sys2Proof.Machine

/-- Refutes O31: ABORT on a stranded member whose route to the root names a port far outside its three changes a word
of table 0x20 that is in force. -/
theorem not_transactionDiscards : ¬ Obligations.TransactionDiscards := by
  intro h
  obtain ⟨-, habort, -⟩ := h farMember farMember_wf (by decide) (by decide)
  obtain ⟨t, ht, hgone⟩ := habort ⟨63, 1, 0⟩ 4 (by decide) rfl rfl (by decide) rfl (by decide) rfl
  obtain ⟨-, -, hsame⟩ := hgone (by decide)
  obtain rfl : recvAbort 0 farMember = t := by
    rw [farMember_abort] at ht
    exact Host.Outcome.next.inj ht
  have hword := hsame 0x20 7 (by decide) (by decide)
  rw [farMember_after, farMember_before] at hword
  exact absurd hword (by decide)

/-- Refutes O32: the missing vote ends the transaction of a root that is itself stranded, whose route to node 1 names a
port far outside its three, and a word of table 0x20 that is in force changes. -/
theorem not_groupTransactions : ¬ Obligations.GroupTransactions := by
  rintro ⟨-, hroot⟩
  obtain ⟨-, hrefused, -⟩ := hroot farRoot farRoot_wf (by decide) rfl rfl rfl
  obtain ⟨t, ht, -, -, -, -, -, -, -, -, hsame⟩ := hrefused 2 0 0 9 rfl (by decide) farRoot_refusal
  obtain rfl : decide2 farRoot = t := by
    rw [farRoot_timeout] at ht
    exact Host.Outcome.next.inj ht
  have hword := hsame 0x20 7 (by decide) (by decide)
  rw [farRoot_after, farRoot_before] at hword
  exact absurd hword (by decide)
end


section
/-! Sending packets leaves the transaction's registers alone; the words of a memory cut down to some tables. -/

namespace Sys2Proof.Machine

/-- A memory cut down to the keys of a predicate reads as before at those keys, and its default at the others. -/
theorem cellGet_filter {α : Type} [DecidableEq α] {d : Nat → α} (q : Nat → Bool) (k : Nat) :
    ∀ {m : List (Nat × α)} {lo : Nat}, cellsWf d lo m = true →
      cellGet d (m.filter (fun p => q p.1)) k = if q k then cellGet d m k else d k
  | [], _, _ => by simp [cellGet]
  | (a, v) :: m, lo, h => by
    simp only [cellsWf, Bool.and_eq_true, decide_eq_true_eq] at h
    have ih := cellGet_filter q k h.2
    have hrest := cellsWf_filter (p := fun p => q p.1) h.2
    rw [List.filter_cons]
    by_cases ha : a = k
    · subst ha
      cases hq : q a
      · rw [if_neg (by simp), ih]; simp [hq]
      · simp [cellGet]
    · by_cases hk : k < a
      · have hd : cellGet d (m.filter (fun p => q p.1)) k = d k := cellGet_below (lo := a + 1) (by omega) hrest
        cases q a <;> simp [cellGet, ha, hk, hd]
      · cases q a <;> simp [cellGet, ha, hk, ih]

theorem keyTable_tkey {tb a : Nat} (h : a < 2 ^ 24) : keyTable (tkey tb a) = tb := by
  unfold keyTable tkey; omega

/-- A cask reads every cask-able word as it is in force at BEGIN (R24). -/
theorem caskCells_get {s : State} (hw : tblWf s = true) {tb a : Nat} (ha : a < 2 ^ 24) (hc : caskable tb = true) :
    cellGet tblDefault (caskCells s.tbl) (tkey tb a) = tget s tb a := by
  refine (cellGet_filter (fun k => caskable (keyTable k)) (tkey tb a) hw).trans ?_
  rw [keyTable_tkey ha, if_pos hc]; rfl

/-! ### Sending -/

theorem sendCredit_txn (p cls : Nat) (init : Bool) (n : Nat) (s : State) : (sendCredit p cls init n s).txn = s.txn := by
  unfold sendCredit
  dsimp only
  (repeat' split) <;> rfl

theorem settleCopy_txn (s : State) (pkt : Packet) : (settleCopy s pkt).txn = s.txn := by
  unfold settleCopy creditBack
  split
  · rfl
  · split
    · rfl
    · dsimp only
      split
      · rfl
      · rw [sendCredit_txn]; split <;> rfl

theorem drain_txn (p : Nat) (s : State) : (drain p s).txn = s.txn :=
  (foldl_same (π := State.txn) settleCopy_txn _ _).trans rfl

theorem sendOn_txn (p : Nat) (pkt : Packet) (s : State) : (sendOn p pkt s).txn = s.txn := by
  unfold sendOn
  dsimp only
  split
  · exact settleCopy_txn s pkt
  · split
    · rfl
    · split
      · exact drain_txn p _
      · exact settleCopy_txn _ pkt

theorem sendTree_txn (e : Option Nat) (pkt : Packet) (s : State) : (sendTree e pkt s).txn = s.txn := by
  refine foldl_same (π := State.txn) (fun st p => ?_) _ s
  split
  · exact sendOn_txn p pkt st
  · rfl

theorem broadcast_txn (type cls : Nat) (words : List Word) (s : State) : (broadcast type cls words s).txn = s.txn :=
  sendTree_txn none _ _

end Sys2Proof.Machine
end

section
/-! TXN_CTL writes where the port answers (O28, O29). -/

namespace Sys2Proof.Machine

open Sys2Proof.Claims

theorem coreRuns_of_decodes {s : State} (h : portDecodes s = true) : coreRuns s = true := (Bool.and_eq_true_iff.mp h).1

/-- What every TXN_CTL write of an operation but NONE stores first (R49). -/
def txnStored (c : TxnCtl) (s : State) : State := { s with txn.view := c.view, txn.kindWritten := c.kind.toNat }

theorem txnBegin_exec {s : State} (h : portDecodes s = true) (c : TxnCtl) :
    exec (.txnBegin c) s = .next (txnBegin c (txnStored c s)) :=
  congrArg Host.Outcome.next (if_pos h)

/-- A lees record of a transaction event reads no register of the transaction but those it names. -/
theorem lees_withTxn {s : State} (hr : coreRuns s = true) (hf : logsFree s = true) (x : Txn) (b c : Nat) (d : List Nat) :
    lees b c d { s with txn := x } = { s with txn := x, nvm.leesQ := s.nvm.leesQ ++ [leesRec s b c d] } :=
  lees_queued (s := { s with txn := x }) hr hf b c d

theorem txnExists_iff {s : State} : txnExists s = true ↔ s.txn.phase ≠ .none := bne_iff_ne

theorem txnExists_false {s : State} : txnExists s = false ↔ s.txn.phase = .none := bne_eq_false_iff_eq

/-- BEGIN with a transaction there sets NESTED (R23). -/
theorem txnBegin_nested {s : State} (h : s.txn.phase ≠ .none) (c : TxnCtl) :
    txnBegin c s = { s with txn.nested := true } := if_pos (txnExists_iff.mpr h)

/-- BEGIN of a fabric-wide transaction off the root is refused (R40). -/
theorem txnBegin_refused {s : State} {c : TxnCtl} (h : s.txn.phase = .none) (hb : c.bcast = true)
    (hr : isRoot s = false) : txnBegin c s = txnRefuse 7 s := by
  simp [txnBegin, txnExists_false.mpr h, hb, hr]

/-- BEGIN of a local transaction (R24). -/
theorem txnBegin_local {s : State} {c : TxnCtl} (h : s.txn.phase = .none) (hb : c.bcast = false) :
    txnBegin c s = txnLees 0x81 { s with
      txn.phase := .opened, txn.scope := .localScope, txn.tag := c.tag.toNat, txn.bcast := false, txn.group := 0
      txn.late := none, txn.strandedMask := 0, txn.cask := some { mem := caskCells s.tbl }
      txn.fault := 0, txn.faultAt := 0, txn.reason := 0, txn.peer := 0
      txn.leaseEnd := s.tk + msTk s.txn.lease } := by
  simp [txnBegin, txnExists_false.mpr h, hb, txnRenew, txnMember, txnClearFault]

/-- BEGIN of a fabric-wide transaction on the root (R40); the broadcast and the record change no register of it. -/
theorem txnBegin_root {s : State} {c : TxnCtl} (h : s.txn.phase = .none) (hb : c.bcast = true) (hr : isRoot s = true) :
    (txnBegin c s).txn = { s.txn with
      phase := .opened, scope := .root, tag := c.tag.toNat, bcast := true, group := groupMask s s.vine.fabGroup
      late := none, strandedMask := 0
      cask := if bit (groupMask s s.vine.fabGroup) 1 then some { mem := caskCells s.tbl } else none
      fault := 0, faultAt := 0, reason := 0, peer := 0, leaseEnd := s.tk + msTk s.txn.lease } := by
  simp [txnBegin, txnExists_false.mpr h, hb, hr, broadcast_txn, txnLees, txnRenew, txnMember, txnClearFault]

theorem isSome_ifTrue {α : Type} (b : Bool) (x : α) : (if b then some x else none).isSome = b := by cases b <;> rfl

end Sys2Proof.Machine

open Sys2Proof.Machine Sys2Proof.Claims

/-- Settles O28: BEGIN by whether a transaction is there, by BCAST and by the node. -/
theorem transactionBegins : Obligations.TransactionBegins := by
  intro s c hw hp
  have does {t : State} (ht : txnBegin c (txnStored c s) = t) : exec (.txnBegin c) s = .next t :=
    (txnBegin_exec hp c).trans (congrArg _ ht)
  refine ⟨fun h hb hf => does ?_, fun tb a ha hc => caskCells_get hw.tbl ha hc,
    fun h => does (txnBegin_nested (s := txnStored c s) h c),
    fun h hb hr => does (txnBegin_refused (s := txnStored c s) h hb hr), fun h hb hr => ⟨_, does rfl, ?_⟩⟩
  · rw [txnBegin_local (s := txnStored c s) h hb, txnLees, msTk, Nat.mul_comm]
    exact lees_withTxn (coreRuns_of_decodes hp) hf _ _ _ _
  · rw [txnBegin_root (s := txnStored c s) h hb hr]
    refine ⟨rfl, rfl, rfl, rfl, ?_, ?_⟩
    · simp [txnStored, msTk, Nat.mul_comm]
    · exact isSome_ifTrue _ _
end


section
/-! Writes to cask-able tables, and TXN_CTL writes that are refused (O29). -/

namespace Sys2Proof.Machine

open Sys2Proof.Claims

/-! ### The table window -/

/-- A TBL_DATA write to a stored word of a cask-able table (R25, R39, R69). -/
theorem tblDataWrite_caskable {s : State} (hc : clocked s = true) (hr : inRest s = false)
    (ht : caskable s.host.tblSel.toNat = true) (ha : s.host.tblAddr.toNat < tblLen s.host.tblSel.toNat)
    (hm : ckMask s.host.tblSel.toNat s.host.tblAddr.toNat ≠ 0) (inc : Bool) (d : Word) :
    exec (.tblDataWrite inc d) s = .next (incAddr inc (ckWrite s.host.tblSel.toNat s.host.tblAddr.toNat
      (d &&& word (ckMask s.host.tblSel.toNat s.host.tblAddr.toNat)) s)) := by
  have hup : s.boot.phase = .up := by simpa [isUp] using isUp_of_clocked hc
  have hp : portDecodes s = true := by
    simp [portDecodes, coreRuns_of_clocked hc, (Bool.and_eq_true_iff.mp hc).2]
  have hknown : tblKnown s s.host.tblSel.toNat = true := by
    simp only [tblKnown, hup]
    exact bne_iff_ne.mpr (by omega)
  have hans : answers s 0x0F = true := by simp [answers, hup, isListed]
  have hwin : windowWrite inc d s = incAddr inc (ckWrite s.host.tblSel.toNat s.host.tblAddr.toNat
      (d &&& word (ckMask s.host.tblSel.toNat s.host.tblAddr.toNat)) s) := by
    simp [windowWrite, selTable, hknown, Nat.not_le.mpr ha, tblWrite, ht, hm]
  have hnode : nodeWrite 0x0F inc d s = windowWrite inc d s := by
    simp [nodeWrite, nodeAccess, hans, isAnchor, routedWrite]
  have : typedWrite 0x0F inc d s = nodeWrite 0x0F inc d s := by
    simp [typedWrite, hp, isAnchor, routedOp_acts hr]
  exact congrArg Host.Outcome.next (this.trans (hnode.trans hwin))

theorem incAddr_eq (inc : Bool) (s : State) :
    incAddr inc s = { s with host.tblAddr := if inc then s.host.tblAddr + 1 else s.host.tblAddr } := by
  cases inc <;> rfl

/-! ### The cask -/

theorem cask_wf {s : State} (hw : WfState s) {k : Cask} (hk : s.txn.cask = some k) :
    cellsWf tblDefault 0 k.mem = true := by
  have := hw.cask
  unfold caskWf at this
  rwa [hk] at this

/-- An open cask after a write to word `a` of table `t`. -/
def caskAfter (k : Cask) (t a : Nat) (d : Word) : Cask :=
  { mem := cellSet tblDefault (tkey t a) d k.mem
    touched := if k.touched.contains (t, caskEntry t a) then k.touched else k.touched ++ [(t, caskEntry t a)] }

theorem caskAfter_get {k : Cask} (hk : cellsWf tblDefault 0 k.mem = true) (t a : Nat) (d : Word) (key : Nat) :
    cellGet tblDefault (caskAfter k t a d).mem key = if key = tkey t a then d else cellGet tblDefault k.mem key := by
  by_cases h : key = tkey t a
  · rw [if_pos h, h]
    exact cellGet_cellSet_same hk
  · rw [if_neg h]
    exact cellGet_cellSet_other h hk

theorem mem_caskAfter (k : Cask) (t a : Nat) (d : Word) (e : Nat × Nat) :
    e ∈ (caskAfter k t a d).touched ↔ e ∈ k.touched ∨ e = (t, caskEntry t a) := by
  simp only [caskAfter]
  split
  · rename_i h
    exact ⟨.inl, fun h' => h'.elim id (fun he => he ▸ List.contains_iff_mem.mp h)⟩
  · simp

/-- A write with an open transaction goes into its cask and renews the lease (R24, R25). -/
theorem ckWrite_open {s : State} {k : Cask} (hk : s.txn.cask = some k) (ho : s.txn.phase = .opened)
    (hs : s.txn.scope ≠ .member) (t a : Nat) (d : Word) : ckWrite t a d s = { s with
      txn.cask := some (caskAfter k t a d), txn.leaseEnd := s.tk + 250000 * s.txn.lease } := by
  simp [ckWrite, hk, ho, caskWrite, txnRenew, txnMember, hs, caskAfter, msTk, Nat.mul_comm]

/-- A write without a transaction while the block runs is discarded with BUSY (R39). -/
theorem ckWrite_busy {s : State} {t a : Nat} (hk : s.txn.cask = none) (hi : entryIdle s t (caskEntry t a) = false)
    (d : Word) : ckWrite t a d s = { s with txn.busy := true } := by
  simp [ckWrite, hk, directWrite, hi]

/-! ### TXN_CTL -/

/-- NONE of the open transaction renews its lease, but a member's (R24, R41, R49). -/
theorem txnNone_eq {s : State} (hp : portDecodes s = true) (c : TxnCtl) : exec (.txnNone c) s =
    .next (if s.txn.phase = .opened ∧ c.tag.toNat = s.txn.tag ∧ s.txn.scope ≠ .member
      then { s with txn.view := c.view, txn.leaseEnd := s.tk + 250000 * s.txn.lease } else { s with txn.view := c.view }) := by
  refine (congrArg Host.Outcome.next (if_pos hp)).trans (congrArg _ ?_)
  by_cases hm : s.txn.scope = .member
  · simp [txnCtl, txnRenew, txnMember, hm]
  · simp [txnCtl, txnRenew, txnMember, hm, msTk, Nat.mul_comm]

/-- A COMMIT refused at its write, where its record goes into the queue. -/
theorem refuseCommit_eq {s : State} (hp : portDecodes s = true) (hf : logsFree s = true) (x : Txn) (tag : Byte)
    (kind r : Nat) : refuseCommit tag kind r { s with txn := x } = { s with
      nvm.leesQ := s.nvm.leesQ ++ [leesRec s 0x02 0x83 [tag.toNat, kind, r]]
      txn := { x with refused := true, fault := 0, faultAt := 0, reason := r, peer := 0 } } :=
  lees_withTxn (coreRuns_of_decodes hp) hf _ _ _ _

theorem txnReservedOp_eq {s : State} (hp : portDecodes s = true) (c : TxnCtl) {op : BitVec 3} (h : 5 ≤ op.toNat) :
    exec (.txnReservedOp op c) s = .next (txnRefuse 5 { s with txn.view := c.view }) := by
  have h0 : ¬ op.toNat = 0 := by omega
  have h2 : ¬ op.toNat = 2 := by omega
  refine (if_neg (by omega)).trans (congrArg Host.Outcome.next ((if_pos hp).trans ?_))
  simp [txnCtl, h0, h2, h]

/-- COMMIT with a reserved KIND (R50). -/
theorem txnCommit_reservedKind {s : State} (hp : portDecodes s = true) {c : TxnCtl} (h : 5 ≤ c.kind.toNat) :
    exec (.txnCommit c) s = .next (refuseCommit c.tag c.kind.toNat 5 { s with txn.view := c.view }) := by
  refine congrArg Host.Outcome.next ((if_pos hp).trans ?_)
  simp [txnCtl, h]

theorem txnCommit_exec {s : State} (hp : portDecodes s = true) {c : TxnCtl} (h : c.kind.toNat < 5) :
    exec (.txnCommit c) s = .next (txnAct 2 c (txnStored c s)) := by
  refine congrArg Host.Outcome.next ((if_pos hp).trans ?_)
  simp [txnCtl, Nat.not_le.mpr h, txnStored]

theorem txnRollback_exec {s : State} (hp : portDecodes s = true) (c : TxnCtl) :
    exec (.txnRollback c) s = .next (txnAct 3 c (txnStored c s)) :=
  congrArg Host.Outcome.next (if_pos hp)

theorem txnAbort_exec {s : State} (hp : portDecodes s = true) (c : TxnCtl) :
    exec (.txnAbort c) s = .next (txnAct 4 c (txnStored c s)) :=
  congrArg Host.Outcome.next (if_pos hp)

section
variable {s : State} {c : TxnCtl}

/-- COMMIT, ROLLBACK and ABORT without a transaction (R50). -/
theorem txnAct_none (h : s.txn.phase = .none) (op : Nat) : txnAct op c s =
    if op = 2 then refuseCommit c.tag c.kind.toNat 6 s else txnRefuse 6 s := by
  simp [txnAct, txnExists_false.mpr h]

/-- COMMIT, ROLLBACK and ABORT with the tag of another transaction (R27). -/
theorem txnAct_tag (h : s.txn.phase ≠ .none) (ht : c.tag.toNat ≠ s.txn.tag) (op : Nat) : txnAct op c s =
    if op = 2 then lees 0x02 0x83 [c.tag.toNat, c.kind.toNat, s.txn.reason] { s with txn.tagerr := true }
    else { s with txn.tagerr := true } := by
  simp [txnAct, txnExists_iff.mpr h, ht]

/-- COMMIT, ROLLBACK and ABORT on a member (R40). -/
theorem txnAct_member (h : s.txn.phase ≠ .none) (ht : c.tag.toNat = s.txn.tag) (hm : s.txn.scope = .member)
    (op : Nat) : txnAct op c s = if op = 2 then refuseCommit c.tag c.kind.toNat 7 s else txnRefuse 7 s := by
  simp [txnAct, txnExists_iff.mpr h, ht, txnMember, hm]

/-- COMMIT of this node's own transaction renews the lease of an open one first (R24). -/
theorem txnAct_commit (h : s.txn.phase ≠ .none) (ht : c.tag.toNat = s.txn.tag) (hm : s.txn.scope ≠ .member) :
    txnAct 2 c s = txnCommit c (if s.txn.phase = .opened then txnRenew s else s) := by
  simp [txnAct, txnExists_iff.mpr h, ht, txnMember, hm]

theorem txnCommit_resolving (h : resolving s = true) : txnCommit c s = lateCommit c.kind.toNat s := if_pos h

/-- COMMIT of a transaction that is neither open nor resolving (R29). -/
theorem txnCommit_notOpen (ho : s.txn.phase ≠ .opened) (hr : resolving s = false) :
    txnCommit c s = refuseCommit c.tag c.kind.toNat 10 s := by
  simp [txnCommit, ho, hr]

/-- What the late COMMIT of a resolving root stores (R47). -/
theorem lateCommit_txn (kind : Nat) : (lateCommit kind s).txn = { s.txn with
    fault := 0, faultAt := 0, reason := 0, peer := 0
    late := some (kind, BitVec.ofNat 32 (if kind = 3 then tnat32 s 0x06 0 else 0)) } := by
  simp [lateCommit, broadcast_txn, txnClearFault]

end

theorem resolving_false {s : State} (hp : s.txn.phase ≠ .resolving) (hm : s.txn.scope = .root → s.txn.strandedMask = 0) :
    resolving s = false := by
  have : (s.txn.phase == TxnPhase.resolving) = false := by simpa using hp
  by_cases hs : s.txn.scope = .root
  · simp [resolving, this, hm hs]
  · simp [resolving, this, txnRoot, hs]

theorem resolving_root {s : State} (h : s.txn.phase ≠ .none) (hs : s.txn.scope = .root) (hm : s.txn.strandedMask ≠ 0) :
    resolving s = true := by
  simp [resolving, txnRoot, hs, txnExists_iff.mpr h, hm]

/-- The late COMMIT keeps the transaction as it is but for the KIND it carries and the fault values (R29, R47). -/
theorem txnCommit_late {s : State} {c : TxnCtl} (h : s.txn.phase ≠ .none) (hs : s.txn.scope = .root)
    (hm : s.txn.strandedMask ≠ 0) (ht : c.tag.toNat = s.txn.tag) :
    ∃ e, (txnAct 2 c s).txn = { s.txn with
      leaseEnd := e, fault := 0, faultAt := 0, reason := 0, peer := 0
      late := some (c.kind.toNat, BitVec.ofNat 32 (if c.kind.toNat = 3 then tnat32 s 0x06 0 else 0)) } := by
  obtain ⟨e, he⟩ : ∃ e, (if s.txn.phase = .opened then txnRenew s else s) = { s with txn.leaseEnd := e } := by
    split
    · exact ⟨s.tk + msTk s.txn.lease, by simp [txnRenew, txnMember, hs]⟩
    · exact ⟨s.txn.leaseEnd, rfl⟩
  rw [txnAct_commit h ht (by rw [hs]; decide), he,
    txnCommit_resolving (resolving_root (s := { s with txn.leaseEnd := e }) h hs hm), lateCommit_txn]
  exact ⟨e, rfl⟩

end Sys2Proof.Machine

open Sys2Proof.Machine Sys2Proof.Claims

/-- Settles O29: writes by the state of the cask, TXN_CTL writes by what they are refused for. -/
theorem transactionWritesAndRefusals : Obligations.TransactionWritesAndRefusals := by
  constructor
  · intro s inc d hw hc tb a addr
    refine ⟨?_, ?_, ?_⟩
    · intro k hr ht ha hm hk ho hs
      refine ⟨caskAfter k tb a (d &&& Sys2Proof.word (ckMask tb a)), ?_, caskAfter_get (cask_wf hw hk) _ _ _,
        mem_caskAfter _ _ _ _⟩
      rw [tblDataWrite_caskable hc hr ht ha hm, ckWrite_open hk ho hs, incAddr_eq]
    · intro hr ht ha hm hk hi
      rw [tblDataWrite_caskable hc hr ht ha hm, ckWrite_busy hk hi, incAddr_eq]
    · exact fun c => txnNone_eq (by simp [portDecodes, coreRuns_of_clocked hc, (Bool.and_eq_true_iff.mp hc).2]) c
  · intro s c hp refused w rcd refusedCommit
    have commit {t : State} (hw5 : w < 5) (ht : txnAct 2 c (txnStored c s) = t) : exec (.txnCommit c) s = .next t :=
      (txnCommit_exec hp hw5).trans (congrArg _ ht)
    have roll {t : State} (ht : txnAct 3 c (txnStored c s) = t) : exec (.txnRollback c) s = .next t :=
      (txnRollback_exec hp c).trans (congrArg _ ht)
    have abort {t : State} (ht : txnAct 4 c (txnStored c s) = t) : exec (.txnAbort c) s = .next t :=
      (txnAbort_exec hp c).trans (congrArg _ ht)
    refine ⟨fun op h => txnReservedOp_eq hp c h, fun hf h => ?_, fun h => ⟨fun hf h5 => ?_, ?_, ?_⟩,
      fun h ht hm => ⟨fun hf h5 => ?_, ?_, ?_⟩, fun h ht => ?_, fun h ht hm hr hf h5 => ?_,
      fun h hs hm ht h5 => ?_⟩
    · exact (txnCommit_reservedKind hp h).trans (congrArg _ (refuseCommit_eq hp hf _ _ _ _))
    · exact commit h5 ((txnAct_none (s := txnStored c s) h 2).trans (refuseCommit_eq hp hf _ _ _ _))
    · exact roll (txnAct_none (s := txnStored c s) h 3)
    · exact abort (txnAct_none (s := txnStored c s) h 4)
    · exact commit h5 ((txnAct_member (s := txnStored c s) h ht hm 2).trans (refuseCommit_eq hp hf _ _ _ _))
    · exact roll (txnAct_member (s := txnStored c s) h ht hm 3)
    · exact abort (txnAct_member (s := txnStored c s) h ht hm 4)
    · refine ⟨fun hf h5 => ?_, roll (txnAct_tag (s := txnStored c s) h ht 3), abort (txnAct_tag (s := txnStored c s) h ht 4)⟩
      exact commit h5 ((txnAct_tag (s := txnStored c s) h ht 2).trans
        (lees_withTxn (coreRuns_of_decodes hp) hf _ _ _ _))
    · simp only [List.mem_cons, List.not_mem_nil, or_false, not_or] at h
      obtain ⟨hn, ho, hres⟩ := h
      refine commit h5 ((txnAct_commit (s := txnStored c s) hn ht hm).trans ?_)
      rw [if_neg (show ¬ (txnStored c s).txn.phase = .opened from ho)]
      exact (txnCommit_notOpen (s := txnStored c s) ho (resolving_false hres hr)).trans (refuseCommit_eq hp hf _ _ _ _)
    · obtain ⟨e, he⟩ := txnCommit_late (s := txnStored c s) h hs hm ht
      refine ⟨_, commit h5 rfl, ?_⟩
      rw [he]
      exact ⟨rfl, rfl, rfl, rfl, rfl, rfl⟩
end


section
/-! What a decant puts in force, and what the operations that follow it leave alone (O30). -/

namespace Sys2Proof.Machine

/-! ### The words of a decant -/

/-- Words put into a memory in canonical form are read there; the other words stay. -/
theorem cellGet_putCells (key : Nat) : ∀ {l m : Cells} {lo : Nat}, cellsWf tblDefault lo l = true →
    cellsWf tblDefault 0 m = true → cellGet tblDefault (putCells l m) key =
      if cellGet tblDefault l key = tblDefault key then cellGet tblDefault m key else cellGet tblDefault l key
  | [], _, _, _, _ => by simp [putCells, cellGet]
  | (a, v) :: l, m, lo, hl, hm => by
    simp only [cellsWf, Bool.and_eq_true, decide_eq_true_eq] at hl
    have ih := cellGet_putCells key hl.2 (cellSet_wf (k := a) (v := v) (Nat.zero_le _) hm)
    refine (show _ = cellGet tblDefault (putCells l (cellSet tblDefault a v m)) key from rfl).trans (ih.trans ?_)
    by_cases ha : key = a
    · subst ha
      have hb : cellGet tblDefault l key = tblDefault key := cellGet_below (lo := key + 1) (by omega) hl.2
      rw [if_pos hb, cellGet_cellSet_same hm]
      simp [cellGet, hl.1.2]
    · rw [cellGet_cellSet_other ha hm]
      by_cases hlt : key < a
      · have hb : cellGet tblDefault l key = tblDefault key := cellGet_below (lo := a + 1) (by omega) hl.2
        simp [cellGet, Ne.symm ha, hlt, hb]
      · simp [cellGet, Ne.symm ha, hlt]

theorem putCells_wf : ∀ {l m : Cells}, cellsWf tblDefault 0 m = true → cellsWf tblDefault 0 (putCells l m) = true
  | [], _, h => h
  | _ :: l, _, h => putCells_wf (l := l) (cellSet_wf (Nat.zero_le _) h)

theorem decantCells_wf (k : Cask) {m : Cells} (h : cellsWf tblDefault 0 m = true) :
    cellsWf tblDefault 0 (decantCells k m) = true := putCells_wf (cellsWf_filter h)

/-- A decant gives every word of the tables touched the cask's value, and the others their own (R32). -/
theorem decantCells_get {k : Cask} {m : Cells} (hk : cellsWf tblDefault 0 k.mem = true)
    (hm : cellsWf tblDefault 0 m = true) (key : Nat) : cellGet tblDefault (decantCells k m) key =
      if hasT k.touched [keyTable key] then cellGet tblDefault k.mem key else cellGet tblDefault m key := by
  have mine := cellGet_filter (fun x => hasT k.touched [keyTable x]) key hk
  have others := cellGet_filter (fun x => !hasT k.touched [keyTable x]) key hm
  refine (cellGet_putCells key (cellsWf_filter hk) (cellsWf_filter hm)).trans ?_
  rw [mine, others]
  cases hasT k.touched [keyTable key]
  · simp
  · by_cases h : cellGet tblDefault k.mem key = tblDefault key <;> simp [h]

/-! ### What follows a decant -/

/-- From `s` to `t` no cask-able word changes but those of table 0x43, no pending interrupt is lost, and the registers
of the transaction and of the boundaries stay. -/
structure Spares (s t : State) : Prop where
  wf : tblWf s = true → tblWf t = true
  words : tblWf s = true → ∀ tb a, a < 2 ^ 24 → caskable tb = true → tb ≠ 0x43 → tget t tb a = tget s tb a
  irq : ∀ n, s.host.irqPend.getLsbD n = true → t.host.irqPend.getLsbD n = true
  txn : t.txn = s.txn
  bnd : t.bnd = s.bnd

namespace Spares

/-- A step that touches neither the tables nor the pending interrupts. -/
theorem of_eq {s t : State} (htbl : t.tbl = s.tbl := by rfl) (hirq : t.host.irqPend = s.host.irqPend := by rfl)
    (htxn : t.txn = s.txn := by rfl) (hbnd : t.bnd = s.bnd := by rfl) : Spares s t :=
  ⟨fun h => (tblWf_congr htbl).trans h, fun _ _ _ _ _ _ => by rw [tget_congr htbl], fun _ h => by rw [hirq]; exact h, htxn, hbnd⟩

theorem refl (s : State) : Spares s s := of_eq

theorem trans {s t u : State} (h : Spares s t) (h' : Spares t u) : Spares s u :=
  ⟨fun hw => h'.wf (h.wf hw), fun hw tb a ha hc hn => (h'.words (h.wf hw) tb a ha hc hn).trans (h.words hw tb a ha hc hn),
    fun n hn => h'.irq n (h.irq n hn), h'.txn.trans h.txn, h'.bnd.trans h.bnd⟩

theorem ite {c : Prop} [Decidable c] {s a b : State} (ha : c → Spares s a) (hb : ¬ c → Spares s b) :
    Spares s (if c then a else b) := by
  split
  · exact ha ‹_›
  · exact hb ‹_›

theorem foldl {β : Type} {f : State → β → State} (l : List β) (s : State) (hf : ∀ t, ∀ x ∈ l, Spares t (f t x)) :
    Spares s (l.foldl f s) := by
  induction l generalizing s with
  | nil => exact refl s
  | cons x l ih => exact (hf s x (.head l)).trans (ih _ (fun t y hy => hf t y (.tail x hy)))

/-- A word of a table that no cask holds, or of table 0x43. -/
theorem tset (tb a : Nat) (v : Word) (s : State) (ha : a < 2 ^ 24) (h : caskable tb = false ∨ tb = 0x43) :
    Spares s (tset tb a v s) := by
  refine ⟨fun hw => tset_wf hw _ _ _, fun hw tb' a' ha' hc hn => ?_, fun _ h => h, rfl, rfl⟩
  refine tget_tset_other hw (fun he => ?_) v
  obtain ⟨rfl, -⟩ := (tkey_inj ha' ha).mp he
  rcases h with h | h
  · rw [h] at hc; cases hc
  · exact hn h

theorem tsetRun (tb : Nat) (h : caskable tb = false ∨ tb = 0x43) : ∀ (vs : List Word) (a : Nat) (s : State),
    a + vs.length ≤ 2 ^ 24 → Spares s (tsetRun tb a vs s)
  | [], _, s, _ => refl s
  | v :: vs, a, s, hl => by
    rw [List.length_cons] at hl
    have hrun : Machine.tsetRun tb a (v :: vs) s = Machine.tsetRun tb (a + 1) vs (Machine.tset tb a v s) := by
      simp only [Machine.tsetRun, Machine.tset, cellSetRun, tkey, Nat.add_assoc]
    rw [hrun]
    exact (tset tb a v s (by omega) h).trans (tsetRun tb h vs (a + 1) (Machine.tset tb a v s) (by omega))

theorem bump (tb a : Nat) (s : State) (ha : a < 2 ^ 24) (h : caskable tb = false) : Spares s (bump tb a s) :=
  tset tb a _ s ha (.inl h)

theorem raise (n : Nat) (s : State) : Spares s (raise n s) :=
  ⟨fun h => h, fun _ _ _ _ _ _ => rfl, fun m h => by rw [irqPend_raise, h]; rfl, rfl, rfl⟩

theorem recErr (b c : Nat) (s : State) : Spares s (recErr b c s) := by
  refine ⟨fun h => (tblWf_congr (recErr_tbl s b c)).trans h, fun _ _ _ _ _ _ => by rw [tget_congr (recErr_tbl s b c)],
    fun n h => ?_, recErr_txn s b c, recErr_bnd s b c⟩
  unfold Machine.recErr errNoted
  split
  · show (if _ then _ else _ : HostPort).irqPend.getLsbD n = true
    split
    · exact (raise irqErr s).irq n h
    · exact h
  · exact h

theorem lees (b c : Nat) (d : List Nat) (s : State) : Spares s (lees b c d s) := by
  unfold Machine.lees
  dsimp only
  refine ite (fun _ => bump _ _ _ (by decide) (by decide)) fun _ => ite (fun _ => of_eq) fun _ => ite (fun _ => of_eq) fun _ =>
    ite (fun _ => of_eq) fun _ => (bump 0x89 4 s (by decide) (by decide)).trans (recErr _ _ _)

theorem txnLees (code : Nat) (s : State) : Spares s (txnLees code s) := lees 2 code _ s

theorem recErrLees (b c : Nat) (d : List Nat) (s : State) : Spares s (recErrLees b c d s) :=
  (recErr b c s).trans (lees b c d _)

theorem setAxis (n : Nat) (f : Axis → Axis) (s : State) : Spares s (setAxis n f s) := of_eq

theorem setValve (n : Nat) (f : Valve → Valve) (s : State) : Spares s (setValve n f s) := of_eq

theorem motErr (c : Nat) (s : State) : Spares s (motErr c s) := (recErr 9 c s).trans (raise _ _)

theorem motRefuse (n c : Nat) (s : State) : Spares s (motRefuse n c s) := (setAxis n _ s).trans (motErr c _)

/-! ### Axes -/

theorem setPlan (n mode : Nat) (x : Int) (cap : Option Nat) (b : Bool) (t0 : Nat) (s : State) :
    Spares s (setPlan n mode x cap b t0 s) := by
  unfold Machine.setPlan
  dsimp only
  exact ite (fun _ => (setAxis n _ s).trans ((setAxis n _ _).trans (motErr 3 _))) (fun _ => setAxis n _ s)

theorem startMove (n : Nat) (m : Move) (cap : Option Nat) (s : State) : Spares s (startMove n m cap s) :=
  (setAxis n _ s).trans (setPlan _ _ _ _ _ _ _)

theorem keepGo (n : Nat) (m : Move) (b : Bool) (s : State) : Spares s (keepGo n m b s) := setAxis n _ s

theorem takePermit (n : Nat) (m : Move) (s : State) : Spares s (takePermit n m s) := by
  unfold Machine.takePermit
  split
  · exact keepGo n m true s
  · rename_i v rest _
    have h : Spares s (Machine.startMove n m (some (v * 1000 * tnat32 s 0x60 257 / (64 * 65536)))
        { s with mot.permits := rest }) := Spares.trans of_eq (startMove n m _ _)
    exact ite (fun _ => h.trans ((setAxis n _ _).trans (raise _ _))) (fun _ => h)

theorem runMove (n : Nat) (m : Move) (s : State) : Spares s (runMove n m s) :=
  ite (fun _ => keepGo n m false s) fun _ => ite (fun _ => takePermit n m s) fun _ => startMove n m none s

theorem renewPlan (n : Nat) (p : Plan) (t0 : Nat) (s : State) : Spares s (renewPlan n p t0 s) :=
  ite (fun _ => setPlan _ _ _ _ _ _ s) (fun _ => setAxis n _ s)

theorem camEngage (n : Nat) (c : Cam) (s : State) : Spares s (camEngage n c s) :=
  ite (fun _ => motRefuse n 1 s) (fun _ => setAxis n _ s)

theorem resumeAxis (old : State) (n : Nat) (s : State) : Spares s (resumeAxis old n s) := by
  have start : Spares s (match (axisOf s n).next with
      | some p => if axisHeld old n && !axMoving s n && decide (p.t0 ≤ s.tk) then Machine.renewPlan n p s.tk s else s
      | none => s) := by
    split
    · exact ite (fun _ => renewPlan n _ _ s) (fun _ => refl s)
    · exact refl s
  unfold Machine.resumeAxis
  dsimp only
  refine ite (fun _ => start) (fun _ => ?_)
  split
  · exact ite (fun _ => start) (fun _ => start.trans ((setAxis n _ _).trans (runMove n _ _)))
  · exact ite (fun _ => start) (fun _ => start.trans ((setAxis n _ _).trans (camEngage n _ _)))
  · exact start

theorem replanAxis (n : Nat) (s : State) : Spares s (replanAxis n s) := by
  unfold Machine.replanAxis
  dsimp only
  split
  · exact setPlan _ _ _ _ _ _ s
  · exact setPlan _ _ _ _ _ _ s
  · exact refl s

theorem axisAfterCask (old : State) (b : Bool) (n : Nat) (s : State) : Spares s (axisAfterCask old b n s) := by
  have h1 : Spares s (if b then Machine.setAxis n (fun a => { a with configured := true }) s else s) :=
    ite (fun _ => setAxis n _ s) (fun _ => refl s)
  have h2 := h1.trans (ite (c := refFilt old n = refFilt s n) (fun _ => refl _)
    (fun _ => setAxis n (fun a => { a with refLevel := none, smpRef := smpNew a.smpRef }) _))
  unfold Machine.axisAfterCask
  dsimp only
  exact ite (fun _ => h2) (fun _ => h2.trans (replanAxis n _))

/-! ### Valves -/

theorem vlvErr (n c : Nat) (s : State) : Spares s (vlvErr n c s) :=
  (ite (fun _ => recErrLees _ c [n] s) (fun _ => recErr _ c s)).trans (raise _ _)

theorem vlvOpenOp (n p : Nat) (s : State) : Spares s (vlvOpenOp n p s) :=
  ite (fun _ => (setValve n _ s).trans (vlvErr n 1 _)) fun _ => ite (fun _ => setValve n _ s) fun _ => setValve n _ s

theorem vlvResume (s : State) : Spares s (vlvResume s) := by
  refine foldl _ s fun t n _ => ?_
  split
  · exact ite (fun _ => refl t) (fun _ => (setValve n _ t).trans (vlvOpenOp n _ _))
  · exact refl t

theorem vlvKeep (old : State) (n : Nat) (s : State) : Spares s (vlvKeep old n s) :=
  ite (fun _ => setValve n _ s) (fun _ => refl s)

theorem vlvResense (old : State) (n : Nat) (s : State) : Spares s (vlvResense old n s) :=
  ite (fun _ => ite (fun _ => refl s) (fun _ => setValve n _ s)) (fun _ => setValve n _ s)

theorem vlvAfterCask (old s : State) : Spares s (vlvAfterCask old s) :=
  (foldl _ s fun t n _ => vlvKeep old n t).trans (foldl _ _ fun t n _ => vlvResense old n t)

theorem resumeHeld (old s : State) : Spares s (resumeHeld old s) :=
  (foldl _ s fun t n _ => resumeAxis old n t).trans (vlvResume _)

/-! ### Position channels, heads and substitution -/

theorem gridInactive (c : Nat) (s : State) : Spares s (gridInactive c s) := ite (fun _ => of_eq) (fun _ => refl s)

theorem encModeDecant (old : State) (c : Nat) (s : State) : Spares s (encModeDecant old c s) := by
  have h : Spares s (if (encOf s c).en && (encMode old c == 2) != (encMode s c == 2) then setEnc c (fun e => { e with
      velHeld := some (encVel old c), velZero := false, lastCount := s.tk, counted := false, intervals := [], ssiGood := [] }) s
      else s) := ite (fun _ => of_eq) (fun _ => refl s)
  exact h.trans ((of_eq (t := setEnc c _ _)).trans (gridInactive c _))

theorem raiseIfNew (old new : BitVec 32) (s : State) : Spares s (raiseIfNew old new s) :=
  ite (fun _ => refl s) (fun _ => Spares.trans of_eq (raise _ _))

theorem headidUpdate (s : State) : Spares s (headidUpdate s) := by
  unfold Machine.headidUpdate setHeadid
  dsimp only
  exact ite (fun _ => raiseIfNew _ _ s) (fun _ => (raiseIfNew _ _ s).trans (Spares.trans of_eq (raise _ _)))

theorem recheckHeads (s : State) : Spares s (recheckHeads s) := by
  refine (foldl _ s fun t h hh => ?_).trans (headidUpdate _)
  have hlt := List.mem_range.mp hh
  exact ite (fun _ => tset _ _ _ t (by omega) (.inl (by decide))) (fun _ => refl t)

theorem afterCask (old : State) (tt : Touched) (s : State) : Spares s (afterCask old tt s) := by
  have h1 := foldl (List.range 8) s (f := fun st c => if encMode old c = encMode st c ∧ encFilt old c = encFilt st c then st
    else Machine.encModeDecant old c st) fun t c _ => ite (fun _ => refl t) (fun _ => encModeDecant old c t)
  have h2 := h1.trans (foldl (List.range 8) _ (f := fun st n => Machine.axisAfterCask old (hasE tt 0x60 n) n st)
    fun t n _ => axisAfterCask old _ n t)
  exact h2.trans ((ite (c := hasT tt [0x20, 0x21] = true) (fun _ => recheckHeads _) (fun _ => refl _)).trans
    (vlvAfterCask old _))

theorem nozzleEvent (type c n : Nat) (delta : Int) (dp : Nat) (s : State) : Spares s (nozzleEvent type c n delta dp s) := by
  have hw : tnat s 0x5A 257 < 2 ^ 16 := (tget s 0x5A 257).isLt
  unfold Machine.nozzleEvent
  dsimp only
  refine ite (fun _ => (bump 0x5A 258 s (by decide) (by decide)).trans (recErr _ _ _)) (fun _ => ?_)
  exact (tsetRun 0x5A (.inl (by decide)) _ _ s (by simp only [List.length_cons, List.length_nil]; omega)).trans
    ((tset _ _ _ _ (by decide) (.inl (by decide))).trans (raise _ _))

theorem freeEntry_lt {m : Cells} {e : Nat} (h : freeEntry m = some e) : e < 1024 := by
  unfold freeEntry at h
  exact List.mem_range.mp (List.mem_of_find?_eq_some h)

/-- An entry of table 0x43 with its CHECK. -/
theorem putEntry {e : Nat} (he : e < 1024) (p : Prepared) (s : State) :
    Spares s { s with tbl := putEntry e p s.tbl } := by
  have h := (tset 0x43 (2 * e) (entryWords p).1 s (by omega) (.inr rfl)).trans
    (tset 0x43 (2 * e + 1) (entryWords p).2 _ (by omega) (.inr rfl))
  exact h.trans (tset 0x43 2048 (0xFFFF - sumWords (cellRun tblDefault (Machine.tset 0x43 (2 * e + 1) (entryWords p).2
    (Machine.tset 0x43 (2 * e) (entryWords p).1 s)).tbl (tkey 0x43 0) 2048)) _ (by omega) (.inr rfl))

theorem applyAgain (s : State) : Spares s (applyAgain s) := by
  refine (of_eq (t := { s with hc.again := [] })).trans (foldl _ _ fun t p _ => ite (fun _ => refl t) (fun _ => ?_))
  split
  · rename_i e he
    exact putEntry (freeEntry_lt he) p t
  · exact nozzleEvent _ _ _ _ _ t

end Spares

end Sys2Proof.Machine
end


section
/-! COMMIT of a local transaction (O30). -/

namespace Sys2Proof.Machine

open Sys2Proof.Claims

/-! ### Validation -/

/-- COMMIT of an open local transaction starts validation and renews the lease (R24, R28). -/
theorem txnCommit_validates {s : State} {c : TxnCtl} (ho : s.txn.phase = .opened) (hl : s.txn.scope = .localScope)
    (ht : c.tag.toNat = s.txn.tag) : txnAct 2 c s = { s with
      txn.leaseEnd := s.tk + 250000 * s.txn.lease, txn.kind := c.kind.toNat, txn.phase := .validating
      txn.validUntil := s.tk + 250000 } := by
  have hrenew : txnRenew s = { s with txn.leaseEnd := s.tk + 250000 * s.txn.lease } := by
    simp [txnRenew, txnMember, hl, msTk, Nat.mul_comm]
  rw [txnAct_commit (by rw [ho]; decide) ht (by rw [hl]; decide), if_pos ho, hrenew]
  simp [txnCommit, resolving, txnRoot, ho, hl]

theorem busyIf_eq (r : Nat) (s : State) : busyIf r s = { s with txn.busy := s.txn.busy || r == 4 } := by
  unfold busyIf
  by_cases h : r = 4
  · simp [h]
  · have hr : (r == 4) = false := by simpa using h
    rw [if_neg h, hr, Bool.or_false]

section
variable {s : State} {k : Cask}

/-- Validation of a local transaction that finds a fault: it is open again with its cask (R29, R30). -/
theorem validated_fault (hp : portDecodes s = true) (hf : logsFree s = true) (hl : s.txn.scope = .localScope)
    (hk : s.txn.cask = some k) (hv : s.txn.phase = .validating) {tb a r : Nat} (hj : judgeCask k s = some (tb, a, r)) :
    validated s = { s with
      nvm.leesQ := s.nvm.leesQ ++ [leesRec s 0x02 0x83 [s.txn.tag, s.txn.kind, r]]
      txn := { s.txn with
        busy := s.txn.busy || r == 4, refused := true, fault := tb, faultAt := if tb = 0 then 0 else a, reason := r
        peer := 0, phase := .opened, leaseEnd := s.tk + 250000 * s.txn.lease } } := by
  have hrec : txnLees 0x83 (txnRefuseAt tb a r 0 { s with txn.busy := s.txn.busy || r == 4 }) = _ :=
    lees_withTxn (coreRuns_of_decodes hp) hf { s.txn with
      busy := s.txn.busy || r == 4, refused := true, fault := tb, faultAt := if tb = 0 then 0 else a, reason := r
      peer := 0 } 0x02 0x83 [s.txn.tag, s.txn.kind, r]
  have hval : validated s = txnRenew { txnLees 0x83 (txnRefuseAt tb a r 0 (busyIf r s)) with txn.phase := .opened } := by
    simp only [validated, hv, hk, judgeVote, hj, hl]
  rw [hval, busyIf_eq, hrec]
  simp [txnRenew, txnMember, hl, msTk, Nat.mul_comm]

/-- Validation of a local transaction that finds none: its COMMIT is accepted (R30). -/
theorem validated_accepts (hl : s.txn.scope = .localScope) (hk : s.txn.cask = some k) (hv : s.txn.phase = .validating)
    (hj : judgeCask k s = none) : validated s = acceptCommit s := by
  simp [validated, hv, hk, judgeVote, hj, hl]

/-- The transaction of an accepted local COMMIT, whose decant is to come (R30). -/
def accepted (s : State) : Txn :=
  let t := BitVec.ofNat 32 (tnat32 s 0x06 0)
  { s.txn with
    phase := .pending, target := if t ≤ s.bnd.layer then 0 else t, fault := 0, faultAt := 0, reason := 0, peer := 0 }

/-- A COMMIT with KIND LAYER waits for its boundary (R30). -/
theorem acceptCommit_layer (hp : portDecodes s = true) (hf : logsFree s = true) (h1 : s.txn.kind = 1) :
    acceptCommit s = { s with
      nvm.leesQ := s.nvm.leesQ ++ [leesRec s 0x02 0x82 [s.txn.tag, 1, 0]], txn := accepted s } := by
  have hrec := lees_withTxn (coreRuns_of_decodes hp) hf (accepted s) 0x02 0x82 [s.txn.tag, s.txn.kind, 0]
  rw [h1] at hrec
  rw [← hrec]
  simp [acceptCommit, h1, txnLees, txnClearFault, accepted]

/-- A COMMIT with KIND NOW decants at once (R30). -/
theorem acceptCommit_now (h4 : s.txn.kind = 4) : acceptCommit s = decant (txnLees 0x82 { s with txn := accepted s }) := by
  simp [acceptCommit, h4, txnClearFault, accepted]

end

/-! ### The decant -/

/-- The node's own part of a transaction has ended, before starts that were held go ahead (R32, R33). -/
def txnEnded (s : State) : State := { s with
  txn.phase := if txnRoot s && s.txn.strandedMask != 0 then .resolving else .none
  txn.cask := none, hc.again := [], txn.collecting := false, txn.votes := [], txn.present := false, txn.stage := 0
  txn.late := none, txn.leaseLeft := none }

/-- The end of a transaction on a node that is not stranded. -/
theorem txnEnd_spares {s : State} (h : s.txn.phase ≠ .stranded) (how : Nat) : Spares (txnEnded s) (txnEnd how s) := by
  have hs : (s.txn.phase == .stranded) = false := by simpa using h
  have : txnEnd how s = resumeHeld s (txnEnded s) := by simp [txnEnd, hs, txnEnded]
  rw [this]
  exact Spares.resumeHeld s _

theorem v3Extend_spares (s : State) : Spares s (v3Extend s) := by
  unfold v3Extend
  split
  · exact Spares.of_eq
  · exact Spares.refl s

/-- The cask's words are in force, and what follows from them has been done (R32). -/
def decanted (k : Cask) (s : State) : State :=
  applyAgain (afterCask (v3Extend s) k.touched { v3Extend s with tbl := decantCells k (v3Extend s).tbl })

/-- The transaction's registers keep the record of the decant (R32). -/
def stamped (s : State) : Txn := { s.txn with
  decLayer := s.bnd.layer, decSwath := s.bnd.swath, decInfo := word (s.txn.tag * 256 + decantKind s) }

/-- What is left of a decant once its record is kept. -/
theorem decant_eq {s : State} {k : Cask} (hk : s.txn.cask = some k) : ∃ t : State,
    Spares { decanted k s with txn := stamped (decanted k s) } t ∧ decant s = txnEnd 1 (raise irqTxn (txnLees 0x84 t)) := by
  simp only [decant, hk]
  refine ⟨_, ?_, rfl⟩
  exact Spares.ite (fun _ => Spares.of_eq) (fun _ => Spares.refl _)

theorem decanted_spares (k : Cask) (s : State) :
    Spares { v3Extend s with tbl := decantCells k (v3Extend s).tbl } (decanted k s) :=
  (Spares.afterCask _ _ _).trans (Spares.applyAgain _)

/-- The words in force after a decant (R32). -/
theorem decanted_words {s : State} {k : Cask} (hw : tblWf s = true) (hk : cellsWf tblDefault 0 k.mem = true)
    {tb a : Nat} (ha : a < 2 ^ 24) (hc : caskable tb = true) (h43 : tb ≠ 0x43) :
    tblWf (decanted k s) = true ∧ tget (decanted k s) tb a =
      if hasT k.touched [tb] then cellGet tblDefault k.mem (tkey tb a) else tget s tb a := by
  have hv := (v3Extend_spares s).wf hw
  have hd : tblWf { v3Extend s with tbl := decantCells k (v3Extend s).tbl } = true := decantCells_wf k hv
  refine ⟨(decanted_spares k s).wf hd, ((decanted_spares k s).words hd tb a ha hc h43).trans ?_⟩
  refine (decantCells_get hk hv (tkey tb a)).trans ?_
  rw [keyTable_tkey ha, ← (v3Extend_spares s).words hw tb a ha hc h43]
  rfl

/-- The decant of a pending local transaction (R32). -/
theorem decant_local {s : State} {k : Cask} (hw : tblWf s = true) (hcw : cellsWf tblDefault 0 k.mem = true)
    (hk : s.txn.cask = some k) (hp : s.txn.phase = .pending) (hl : s.txn.scope = .localScope) :
    let t := decant s
    t.txn.phase = .none ∧ t.txn.cask = none ∧ t.host.irqPend.getLsbD 1 = true ∧ t.txn.decLayer = s.bnd.layer ∧
      t.txn.decSwath = s.bnd.swath ∧ t.txn.decInfo = word (s.txn.tag * 256 + s.txn.kind) ∧
      ∀ tb a, a < 2 ^ 24 → caskable tb = true → tb ≠ 0x43 →
        tget t tb a = if hasT k.touched [tb] then cellGet tblDefault k.mem (tkey tb a) else tget s tb a := by
  obtain ⟨u, hu, ht⟩ := decant_eq hk
  have htxn : (decanted k s).txn = s.txn := (decanted_spares k s).txn.trans (v3Extend_spares s).txn
  have hbnd : (decanted k s).bnd = s.bnd := (decanted_spares k s).bnd.trans (v3Extend_spares s).bnd
  have hkind : decantKind (decanted k s) = s.txn.kind := by simp [decantKind, htxn, hp]
  have hst : stamped (decanted k s) = { s.txn with
      decLayer := s.bnd.layer, decSwath := s.bnd.swath, decInfo := word (s.txn.tag * 256 + s.txn.kind) } := by
    rw [stamped, hkind, htxn, hbnd]
  have hx := hu.trans ((Spares.txnLees 0x84 u).trans (Spares.raise irqTxn _))
  have hxtxn : (raise irqTxn (txnLees 0x84 u)).txn = _ := hx.txn.trans hst
  have hend := txnEnd_spares (s := raise irqTxn (txnLees 0x84 u)) (by rw [hxtxn]; simp [hp]) 1
  have hroot : txnRoot (raise irqTxn (txnLees 0x84 u)) = false := by rw [txnRoot, hxtxn]; simp [hl]
  intro t
  rw [show t = _ from ht]
  refine ⟨?_, ?_, hend.irq 1 (irqPend_raise_self (by decide) _), ?_, ?_, ?_, fun tb a ha hc h43 => ?_⟩
  · rw [hend.txn]; simp [txnEnded, hroot]
  · rw [hend.txn]; rfl
  · rw [hend.txn]; exact congrArg Txn.decLayer hxtxn
  · rw [hend.txn]; exact congrArg Txn.decSwath hxtxn
  · rw [hend.txn]; exact congrArg Txn.decInfo hxtxn
  · obtain ⟨hdw, hget⟩ := decanted_words hw hcw ha hc h43
    exact (hend.words (hx.wf hdw) tb a ha hc h43).trans ((hx.words hdw tb a ha hc h43).trans hget)

end Sys2Proof.Machine

open Sys2Proof.Machine Sys2Proof.Claims

/-- Settles O30: COMMIT, the two ends of validation, and the decant by what follows it. -/
theorem localCommit : Obligations.LocalCommit := by
  intro s c k hw hp hl hk
  have ends {t : State} (ht : validated s = t) : exec .validationComplete s = .next t :=
    congrArg Host.Outcome.next ((if_pos hp).trans ht)
  refine ⟨fun ho ht h5 => ?_, fun tb a r hv hj hf => ?_, fun hv hj h1 hf => ?_, fun hv hj h4 => ?_⟩
  · exact (txnCommit_exec hp h5).trans (congrArg _ (txnCommit_validates (s := txnStored c s) ho hl ht))
  · exact ends (validated_fault hp hf hl hk hv hj)
  · exact ends ((validated_accepts hl hk hv hj).trans (acceptCommit_layer hp hf h1))
  · have hrec := Spares.txnLees 0x82 { s with txn := accepted s }
    have hd := decant_local (s := txnLees 0x82 { s with txn := accepted s }) (hrec.wf hw.tbl) (cask_wf hw hk)
      (by rw [hrec.txn]; exact hk) (by rw [hrec.txn]; rfl) (by rw [hrec.txn]; exact hl)
    obtain ⟨hphase, hcask, hirq, hlayer, hswath, hinfo, hwords⟩ := hd
    refine ⟨_, ends ((validated_accepts hl hk hv hj).trans (acceptCommit_now h4)), hphase, hcask, hirq, ?_, ?_, ?_,
      fun tb a ha hc h43 => ?_⟩
    · rw [hlayer, hrec.bnd]
    · rw [hswath, hrec.bnd]
    · rw [hinfo, hrec.txn]; exact congrArg (fun x => Sys2Proof.word (s.txn.tag * 256 + x)) h4
    · rw [hwords tb a ha hc h43, hrec.words hw.tbl tb a ha hc h43]; rfl
end


section
/-! The host port's shared rules: what an event of the host port records, and one access on this node (O22 to O26). -/

namespace Sys2Proof.Machine

open Sys2Proof.Claims

theorem portDecodes_of_clocked {s : State} (h : clocked s = true) : portDecodes s = true := by
  simp [portDecodes, coreRuns_of_clocked h, (Bool.and_eq_true_iff.mp h).2]

/-! ### Recorded errors -/

theorem sat16_eq_min (n : Nat) : sat16 n = min 65535 n := by
  unfold sat16; split <;> omega

/-- A recorded error (R73, R77-R79). -/
theorem recErr_eq {s : State} (h : coreRuns s = true) (b c : Nat) :
    recErr b c s = { (if s.host.errCount < 65535 then raise 15 s else s) with
      host.errFirst := if s.host.errCount = 0 then word (b * 256 + c) else s.host.errFirst
      host.errCount := min 65535 (s.host.errCount + 1)
      host.errHist := (word (b * 256 + c), s.tick) :: s.host.errHist.take 31
      host.errTotal := s.host.errTotal + 1 } := by
  simp only [recErr, h, if_true, errNoted, sat16_eq_min, irqErr]
  split <;> rfl

/-- The host port with what events and errors record left out: all that an event of the host port leaves alone. -/
def unrecorded (h : HostPort) : HostPort :=
  { h with
    hstFlags := 0, irqPend := 0, irqAt := 0, irqSame := 0, errFirst := 0, errCount := 0, errHist := [], errTotal := 0 }

/-- What an event of the host port leaves alone, field by field. -/
theorem same_of_unrecorded {β : Type} {g h : HostPort} (e : unrecorded g = unrecorded h) (π : HostPort → β)
    (hπ : ∀ x, π (unrecorded x) = π x := by intro; rfl) : π g = π h := by
  rw [← hπ g, e, hπ]

theorem recErr_unrecorded (b c : Nat) (s : State) : unrecorded (recErr b c s).host = unrecorded s.host := by
  unfold recErr errNoted
  split
  · dsimp only
    split <;> rfl
  · rfl

/-- A recorded error changes nothing outside the host port. -/
theorem recErr_only (b c : Nat) (s : State) : recErr b c s = { s with host := (recErr b c s).host } := by
  unfold recErr
  split <;> rfl

theorem recErr_hstFlags (b c : Nat) (s : State) : (recErr b c s).host.hstFlags = s.host.hstFlags := by
  unfold recErr errNoted
  split
  · dsimp only
    split <;> rfl
  · rfl

/-- An error that is recorded loses no pending interrupt; ERR is one more where ERR_COUNT counts (R73). -/
theorem recErr_irqPend {s : State} (h : coreRuns s = true) (b c : Nat) :
    (recErr b c s).host.irqPend = s.host.irqPend ||| (if s.host.errCount < 65535 then 0x8000 else 0) := by
  rw [recErr_eq h]
  split <;> simp [raise, word]

/-- An event of a source stands among those of its TK (R72). -/
theorem irqSame_raise_self {n : Nat} (h : n < 16) (s : State) : (raise n s).host.irqSame.getLsbD n = true := by
  simp only [raise, word, BitVec.getLsbD_or, BitVec.getLsbD_ofNat, Nat.testBit_two_pow]
  simp [h]

/-- What an event of the host port that sets flag `i` of HST_STAT under error code `c` of block 1 has done (R73, R77). -/
structure HostEvent (i c : Nat) (s t : State) : Prop where
  flags : t.host.hstFlags = s.host.hstFlags ||| BitVec.ofNat 8 (2 ^ i)
  irq : t.host.irqPend.getLsbD 0 = true
  error : newestError t s.tick (errWord 1 c)
  rest : unrecorded t.host = unrecorded s.host
  only : t = { s with host := t.host }

theorem hostEvent {s : State} (h : coreRuns s = true) (i c : Nat) : HostEvent i c s (recErr 1 c (hstFlag i s)) := by
  have hrun : coreRuns (hstFlag i s) = true := h
  refine ⟨recErr_hstFlags _ _ _, ?_, newestError_recErr hrun 1 c, recErr_unrecorded _ _ _, recErr_only _ _ _⟩
  rw [recErr_irqPend hrun, BitVec.getLsbD_or,
    show (hstFlag i s).host.irqPend.getLsbD 0 = true from irqPend_raise_self (by decide) _]
  rfl

/-- Such an event that counter `k` of table 0x00 counts too (R79). -/
structure CountedEvent (i c k : Nat) (s t : State) : Prop where
  flags : t.host.hstFlags = s.host.hstFlags ||| BitVec.ofNat 8 (2 ^ i)
  irq : t.host.irqPend.getLsbD 0 = true
  error : newestError t s.tick (errWord 1 c)
  rest : unrecorded t.host = unrecorded s.host
  counted : countedOne s t 0x00 k
  words : ∀ tb a, tkey tb a ≠ tkey 0x00 k → tget t tb a = tget s tb a
  only : t = { s with host := t.host, tbl := t.tbl }

theorem countedEvent {s : State} (hw : tblWf s = true) (h : coreRuns s = true) (i c k : Nat) :
    CountedEvent i c k s (recErr 1 c (hstFlag i (bump 0x00 k s))) := by
  obtain ⟨hflags, hirq, herr, hrest, honly⟩ := hostEvent (s := bump 0x00 k s) h i c
  have htbl : (recErr 1 c (hstFlag i (bump 0x00 k s))).tbl = (bump 0x00 k s).tbl := recErr_tbl _ _ _
  refine ⟨hflags, hirq, herr, hrest, ?_, fun tb a hne => ?_, ?_⟩
  · rw [countedOne, tget_congr htbl, tget_bump hw]
  · rw [tget_congr htbl, tget_bump_other hw hne]
  · rw [htbl, honly]; rfl

/-! ### One access on this node -/

theorem answers_anchor {a : Nat} (h : isAnchor a = true) (s : State) : answers s a = true := by
  have hl : isListed a = true := by
    simp only [isAnchor, isListed, Bool.or_eq_true, Bool.and_eq_true, decide_eq_true_eq] at h ⊢
    omega
  unfold answers answersInRecovery answersEarly
  split <;> simp [h, hl]

theorem answers_up {s : State} {a : Nat} (h : isUp s = true) (hl : isListed a = true) : answers s a = true := by
  have : s.boot.phase = .up := by simpa [isUp] using h
  simp [answers, this, hl]

theorem nodeAccess_write {s : State} {a : Nat} (h : answers s a = true) (inc view : Bool) (d : Word) :
    (nodeAccess false inc view a d s).2.2 = if isAnchor a then anchorWrite a d s else routedWrite a inc d s := by
  simp [nodeAccess, h]

theorem nodeWrite_eq {s : State} {a : Nat} (h : answers s a = true) (inc : Bool) (d : Word) :
    nodeWrite a inc d s = if isAnchor a then anchorWrite a d s else routedWrite a inc d s :=
  nodeAccess_write h inc false d

theorem localRead_eq {s : State} {a : Nat} (h : answers s a = true) (inc view : Bool) :
    localRead a inc view s = pushResult true (regRead a inc view s).1 (regRead a inc view s).2 := by
  simp [localRead, nodeAccess, h]

theorem hostRead_eq {s : State} (h : outstanding s < 16) (a : Nat) (inc : Bool) :
    hostRead a inc s = localRead a inc s.txn.view s := if_neg (by omega)

/-- A typed write acts where the port decodes, a routed one where the node is not in REST (R328, R362). -/
theorem typedWrite_eq {s : State} {a : Nat} (hp : portDecodes s = true) (h : isAnchor a = true ∨ inRest s = false)
    (inc : Bool) (d : Word) : typedWrite a inc d s = nodeWrite a inc d s := by
  unfold typedWrite
  rw [hp]
  split
  · contradiction
  · split
    · rfl
    · rename_i hn
      exact routedOp_acts (h.resolve_left hn) _ _

end Sys2Proof.Machine

open Sys2Proof.Machine Sys2Proof.Claims

/-- Settles O22: an error by what it records, each register by its access on this node. -/
theorem hostRegisters : Obligations.HostRegisters := by
  refine ⟨fun b c s hr => recErr_eq hr b c, fun s hp => ⟨fun mask coincident => ?_, fun n hn => ?_, fun d => ?_,
    fun d hup hrest => ?_, fun ho => ?_⟩⟩
  · exact congrArg Host.Outcome.next (if_pos hp)
  · exact ⟨irqPend_raise_self hn s, rfl, irqSame_raise_self hn s⟩
  · have hw : typedWrite 0x06 false d s = _ := (typedWrite_eq hp (.inl rfl) false d).trans
      (nodeWrite_eq (answers_anchor rfl s) false d)
    exact congrArg Host.Outcome.next hw
  · have hw : typedWrite 0x38 false d s = _ := (typedWrite_eq hp (.inr hrest) false d).trans
      (nodeWrite_eq (answers_up hup rfl) false d)
    exact congrArg Host.Outcome.next hw
  · have hread : hostRead 0x04 false s = _ := (hostRead_eq ho 0x04 false).trans
      (localRead_eq (answers_anchor rfl s) false s.txn.view)
    exact congrArg Host.Outcome.next ((if_pos hp).trans hread)
end


section
/-! The table window (O23). -/

namespace Sys2Proof.Machine

open Sys2Proof.Claims

theorem tblKnown_up {s : State} (h : isUp s = true) (t : Nat) : tblKnown s t = (tblLen t != 0) := by
  have : s.boot.phase = .up := by simpa [isUp] using h
  simp [tblKnown, this]

/-! ### The commands of the window on this node -/

theorem tblSelWrite_eq {s : State} (hc : clocked s = true) (hr : inRest s = false) (d : Word) :
    exec (.tblSelWrite d) s = .next (selectTable d s) := by
  have hw : typedWrite 0x0C false d s = _ := (typedWrite_eq (portDecodes_of_clocked hc) (.inr hr) false d).trans
    (nodeWrite_eq (answers_up (isUp_of_clocked hc) rfl) false d)
  exact congrArg Host.Outcome.next hw

theorem tblDataWrite_eq {s : State} (hc : clocked s = true) (hr : inRest s = false) (inc : Bool) (d : Word) :
    exec (.tblDataWrite inc d) s = .next (windowWrite inc d s) := by
  have hw : typedWrite 0x0F inc d s = _ := (typedWrite_eq (portDecodes_of_clocked hc) (.inr hr) inc d).trans
    (nodeWrite_eq (answers_up (isUp_of_clocked hc) rfl) inc d)
  exact congrArg Host.Outcome.next hw

theorem tblDataRead_eq {s : State} (hc : clocked s = true) (ho : outstanding s < 16) (inc : Bool) :
    exec (.tblDataRead inc) s =
      .next (pushResult true (windowRead inc s.txn.view s).1 (windowRead inc s.txn.view s).2) := by
  have hread : hostRead 0x0F inc s = _ := (hostRead_eq ho 0x0F inc).trans
    (localRead_eq (answers_up (isUp_of_clocked hc) rfl) inc s.txn.view)
  exact congrArg Host.Outcome.next ((if_pos (portDecodes_of_clocked hc)).trans hread)

/-! ### Selecting a table -/

theorem selectTable_known {s : State} (hu : isUp s = true) {d : Word} (h : tblLen (d.toNat % 256) ≠ 0) :
    selectTable d s = { s with host.tblSel := d.setWidth 8 } := by
  have hsel : BitVec.ofNat 8 d.toNat = d.setWidth 8 := BitVec.ofNat_toNat 8 d
  have hk : tblKnown { s with host.tblSel := d.setWidth 8 } (d.toNat % 256) = true := by
    rw [tblKnown_up (by exact hu)]; exact bne_iff_ne.mpr h
  simp only [selectTable, hsel, selTable, BitVec.toNat_setWidth, hk, if_true]

theorem selectTable_reserved {s : State} (hu : isUp s = true) {d : Word} (h : tblLen (d.toNat % 256) = 0) :
    selectTable d s = recErr 1 5 (hstFlag 4 (bump 0x00 3 { s with host.tblSel := d.setWidth 8 })) := by
  have hsel : BitVec.ofNat 8 d.toNat = d.setWidth 8 := BitVec.ofNat_toNat 8 d
  have hk : tblKnown { s with host.tblSel := d.setWidth 8 } (d.toNat % 256) = false := by
    rw [tblKnown_up (by exact hu), h]; rfl
  simp [selectTable, hsel, selTable, hk]

/-! ### Reading and writing the word selected -/

section
variable {s : State} (hu : isUp s = true) (inc : Bool)
include hu

theorem windowRead_reserved (h : tblLen (selTable s) = 0) (view : Bool) : windowRead inc view s = (0, s) := by
  simp [windowRead, tblKnown_up hu, h]

theorem windowRead_end (h : tblLen (selTable s) ≠ 0) (ha : tblLen (selTable s) ≤ s.host.tblAddr.toNat) (view : Bool) :
    windowRead inc view s = (0, incAddr inc (tableEnd s)) := by
  simp [windowRead, tblKnown_up hu, h, ha]

theorem windowRead_word (ha : s.host.tblAddr.toNat < tblLen (selTable s)) (view : Bool) :
    windowRead inc view s = (tblValue s (selTable s) s.host.tblAddr.toNat view,
      incAddr inc (tblLatch (selTable s) s.host.tblAddr.toNat s)) := by
  simp [windowRead, tblKnown_up hu, Nat.ne_zero_of_lt ha, Nat.not_le.mpr ha]

theorem windowWrite_reserved (h : tblLen (selTable s) = 0) (d : Word) : windowWrite inc d s = s := by
  simp [windowWrite, tblKnown_up hu, h]

theorem windowWrite_end (h : tblLen (selTable s) ≠ 0) (ha : tblLen (selTable s) ≤ s.host.tblAddr.toNat) (d : Word) :
    windowWrite inc d s = incAddr inc (tableEnd s) := by
  simp [windowWrite, tblKnown_up hu, h, ha]

theorem windowWrite_word (ha : s.host.tblAddr.toNat < tblLen (selTable s)) (d : Word) :
    windowWrite inc d s = incAddr inc (tblWrite (selTable s) s.host.tblAddr.toNat d s) := by
  simp [windowWrite, tblKnown_up hu, Nat.ne_zero_of_lt ha, Nat.not_le.mpr ha]

end

/-- A read latches the upper half of TICK, of a count or of a position; address, stream and tables stay (R11, R128,
R273). -/
theorem tblLatch_stays (t a : Nat) (s : State) : (tblLatch t a s).host.tblAddr = s.host.tblAddr ∧
    (tblLatch t a s).host.results = s.host.results ∧ (tblLatch t a s).host.nextId = s.host.nextId ∧
    (tblLatch t a s).tbl = s.tbl := by
  unfold tblLatch
  (repeat' split) <;> exact ⟨rfl, rfl, rfl, rfl⟩

/-- An access beyond the table's length sets TBLEND and moves the window on (R71). -/
theorem windowEnd_spec {s : State} (h : coreRuns s = true) (inc : Bool) :
    let t := incAddr inc (tableEnd s)
    t.host.tblAddr = (if inc then s.host.tblAddr + 1 else s.host.tblAddr) ∧ t.host.hstFlags = s.host.hstFlags ||| 1 ∧
      newestError t s.tick 0x0109 ∧ t.host.results = s.host.results ∧ t.host.nextId = s.host.nextId ∧ t.tbl = s.tbl := by
  have ev : HostEvent 0 9 s (tableEnd s) := hostEvent h 0 9
  have haddr := same_of_unrecorded ev.rest (·.tblAddr)
  rw [incAddr_eq]
  exact ⟨by simp only [haddr], ev.flags, ev.error, same_of_unrecorded ev.rest (·.results),
    same_of_unrecorded ev.rest (·.nextId), by rw [ev.only]⟩

end Sys2Proof.Machine

open Sys2Proof.Machine Sys2Proof.Claims

/-- Settles O23: selection, read and write by whether the table is there and reaches as far as the address. -/
theorem tableWindow : Obligations.TableWindow := by
  intro s inc hw hc a tb step
  have hu := isUp_of_clocked hc
  have hrun := coreRuns_of_clocked hc
  obtain ⟨haddr, hflags, herr, hres, hid, htbl⟩ := windowEnd_spec hrun inc
  refine ⟨fun d hr h => ?_, fun d hr h => ?_, fun ho h => ?_, fun d hr h => ?_, fun ho ha => ?_, fun ho h ha => ?_,
    fun d hr htb ha => ?_, fun d hr h ha => ?_⟩
  · rw [tblSelWrite_eq hc hr, selectTable_known hu h]
  · refine ⟨_, tblSelWrite_eq hc hr d, ?_⟩
    rw [selectTable_reserved hu h]
    have ev := countedEvent (s := { s with host.tblSel := d.setWidth 8 }) hw.tbl hrun 4 5 3
    exact ⟨same_of_unrecorded ev.rest (·.tblSel), ev.flags, ev.counted, ev.error, ev.words, ev.only⟩
  · rw [tblDataRead_eq hc ho, windowRead_reserved hu inc h]
    rfl
  · rw [tblDataWrite_eq hc hr, windowWrite_reserved hu inc h]
  · refine ⟨_, tblDataRead_eq hc ho inc, ?_⟩
    obtain ⟨laddr, lres, lid, ltbl⟩ := tblLatch_stays (selTable s) s.host.tblAddr.toNat s
    rw [windowRead_word hu inc ha, incAddr_eq]
    refine ⟨?_, ltbl, ?_⟩
    · simp only [pushResult, laddr, step]
    · simp only [pushResult, lres, lid]; rfl
  · refine ⟨_, tblDataRead_eq hc ho inc, ?_⟩
    rw [windowRead_end hu inc h ha]
    refine ⟨haddr, ?_, herr, htbl, ?_⟩
    · show (incAddr inc (tableEnd s)).host.hstFlags.getLsbD 0 = true
      rw [hflags, BitVec.getLsbD_or]; exact Bool.or_true _
    · simp only [pushResult, hres, hid]
  · have hlen : s.host.tblAddr.toNat < tblLen (selTable s) := by
      rw [show selTable s = 0x92 from htb]; exact ha
    have hwr : tblWrite (selTable s) s.host.tblAddr.toNat d s = tset 0x92 a d s := by
      rw [show selTable s = 0x92 from htb]; rfl
    refine ⟨_, tblDataWrite_eq hc hr inc d, ?_⟩
    rw [windowWrite_word hu inc hlen, hwr, incAddr_eq]
    exact ⟨tget_tset_same hw.tbl _ _ _, rfl, fun tb' a' hne => tget_tset_other hw.tbl hne d⟩
  · refine ⟨_, tblDataWrite_eq hc hr inc d, ?_⟩
    rw [windowWrite_end hu inc h ha]
    exact ⟨htbl, haddr, herr⟩
end


section
/-! Frames (O24, O25). -/

namespace Sys2Proof.Machine

open Sys2Proof.Claims

/-! ### Frames that are not executed -/

/-- A discarded frame sets LOST besides the flag, the counter and the error of its kind (R55, R62), whatever frame `x`
went out on SDO. -/
theorem frameLost_spec {s : State} (hw : tblWf s = true) (hr : coreRuns s = true) (x : BitVec 32) (i c k : Nat) :
    let t := recErr 1 c (hstFlag i (bump 0x00 k { s with host.lastSdo := x, host.lost := true }))
    t.host.lost = true ∧ t.host.hstFlags = s.host.hstFlags ||| BitVec.ofNat 8 (2 ^ i) ∧
      t.host.irqPend.getLsbD 0 = true ∧ countedOne s t 0x00 k ∧ newestError t s.tick (errWord 1 c) ∧
      t.host.results = s.host.results ∧ t.host.queue = s.host.queue ∧ t.host.crcerr = s.host.crcerr ∧
      (∀ tb a, tkey tb a ≠ tkey 0x00 k → tget t tb a = tget s tb a) ∧ t = { s with host := t.host, tbl := t.tbl } := by
  have ev := countedEvent (s := { s with host.lastSdo := x, host.lost := true }) hw hr i c k
  exact ⟨same_of_unrecorded ev.rest (·.lost), ev.flags, ev.irq, ev.counted, ev.error,
    same_of_unrecorded ev.rest (·.results), same_of_unrecorded ev.rest (·.queue),
    same_of_unrecorded ev.rest (·.crcerr), ev.words, ev.only⟩

theorem frameFast_eq (x : BitVec 32) (s : State) : frameFast { s with host.lastSdo := x } =
    recErr 1 3 (hstFlag 6 (bump 0x00 2 { s with host.lastSdo := x, host.lost := true })) := rfl

/-- The host port once a complete frame has begun: `x` is the frame that went out on SDO, `l` the stream without the
result it carried (R60, R61). The lemmas below hold for all `x`, so that none of them computes an SDO frame. -/
def frameBegun (x : BitVec 32) (l : List ReadItem) (s : State) : State :=
  { s with host.lastSdo := x, host.results := l, host.lost := false, host.crce := false }

/-- The stream of results without the one that a frame which begins now carries (R61). -/
abbrev resultsLeft (s : State) : List ReadItem :=
  if (sdoHead s).isSome then s.host.results.drop 1 else s.host.results

theorem frameComplete_eq (x : BitVec 32) (s : State) : frameComplete { s with host.lastSdo := x } =
    frameBegun x (resultsLeft s) s := rfl

/-- A frame whose CRC does not match (R62). -/
theorem frameBad_spec {s : State} (hw : tblWf s = true) (hr : coreRuns s = true) (x : BitVec 32) (l : List ReadItem) :
    let t := frameBad (frameBegun x l s)
    t.host.crce = true ∧ t.host.lost = false ∧
      t.host.crcerr = (if s.host.crcerr < 255 then s.host.crcerr + 1 else 255) ∧ countedOne s t 0x00 0 ∧
      newestError t s.tick 0x0101 ∧ t.host.queue = s.host.queue ∧
      t.host.irqPend = s.host.irqPend ||| (if s.host.errCount < 65535 then 0x8001 else 0x0001) ∧
      t.host.lastSdo = x ∧ t = { s with host := t.host, tbl := t.tbl } := by
  let u : State := { frameBegun x l s with
    host.crce := true, host.crcerr := if s.host.crcerr < 255 then s.host.crcerr + 1 else 255 }
  have hrun : coreRuns (raise irqHost (bump 0x00 0 u)) = true := hr
  have hrest := recErr_unrecorded 1 1 (raise irqHost (bump 0x00 0 u))
  have htbl : (frameBad (frameBegun x l s)).tbl = (bump 0x00 0 u).tbl := recErr_tbl _ _ _
  refine ⟨same_of_unrecorded hrest (·.crce), same_of_unrecorded hrest (·.lost), same_of_unrecorded hrest (·.crcerr), ?_,
    newestError_recErr hrun 1 1, same_of_unrecorded hrest (·.queue), ?_, same_of_unrecorded hrest (·.lastSdo), ?_⟩
  · rw [countedOne, tget_congr htbl]; exact tget_bump (s := u) hw 0x00 0
  · refine (recErr_irqPend hrun 1 1).trans ?_
    show (s.host.irqPend ||| 1) ||| (if s.host.errCount < 65535 then 0x8000 else 0) = _
    rw [BitVec.or_assoc]
    split <;> rfl
  · rw [htbl]
    exact recErr_only 1 1 (raise irqHost (bump 0x00 0 u))

/-! ### Frames that are executed -/

/-- The command and the address of a frame stand in its high byte, its data in the next two (R56). -/
theorem frame_fields {f : BitVec 32} {v : BitVec 8} (h : f.extractLsb' 24 8 = v) {r : Bool} {a : Nat}
    (hr : v.getLsbD 7 = r) (ha : v.toNat % 64 = a) :
    frameRead f = r ∧ frameAddr f = a ∧ frameData f = f.extractLsb' 8 16 := by
  subst h hr ha
  refine ⟨?_, ?_, ?_⟩
  · simp [frameRead]
  · simp [frameAddr, bits, Nat.shiftRight_eq_div_pow]
  · apply BitVec.eq_of_toNat_eq
    simp [frameData, word, bits]

section
variable {s : State} {f : BitVec 32}

/-- A frame cut short after at least one edge (R62). -/
theorem partialFrame_short {edges : BitVec 5} (hp : portDecodes s = true) (he : edges ≠ 0) :
    exec (.partialFrame edges false) s = .next (frameShort s) :=
  congrArg Host.Outcome.next (if_neg (by simpa [hp] using he))

/-- One that also has a too-short phase (R55). -/
theorem partialFrame_fast {edges : BitVec 5} (hp : portDecodes s = true) (he : edges ≠ 0) :
    exec (.partialFrame edges true) s = .next (frameFast s) :=
  congrArg Host.Outcome.next (if_neg (by simpa [hp] using he))

/-- A frame of 32 edges with a too-short phase (R55). -/
theorem registerWrite_fast (hp : portDecodes s = true) :
    exec (.registerWrite f true) s = .next (recErr 1 3 (hstFlag 6 (bump 0x00 2
      { s with host.lastSdo := sdoNow s, host.lost := true }))) :=
  congrArg Host.Outcome.next ((if_pos hp).trans (frameFast_eq (sdoNow s) s))

/-- A frame of 32 edges whose CRC matches (R58, R60, R61). -/
theorem registerWrite_good (hp : portDecodes s = true) (hf : frameCrcOk f = true) :
    exec (.registerWrite f false) s = .next (frameExecute f (frameBegun (sdoNow s) (resultsLeft s) s)) := by
  have harr : frameArrives f false s = frameExecute f (frameComplete { s with host.lastSdo := sdoNow s }) := if_pos hf
  exact congrArg Host.Outcome.next ((if_pos hp).trans
    (harr.trans (congrArg (frameExecute f) (frameComplete_eq (sdoNow s) s))))

/-- A frame of 32 edges whose CRC does not match (R62). -/
theorem registerWrite_bad (hp : portDecodes s = true) (hf : frameCrcOk f = false) :
    exec (.registerWrite f false) s = .next (frameBad (frameBegun (sdoNow s) (resultsLeft s) s)) := by
  have harr : frameArrives f false s = frameBad (frameComplete { s with host.lastSdo := sdoNow s }) :=
    if_neg (by simp [hf])
  exact congrArg Host.Outcome.next ((if_pos hp).trans
    (harr.trans (congrArg frameBad (frameComplete_eq (sdoNow s) s))))

/-- A write of an anchor register but TXN_CTL acts on this device, whatever FAB_DST says (R64). -/
theorem frameExecute_anchorWrite {a : Nat} (hr : frameRead f = false) (ha : frameAddr f = a) (h : isAnchor a = true)
    (ho : readOnly a = false) (h8 : a ≠ 0x08) : frameExecute f s = anchorWrite a (frameData f) (countFrame s) := by
  subst ha
  simp only [frameExecute, hr, h, ho, h8]
  exact (nodeWrite_eq (answers_anchor h _) false _).trans (if_pos h)

/-- A routed access within the limit of R66 joins the routing queue (R65). -/
theorem frameExecute_routed {a : Nat} (ha : frameAddr f = a) (h : isAnchor a = false) (hro : readOnly a = false)
    (ho : outstanding s < 16) (hb : frameRead f = false ∨ s.vine.fabDst ≠ 63) :
    frameExecute f s = enqueue (frameRead f) (frameInc f) a (frameData f) (countFrame s) := by
  subst ha
  have hnb : (frameRead f && s.vine.fabDst == 63) = false := by
    rcases hb with hb | hb <;> simp [hb]
  simp only [frameExecute, h, hro, Nat.not_le.mpr ho, decide_false, hnb]
  simp

/-- A 17th outstanding item is refused (R66). -/
theorem frameExecute_full {a : Nat} (ha : frameAddr f = a) (h : isAnchor a = false) (hro : readOnly a = false)
    (ho : 16 ≤ outstanding s) : frameExecute f s = queueOverflow s := by
  subst ha
  simp [frameExecute, h, hro, ho]

end

end Sys2Proof.Machine

open Sys2Proof.Machine Sys2Proof.Claims

/-- Settles O24: each refusal by the flag, the counter and the error of its kind. -/
theorem framesDiscardedAndAccessesRefused : Obligations.FramesDiscardedAndAccessesRefused := by
  constructor
  · intro s hw hp
    have hrun := coreRuns_of_decodes hp
    refine ⟨fun fast => ?_, fun edges he => ?_, fun edges he => ?_, fun f => ?_, fun f hf => ?_⟩
    · exact congrArg Host.Outcome.next (if_pos (by simp))
    · exact ⟨_, partialFrame_short hp he, frameLost_spec hw.tbl hrun s.host.lastSdo 7 2 1⟩
    · exact ⟨_, partialFrame_fast hp he, frameLost_spec hw.tbl hrun s.host.lastSdo 6 3 2⟩
    · obtain ⟨hlost, hflags, -, hcnt, herr, hres, hq, -, -, honly⟩ := frameLost_spec hw.tbl hrun (sdoNow s) 6 3 2
      exact ⟨_, registerWrite_fast hp, hlost, hflags, hcnt, herr, hres, hq, honly⟩
    · exact ⟨_, registerWrite_bad hp hf, frameBad_spec hw.tbl hrun _ _⟩
  · intro s a hw hp
    have hrun := coreRuns_of_decodes hp
    have bread (ha : isAnchor a.toNat = false) : exec (.broadcastRead a) s =
        .next (if 16 ≤ outstanding s then queueOverflow s else broadcastReadOp s) := by
      refine congrArg Host.Outcome.next ?_
      simp [hp, ha]
    refine ⟨fun ha ho => ?_, fun ha ho => ?_, fun hn => ⟨fun ho => ?_, fun hr => ?_⟩⟩
    · have ev := countedEvent hw.tbl hrun 3 6 7
      refine ⟨_, (bread ha).trans (congrArg _ (if_neg (by omega))), ev.flags, ev.counted, ev.error, ?_,
        same_of_unrecorded ev.rest (·.queue)⟩
      exact congrArg₂ (fun l n => l ++ [{ id := n, ready := true, data := (0 : Sys2Proof.Word) }])
        (same_of_unrecorded ev.rest (·.results)) (same_of_unrecorded ev.rest (·.nextId))
    · have ev := countedEvent hw.tbl hrun 2 7 5
      exact ⟨_, (bread ha).trans (congrArg _ (if_pos ho)), ev.flags, ev.counted, ev.error,
        same_of_unrecorded ev.rest (·.results), same_of_unrecorded ev.rest (·.queue)⟩
    · have ev := countedEvent hw.tbl hrun 5 4 4
      have hread : hostRead a.toNat false s = pushResult true 0 (reservedAccess s) := by
        rw [hostRead_eq ho]; simp [localRead, nodeAccess, hn]
      refine ⟨_, congrArg Host.Outcome.next (?_ : _ = pushResult true 0 (reservedAccess s)), ev.flags, ev.counted,
        ev.error, ?_⟩
      · rw [← hread]; simp [hp, hn]
      · exact congrArg₂ (fun l n => l ++ [{ id := n, ready := true, data := (0 : Sys2Proof.Word) }])
          (same_of_unrecorded ev.rest (·.results)) (same_of_unrecorded ev.rest (·.nextId))
    · have ev := countedEvent hw.tbl hrun 5 4 4
      have hwr : typedWrite a.toNat false 0 s = reservedAccess s := by
        rw [typedWrite_eq hp (.inr hr)]; simp [nodeWrite, nodeAccess, hn]
      refine ⟨_, congrArg Host.Outcome.next (?_ : _ = reservedAccess s), ev.flags, ev.counted, ev.error,
        same_of_unrecorded ev.rest (·.results)⟩
      rw [← hwr]; simp [hp, hn]

/-- Settles O25: the frame by its register, and by whether there is room in the queue. -/
theorem framesExecuted : Obligations.FramesExecuted := by
  intro s f hw hp hf results full dst
  have hrun := coreRuns_of_decodes hp
  have hexec : exec (.registerWrite f false) s = .next (frameExecute f (frameBegun (sdoNow s) results s)) :=
    registerWrite_good hp hf
  generalize sdoNow s = x at hexec ⊢
  have room (h : full = false) : outstanding (frameBegun x results s) < 16 := Nat.not_le.mp (of_decide_eq_false h)
  refine ⟨fun h => ?_, fun h hfull => ?_, fun h hfull hdst => ?_, fun h hfull => ?_⟩
  · obtain ⟨hr, ha, hd⟩ := frame_fields h (r := false) (a := 0x06) rfl rfl
    have ht := hexec.trans (congrArg _ (frameExecute_anchorWrite hr ha rfl rfl (by decide)))
    rw [hd] at ht
    exact ⟨_, ht, rfl, rfl, rfl, rfl, rfl, rfl⟩
  · obtain ⟨hr, ha, hd⟩ := frame_fields h (r := false) (a := 0x3F) rfl rfl
    have ht := hexec.trans (congrArg _ (frameExecute_routed ha rfl rfl (room hfull) (.inl hr)))
    rw [hd, hr] at ht
    exact ⟨_, _, ht, rfl, rfl, rfl, rfl, rfl, rfl, rfl, rfl⟩
  · obtain ⟨hr, ha, -⟩ := frame_fields h (r := true) (a := 0x3F) rfl rfl
    have ht := hexec.trans (congrArg _ (frameExecute_routed ha rfl rfl (room hfull) (.inr hdst)))
    rw [hr] at ht
    exact ⟨_, _, ht, rfl, rfl, rfl, rfl, rfl⟩
  · obtain ⟨-, ha, -⟩ := frame_fields h (r := false) (a := 0x3F) rfl rfl
    have ev := countedEvent (s := frameBegun x results s) hw.tbl hrun 2 7 5
    refine ⟨_, hexec.trans (congrArg _ (frameExecute_full ha rfl rfl (of_decide_eq_true hfull))),
      same_of_unrecorded ev.rest (·.queue), ?_, ev.error⟩
    rw [show (queueOverflow _).host.hstFlags = _ from ev.flags, BitVec.getLsbD_or]
    exact Bool.or_true _
end


section
/-! The output pins (O60). -/

namespace Sys2Proof.Machine

/-! ### Pins of a VIO bank -/

theorem bankPin_held {s : State} (h : coreRuns s = false) (h5 : s.pwr.state < 5) (reset driven : Level) :
    bankPin s reset driven = reset := by
  simp [bankPin, portDecodes, h, Nat.not_le.mpr h5]

theorem bankPin_decodes {s : State} (h : portDecodes s = true) (reset driven : Level) : bankPin s reset driven = driven := by
  have h5 : ¬ 5 ≤ s.pwr.state := by
    have : s.pwr.state ≤ 1 := by simpa using (Bool.and_eq_true_iff.mp h).2
    omega
  simp [bankPin, h, h5]

@[simp] theorem level_high {b : Bool} : level b = .high ↔ b = true := by cases b <;> simp [level]
@[simp] theorem level_low {b : Bool} : level b = .low ↔ b = false := by cases b <;> simp [level]
theorem beq_eq_right_iff {a b : Bool} : (a == b) = b ↔ a = true := by cases a <;> cases b <;> simp
theorem level_inj {a b : Bool} : level a = level b ↔ a = b := by cases a <;> cases b <;> simp [level]

/-- A pin with reset level low is high only where its block drives it high. -/
theorem bankPin_high {s : State} {b : Bool} (h : bankPin s .low (level b) = .high) : b = true := by
  unfold bankPin at h
  split at h
  · contradiction
  · split at h
    · exact level_high.mp h
    · contradiction

/-! ### Gates that are never high together -/

/-- The dead time keeps the two gates of a half-bridge apart (R258). -/
theorem halfBridge_apart (d dead x : Nat) : ¬ ((halfBridge d dead x).1 = true ∧ (halfBridge d dead x).2 = true) := by
  unfold halfBridge
  (repeat' split) <;> simp

/-- The dead time keeps the two gates of a valve channel apart (R275). -/
theorem valveGates_apart (s : State) (n : Nat) : ¬ ((valveGates s n).1 = true ∧ (valveGates s n).2 = true) := by
  unfold valveGates
  dsimp only
  (repeat' split) <;> simp

/-- The gates of an axis are those of four half-bridges, two of each phase, or all low (R258, R269). -/
theorem axisGates_apart (s : State) (n j : Nat) :
    ¬ ((axisGates s n).getD (2 * j) false = true ∧ (axisGates s n).getD (2 * j + 1) false = true) := by
  have hlow : (List.replicate 8 false).getD (2 * j) false = false := by
    rw [List.getD_eq_getElem?_getD, List.getElem?_getD_replicate_default_eq]
  unfold axisGates
  dsimp only
  split
  · split
    · split <;> match j with
        | 0 | 1 | 2 | 3 => exact halfBridge_apart _ _ _
        | j + 4 => simp [Nat.mul_add]
    · exact fun h => Bool.false_ne_true (hlow.symm.trans h.1)
  · exact fun h => Bool.false_ne_true (hlow.symm.trans h.1)

/-! ### The sending order (R168) -/

/-- Place `p` of the sending order sends nozzle `p % m * il + p / m`, and the place is read back from the nozzle. -/
theorem sweep_injOn {m il : Nat} : ∀ p ∈ List.range (m * il), ∀ q ∈ List.range (m * il),
    p % m * il + p / m = q % m * il + q / m → p = q := by
  intro p hp q hq h
  rw [List.mem_range] at hp hq
  have hdiv {x : Nat} (hx : x < m * il) : x / m < il := Nat.div_lt_of_lt_mul hx
  have hil : 0 < il := Nat.pos_of_ne_zero (fun h0 => by simp [h0] at hp)
  have hm : p % m = q % m := by
    have := congrArg (· / il) h
    simpa [Nat.mul_add_div hil, Nat.mul_comm _ il, Nat.div_eq_of_lt (hdiv hp), Nat.div_eq_of_lt (hdiv hq)] using this
  have hd : p / m = q / m := by rw [hm] at h; omega
  rw [← Nat.div_add_mod p m, ← Nat.div_add_mod q m, hm, hd]

theorem sweep_lt {m il p : Nat} (hp : p < m * il) : p % m * il + p / m < m * il := by
  have hm : p % m + 1 ≤ m := Nat.mod_lt p (Nat.pos_of_ne_zero (fun h0 => by simp [h0] at hp))
  calc p % m * il + p / m < p % m * il + il := Nat.add_lt_add_left (Nat.div_lt_of_lt_mul hp) _
    _ = (p % m + 1) * il := by rw [Nat.add_mul, Nat.one_mul]
    _ ≤ m * il := Nat.mul_le_mul_right il hm

/-- The sending order visits each nozzle of the row once. -/
theorem nozzleOrder_perm {n il : Nat} (hil : 0 < il) (h : il ∣ n) : (nozzleOrder n il).Perm (List.range n) := by
  obtain ⟨m, rfl⟩ := h
  rw [nozzleOrder, Nat.mul_div_cancel_left m hil, Nat.mul_comm il m]
  have hnodup := List.Nodup.map_on sweep_injOn (List.nodup_range (n := m * il))
  refine (List.subperm_of_subset hnodup fun x hx => ?_).perm_of_length_le (by simp)
  obtain ⟨p, hp, rfl⟩ := List.mem_map.mp hx
  exact List.mem_range.mpr (sweep_lt (List.mem_range.mp hp))

@[simp] theorem nozzleOrder_length (n il : Nat) : (nozzleOrder n il).length = n := by simp [nozzleOrder]

@[simp] theorem codeBits_length (msbf : Bool) (x : Nat) : (codeBits msbf x).length = 2 := by cases msbf <;> rfl

theorem nozzleBits_length (w0 : Nat) (codes : List Nat) : (nozzleBits w0 codes).length = 2 * codes.length := by
  unfold nozzleBits
  dsimp only
  split
  · simp; omega
  · simp [Function.comp_def, Nat.mul_comm]

end Sys2Proof.Machine

open Sys2Proof.Machine Sys2Proof.Claims

/-- Settles O60: each pin by what its bank lets through, the gates by their dead time, the order by its inverse. -/
theorem outputPins : Obligations.OutputPins := by
  refine ⟨fun s n i hr h5 => ?_, fun s n j => ⟨?_, ?_⟩, fun s g f hp hen hf hm => ?_,
    fun s n hp hen hu => ⟨fun hm => ?_, fun hm => ?_⟩, fun s n hp => ⟨fun hc => ?_, fun hc => ?_⟩, fun s k => ?_,
    fun n il hil h => nozzleOrder_perm hil h, nozzleBits_length⟩
  · have reset := bankPin_held hr h5
    exact ⟨reset _ _, reset _ _, reset _ _, reset _ _, reset _ _, reset _ _, reset _ _, reset _ _, reset _ _, reset _ _,
      reset _ _, reset _ _, reset _ _⟩
  · exact fun ⟨h1, h2⟩ => valveGates_apart s n ⟨bankPin_high h1, bankPin_high h2⟩
  · exact fun ⟨h1, h2⟩ => axisGates_apart s n j ⟨bankPin_high h1, bankPin_high h2⟩
  · rw [hgLat, bankPin_decodes hp, level_high, hen, hf]
    simp [during, hm]
  · rw [jchN, jchP, bankPin_decodes hp, bankPin_decodes hp, hen, hu, hm]
    simp
  · rw [jchN, bankPin_decodes hp, hm]
    simp
  · simp [axEn, bankPin_decodes hp, hc]
  · simp only [axEn, bankPin_decodes hp, hc, if_true, level_inj]
    rw [beq_eq_right_iff]
    cases (axisOf s n).hold <;> simp
  · simp [sdo, bankPin]
end


section
/-! The rails: one rule for each change of a rail, of the gates and of the rail tables (O56). -/

namespace Sys2Proof.Machine

open Sys2Proof.Claims

/-! ### Maps of groups -/

theorem getLsbD_foldl_groups (p : Nat → Bool) {g : Nat} (hg : g < 32) : ∀ (l : List Nat) (m : BitVec 32),
    (l.foldl (fun m g => if p g then m ||| BitVec.ofNat 32 (2 ^ g) else m) m).getLsbD g
      = (m.getLsbD g || (decide (g ∈ l) && p g))
  | [], m => by simp
  | x :: l, m => by
    rw [List.foldl_cons, getLsbD_foldl_groups p hg l]
    have hx : (if p x then m ||| BitVec.ofNat 32 (2 ^ x) else m).getLsbD g =
        (m.getLsbD g || (decide (g = x) && p x)) := by
      by_cases h : p x = true
      · simp only [h, if_true, BitVec.getLsbD_or, BitVec.getLsbD_ofNat, Nat.testBit_two_pow]
        simp [hg, eq_comm]
      · simp [h]
    rw [hx]
    by_cases h : g = x
    · subst h; cases p g <;> simp
    · simp [h]

/-- A map of groups holds the groups of its predicate. -/
theorem grp_grpMap (p : Nat → Bool) {g : Nat} (hg : g < 32) : grp (grpMap p) g = p g := by
  rw [grp, grpMap, getLsbD_foldl_groups p hg]
  simp [hg]

/-! ### Changes of rails -/

theorem railOf_setRail_same {s : State} {r : Nat} (h : r < s.rail.rails.length) (f : RailCh → RailCh) :
    railOf (setRail r f s) r = f (railOf s r) := modifyNth_get_same f {} s.rail.rails r h

theorem railOf_setRail_other {s : State} {r q : Nat} (h : q ≠ r) (f : RailCh → RailCh) :
    railOf (setRail r f s) q = railOf s q := modifyNth_get_other f {} s.rail.rails r q h

/-- One change that takes effect once, made to a list of rails: only the rails change, each as the list says. -/
theorem foldl_setRail {f : RailCh → RailCh} (hf : ∀ h, f (f h) = f h) : ∀ (l : List Nat) (s : State),
    let t := l.foldl (fun st r => setRail r f st) s
    t = { s with rail.rails := t.rail.rails } ∧
      ∀ r < s.rail.rails.length, railOf t r = if r ∈ l then f (railOf s r) else railOf s r
  | [], s => ⟨rfl, fun r _ => rfl⟩
  | x :: l, s => by
    obtain ⟨honly, hr⟩ := foldl_setRail hf l (setRail x f s)
    refine ⟨honly, fun r hlt => ?_⟩
    rw [List.foldl_cons, hr r (by simpa [setRail] using hlt)]
    by_cases hx : r = x
    · subst hx
      rw [railOf_setRail_same hlt]
      simp [hf]
    · rw [railOf_setRail_other hx]
      simp [hx]

/-- A rail that a shutdown set takes (R300, R308). -/
def drainedRail (h : RailCh) : RailCh :=
  { h with
    target := false, pending := false, leaving := h.leaving || h.st == .ramp || h.st == .good
    st := if h.st = .wait then .off else h.st }

theorem drainedRail_twice (h : RailCh) : drainedRail (drainedRail h) = drainedRail h := by
  unfold drainedRail
  cases h.st <;> cases h.leaving <;> rfl

theorem mem_enableRails {r : Nat} : r ∈ enableRails ↔ r < 10 := List.mem_range

theorem mem_otherRails {s : State} {r : Nat} : r ∈ otherRails s ↔ r < 10 ∧ railSelf s r = false := by
  simp [otherRails, mem_enableRails]

/-- Some rail of the twelve, and some rail of the list. -/
theorem rails_any {s : State} (hl : s.rail.rails.length = 12) (p : RailCh → Bool) :
    s.rail.rails.any p = true ↔ ∃ r < 12, p (railOf s r) = true := by
  rw [List.any_eq_true]
  constructor
  · rintro ⟨x, hx, hp⟩
    obtain ⟨r, hr, rfl⟩ := List.mem_iff_getElem.mp hx
    exact ⟨r, hl ▸ hr, by simpa [railOf, hr] using hp⟩
  · rintro ⟨r, hr, hp⟩
    have hr' : r < s.rail.rails.length := hl ▸ hr
    exact ⟨s.rail.rails[r], List.getElem_mem hr', by simpa [railOf, hr'] using hp⟩

/-! ### RAIL_CTL and PFW -/

/-- A RAIL_CTL write acts at once where neither REST nor a power entry holds it. -/
theorem railReg_ready {s : State} (hc : clocked s = true) (he : s.pwr.entering = none) (hr : inRest s = false)
    (op mask : Nat) : railReg op mask s = railCmd op mask s := by
  simp [railReg, hc, routedOp, hr, railWrite, entryHolds, he]

theorem railCmd_reserved {op : Nat} (h : 5 ≤ op) (mask : Nat) (s : State) : railCmd op mask s = railRefuse s := by
  unfold railCmd
  split <;> first | omega | rfl

/-- PFW is kept while a trip or a flag stands (R312). -/
theorem pfwClearOp_kept {s : State} (hl : s.rail.rails.length = 12)
    (h : s.rail.cmptrip = true ∨ ∃ r < 12, (railOf s r).uv = true ∨ (railOf s r).ov = true) : pfwClearOp s = s := by
  refine if_pos ?_
  rw [Bool.or_eq_true, rails_any hl]
  simpa using h

/-- PFW clears, and the records that nPFW barred go to the log's queue (R312, R314). -/
theorem pfwClearOp_clears {s : State} (hl : s.rail.rails.length = 12) (hc : s.rail.cmptrip = false)
    (h : ∀ r < 12, (railOf s r).uv = false ∧ (railOf s r).ov = false) : pfwClearOp s = { s with
      rail.pfw := false, rail.barred := false, nvm.leesQ := s.nvm.leesQ ++ s.nvm.barredQ, nvm.barredQ := [] } := by
  refine if_neg ?_
  rw [Bool.or_eq_true, rails_any hl]
  rintro (h1 | ⟨r, hr, h2⟩)
  · simp [hc] at h1
  · simp [h r hr] at h2

theorem holdOf_eq (d : Nat) : holdOf d = min 500 (max 1 (d % 512)) := by
  unfold holdOf clampNat
  (repeat' split) <;> omega

/-- FORCE that makes nPFW low where it was high raises RAIL (R73, R312, R324). -/
theorem pfwCtl_eq (d : Word) (s : State) : pfwCtl d s =
    let s1 : State := { s with
      rail.cmpen := d.getLsbD 15, rail.force := d.getLsbD 14, rail.hold := min 500 (max 1 (d.toNat % 512)) }
    if s.rail.pfw = false ∧ s.rail.force = false ∧ d.getLsbD 14 = true then raise 11 s1 else s1 := by
  rw [pfwCtl, holdOf_eq]
  refine if_congr ?_ rfl rfl
  show ((s.rail.pfw || d.getLsbD 14) && !(s.rail.pfw || s.rail.force)) = true ↔ _
  cases s.rail.pfw <;> cases s.rail.force <;> simp

/-! ### The rail tables -/

/-- A write of a rail table acts where the core is clocked outside REST. -/
theorem railConfigWrite_eq {s : State} (hc : clocked s = true) (hr : inRest s = false) {table : Byte}
    (ht : [0x78, 0x7A].contains table.toNat = true) {a : Nat} (ha : a < 2 ^ 24) (d : Word) :
    exec (.railConfigWrite table (BitVec.ofNat 24 a) d) s = .next (railConfig table.toNat a d s) := by
  have hx : exec (.railConfigWrite table (BitVec.ofNat 24 a) d) s =
      .next (railConfig table.toNat (BitVec.ofNat 24 a).toNat d s) :=
    congrArg Host.Outcome.next ((if_pos (Bool.and_eq_true_iff.mpr ⟨hc, ht⟩)).trans (routedOp_acts hr _ _))
  rwa [BitVec.toNat_ofNat, Nat.mod_eq_of_lt ha] at hx

section
variable {s : State} {r o : Nat} (ho : o < 10) (d : Word)
include ho

theorem railConfig_rail (hr : r < 12) : railConfig 0x78 (16 * r + o) d s =
    if railSelf s r || railWordBad r o d.toNat then railCfgRefuse r false s
    else if !railCfgFree s r then railCfgRefuse r true s
    else tset 0x78 (16 * r + o) (word (railKeep r o d.toNat)) s := by
  have h1 : (16 * r + o) / 16 = r := by omega
  have h2 : (16 * r + o) % 16 = o := by omega
  have h3 : ¬ (192 ≤ 16 * r + o ∨ 10 ≤ o) := by omega
  simp only [railConfig, h1, h2, h3, if_true, if_false]

/-- A write for a SELF rail, or of a word outside its range, is refused with CFGERR (R319). -/
theorem railConfig_error (hr : r < 12) (h : railSelf s r = true ∨ railWordBad r o d.toNat = true) :
    railConfig 0x78 (16 * r + o) d s = raise 11 (recErr 0x0B (16 * r + 6) { s with rail.cfgerr := true }) := by
  rw [railConfig_rail ho d hr, if_pos (by simpa using h), railCfgRefuse]
  simp [irqRail]

/-- A write for a rail that runs is refused with CFGBUSY (R319). -/
theorem railConfig_busy (hr : r < 12) (h : railSelf s r = false) (hb : railWordBad r o d.toNat = false)
    (hf : railCfgFree s r = false) :
    railConfig 0x78 (16 * r + o) d s = raise 11 (recErr 0x0B (16 * r + 6) { s with rail.cfgbusy := true }) := by
  rw [railConfig_rail ho d hr, if_neg (by simp [h, hb]), if_pos (by simp [hf]), railCfgRefuse]
  simp [irqRail]

/-- A write for a rail that is free of both is stored, but for its reserved bits (R319). -/
theorem railConfig_stored (hr : r < 12) (h : railSelf s r = false) (hb : railWordBad r o d.toNat = false)
    (hf : railCfgFree s r = true) :
    railConfig 0x78 (16 * r + o) d s = tset 0x78 (16 * r + o) (word (railKeep r o d.toNat)) s := by
  rw [railConfig_rail ho d hr, if_neg (by simp [h, hb]), if_neg (by simp [hf])]

end

theorem railCfgFree_enable {s : State} {r : Nat} (h : r < 10) :
    railCfgFree s r = true ↔ (railOf s r).st = .off ∨ (railOf s r).st = .fail := by
  simp [railCfgFree, h]

theorem railCfgFree_monitor {s : State} {r : Nat} (h : 10 ≤ r) :
    railCfgFree s r = true ↔ ∀ q < 10, bit (railDeps s q) r = true → (railOf s q).ren = false := by
  simp only [railCfgFree, Nat.not_lt.mpr h, if_false, List.all_eq_true, mem_enableRails]
  refine forall₂_congr fun q _ => ?_
  cases bit (railDeps s q) r <;> simp

/-- The RAIL gate source follows table 0x7A and the rails (R313, R318); table space and the rails stay. -/
theorem railGates_spec (s : State) : (railGates s).tbl = s.tbl ∧ (railGates s).rail = s.rail ∧
    (railGates s).hc.railClosed = railGateMap s := by
  unfold railGates setRailGate raiseIfNew
  dsimp only
  split <;> exact ⟨rfl, rfl, rfl⟩

theorem grp_railGateMap (s : State) {g : Nat} (hg : g < 32) : grp (railGateMap s) g =
    (s.rail.selfFault || (List.range 12).any fun r => bit (tnat s 0x7A g) r && !railGood s r) :=
  grp_grpMap _ hg

/-- A group's rails are words of 12 bits (R318, R325). -/
theorem railConfig_groups {s : State} (hw : tblWf s = true) (ha : swathActive s = false) {g : Nat} (hg : g < 32)
    (d : Word) : let t := railConfig 0x7A g d s
    tget t 0x7A g = d &&& 0x0FFF ∧ t.rail = s.rail ∧
      grp t.hc.railClosed g = (s.rail.selfFault || (List.range 12).any fun r => d.getLsbD r && !railGood s r) := by
  have ht : railConfig 0x7A g d s = railGates (tset 0x7A g (d &&& 0x0FFF) s) := by
    simp [railConfig, hg, ha, show ¬ 33 ≤ g by omega]
  obtain ⟨htbl, hrail, hgate⟩ := railGates_spec (tset 0x7A g (d &&& 0x0FFF) s)
  have hget : tget (tset 0x7A g (d &&& 0x0FFF) s) 0x7A g = d &&& 0x0FFF := tget_tset_same hw _ _ _
  rw [ht]
  refine ⟨(congrFun₂ (tget_congr htbl) _ _).trans hget, hrail, ?_⟩
  rw [hgate, grp_railGateMap _ hg]
  have hbit : ∀ r < 12, bit (tnat (tset 0x7A g (d &&& 0x0FFF) s) 0x7A g) r = d.getLsbD r := by
    intro r hr
    have hmask : ∀ q < 12, (0x0FFF : Word).getLsbD q = true := by decide
    rw [tnat, hget, bit, BitVec.testBit_toNat, BitVec.getLsbD_and, hmask r hr, Bool.and_true]
  refine congrArg (s.rail.selfFault || ·) ?_
  rw [List.any_eq, List.any_eq]
  refine decide_eq_decide.mpr (exists_congr fun r => and_congr_right fun hr => ?_)
  rw [hbit r (List.mem_range.mp hr)]
  rfl

/-- A counter that is cleared leaves a record with the value 0 (R317, R391). -/
theorem railCounter_clears {s : State} (hr : coreRuns s = true) (hf : logsFree s = true) {a : Nat} (h : a % 8 < 5) :
    railCounter a s = { tset 0x7C a 0 s with
      nvm.leesQ := s.nvm.leesQ ++ [leesRec s 0x0B (16 * (a / 8) + 10) [a, 0, 0]] } :=
  (if_neg (by omega)).trans (lees_queued (s := tset 0x7C a 0 s) hr hf _ _ _)

end Sys2Proof.Machine

open Sys2Proof.Machine Sys2Proof.Claims

/-- Settles O56: RAIL_CTL by what it does to its rails, PFW by what keeps it, the tables by what a write is
refused for. -/
theorem railCommands : Obligations.RailCommands := by
  intro s mask hw hc he hr rs refused drained gives
  have hl := hw.rails
  have hrun := coreRuns_of_clocked hc
  have reg {i : Sys2Proof.Instr} {op : Nat} (hi : exec i s = .next (railReg op mask.toNat s)) :
      exec i s = .next (railCmd op mask.toNat s) := hi.trans (congrArg _ (railReg_ready hc he hr op mask.toNat))
  have acts {f : State → State} {c : Held} : (if clocked s then routedOp c f s else s) = f s :=
    (if_pos hc).trans (routedOp_acts hr c f)
  have changes {i : Sys2Proof.Instr} {f : RailCh → RailCh} (hf : ∀ h, f (f h) = f h) {l : List Nat}
      (hi : exec i s = .next (l.foldl (fun st r => setRail r f st) s)) : ∃ t, exec i s = .next t ∧
        t = { s with rail.rails := t.rail.rails } ∧
          ∀ r < 12, railOf t r = if r ∈ l then f (railOf s r) else railOf s r := by
    obtain ⟨honly, hrail⟩ := foldl_setRail hf l s
    exact ⟨_, hi, honly, fun r h12 => hrail r (hl ▸ h12)⟩
  refine ⟨reg (i := .railNone mask) (op := 0) rfl, fun op hop => ?_, fun h => ?_, fun h => ?_, fun h => ?_, fun h => ?_,
    ?_, ?_, fun h => ?_, fun h1 h2 => ?_, fun d => ?_, fun r o d => ?_, fun g d => ⟨fun h => ?_, fun h => ?_⟩,
    fun a => ⟨fun h => ?_, fun h hf => ?_⟩⟩
  · exact (reg (i := .railReservedOp op mask) (if_neg (by omega))).trans (congrArg _ (railCmd_reserved hop _ s))
  · exact (reg (i := .railOn mask) (op := 1) rfl).trans (congrArg _ (if_pos h))
  · exact changes (i := .railOn mask) (f := fun h => { h with target := true }) (fun _ => rfl)
      ((reg (op := 1) rfl).trans (congrArg _ (if_neg (Bool.eq_false_iff.mp h))))
  · exact (reg (i := .railOff mask) (op := 2) rfl).trans (congrArg _ (if_pos h))
  · obtain ⟨t, ht, honly, hrail⟩ := changes (i := .railOff mask) drainedRail_twice
      ((reg (op := 2) rfl).trans (congrArg _ (if_neg (Bool.eq_false_iff.mp h))))
    refine ⟨t, ht, honly, fun r h12 => (hrail r h12).trans (if_congr (List.mem_filter.trans ?_) rfl rfl)⟩
    rw [Bool.and_eq_true, decide_eq_true_iff, Bool.not_eq_true']
  · obtain ⟨t, ht, honly, hrail⟩ := changes (i := .railClear mask)
      (f := fun h => { h with st := if h.st = .fail then .off else h.st })
      (fun h => by cases h.st <;> rfl) (reg (op := 3) rfl)
    refine ⟨t, ht, honly, fun r h12 => (hrail r h12).trans ?_⟩
    by_cases hf : (railOf s r).st = .fail
    · simp [hf, rs]
    · simp [hf]
  · obtain ⟨t, ht, honly, hrail⟩ := changes (i := .railAllOff mask) drainedRail_twice (reg (op := 4) rfl)
    exact ⟨t, ht, honly, fun r h12 => (hrail r h12).trans (if_congr mem_otherRails rfl rfl)⟩
  · exact congrArg Host.Outcome.next (acts.trans (pfwClearOp_kept hl h))
  · exact congrArg Host.Outcome.next (acts.trans (pfwClearOp_clears hl h1 h2))
  · exact congrArg Host.Outcome.next (acts.trans (pfwCtl_eq d s))
  · have write := railConfigWrite_eq hc hr (table := 0x78) rfl (a := 16 * r + o) (by omega) d
    refine ⟨fun h => ?_, fun hself hbad h10 => ⟨fun h1 h2 => ?_, fun h => ?_⟩,
      fun hself hbad h10 => ⟨fun ⟨q, hq, hdep, hren⟩ => ?_, fun h => ?_⟩⟩
    · exact write.trans (congrArg _ (railConfig_error o.isLt d r.isLt h))
    · refine write.trans (congrArg _ (railConfig_busy o.isLt d r.isLt hself hbad ?_))
      exact Bool.not_eq_true _ ▸ fun hf => ((railCfgFree_enable h10).mp hf).elim h1 h2
    · exact write.trans (congrArg _ (railConfig_stored o.isLt d r.isLt hself hbad ((railCfgFree_enable h10).mpr h)))
    · refine write.trans (congrArg _ (railConfig_busy o.isLt d r.isLt hself hbad ?_))
      refine Bool.not_eq_true _ ▸ fun hf => ?_
      simp [(railCfgFree_monitor h10).mp hf q hq hdep] at hren
    · exact write.trans (congrArg _ (railConfig_stored o.isLt d r.isLt hself hbad ((railCfgFree_monitor h10).mpr h)))
  · have write := railConfigWrite_eq hc hr (table := 0x7A) rfl (a := g) (by omega) d
    refine write.trans (congrArg _ ?_)
    simp [railConfig, railCfgRefuse, h, irqRail, show ¬ 33 ≤ g.val by omega]
  · have write := railConfigWrite_eq hc hr (table := 0x7A) rfl (a := g) (by omega) d
    exact ⟨_, write, railConfig_groups hw.tbl h g.isLt d⟩
  · exact congrArg Host.Outcome.next (acts.trans (if_pos h))
  · refine ⟨_, congrArg Host.Outcome.next (acts.trans (railCounter_clears hrun hf h)), ?_, rfl, rfl, rfl⟩
    exact tget_tset_same hw.tbl 0x7C a 0
end


section
/-! The routing queue and the accesses of the fabric (O26). -/

namespace Sys2Proof.Machine

open Sys2Proof.Claims

/-- Another host port leaves the memories and the lists in good form. -/
theorem WfState.withHost {s : State} (h : WfState s) (x : HostPort) : WfState { s with host := x } :=
  ⟨h.tbl, h.flash, h.ram, h.defs, h.cask, h.enc, h.axes, h.vlv, h.rails, h.wdacs, h.slots, h.inputs, h.temps, h.reads,
    h.cons, h.ports, h.routes, h.v⟩

/-! ### The routing queue (R65, R68) -/

/-- The stream of results once the read of item `q` is answered by `d`. -/
abbrev readsAnswered (q : Routed) (d : Word) (l : List ReadItem) : List ReadItem :=
  l.map fun r => if r.id = q.id ∧ q.rnw = true then { r with ready := true, data := d } else r

theorem readsAnswered_write {q : Routed} (h : q.rnw = false) (d : Word) (l : List ReadItem) :
    readsAnswered q d l = l := by
  simp [readsAnswered, h]

section
variable {s : State} {q : Routed} {rest : List Routed} (hq : s.host.queue = q :: rest) (hids : ∀ x ∈ rest, x.id ≠ q.id)
include hq

/-- The front item of the queue starts where it is not under way. -/
theorem nextItem_front (hf : q.inFlight = false) (hb : q.barrier = false) : nextItem s = some q := by
  simp [nextItem, hq, hf, hb]

/-- A front item whose answer is overdue fails. -/
theorem remoteTimeout_front (hf : q.inFlight = true) (hd : q.deadline ≤ s.tk) :
    remoteTimeout s = completeItem q false 0 s := by
  simp [remoteTimeout, hq, hf, hd]

/-- An answer that carries the SEQ of the front item's request completes it (R87). -/
theorem takeAnswer_front {n : Nat} (hf : q.inFlight = true) (hd : q.dst = n) (hn : q.dst ≠ 63)
    (hbad : q.failed = false) (status : Nat) (d : Word) :
    takeAnswer n q.seq status d s = completeItem q (status == 0) d s := by
  have hfind : awaited n q.seq s = some q := by simp [awaited, hq, hf, hd]
  simp [takeAnswer, hfind, hn, hbad, bne]

include hids

/-- An item completes: it leaves the queue, and its read gets the word. -/
theorem completeItem_ok (d : Word) : completeItem q true d s =
    { s with host.queue := rest, host.results := readsAnswered q d s.host.results } := by
  have hrest : (q :: rest).filter (fun x => x.id != q.id) = rest := by simpa using hids
  simp [completeItem, hq, hrest]

/-- An item fails: it leaves the queue, its read gets 0x0000, and REMERR is recorded (R68). -/
theorem completeItem_failed (d : Word) : completeItem q false d s =
    remoteFails { s with host.queue := rest, host.results := readsAnswered q 0 s.host.results } := by
  have hrest : (q :: rest).filter (fun x => x.id != q.id) = rest := by simpa using hids
  simp [completeItem, hq, hrest]

theorem completeItem_failed_spec (hw : tblWf s = true) (hrun : coreRuns s = true) (d : Word) :
    let t := completeItem q false d s
    t.host.queue = rest ∧ t.host.results = readsAnswered q 0 s.host.results ∧
      t.host.hstFlags = s.host.hstFlags ||| 0x02 ∧ countedOne s t 0x00 6 ∧ newestError t s.tick 0x0108 := by
  rw [completeItem_failed hq hids]
  have ev := countedEvent (s := { s with host.queue := rest, host.results := readsAnswered q 0 s.host.results })
    hw hrun 1 8 6
  exact ⟨same_of_unrecorded ev.rest (·.queue), same_of_unrecorded ev.rest (·.results), ev.flags, ev.counted, ev.error⟩

/-- The front item goes out: it waits 1 ms for the answer with the SEQ of its request (R68, R87). -/
theorem itemSent_front (mask : Nat) : (itemSent q mask s).host.queue =
    { q with inFlight := true, deadline := s.tk + 250000, waitMask := mask, seq := seqOf q.dst 0 s } :: rest := by
  have hrest : rest.map (fun x => if x.id = q.id then
      { x with inFlight := true, deadline := s.tk + 250000, waitMask := mask, seq := seqOf q.dst 0 s } else x) = rest :=
    (List.map_congr_left fun x hx => if_neg (hids x hx)).trans (List.map_id' rest)
  simp [itemSent, hq, hrest]

end

/-- One start of the queue, on its front item (R65). -/
theorem queueStep_eq {s : State} {q : Routed} (hp : portDecodes s = true) (hn : nextItem s = some q)
    (hb : q.barrier = false) (hd : q.dst ≠ 63) : exec .routedFrameExecute s = .next
      (if q.dst ≠ 0 then startRemote q s
        else if endsRest q.rnw q.addr s then { s with pwr.waking := true } else startLocal q s) := by
  refine congrArg Host.Outcome.next ((if_pos hp).trans ?_)
  simp [queueStep, hn, hb, hd]

/-- The packet of a remote access leaves the host port as the mark of it as sent does. -/
theorem startRemote_host {s : State} {q : Routed} (hw : WfState s) (hr : routable s q.dst = true) :
    (startRemote q s).host = (itemSent q 0 s).host := by
  have : Fact (Part.tbl ∈ [Part.tbl, .vine]) := ⟨by decide⟩
  have : Fact (Part.vine ∈ [Part.tbl, .vine]) := ⟨by decide⟩
  have hw1 : WfState (itemSent q 0 s) := hw.withHost _
  rw [startRemote, if_pos hr]
  exact (sendTo_keeps _ _ _ _ _ (Keeps.start [.tbl, .vine] hw1)).stay .host (by decide)

/-- SCRATCH as a command of the queue or of the fabric reaches it. -/
theorem nodeAccess_scratch {s : State} (hu : isUp s = true) (inc view : Bool) (d : Word) :
    nodeAccess false inc view 0x3F d s = (0, 0, { s with host.scratch := d }) ∧
      nodeAccess true inc view 0x3F d s = (0, s.host.scratch, s) := by
  have ha := answers_up hu (a := 0x3F) rfl
  constructor
  · simp only [nodeAccess, ha]; rfl
  · simp only [nodeAccess, ha]; rfl

end Sys2Proof.Machine
end


section
/-! A packet taken in, and its answer (R87, R89, R111). -/

namespace Sys2Proof.Machine

open Sys2Proof.Claims

/-! ### Ports -/

theorem portOf_setPort_same {s : State} {p : Nat} (h : p < s.vine.ports.length) (f : Port → Port) :
    portOf (setPort p f s) p = f (portOf s p) := modifyNth_get_same f {} s.vine.ports p h

theorem portOf_setPort_other {s : State} {p r : Nat} (h : r ≠ p) (f : Port → Port) :
    portOf (setPort p f s) r = portOf s r := modifyNth_get_other f {} s.vine.ports p r h

theorem setPort_setPort (p : Nat) (f g : Port → Port) (s : State) :
    setPort p g (setPort p f s) = setPort p (fun x => g (f x)) s :=
  congrArg (fun l => { s with vine.ports := l }) (modifyNth_modifyNth f g s.vine.ports p)

/-- A port once a packet has joined its queue and what its credits allow is sent (R91). -/
def afterSending (stamp : Packet → Packet) (pkt : Packet) (x : Port) : Port :=
  drainPort stamp { x with txq := x.txq ++ [pkt] }

/-- The port of `canSend` is one of the three, up and not idle, with nothing waiting and a credit. -/
theorem canSend_zero {s : State} {r : Nat} : canSend s r 0 = true ↔ r < 3 ∧ s.pwr.state ≤ 1 ∧
    (portOf s r).up = true ∧ (portOf s r).idle = false ∧ (portOf s r).txq = [] ∧ 1 ≤ (portOf s r).credit0 := by
  simp [canSend, and_assoc]

/-- An answer goes out as it is (R86). -/
theorem stampSent_answer {pkt : Packet} (h : pkt.type = 0x07) (s : State) (p : Nat) : stampSent s p pkt = pkt := by
  simp [stampSent, h]

theorem settleCopy_none {pkt : Packet} (h : pkt.owe = none) (s : State) : settleCopy s pkt = s := by
  simp [settleCopy, h]

section
variable {s : State} {r : Nat} {pkt : Packet} (hs : canSend s r 0 = true) (hcls : pkt.cls = 0) (htype : pkt.type = 0x07)
include hs hcls htype

/-- The answer is what a port that can send it sends (R91). -/
theorem afterSending_sent : (afterSending (stampSent s r) pkt (portOf s r)).sent = (portOf s r).sent ++ [pkt] := by
  obtain ⟨-, -, hup, hidle, hq, hcr⟩ := canSend_zero.mp hs
  simp [afterSending, drainPort, takeCredit, hup, hidle, hq, hcr, hcls, htype, stampSent_answer]

/-- An answer that a port can send goes out at once and is counted (R91, R116). -/
theorem sendOn_now (hl : s.vine.ports.length = 3) (howe : pkt.owe = none) :
    sendOn r pkt s = countSent r 1 (setPort r (afterSending (stampSent s r) pkt) s) := by
  obtain ⟨hr, -, hup, hidle, -, -⟩ := canSend_zero.mp hs
  have hgo : sendOn r pkt s = drain r (setPort r (fun x => { x with txq := x.txq ++ [pkt] }) s) := by
    simp [sendOn, hup, hidle, hcls]
  have hset : setPort r (drainPort (stampSent s r)) (setPort r (fun x => { x with txq := x.txq ++ [pkt] }) s) =
    setPort r (afterSending (stampSent s r) pkt) s := setPort_setPort _ _ _ _
  have hnew : (portOf (setPort r (afterSending (stampSent s r) pkt) s) r).sent.drop
      (portOf (setPort r (fun x => { x with txq := x.txq ++ [pkt] }) s) r).sent.length = [pkt] := by
    rw [portOf_setPort_same (by omega), portOf_setPort_same (by omega), afterSending_sent hs hcls htype]
    exact List.drop_left' rfl
  rw [hgo, drain, show stampSent (setPort r (fun x => { x with txq := x.txq ++ [pkt] }) s) r = stampSent s r from rfl,
    hset, hnew]
  exact settleCopy_none howe _

end

/-- The REG_RSP of this node to a request (R111). -/
def answerTo (h : Hdr) (ws : List Word) (s : State) : Packet :=
  { dst := h.src.toNat, src := s.vine.nodeId, type := 0x07, cls := 0, seq := h.seq.toNat, words := ws }

/-- The answer to a request is the last packet of the port toward its sender, and the host port is as before (R111). -/
theorem respondTo_lastAnswer {s : State} {r : Nat} {h : Hdr} (hl : s.vine.ports.length = 3)
    (hroute : routeOf s h.src.toNat = r + 1) (hs : canSend s r 0 = true) (ws : List Word) :
    let t := respondTo h.src.toNat h.seq.toNat ws s
    lastAnswer t r h ws ∧ t.host = s.host := by
  obtain ⟨hr, -⟩ := canSend_zero.mp hs
  have ht : respondTo h.src.toNat h.seq.toNat ws s =
      countSent r 1 (setPort r (afterSending (stampSent s r) (answerTo h ws s)) s) := by
    rw [respondTo, hroute]
    exact sendOn_now hs rfl rfl hl rfl
  have hsent : (portOf (countSent r 1 (setPort r (afterSending (stampSent s r) (answerTo h ws s)) s)) r).sent =
      (portOf s r).sent ++ [answerTo h ws s] :=
    (congrArg Port.sent (portOf_setPort_same (by omega) _)).trans (afterSending_sent hs rfl rfl)
  rw [ht]
  exact ⟨⟨answerTo h ws s, by rw [hsent]; exact List.getLast?_concat, rfl, rfl, rfl, rfl, rfl, rfl⟩, rfl⟩

/-! ### Taking a packet in (R89, R116) -/

/-- What the arrival of a packet keeps of what an access and its answer rest on: the host port, the start-up and power
states, the node's number and its routes, and that port `r` can send. -/
structure AnswersAs (r : Nat) (s t : State) : Prop where
  host : t.host = s.host
  boot : t.boot = s.boot
  pwr : t.pwr = s.pwr
  tick : t.tick = s.tick
  node : t.vine.nodeId = s.vine.nodeId
  route : ∀ n, routeOf t n = routeOf s n
  ports : t.vine.ports.length = s.vine.ports.length
  sends : canSend s r 0 = true → canSend t r 0 = true

theorem AnswersAs.trans {r : Nat} {s t u : State} (h : AnswersAs r s t) (g : AnswersAs r t u) : AnswersAs r s u :=
  ⟨g.host.trans h.host, g.boot.trans h.boot, g.pwr.trans h.pwr, g.tick.trans h.tick, g.node.trans h.node,
    fun n => (g.route n).trans (h.route n), g.ports.trans h.ports, fun hs => g.sends (h.sends hs)⟩

/-- A port that can send goes on to, where a change of ports leaves its credits and its queue alone. -/
theorem canSend_setPort {s : State} {r p : Nat} {f : Port → Port} (hl : s.vine.ports.length = 3)
    (hf : p = r → (f (portOf s p)).up = (portOf s p).up ∧ (f (portOf s p)).idle = (portOf s p).idle ∧
      (f (portOf s p)).txq = (portOf s p).txq ∧ (f (portOf s p)).credit0 = (portOf s p).credit0)
    (hs : canSend s r 0 = true) : canSend (setPort p f s) r 0 = true := by
  obtain ⟨hr, hpwr, hup, hidle, hq, hcr⟩ := canSend_zero.mp hs
  rw [canSend_zero]
  by_cases h : p = r
  · obtain ⟨h1, h2, h3, h4⟩ := hf h
    subst h
    rw [portOf_setPort_same (by omega), h1, h2, h3, h4]
    exact ⟨hr, hpwr, hup, hidle, hq, hcr⟩
  · rw [portOf_setPort_other (Ne.symm h)]
    exact ⟨hr, hpwr, hup, hidle, hq, hcr⟩

/-- A CREDIT packet goes out beside the queue, or waits on an idle port (R89, R91, R105). -/
theorem sendCredit_answersAs {s : State} (hl : s.vine.ports.length = 3) (r p cls : Nat) (init : Bool) (n : Nat) :
    AnswersAs r s (sendCredit p cls init n s) := by
  unfold sendCredit
  split
  · dsimp only
    split
    next hidle =>
      refine ⟨rfl, rfl, rfl, rfl, rfl, fun _ => rfl, modifyNth_length _ _ p, fun hs => ?_⟩
      refine canSend_setPort (s := (nextSeq 0 0 s).2) hl (fun hp => ?_) hs
      simp [← hp, canSend_zero, hidle] at hs
    next =>
      exact ⟨rfl, rfl, rfl, rfl, rfl, fun _ => rfl, modifyNth_length _ _ p,
        canSend_setPort (s := (nextSeq 0 0 s).2) hl fun _ => ⟨rfl, rfl, rfl, rfl⟩⟩
  · exact ⟨rfl, rfl, rfl, rfl, rfl, fun _ => rfl, rfl, id⟩

theorem heardFrom_answersAs (r src : Nat) (s : State) : AnswersAs r s (heardFrom src s) := by
  unfold heardFrom
  split <;> exact ⟨rfl, rfl, rfl, rfl, rfl, fun _ => rfl, rfl, id⟩

theorem bump32_answersAs (r tb a : Nat) (s : State) : AnswersAs r s (bump32 tb a s) :=
  ⟨rfl, rfl, rfl, rfl, rfl, fun _ => rfl, rfl, id⟩

theorem portArrived_answersAs {s : State} (hl : s.vine.ports.length = 3) (r p cls src : Nat) :
    AnswersAs r s (portArrived p cls src s) :=
  ((bump32_answersAs r 0x13 (16 * p + 8) s).trans
    (sendCredit_answersAs (s := bump32 0x13 (16 * p + 8) s) hl r p cls false 1)).trans (heardFrom_answersAs r src _)

theorem arrived_answersAs {s : State} (hl : s.vine.ports.length = 3) (r dst cls src : Nat) :
    AnswersAs r s (arrived dst cls src s) := by
  unfold arrived
  split
  · exact heardFrom_answersAs r src s
  · exact portArrived_answersAs hl r _ cls src

/-- The memories and lists stay in good form as a packet arrives. -/
theorem arrived_wf {s : State} (hw : WfState s) (dst cls src : Nat) : WfState (arrived dst cls src s) := by
  have : Fact (Part.tbl ∈ [Part.tbl, .txn, .vine]) := ⟨by decide⟩
  have : Fact (Part.txn ∈ [Part.tbl, .txn, .vine]) := ⟨by decide⟩
  have : Fact (Part.vine ∈ [Part.tbl, .txn, .vine]) := ⟨by decide⟩
  exact (arrived_keeps dst cls src s (Keeps.start [.tbl, .txn, .vine] hw)).toWfState

/-! ### Accesses of the fabric -/

/-- A REG_WR or REG_RD for this node: its answer is the last packet of the port toward its sender, and the host port is as
the access leaves it (R111, R112). -/
theorem takeAccess_answers {s : State} {p r : Nat} {h : Hdr} {rnw inc view : Bool} {a : Nat} {d : Word}
    (hl : s.vine.ports.length = 3) (hv : vineOn s = true) (hup : (portOf s p).up = true) (hme : forMe h s = true)
    (hroute : routeOf s h.src.toNat = r + 1) (hs : canSend s r 0 = true) {status : Nat} {w : Word} {v : State}
    (hacc : fabricAccess rnw inc view a d (portArrived p 0 h.src.toNat s) = (status, w, v))
    (hvine : v.vine = (portArrived p 0 h.src.toNat s).vine) (hpwr : v.pwr = (portArrived p 0 h.src.toNat s).pwr) :
    let t := takeAccess p h none rnw inc view a d s
    lastAnswer t r h [word status, w] ∧ t.host = v.host := by
  have hu := portArrived_answersAs hl r p 0 h.src.toNat
  have ht : takeAccess p h none rnw inc view a d s = respondTo h.src.toNat h.seq.toNat [word status, w] v := by
    simp [takeAccess, hv, hup, accessForMe, hme, hacc]
  have hports : v.vine.ports.length = 3 := by rw [hvine, hu.ports, hl]
  have hr : routeOf v h.src.toNat = r + 1 := by rw [routeOf, hvine, ← routeOf, hu.route, hroute]
  have hsend : canSend v r 0 = true := by
    rw [canSend, portOf, hvine, hpwr]; exact hu.sends hs
  rw [ht]
  exact respondTo_lastAnswer hports hr hsend _

/-- A core in reset or recovery takes no access (R111). -/
theorem fabricAccess_down {s : State} (h : coreRuns s = false ∨ s.boot.phase = .recovery) (rnw inc view : Bool) (a : Nat)
    (d : Word) : fabricAccess rnw inc view a d s = (3, 0, s) :=
  if_pos (by simpa using h)

/-- An anchor register answers an access of the fabric as a reserved address does. -/
theorem fabricAccess_anchor {s : State} (hrun : coreRuns s = true) (hrec : s.boot.phase ≠ .recovery) {a : Nat}
    (ha : isAnchor a = true) (rnw inc view : Bool) (d : Word) :
    fabricAccess rnw inc view a d s = (1, 0, reservedAccess s) :=
  (if_neg (by simp [hrun, hrec])).trans (if_pos ha)

theorem coreRuns_congr {s t : State} (h : t.boot = s.boot) : coreRuns t = coreRuns s := by
  rw [coreRuns, h]; rfl

/-- An access that is answered as reserved leaves the fabric, the power state and IRQ_MASK as they were (R76). -/
theorem reservedAccess_same {s : State} (hrun : coreRuns s = true) : (reservedAccess s).vine = s.vine ∧
    (reservedAccess s).pwr = s.pwr ∧ (reservedAccess s).host.irqMask = s.host.irqMask := by
  have ev := hostEvent (s := bump 0x00 4 s) hrun 5 4
  exact ⟨(congrArg State.vine ev.only).trans rfl, (congrArg State.pwr ev.only).trans rfl,
    same_of_unrecorded ev.rest (·.irqMask)⟩

/-- An answer for this node that carries the SEQ of the front item's request completes it (R111). -/
theorem pktRegRsp_front {s : State} {h : Hdr} {q : Routed} {rest : List Routed} (hp : portDecodes s = true)
    (hme : (vineOn s && forMe h s) = true) (hq : (arrived h.dst.toNat 0 h.src.toNat s).host.queue = q :: rest)
    (hf : q.inFlight = true) (hd : q.dst = h.src.toNat) (hn : q.dst ≠ 63) (hbad : q.failed = false)
    (hseq : q.seq = h.seq.toNat) (st d : Word) : exec (.pktRegRsp h st d) s =
      .next (completeItem q (st.toNat == 0) d (arrived h.dst.toNat 0 h.src.toNat s)) := by
  refine congrArg Host.Outcome.next ((if_pos hme).trans ((if_pos hp).trans ?_))
  rw [← hseq]
  exact takeAnswer_front hq hf hd hn hbad _ d

/-- A register of a node that is up and in RUN answers as on the node itself. -/
theorem fabricAccess_run {s : State} (hup : isUp s = true) (hpwr : s.pwr.state = 0) {a : Nat} (ha : isAnchor a = false)
    (rnw inc view : Bool) (d : Word) : fabricAccess rnw inc view a d s = nodeAccess rnw inc view a d s := by
  have hphase : s.boot.phase = .up := by simpa [isUp] using hup
  simp [fabricAccess, coreRuns, hphase, ha, endsRest, inRest, hpwr]

end Sys2Proof.Machine
end


section
/-! A core reset (R332, R342), for any cause but the watchdog's. -/

namespace Sys2Proof.Machine

open Sys2Proof.Claims

/-! ### The NVM work that a reset cuts (R314, R398) -/

theorem cutNvm_same {s : State} (hw : WfState s) (p : Part) (hp : p ∉ [Part.free, .pwr, .cal, .nvm]) :
    p.same s (cutNvm s) := by
  have : Fact (Part.free ∈ [Part.free, .pwr, .cal, .nvm]) := ⟨by decide⟩
  have : Fact (Part.pwr ∈ [Part.free, .pwr, .cal, .nvm]) := ⟨by decide⟩
  have : Fact (Part.cal ∈ [Part.free, .pwr, .cal, .nvm]) := ⟨by decide⟩
  have : Fact (Part.nvm ∈ [Part.free, .pwr, .cal, .nvm]) := ⟨by decide⟩
  exact (cutNvm_keeps s (Keeps.start [.free, .pwr, .cal, .nvm] hw)).stay p hp

theorem cutLees_regions (s : State) : (cutLees s).nvm.keys = s.nvm.keys ∧ (cutLees s).nvm.locked = s.nvm.locked ∧
    (cutLees s).nvm.defaults = s.nvm.defaults ∧ (cutLees s).nvm.busy = s.nvm.busy := by
  unfold cutLees
  generalize leesNextFree s 8192 s.nvm.leesNext = k
  split
  · simp only [nvmStore, and_self]
  · exact ⟨rfl, rfl, rfl, rfl⟩

/-- Bytes of the flash that are left open, and bytes stored, belong to no other region. -/
theorem nvmScramble_regions (a n b : Nat) (bs : List Byte) (s : State) :
    let t := nvmStore b bs (nvmScramble a n s)
    t.nvm.keys = s.nvm.keys ∧ t.nvm.locked = s.nvm.locked ∧ t.nvm.defaults = s.nvm.defaults ∧ t.nvm.busy = s.nvm.busy :=
  ⟨rfl, rfl, rfl, rfl⟩

theorem cutStore_regions (s : State) : (cutStore s).nvm.keys = s.nvm.keys ∧ (cutStore s).nvm.locked = s.nvm.locked ∧
    (cutStore s).nvm.defaults = s.nvm.defaults ∧ (cutStore s).nvm.busy = s.nvm.busy := by
  unfold cutStore
  split
  · exact nvmScramble_regions _ _ _ _ _
  · exact ⟨rfl, rfl, rfl, rfl⟩

theorem cutCommand_none {s : State} (h : s.nvm.busy = none) : cutCommand s = s := by
  simp [cutCommand, h]

/-- Where no command writes them, the keys, LOCK and the defaults stay (R314). -/
theorem cutNvm_regions {s : State} (h : s.nvm.busy = none) : (cutNvm s).nvm.keys = s.nvm.keys ∧
    (cutNvm s).nvm.locked = s.nvm.locked ∧ (cutNvm s).nvm.defaults = s.nvm.defaults := by
  obtain ⟨hk, hl, hd, hb⟩ := cutLees_regions s
  obtain ⟨hk', hl', hd', hb'⟩ := cutStore_regions (cutLees s)
  rw [cutNvm, cutCommand_none (by rw [hb', hb, h])]
  exact ⟨hk'.trans hk, hl'.trans hl, hd'.trans hd⟩

/-- Nothing is cut where nothing is in progress. -/
theorem cutNvm_idle {s : State} (h : s.nvm.busy = none) (hs : s.cal.storing = none) (hl : leesRuns s = false) :
    cutNvm s = s := by
  have h1 : cutLees s = s := if_neg (by simp [hl])
  have h2 : cutStore s = s := by simp [cutStore, hs]
  rw [cutNvm, h1, h2, cutCommand_none h]

/-! ### The release of the core (R326, R321) -/

/-- What the release leaves as the reset made it. -/
structure ReleasedFrom (s t : State) : Prop where
  cause : t.boot.cause = s.boot.cause
  sub : t.boot.sub = s.boot.sub
  v : t.boot.v = s.boot.v
  period : t.boot.period = s.boot.period
  pwr : t.pwr = s.pwr
  enc : t.enc = s.enc
  jet : t.jet = s.jet
  ing : t.ing = s.ing
  mot : t.mot = s.mot
  vlv : t.vlv = s.vlv
  txn : t.txn = s.txn
  vine : t.vine = s.vine
  rails : t.rail.rails = s.rail.rails
  selfSeq : t.rail.selfSeq = s.rail.selfSeq
  keys : t.nvm.keys = s.nvm.keys
  locked : t.nvm.locked = s.nvm.locked
  defaults : t.nvm.defaults = s.nvm.defaults
  mem : t.nvm.mem = s.nvm.mem
  headid : t.hc.headidClosed = s.hc.headidClosed
  rail : t.hc.railClosed = s.hc.railClosed
  words : tblWf s = true → ∀ tb a, a < 2 ^ 24 → keptTable tb = false → tget t tb a = tget s tb a

theorem ReleasedFrom.refl (s : State) : ReleasedFrom s s :=
  ⟨rfl, rfl, rfl, rfl, rfl, rfl, rfl, rfl, rfl, rfl, rfl, rfl, rfl, rfl, rfl, rfl, rfl, rfl, rfl, rfl, fun _ _ _ _ _ => rfl⟩

/-- A lees record goes into one of the three queues, or is counted as dropped (R314, R389). -/
theorem lees_only {s : State} (h : s.nvm.leesQ.length < 32) (block code : Nat) (data : List Nat) :
    ∃ l q1 q2 q3, lees block code data s = { s with tbl := l, nvm.leesQ := q1, nvm.preQ := q2, nvm.barredQ := q3 } ∧
      (l = s.tbl ∨ l = (bump 0x7B 48 s).tbl) := by
  simp only [lees, h, if_true]
  split
  · exact ⟨_, _, _, _, rfl, .inr rfl⟩
  · split
    · exact ⟨_, _, _, _, rfl, .inl rfl⟩
    · split <;> exact ⟨_, _, _, _, rfl, .inl rfl⟩

/-- The words outside the rails' counters are as before a count of one of them. -/
theorem tget_of_railCount {s t : State} (hw : tblWf s = true) (h : t.tbl = s.tbl ∨ t.tbl = (bump 0x7B 48 s).tbl) {tb a : Nat}
    (ha : a < 2 ^ 24) (hk : keptTable tb = false) : tget t tb a = tget s tb a := by
  rcases h with h | h
  · exact congrFun₂ (tget_congr h) tb a
  · refine (congrFun₂ (tget_congr h) tb a).trans (tget_bump_other hw fun he => ?_)
    have := congrArg keyTable he
    rw [keyTable_tkey ha, keyTable_tkey (by decide)] at this
    subst this
    contradiction

/-- The error and the record of a self-sequencing retry reach the host port, the queues of the log and the count of
dropped records only (R321). -/
theorem noteRetry_only {s : State} (h : s.nvm.leesQ.length < 32) :
    ∃ l x e q1 q2 q3, noteRetry s = { s with
      tbl := l, host := x, rail.selfErr := e, nvm.leesQ := q1, nvm.preQ := q2, nvm.barredQ := q3 } ∧
      (l = s.tbl ∨ l = (bump 0x7B 48 s).tbl) := by
  unfold noteRetry
  split
  · obtain ⟨x, hx⟩ : ∃ x, recErr 0x0B (16 * s.rail.selfRail + 8) { s with rail.selfErr := false } =
        { s with rail.selfErr := false, host := x } := ⟨_, recErr_only _ _ _⟩
    obtain ⟨l, q1, q2, q3, honly, htbl⟩ := lees_only (s := { s with rail.selfErr := false, host := x }) h 0x0B
      (16 * s.rail.selfRail + 8) [s.rail.selfRail]
    refine ⟨l, (raise irqRail { s with host := x }).host, false, q1, q2, q3, ?_, htbl⟩
    rw [recErrLees, hx, honly]
    rfl
  · exact ⟨_, _, _, _, _, _, rfl, .inl rfl⟩

/-- The core released from a reset: what the reset made stays, and the core is at step 4 of R326. -/
theorem coreRelease_releasedFrom {s : State} (h : s.nvm.leesQ = []) :
    ReleasedFrom s (coreRelease s) ∧ (coreRelease s).boot.phase = .rom := by
  obtain ⟨u, hu, hq, htbl, hkeep, hphase⟩ : ∃ u, coreRelease s = noteRetry u ∧ u.nvm.leesQ.length < 32 ∧ u.tbl = s.tbl ∧
      ReleasedFrom s u ∧ u.boot.phase = .rom :=
    ⟨_, rfl, by simp [seedQuestion, drawRandom, h], rfl, { ReleasedFrom.refl s with }, rfl⟩
  obtain ⟨l, x, e, q1, q2, q3, ht, hl⟩ := noteRetry_only hq
  rw [hu, ht]
  refine ⟨{ hkeep with words := fun hw tb a ha hk => ?_ }, hphase⟩
  exact (tget_of_railCount (show tblWf u = true by rw [tblWf, htbl]; exact hw) hl ha hk).trans (hkeep.words hw tb a ha hk)

/-! ### The reset -/

/-- A core that is held in reset is released where nothing holds it. -/
theorem tryRelease_releasedFrom {s : State} (hp : s.boot.phase = .held) (hq : s.nvm.leesQ = []) :
    ReleasedFrom s (tryRelease s) ∧ (tryRelease s).boot.phase = if coreHeld s then .held else .rom := by
  cases h : coreHeld s with
  | true =>
    rw [show tryRelease s = s from if_neg (by simp [h])]
    exact ⟨.refl s, hp⟩
  | false =>
    rw [show tryRelease s = coreRelease s from if_pos (by simp [h, hp])]
    exact coreRelease_releasedFrom hq

theorem railGateMap_congr {s t : State} (htbl : t.tbl = s.tbl) (hrail : t.rail = s.rail) : railGateMap t = railGateMap s := by
  simp only [railGateMap, tnat, tget, railGood, railOf, htbl, hrail]

/-- A group whose head identities are unknown has its gate closed (R234). -/
theorem groupGateOpen_headid {s : State} {g : Nat} (h : grp s.hc.headidClosed g = true) : groupGateOpen s g = false := by
  simp only [groupGateOpen, gateBits, h, atBit, if_true, beq_eq_false_iff_ne]
  omega

/-- The words of the core's tables read as unwritten ones once the blocks are down (R332). -/
theorem blocksDown_words {s : State} (hw : tblWf s = true) {tb a : Nat} (ha : a < 2 ^ 24) (hk : keptTable tb = false) :
    tget (blocksDown s) tb a = tblDefault (tkey tb a) := by
  refine (cellGet_filter (fun k => keptTable (keyTable k)) (tkey tb a) hw).trans (if_neg ?_)
  rw [keyTable_tkey ha, hk]
  exact Bool.false_ne_true

/-- A core reset of any cause but the watchdog's, which closes WDG too (R332, R342). -/
theorem coreReset_done {s : State} (hw : WfState s) {c : Nat} (hc : c ≠ 2) (sub : Nat) :
    CoreResetDone c sub s (coreReset c sub s) := by
  have hboot : (cutNvm s).boot = s.boot := cutNvm_same hw .boot (by decide)
  have htk : (cutNvm s).tk = s.tk := cutNvm_same hw .tk (by decide)
  have htbl : (cutNvm s).tbl = s.tbl := cutNvm_same hw .tbl (by decide)
  have hvine : (cutNvm s).vine = s.vine := cutNvm_same hw .vine (by decide)
  have hrail : (cutNvm s).rail = s.rail := cutNvm_same hw .rail (by decide)
  have hregions := cutNvm_regions (s := s)
  have hidle := cutNvm_idle (s := s)
  have hreset : coreReset c sub s = tryRelease (noteCause c sub (blocksDown (cutNvm s))) := by
    simp [coreReset, hc, coreDown]
  rw [hreset]
  generalize cutNvm s = z at *
  have hcoin : coincides (blocksDown z) = coincides s := by
    simp only [coincides, blocksDown, hboot, htk]
  have hheld : coreHeld (noteCause c sub (blocksDown z)) = coreHeld s := by
    simp only [coreHeld, noteCause, blocksDown, hboot]
  obtain ⟨hrel, hphase⟩ := tryRelease_releasedFrom (s := noteCause c sub (blocksDown z)) rfl rfl
  rw [hheld] at hphase
  exact {
    cause := hrel.cause.trans (by rw [← hboot]; rfl)
    sub := fun h => hrel.sub.trans (by simp [noteCause, hcoin, h])
    phase := hphase
    run := congrArg Power.state hrel.pwr
    enc := hrel.enc
    jet := hrel.jet
    ing := hrel.ing
    mot := hrel.mot
    vlv := hrel.vlv
    txn := hrel.txn
    gates := fun g hg => groupGateOpen_headid (by
      rw [hrel.headid]; exact BitVec.getLsbD_allOnes.trans (decide_eq_true hg))
    v := hrel.v
    period := hrel.period
    node := by rw [hrel.vine, ← hvine]; exact ⟨rfl, rfl, rfl⟩
    rails := ⟨hrel.rails.trans (congrArg Rail.rails hrail), hrel.selfSeq.trans (congrArg Rail.selfSeq hrail)⟩
    keys := fun h => by
      obtain ⟨hk, hl, hd⟩ := hregions h
      exact ⟨hrel.keys.trans hk, hrel.locked.trans hl, hrel.defaults.trans hd⟩
    flash := fun h1 h2 h3 => hrel.mem.trans (congrArg (·.nvm.mem) (hidle h1 h2 h3))
    railGate := fun g hg => by
      rw [hrel.rail, show (noteCause c sub (blocksDown z)).hc.railClosed = railGateMap z from rfl,
        railGateMap_congr htbl hrail, grp_railGateMap s hg]
    tables := fun hwf tb a ha hk => by
      have hz : tblWf z = true := by rw [tblWf, htbl]; exact hwf
      exact (hrel.words (cellsWf_filter hz) tb a ha hk).trans (blocksDown_words hz ha hk) }

end Sys2Proof.Machine

open Sys2Proof.Machine Sys2Proof.Claims

/-- Settles O26: the front item by whether it is under way and where it goes, each packet by what its arrival keeps. -/
theorem routedAndRemoteAccesses : Obligations.RoutedAndRemoteAccesses := by
  constructor
  · intro s q rest hw hc hq hids hb stream failed
    have hp := portDecodes_of_clocked hc
    have hfail := completeItem_failed_spec hq hids hw.tbl (coreRuns_of_clocked hc) 0
    have start (hf : q.inFlight = false) (h63 : q.dst ≠ 63) := queueStep_eq hp (nextItem_front hq hf hb) hb h63
    have remote (hf : q.inFlight = false) (h0 : q.dst ≠ 0) (h63 : q.dst ≠ 63) :
        exec .routedFrameExecute s = .next (startRemote q s) := (start hf h63).trans (congrArg _ (if_pos h0))
    refine ⟨fun hf h0 hrnw haddr hr => ?_, fun hf h0 h63 hrt => ?_, fun hf h0 h63 hrt => ?_, fun hf hd => ?_⟩
    · have hlocal : startLocal q s = completeItem q true 0 { s with host.scratch := q.data } := by
        rw [startLocal, hrnw, haddr, (nodeAccess_scratch (isUp_of_clocked hc) q.inc q.view q.data).1]
      rw [start hf (by omega), if_neg (not_not.mpr h0), if_neg (by simp [endsRest, hr]), hlocal,
        completeItem_ok (s := { s with host.scratch := q.data }) hq hids, readsAnswered_write hrnw]
    · have hsame := startRemote_host hw hrt
      exact ⟨_, remote hf h0 h63, (congrArg HostPort.queue hsame).trans (itemSent_front hq hids 0),
        (congrArg HostPort.scratch hsame).trans rfl, (congrArg HostPort.results hsame).trans rfl⟩
    · exact ⟨_, (remote hf h0 h63).trans (congrArg _ (if_neg (by simp [hrt]))), hfail⟩
    · refine ⟨_, congrArg Host.Outcome.next (if_pos hp), ?_⟩
      rw [remoteTimeout_front hq hf hd]
      exact hfail
  · intro s p h r hw hv hup hme _ hroute hs
    have hl := hw.ports
    have hu := portArrived_answersAs hl r p 0 h.src.toNat
    have ha := arrived_answersAs hl r h.dst.toNat 0 h.src.toNat
    have answers {rnw inc view : Bool} {a : Nat} {d w : Sys2Proof.Word} {status : Nat} {v : State} :=
      takeAccess_answers (rnw := rnw) (inc := inc) (view := view) (a := a) (d := d) (status := status) (w := w) (v := v)
        hl hv hup hme hroute hs
    have hme' : (vineOn s && forMe h s) = true := by rw [hv, hme]; rfl
    refine ⟨fun inc view d hisup hrun => ?_, fun inc view d hrun hrec => ?_, fun inc view a d hdown => ?_,
      fun st d q rest hp hq hids hf hd hn hbad hseq => ?_, fun hrun => ?_⟩
    · have hisup' : isUp (portArrived p 0 h.src.toNat s) = true := by rw [isUp, hu.boot]; exact hisup
      have access (rnw : Bool) (d) := fabricAccess_run hisup' (hu.pwr ▸ hrun) (a := 0x3F) rfl rnw inc view d
      have hscr := congrArg HostPort.scratch hu.host
      obtain ⟨hwr, -⟩ := nodeAccess_scratch hisup' inc view d
      obtain ⟨-, hrd⟩ := nodeAccess_scratch hisup' inc view 0
      obtain ⟨hansw, hhostw⟩ := answers ((access false d).trans hwr) rfl rfl
      obtain ⟨hansr, hhostr⟩ := answers ((access true 0).trans hrd) rfl rfl
      refine ⟨⟨_, rfl, congrArg HostPort.scratch hhostw, hansw⟩, _, rfl, (congrArg HostPort.scratch hhostr).trans hscr, ?_⟩
      rw [← hscr]
      exact hansr
    · have hrun' := (coreRuns_congr hu.boot).trans hrun
      have access (rnw d) := fabricAccess_anchor hrun' (hu.boot ▸ hrec) (a := 0x06) rfl rnw inc view d
      obtain ⟨hvine, hpwr, hmask⟩ := reservedAccess_same hrun'
      obtain ⟨hansw, hhostw⟩ := answers (access false d) hvine hpwr
      obtain ⟨hansr, -⟩ := answers (access true 0) hvine hpwr
      exact ⟨⟨_, rfl, (congrArg HostPort.irqMask hhostw).trans (hmask.trans (congrArg HostPort.irqMask hu.host)), hansw⟩,
        _, rfl, hansr⟩
    · have access := fabricAccess_down (hdown.imp (coreRuns_congr hu.boot).trans (hu.boot ▸ ·)) false inc view a.toNat d
      obtain ⟨hans, hhost⟩ := answers access rfl rfl
      exact ⟨_, rfl, hhost.trans hu.host, hans⟩
    · have hq' := (congrArg HostPort.queue ha.host).trans hq
      refine ⟨_, pktRegRsp_front hp hme' hq' hf hd hn hbad hseq st d, ?_⟩
      by_cases h0 : st = 0
      · subst h0
        rw [show ((0 : Sys2Proof.Word).toNat == 0) = true from rfl, completeItem_ok hq' hids, ha.host]
        exact ⟨rfl, fun _ => ⟨rfl, rfl⟩, fun hne => absurd rfl hne⟩
      · obtain ⟨hqueue, hres, hflags, -, herr⟩ := completeItem_failed_spec hq' hids (arrived_wf hw _ _ _).tbl
          ((coreRuns_congr ha.boot).trans (coreRuns_of_decodes hp)) d
        rw [show (st.toNat == 0) = false by simpa [BitVec.toNat_eq] using h0]
        rw [ha.host] at hres hflags
        exact ⟨hqueue, fun h => absurd h h0, fun _ => ⟨hres, hflags, ha.tick ▸ herr⟩⟩
    · exact ⟨_, congrArg Host.Outcome.next ((if_pos hme').trans (if_pos hrun)),
        coreReset_done (arrived_wf hw _ _ _) (by decide) _⟩
end


section
/-! The bytes of a packet read back (O36). -/

namespace Sys2Proof.Machine

/-- Reading on from `a` over the last `n` bytes of a number. -/
theorem foldl_bytesBE (n x a : Nat) :
    (bytesBE n x).foldl (fun m b => m * 256 + b.toNat) a = a * 256 ^ n + x % 256 ^ n := by
  induction n generalizing a with
  | zero => simp [bytesBE, Nat.mod_one]
  | succ n ih =>
    have hbyte : x >>> (8 * n) % 256 = x / 256 ^ n % 256 := by
      rw [Nat.shiftRight_eq_div_pow, Nat.pow_mul]
    rw [bytesBE, List.foldl_cons, ih, BitVec.toNat_ofNat, show 2 ^ 8 = 256 from rfl, hbyte, Nat.mod_pow_succ]
    ring

/-- A number reads back from its bytes. -/
theorem natBE_bytesBE {n x : Nat} (h : x < 256 ^ n) : natBE (bytesBE n x) = x := by
  rw [natBE, foldl_bytesBE, Nat.mod_eq_of_lt h, Nat.zero_mul, Nat.zero_add]

theorem unpackWords_cons (w : Word) (ws : List Word) :
    unpackWords (w :: ws) = BitVec.ofNat 8 (w.toNat / 256) :: BitVec.ofNat 8 w.toNat :: unpackWords ws := rfl

/-- Words read back from their bytes. -/
theorem packWords_unpackWords (ws : List Word) : packWords (unpackWords ws) = ws := by
  induction ws with
  | nil => rfl
  | cons w ws ih =>
    have hw : word ((BitVec.ofNat 8 (w.toNat / 256)).toNat * 256 + (BitVec.ofNat 8 w.toNat).toNat) = w := by
      apply BitVec.eq_of_toNat_eq
      have := w.isLt
      simp only [word, BitVec.toNat_ofNat]
      omega
    rw [unpackWords_cons, packWords, hw, ih]

theorem unpackWords_length (ws : List Word) : (unpackWords ws).length = 2 * ws.length := by
  induction ws with
  | nil => rfl
  | cons w ws ih => rw [unpackWords_cons, List.length_cons, List.length_cons, ih, List.length_cons]; ring

/-- The fields of the header fit their places in R84. -/
structure HeaderFits (k : Packet) : Prop where
  dst : k.dst < 64
  src : k.src < 64
  type : k.type < 32
  cls : k.cls < 4
  seq : k.seq < 256
  len : k.words.length < 1024

/-- Every field reads back from the header (R84). -/
theorem packetHeader_fields {k : Packet} (h : HeaderFits k) : packetHeader k < 256 ^ 8 ∧
    bits (packetHeader k) 63 58 = k.dst ∧ bits (packetHeader k) 57 52 = k.src ∧ bits (packetHeader k) 51 47 = k.type ∧
    bits (packetHeader k) 46 45 = k.cls ∧ bits (packetHeader k) 44 37 = k.seq ∧
    bits (packetHeader k) 36 27 = k.words.length := by
  obtain ⟨hdst, hsrc, htype, hcls, hseq, hlen⟩ := h
  simp only [packetHeader, bits, Nat.shiftRight_eq_div_pow]
  omega

/-- The header reads back from the first eight bytes. -/
theorem natBE_header {k : Packet} (h : HeaderFits k) (rest : List Byte) :
    natBE ((bytesBE 8 (packetHeader k) ++ rest).take 8) = packetHeader k := by
  rw [List.take_left' (bytesBE_length 8 _), natBE_bytesBE (packetHeader_fields h).1]

theorem packetBody_length (k : Packet) : (packetBody k).length = 8 + 2 * k.words.length := by
  rw [packetBody, List.length_append, bytesBE_length, unpackWords_length]

theorem crc32Bytes_length (bs : List Byte) : (crc32Bytes bs).length = 4 := by
  rw [crc32Bytes, List.length_reverse, bytesBE_length]

theorem packetBytes_eq (k : Packet) : packetBytes k =
    bytesBE 8 (packetHeader k) ++ (unpackWords k.words ++ crc32Bytes (packetBody k)) := by
  rw [packetBytes, ← List.append_assoc, ← packetBody]

/-- The bytes of a packet carry a CRC that matches them. -/
theorem packetCrcOk_packetBytes {k : Packet} (h : HeaderFits k) : packetCrcOk (packetBytes k) = true := by
  have hlen : bits (natBE ((packetBytes k).take 8)) 36 27 = k.words.length := by
    obtain ⟨-, -, -, -, -, -, hlen⟩ := packetHeader_fields h
    rw [packetBytes_eq, natBE_header h, hlen]
  have hbody := packetBody_length k
  simp only [packetCrcOk, hlen, Bool.and_eq_true, decide_eq_true_eq, beq_iff_eq]
  rw [packetBytes, List.drop_left' hbody, List.take_left' hbody, List.length_append, hbody, crc32Bytes_length]
  exact ⟨rfl, rfl⟩

/-- Every field and every word of a packet reads back from its bytes. -/
theorem packetOf_packetBytes {k : Packet} (h : HeaderFits k) :
    packetOf (packetBytes k) = { k with owe := none, rx := none } := by
  obtain ⟨-, hdst, hsrc, htype, hcls, hseq, hlen⟩ := packetHeader_fields h
  rw [packetOf, packetBytes_eq, natBE_header h, hdst, hsrc, htype, hcls, hseq, hlen,
    List.drop_left' (bytesBE_length 8 _), List.take_left' (unpackWords_length k.words), packWords_unpackWords]

end Sys2Proof.Machine

open Sys2Proof.Machine

/-- Settles O36: header, payload and CRC are appended in this order, and each is read back at its length. -/
theorem packetsReadBack : Obligations.PacketsReadBack := by
  intro k hdst hsrc htype hcls hseq hlen
  have h : HeaderFits k := ⟨hdst, hsrc, htype, hcls, hseq, hlen⟩
  exact ⟨packetCrcOk_packetBytes h, packetOf_packetBytes h⟩
end


section
/-! The good form along a step (O5): every command, and the TK of an idle step, by the `Keeps` lemma of its operation. -/

namespace Sys2Proof.Machine

section
variable {K : List Part} {B0 s a b : State}

/-- Where a command completes, its next state is kept. -/
def KeepsOut (K : List Part) (B0 : State) (o : Out) : Prop := ∀ t, o = .next t → Keeps K B0 t

theorem KeepsOut.next (h : Keeps K B0 a) : KeepsOut K B0 (.next a) := by
  rintro _ ⟨⟩
  exact h

theorem KeepsOut.fault (r : Fault) : KeepsOut K B0 (.fault r) := by
  rintro _ ⟨⟩

/-- Operands that are ill formed where `c` holds. -/
theorem KeepsOut.unlessFault {c : Prop} [Decidable c] {r : Fault} (h : Keeps K B0 a) :
    KeepsOut K B0 (if c then .fault r else .next a) := by
  split
  · exact .fault r
  · exact .next h

/-- Operands that are well formed where `c` holds. -/
theorem KeepsOut.elseFault {c : Prop} [Decidable c] {r : Fault} (h : Keeps K B0 a) :
    KeepsOut K B0 (if c then .next a else .fault r) := by
  split
  · exact .next h
  · exact .fault r

/-- A command that acts only under a condition. -/
theorem ifDue_keeps {c : Prop} [Decidable c] (hb : Keeps K B0 b) (ha : Keeps K B0 a) : Keeps K B0 (if c then a else b) :=
  ite_keeps (fun _ => ha) (fun _ => hb)

/-- A command that does nothing under a condition. -/
theorem ifElse_keeps {c : Prop} [Decidable c] (hb : Keeps K B0 b) (ha : Keeps K B0 a) : Keeps K B0 (if c then b else a) :=
  ite_keeps (fun _ => hb) (fun _ => ha)

end

/-! ### Commands whose meaning is more than one operation under a condition -/

section
variable {K : List Part} [∀ p, Fact (p ∈ K)] {B0 s : State}

theorem pktDiscover_keeps (h : Keeps K B0 s) (p : Fin 3) (hd : Hdr) (e : Byte) (fwd : Bool) (on : BitVec 2) (root : BitVec 64) :
    KeepsOut K B0 (exec (.pktDiscover p hd e fwd on root) s) := by
  have h1 := portArrived_keeps p 0 hd.src.toNat s h
  exact .next (ifElse_keeps h (ite_keeps (fun _ => answerDiscover_keeps _ _ _ _ _ h1) fun _ => ite_keeps
    (fun _ => ifElse_keeps h1 (linkPacket_keeps _ _ _ _ h1)) fun _ => passOn_keeps _ _ _ _ _ h))

theorem pktAssign_keeps (h : Keeps K B0 s) (p : Fin 3) (hd : Hdr) (n : BitVec 6) (fwd : Bool) (on : BitVec 2)
    (uid root : BitVec 64) : KeepsOut K B0 (exec (.pktAssign p hd n fwd on uid root) s) := by
  have h1 := portArrived_keeps p 0 hd.src.toNat s h
  exact .next (ifElse_keeps h (ite_keeps (fun _ => ifDue_keeps h1 (takeNumber_keeps _ _ _ _ h1)) fun _ => ite_keeps
    (fun _ => ifElse_keeps h1 (linkPacket_keeps _ _ _ _ (setPort_keeps _ _ _ (learnRoute_keeps _ _ _ h1))))
    fun _ => passOn_keeps _ _ _ _ _ h))

theorem pktRoute_keeps (h : Keeps K B0 s) (p : Fin 3) (hd : Hdr) (ws : List Word) :
    KeepsOut K B0 (exec (.pktRoute p hd ws) s) := by
  have h1 := portArrived_keeps p 0 hd.src.toNat s h
  exact .next (ifElse_keeps h (ite_keeps (fun _ => dropPacket_keeps _ _ _ _ _ _ h) fun _ => ite_keeps
    (fun _ => passOn_keeps _ _ _ _ _ h) fun _ => ifDue_keeps h1 (applyRoute_keeps _ _ h1)))

theorem pktCredit_keeps (h : Keeps K B0 s) (p : Fin 3) (cls : BitVec 2) (init : Bool) (n : Byte) :
    KeepsOut K B0 (exec (.pktCredit p cls init n) s) := by
  have h1 := bump32_keeps 0x13 (16 * p.val + 8) s h
  refine .next (ifElse_keeps h ?_)
  dsimp only
  split
  · exact drain_keeps _ _ (setPort_keeps _ _ _ h1)
  · exact drain_keeps _ _ (setPort_keeps _ _ _ h1)
  · exact drain_keeps _ _ (setPort_keeps _ _ _ h1)
  · exact vineErr_keeps _ _ (linkCount_keeps _ _ _ h)

theorem pktTick_keeps (h : Keeps K B0 s) (p : Fin 3) (hd : Hdr) (origin : BitVec 48) (corr : BitVec 32) (rx : BitVec 6) :
    KeepsOut K B0 (exec (.pktTick p hd origin corr rx) s) := by
  have h1 := relayTick_keeps p hd origin corr.toNat rx.toNat s h
  exact .next (ifElse_keeps h (ite_keeps (fun _ => vineErr_keeps _ _ (linkCount_keeps _ _ _ h)) fun _ => ite_keeps
    (fun _ => portArrived_keeps _ _ _ _ h) fun _ => ifDue_keeps h1 (alignTick_keeps _ _ _ _ _ h1)))

theorem unitFire_keeps (h : Keeps K B0 s) (trig : Fin 256) : KeepsOut K B0 (exec (.unitFire trig) s) := by
  refine .next ?_
  split
  · split
    · exact ifDue_keeps h (fireDue_keeps _ _ _ _ h)
    · exact h
  · exact h

theorem signatureBurst_keeps (h : Keeps K B0 s) (g : Fin 32) (slots : List (List Byte)) :
    KeepsOut K B0 (exec (.signatureBurst g slots) s) := by
  refine .unlessFault (ifDue_keeps h ?_)
  split
  · exact judgeBurst_keeps _ _ _ (burstStarts_keeps _ h)
  · exact h

theorem hmReadRetry_keeps (h : Keeps K B0 s) (head : Fin 32) : KeepsOut K B0 (exec (.hmReadRetry head) s) := by
  refine .next (ifDue_keeps h ?_)
  split
  · exact headAttemptFails_keeps _ _ h
  · exact ifDue_keeps h (setRead_keeps _ _ _ h)

theorem hmbBusFault_keeps (h : Keeps K B0 s) (bus : Fin 5) : KeepsOut K B0 (exec (.hmbBusFault bus) s) := by
  have h1 := bump_keeps 0x5B 6 s h
  have h2 := bump_keeps 0x5B (2 + bus.val) { s with hc.busFault := s.hc.busFault ||| 2 ^ bus.val } (mk_keeps h)
  refine .next (ifDue_keeps h (ite_keeps (fun _ => ?_) fun _ => ?_))
  · split
    · exact exchangeFails_keeps _ _ h1
    · exact h1
  · dsimp only
    split
    · exact headAttemptFails_keeps _ _ h2
    · exact h2

theorem consWritebackRetry_keeps (h : Keeps K B0 s) (slot : Fin 8) :
    KeepsOut K B0 (exec (.consWritebackRetry slot) s) := by
  refine .next (ifDue_keeps h ?_)
  split
  · exact ifDue_keeps h (withNonce_keeps _ _ _ (setConsSlot_keeps _ _ _ h))
  · exact h

theorem tplLearnEnd_keeps (h : Keeps K B0 s) : KeepsOut K B0 (exec .tplLearnEnd s) := by
  refine .next ?_
  split
  · exact ifDue_keeps h (learnEnd_keeps _ _ h)
  · exact h

theorem permitTake_keeps (h : Keeps K B0 s) : KeepsOut K B0 (exec .permitTake s) := by
  refine .next (ifDue_keeps h ?_)
  split
  · exact ifElse_keeps h (takePermit_keeps _ _ _ h)
  · exact h

theorem bridgePwmPeriod_keeps (h : Keeps K B0 s) : KeepsOut K B0 (exec .bridgePwmPeriod s) :=
  .next (ifDue_keeps h (foldl_keeps (fun _ _ h => ifDue_keeps h (bridgeDuty_keeps _ _ h)) _ _ (mk_keeps h)))

/-! ### Every command -/

/-- Every command but VAON power-on keeps the good form, the queue, the straps and a locked protected region. -/
theorem exec_keeps (h : Keeps K B0 s) (c : Instr) (hc : ∀ h r q, c ≠ .vaonPowerOn h r q) : KeepsOut K B0 (exec c s) := by
  cases c with
  | vaonPowerOn h r q => exact absurd rfl (hc h r q)
  | refclkCheck _ => exact .next (refclkCheck_keeps _ _ h)
  | pllLock => exact .next (pllLocks_keeps _ h)
  | bootSlotCheck => exact .next (bootSlotCheck_keeps _ h)
  | startupComplete => exact .next (startupComplete_keeps _ h)
  | startupCalTimeout => exact .next (ifDue_keeps h (startupTimeout_keeps _ h))
  | clockLoss => exact .next (clockLoss_keeps _ h)
  | nresetLow => exact .next (nresetLow_keeps _ h)
  | nresetRelease => exact .next (nresetRelease_keeps _ h)
  | testenRise => exact .next (testenRise_keeps _ h)
  | testenFall => exact .next (testenFall_keeps _ h)
  | softReset => exact .next (ifDue_keeps h (rstCauseWrite_keeps _ _ h))
  | rstCauseClear _ => exact .next (ifDue_keeps h (rstCauseWrite_keeps _ _ h))
  | wdgWindowOpen => exact .next (windowOpens_keeps _ h)
  | wdgExpiry => exact .next (ifDue_keeps h (wdgReset_keeps _ _ h))
  | wdgAnswer _ => exact .next (ifDue_keeps h (wdgAnswerOp_keeps _ _ h))
  | wdgPeriodWrite _ => exact .next (ifDue_keeps h (wdgCtlWrite_keeps _ _ h))
  | attNone _ => exact .next (attReg_keeps _ _ _ h)
  | quote _ => exact .next (attReg_keeps _ _ _ h)
  | quoteDone => exact .next (ifDue_keeps h (quoteBuilt_keeps _ h))
  | v3Extend => exact .next (ifDue_keeps h (v3Extend_keeps _ h))
  | partialFrame _ _ =>
    exact .next (ifElse_keeps h (ite_keeps (fun _ => frameFast_keeps _ h) fun _ => frameShort_keeps _ h))
  | registerWrite _ _ => exact .next (ifDue_keeps h (frameArrives_keeps _ _ _ h))
  | routedFrameExecute => exact .next (ifDue_keeps h (queueStep_keeps _ h))
  | remoteTimeout => exact .next (ifDue_keeps h (remoteTimeout_keeps _ h))
  | hstStatRead => exact .next (ifDue_keeps h (hostRead_keeps _ _ _ h))
  | irqClrWrite _ _ => exact .next (ifDue_keeps h (irqClear_keeps _ _ _ h))
  | errFirstWrite _ => exact .next (typedWrite_keeps _ _ _ _ h)
  | tblSelWrite _ => exact .next (typedWrite_keeps _ _ _ _ h)
  | tblDataRead _ => exact .next (ifDue_keeps h (hostRead_keeps _ _ _ h))
  | tblDataWrite _ _ => exact .next (typedWrite_keeps _ _ _ _ h)
  | layerHiWrite _ => exact .next (ifDue_keeps h (routedOp_keeps _ _ _ h (mk_keeps h)))
  | layerLoWrite _ => exact .next (ifDue_keeps h (routedOp_keeps _ _ _ h (declareLayer_keeps _ _ h)))
  | idleBoundary => exact .next (idleBoundary_keeps _ h)
  | swathEnd => exact .next (ifDue_keeps h (endSwath_keeps _ h))
  | txnNone _ => exact .next (txnReg_keeps _ _ _ h)
  | txnBegin _ => exact .next (txnReg_keeps _ _ _ h)
  | txnCommit _ => exact .next (txnReg_keeps _ _ _ h)
  | txnRollback _ => exact .next (txnReg_keeps _ _ _ h)
  | txnAbort _ => exact .next (txnReg_keeps _ _ _ h)
  | validationComplete => exact .next (ifDue_keeps h (validated_keeps _ h))
  | leaseExpiry => exact .next (ifDue_keeps h (expire_keeps _ h))
  | memberLeaseExpiry => exact .next (ifDue_keeps h (expire_keeps _ h))
  | voteTimeout => exact .next (ifDue_keeps h (decide2_keeps _ h))
  | pktBegin _ _ _ _ => exact .next (groupStep_keeps _ _ _ _ h fun _ h => recvBegin_keeps _ _ _ h)
  | pktPrepare _ _ _ _ _ => exact .next (groupStep_keeps _ _ _ _ h fun _ h => recvPrepare_keeps _ _ _ _ h)
  | pktReady _ _ => exact .next (votePacket_keeps _ _ _ _ h)
  | pktRefuse _ _ _ _ _ => exact .next (votePacket_keeps _ _ _ _ h)
  | pktCommitAt _ _ _ _ _ _ => exact .next (groupStep_keeps _ _ _ _ h fun _ h => recvCommitAt_keeps _ _ _ _ _ h)
  | pktAbort _ _ _ => exact .next (groupStep_keeps _ _ _ _ h fun _ h => recvAbort_keeps _ _ h)
  | eventStranded _ _ => exact .next (takeAtRoot_keeps _ _ _ h fun _ h => recvStranded_keeps _ _ _ h)
  | eventStrandingResolved _ _ _ =>
    exact .next (takeAtRoot_keeps _ _ _ h fun _ h => ifDue_keeps h (recvResolved_keeps _ _ _ h))
  | portUp _ _ => exact .next (ifDue_keeps h (linkUp_keeps _ _ _ h))
  | portDown _ => exact .next (ifDue_keeps h (linkLost_keeps _ _ _ h))
  | fabNone _ => exact .next (fabReg_keeps _ _ _ h)
  | fabDiscover _ => exact .next (fabReg_keeps _ _ _ h)
  | resetNode _ => exact .next (fabReg_keeps _ _ _ h)
  | retree _ => exact .next (fabReg_keeps _ _ _ h)
  | discoveryProbeTimeout => exact .next (ifDue_keeps h (probeTimeout_keeps _ h))
  | pktDiscover _ _ _ _ _ _ => exact pktDiscover_keeps h _ _ _ _ _ _
  | pktDiscAck _ _ _ =>
    exact .next (ifElse_keeps h (ite_keeps (fun _ => recvAck_keeps _ _ (portArrived_keeps _ _ _ _ h)) fun _ =>
      passOn_keeps _ _ _ _ _ h))
  | pktAssign _ _ _ _ _ _ _ => exact pktAssign_keeps h _ _ _ _ _ _ _
  | pktRoute _ _ _ => exact pktRoute_keeps h _ _ _
  | packetForward _ _ => exact .next (ifDue_keeps h (recvBytes_keeps _ _ _ h))
  | pktCredit _ _ _ _ => exact pktCredit_keeps h _ _ _ _
  | pktRegWr _ _ _ _ _ _ _ => exact .next (takeAccess_keeps _ _ _ _ _ _ _ _ _ h)
  | pktRegRd _ _ _ _ _ => exact .next (takeAccess_keeps _ _ _ _ _ _ _ _ _ h)
  | pktRegRsp _ _ _ =>
    exact .next (ifDue_keeps h (ifDue_keeps (arrived_keeps _ _ _ _ h)
      (takeAnswer_keeps _ _ _ _ _ (arrived_keeps _ _ _ _ h))))
  | pktReset _ =>
    exact .next (ifDue_keeps h (ifDue_keeps (arrived_keeps _ _ _ _ h)
      (coreReset_keeps _ _ _ (arrived_keeps _ _ _ _ h))))
  | eventPortDown _ _ => exact .next (takeAtRoot_keeps _ _ _ h fun _ h => fabricDown_keeps _ _ _ h)
  | eventPortUp _ _ _ => exact .next (takeAtRoot_keeps _ _ _ h fun _ h => fabricUp_keeps _ _ _ _ h)
  | tickSend => exact .next (sendTick_keeps _ h)
  | pktTick _ _ _ _ _ => exact pktTick_keeps h _ _ _ _ _
  | syncTimeout => exact .next (ifDue_keeps h (syncTimeout_keeps _ h))
  | echoSend => exact .next (ifDue_keeps h (sendEchos_keeps _ h))
  | pktEchoReq _ _ _ _ _ => exact .next (ifDue_keeps h (answerEcho_keeps _ _ _ _ _ _ (portArrived_keeps _ _ _ _ h)))
  | pktEchoRsp _ _ _ _ _ _ _ _ =>
    exact .next (ifDue_keeps h (takeEcho_keeps _ _ _ _ _ _ _ (portArrived_keeps _ _ _ _ h)))
  | gridTokenSend => exact .next (ifDue_keeps h (broadcast_keeps _ _ _ _ h))
  | pktGrid _ _ => exact .next (ifDue_keeps h (gridToken_keeps _ _ _ (arrived_keeps _ _ _ _ h)))
  | relayTimeout => exact .next (ifDue_keeps h (relayTimeoutOp_keeps _ h))
  | relayMaxExpiry => exact .next (ifDue_keeps h (relayMaxOp_keeps _ h))
  | encEnable _ => exact .next (ifDue_keeps h (routedOp_keeps _ _ _ h (encWrite_keeps _ _ _ h)))
  | encDisable _ => exact .next (ifDue_keeps h (routedOp_keeps _ _ _ h (encWrite_keeps _ _ _ h)))
  | rehome _ => exact .next (ifDue_keeps h (routedOp_keeps _ _ _ h (encWrite_keeps _ _ _ h)))
  | encLevelKnown _ _ _ => exact .next (ifDue_keeps h (levelKnown_keeps _ _ _ _ h))
  | quadEdge _ _ _ => exact .next (ifDue_keeps h (quadSample_keeps _ _ _ _ h))
  | encVelTimeout _ => exact .next (ifDue_keeps h (setEnc_keeps _ _ _ h))
  | indexEvent _ => exact .next (ifDue_keeps h (indexSample_keeps _ _ _ h))
  | hallCodeChange _ _ => exact .next (ifDue_keeps h (hallSample_keeps _ _ _ h))
  | ssiFrameStart _ _ => exact .next (ifDue_keeps h (ssiStart_keeps _ _ _ h))
  | ssiFrameEnd _ _ _ => exact .next (ifDue_keeps h (ssiEnd_keeps _ _ _ _ h))
  | countWrite _ _ => exact .next (ifDue_keeps h (routedOp_keeps _ _ _ h (countWriteOp_keeps _ _ _ h)))
  | gridCfgWrite _ _ => exact .next (ifDue_keeps h (routedOp_keeps _ _ _ h (gridCfgWriteOp_keeps _ _ _ h)))
  | gridCount => exact .next (ifDue_keeps h (gridCountOp_keeps _ h))
  | countLate => exact .next (ifDue_keeps h (gridErr_keeps _ _ (openRegion_keeps _ _ h)))
  | unitFire _ => exact unitFire_keeps h _
  | signatureBurst _ _ => exact signatureBurst_keeps h _ _
  | jetNone _ => exact .next (jetReg_keeps _ _ _ h)
  | enableGroup _ => exact .next (jetReg_keeps _ _ _ h)
  | disableGroup _ => exact .next (jetReg_keeps _ _ _ h)
  | disableAll _ => exact .next (jetReg_keeps _ _ _ h)
  | wdacOn _ => exact .next (jetReg_keeps _ _ _ h)
  | wdacOff _ => exact .next (jetReg_keeps _ _ _ h)
  | wdacGlideComplete _ => exact .next (ifDue_keeps h (glideDone_keeps _ _ h))
  | energyInputStale _ => exact .next (ifDue_keeps h (jetErr_keeps _ _ (jetFlag_keeps h rfl)))
  | harvestBlock _ => exact .next (ifDue_keeps h (foldl_keeps (fun _ _ h => harvestEdge_keeps _ _ h) _ _ h))
  | pktSwathData _ _ _ =>
    exact .next (ifElse_keeps h (ite_keeps (fun _ => recvBulk_keeps _ _ _ _ h) fun _ =>
      creditBack_keeps _ _ _ _ (heardFrom_keeps _ _ (bump32_keeps _ _ _ h))))
  | heldBlockRelease => exact .next (ifDue_keeps h (drainHeld_keeps _ _ (drainFifo_keeps _ _ h)))
  | descriptorWrite _ _ => exact .next (ifDue_keeps h (routedOp_keeps _ _ _ h (descriptorWrite_keeps _ _ _ h)))
  | ingestNone _ => exact .next (ingReg_keeps _ _ _ h)
  | arm _ => exact .next (ingReg_keeps _ _ _ h)
  | cancel _ => exact .next (ingReg_keeps _ _ _ h)
  | hvOn _ => exact .next (ingReg_keeps _ _ _ h)
  | hvOff _ => exact .next (ingReg_keeps _ _ _ h)
  | admission => exact .next (ifDue_keeps h (tryAdmit_keeps _ h))
  | admitReadySend => exact .next (ifDue_keeps h (reportHead_keeps _ h))
  | eventAdmitReady _ _ _ _ => exact .next (takeAtRoot_keeps _ _ _ h fun _ h => takeReport_keeps _ _ _ _ _ h)
  | eventAdmit _ => exact .next (ifDue_keeps h (takeAdmit_keeps _ _ (heardFrom_keeps _ _ h)))
  | starved => exact .next (ifDue_keeps h (starve_keeps _ h))
  | hcConfigWrite _ _ _ => exact .next (ifDue_keeps h (routedOp_keeps _ _ _ h (hcConfigWriteOp_keeps _ _ _ _ h)))
  | gateOpen _ => exact .next (hcReg_keeps _ _ _ h)
  | gateClose _ => exact .next (hcReg_keeps _ _ _ h)
  | jamRearm _ => exact .next (hcReg_keeps _ _ _ h)
  | hmRead _ => exact .next (hcReg_keeps _ _ _ h)
  | hmReadComplete _ _ => exact .unlessFault (ifDue_keeps h (headComplete_keeps _ _ _ h))
  | hmReadRetry _ => exact hmReadRetry_keeps h _
  | hmbBusFault _ => exact hmbBusFault_keeps h _
  | consAuth _ => exact .next (hcReg_keeps _ _ _ h)
  | consAuthReply _ _ => exact .next (ifDue_keeps h (authReply_keeps _ _ _ h))
  | consSync _ => exact .next (hcReg_keeps _ _ _ h)
  | consWritebackReply _ _ => exact .next (ifDue_keeps h (writebackReply_keeps _ _ _ h))
  | consWritebackRetry _ => exact consWritebackRetry_keeps h _
  | nzReset _ => exact .next (hcReg_keeps _ _ _ h)
  | tplLearn _ => exact .next (hcReg_keeps _ _ _ h)
  | tplLearnEnd => exact tplLearnEnd_keeps h
  | headTempSample _ _ => exact .next (ifDue_keeps h (tempSample_keeps _ _ _ h))
  | gateInputLow _ => exact .next (ifDue_keeps h (inputLow_keeps _ _ h))
  | gateDwellExpiry _ => exact .next (ifDue_keeps h (inputDwell_keeps _ _ h))
  | motNone => exact .next (motReg_keeps _ _ h)
  | axisEnable => exact .next (motReg_keeps _ _ h)
  | axisDisable => exact .next (motReg_keeps _ _ h)
  | axisGo => exact .next (motReg_keeps _ _ h)
  | axisStop => exact .next (motReg_keeps _ _ h)
  | axisQstop => exact .next (motReg_keeps _ _ h)
  | axisHome => exact .next (motReg_keeps _ _ h)
  | axisSetPos => exact .next (motReg_keeps _ _ h)
  | camEngage => exact .next (motReg_keeps _ _ h)
  | camDisengage => exact .next (motReg_keeps _ _ h)
  | brakeRelease => exact .next (motReg_keeps _ _ h)
  | brakeEngage => exact .next (motReg_keeps _ _ h)
  | axisClearFault => exact .next (motReg_keeps _ _ h)
  | planStart _ => exact .next (ifDue_keeps h (planStartOp_keeps _ _ h))
  | planEnd _ => exact .next (ifDue_keeps h (planEndOp_keeps _ _ h))
  | permitTake => exact permitTake_keeps h
  | brkDelayExpiry _ => exact .next (ifDue_keeps h (brkDelayOp_keeps _ _ h))
  | bridgePwmPeriod => exact bridgePwmPeriod_keeps h
  | holdEntry _ => exact .next (ifDue_keeps h (holdOp_keeps _ _ h))
  | vlimitStop _ => exact .next (ifDue_keeps h (vlimitOp_keeps _ _ h))
  | refEdge _ _ => exact .next (ifDue_keeps h (refSample_keeps _ _ _ h))
  | camEnd _ => exact .next (ifDue_keeps h (camEndOp_keeps _ _ h))
  | camOverspeed _ => exact .next (ifDue_keeps h (camOverspeedOp_keeps _ _ h))
  | motSupplyFault _ => exact .next (ifDue_keeps h (supplyFaultOp_keeps _ _ h))
  | vlvNone _ => exact .next (vlvReg_keeps _ _ _ _ h)
  | vlvOpen _ _ => exact .next (vlvReg_keeps _ _ _ _ h)
  | vlvClose _ => exact .next (vlvReg_keeps _ _ _ _ h)
  | vlvOff _ => exact .next (vlvReg_keeps _ _ _ _ h)
  | vlvOffAll _ => exact .next (vlvReg_keeps _ _ _ _ h)
  | valvePeriod _ _ _ => exact .next (ifDue_keeps h (vlvPeriod_keeps _ _ _ _ h))
  | pullWindowExpiry _ => exact .next (ifDue_keeps h (pullWindow_keeps _ _ h))
  | switchoffTimeout _ => exact .next (ifDue_keeps h (switchoffTimeout_keeps _ _ h))
  | railScanEnd _ => exact .elseFault (ifDue_keeps h (railScan_keeps _ _ h))
  | rampTimeout _ => exact .next (rampTimeout_keeps _ _ h)
  | offTimeout _ => exact .next (offTimeout_keeps _ _ h)
  | pfwHoldExpiry => exact .next (holdExpiry_keeps _ h)
  | marginStep => exact .next (ifDue_keeps h (marginSteps_keeps _ h))
  | comparatorTrip _ => exact .next (ifDue_keeps h (cmpBelow_keeps _ h))
  | comparatorRecover _ => exact .next (ifElse_keeps h (cmpRises_keeps _ h))
  | railNone _ => exact .next (railReg_keeps _ _ _ h)
  | railOn _ => exact .next (railReg_keeps _ _ _ h)
  | railOff _ => exact .next (railReg_keeps _ _ _ h)
  | railClear _ => exact .next (railReg_keeps _ _ _ h)
  | railAllOff _ => exact .next (railReg_keeps _ _ _ h)
  | pfwClear => exact .next (ifDue_keeps h (routedOp_keeps _ _ _ h (pfwClearOp_keeps _ h)))
  | railConfigWrite _ _ _ => exact .next (ifDue_keeps h (routedOp_keeps _ _ _ h (railConfig_keeps _ _ _ _ h)))
  | railCounterClear _ => exact .next (ifDue_keeps h (routedOp_keeps _ _ _ h (railCounter_keeps _ _ h)))
  | selfSeqRetry => exact .next (selfRetry_keeps _ h)
  | pwrReq _ => exact .next (ifDue_keeps h (pwrReqOp_keeps _ _ h))
  | powerStateEntry => exact .next (entryStep_keeps _ h)
  | wakeTimerExpiry => exact .next (wakeTimer_keeps _ h)
  | wakeSquelch _ => exact .next (wake_keeps _ _ h)
  | wakeNcs => exact .next (wake_keeps _ _ h)
  | wakePin _ => exact .next (wake_keeps _ _ h)
  | wakeExit => exact .next (wakeExit_keeps _ h)
  | dieTempSample _ => exact .next (ifDue_keeps h (dieSample_keeps _ _ (mk_keeps h)))
  | calNone _ _ => exact .next (calReg_keeps _ _ _ _ h)
  | calRun _ _ => exact .next (calReg_keeps _ _ _ _ h)
  | calDiscard _ _ => exact .next (calReg_keeps _ _ _ _ h)
  | calItemDone _ _ => exact .elseFault (ifDue_keeps h (itemDone_keeps _ _ _ h))
  | calItemSkip _ => exact .next (ifDue_keeps h (itemSkip_keeps _ _ h))
  | calStoreDone _ => exact .next (ifDue_keeps h (storeDone_keeps _ _ h))
  | calMaxdeferExpiry => exact .next (ifDue_keeps h (maxDeferExpiry_keeps _ h))
  | forcedGapTimeout => exact .next (ifDue_keeps h (forcedTimeout_keeps _ h))
  | nvmErase => exact .next (nvmReg_keeps _ _ _ h)
  | nvmProgram => exact .next (nvmReg_keeps _ _ _ h)
  | nvmRead => exact .next (nvmReg_keeps _ _ _ h)
  | keyWrite _ => exact .next (nvmReg_keeps _ _ _ h)
  | defaultsWrite => exact .next (nvmReg_keeps _ _ _ h)
  | nvmLock => exact .next (nvmReg_keeps _ _ _ h)
  | nvmCommandDone _ => exact .next (ifDue_keeps h (nvmDone_keeps _ _ h))
  | leesRecordWrite => exact .next (ifDue_keeps h (leesWrite_keeps _ h))
  | suppliesGood => exact .next (suppliesGood_keeps _ h)
  | cartridgePollTimeout _ => exact .next (ifDue_keeps h (exchangeFails_keeps _ _ h))
  | harvestHuntDiscard _ => exact .next (ifDue_keeps h (harvestEdge_keeps _ _ h))
  | refLevelKnown _ _ => exact .next (ifDue_keeps h (refKnown_keeps _ _ _ h))
  | valvePositionSense _ _ _ => exact .next (ifDue_keeps h (vlvSense_keeps _ _ _ _ h))
  | vioBankDetect _ => exact .next (bankDetect_keeps _ _ h)
  | boundaryScanAccess _ _ _ => exact .next (tapCycle_keeps _ _ _ _ h)
  | txnReservedOp _ _ => exact .unlessFault (txnReg_keeps _ _ _ h)
  | attReservedOp _ _ => exact .unlessFault (attReg_keeps _ _ _ h)
  | fabReservedOp _ _ => exact .unlessFault (fabReg_keeps _ _ _ h)
  | jetReservedOp _ _ => exact .unlessFault (jetReg_keeps _ _ _ h)
  | motReservedOp _ => exact .unlessFault (motReg_keeps _ _ h)
  | vlvReservedOp _ _ _ => exact .unlessFault (vlvReg_keeps _ _ _ _ h)
  | railReservedOp _ _ => exact .unlessFault (railReg_keeps _ _ _ h)
  | calReservedOp _ _ _ => exact .unlessFault (calReg_keeps _ _ _ _ h)
  | hcReservedOp _ _ => exact .unlessFault (hcReg_keeps _ _ _ h)
  | ingestReservedOp _ _ => exact .unlessFault (ingReg_keeps _ _ _ h)
  | nvmReservedOp _ _ => exact .unlessFault (nvmReg_keeps _ _ _ h)
  | rstCauseInvalidWrite _ => exact .unlessFault (ifDue_keeps h (rstCauseWrite_keeps _ _ h))
  | pfwCtlWrite _ => exact .next (ifDue_keeps h (routedOp_keeps _ _ _ h (pfwCtl_keeps _ _ h)))
  | irqMaskWrite _ => exact .next (typedWrite_keeps _ _ _ _ h)
  | broadcastRead _ =>
    exact .next (ifElse_keeps h (ite_keeps (fun _ => hostRead_keeps _ _ _ h) fun _ =>
      ite_keeps (fun _ => queueOverflow_keeps _ h) fun _ => broadcastReadOp_keeps _ h))
  | reservedAddressAccess _ _ =>
    exact .next (ifElse_keeps h (ite_keeps (fun _ => hostRead_keeps _ _ _ h) fun _ => typedWrite_keeps _ _ _ _ h))

end

/-- The parts of the state, each of them. -/
def allParts : List Part :=
  [.tk, .tick, .free, .tbl, .swathRam, .host, .bnd, .txn, .vine, .enc, .grid, .jet, .ing, .hc, .mot, .vlv, .vlvSel, .rail,
    .boot, .pwr, .cal, .nvm, .tap]

theorem mem_allParts (p : Part) : p ∈ allParts := by cases p <;> decide

/-- A command that completes leaves the state in good form. -/
theorem exec_wf {c : Instr} {s t : State} (hw : WfState s) (ht : exec c s = .next t) : WfState t := by
  have : ∀ p, Fact (p ∈ allParts) := fun p => ⟨mem_allParts p⟩
  have h := Keeps.start allParts hw
  by_cases hc : ∃ hs rs qs, c = .vaonPowerOn hs rs qs
  · obtain ⟨hs, rs, qs, rfl⟩ := hc
    exact (KeepsOut.elseFault (vaonPowerOn_keeps hs rs qs s h) t ht).toWfState
  · exact (exec_keeps h c (fun hs rs qs he => hc ⟨hs, rs, qs, he⟩) t ht).toWfState

/-- The waiting commands are no part of the good form. -/
theorem wfState_pending {s : State} (hw : WfState s) (cs : List Instr) : WfState { s with pending := cs } :=
  ⟨hw.tbl, hw.flash, hw.ram, hw.defs, hw.cask, hw.enc, hw.axes, hw.vlv, hw.rails, hw.wdacs, hw.slots, hw.inputs, hw.temps,
    hw.reads, hw.cons, hw.ports, hw.routes, hw.v⟩

theorem passTk_wf {s : State} (hw : WfState s) : WfState (passTk s) := by
  have : ∀ p, Fact (p ∈ allParts) := fun p => ⟨mem_allParts p⟩
  exact (passTk_keeps s (Keeps.start allParts hw)).toWfState

end Sys2Proof.Machine

open Sys2Proof.Machine

/-- Settles O5: the queue is empty and one TK passes, or its front command completes. -/
theorem stepKeepsGoodForm : Obligations.StepKeepsGoodForm := by
  intro s t hw ht
  cases hq : s.pending with
  | nil =>
    rw [step_nil s hq] at ht
    rw [← Host.Outcome.next.inj ht]
    exact passTk_wf hw
  | cons c cs =>
    rw [step_cons s c cs hq] at ht
    exact exec_wf (wfState_pending hw cs) ht
end


section
/-! A TICK that is not the last packet of its port (O38). `WfState` does not say that a port with credit has an empty
queue: where a packet that came in on port 0 waits on port 1 beside credit for it, the TICK sent on port 1 takes it
along, and the buffer it frees goes back with a CREDIT on port 0 (R89), after the TICK that port 0 has sent already. -/

namespace Sys2Proof.Machine

open Sys2Proof.Claims

/-- A packet of class 1 in transit, which still occupies the buffer it came in by. -/
def transitPacket : Packet := { dst := 5, src := 2, type := 0x13, cls := 1, seq := 0, words := [0, 0, 0], owe := some 0 }

/-- A root with ports 0 and 1 on its tree, where the packet in transit from port 0 waits on port 1. -/
def transitRoot : State := { State.reset with
  tk := 1024, boot.phase := .up, boot.hsel := true
  vine := { nodeId := 1, ready := true, treePorts := 3, owed := [{ id := 0, port := 0, cls := 1, units := 1 }]
            ports := [{ up := true, credit1 := 1 }, { up := true, credit1 := 2, txq := [transitPacket] }, {}] } }

theorem transitRoot_wf : WfState transitRoot :=
  ⟨rfl, rfl, rfl, rfl, rfl, rfl, rfl, rfl, rfl, rfl, rfl, rfl, rfl, rfl, rfl, rfl, rfl, rfl⟩

theorem transitRoot_tickSend : exec .tickSend transitRoot = .next (sendTick transitRoot) := rfl

/-- The last packet of port 0 is the CREDIT for the buffer of the packet in transit. -/
theorem transitRoot_last : (portOf (sendTick transitRoot) 0).sent.getLast? =
    some { dst := 0, src := 1, type := 0x0A, cls := 0, seq := 0, words := [0x4001] } := rfl

end Sys2Proof.Machine

open Sys2Proof.Machine

/-- Refutes O38: the root sends its TICK on ports 0 and 1, and a packet that has waited on port 1 goes out with it, whose
buffer is returned by a CREDIT on port 0. -/
theorem not_fabricTime : ¬ Obligations.FabricTime := by
  intro h
  obtain ⟨htick, -⟩ := h transitRoot transitRoot_wf
  obtain ⟨t, d, ht, -, -, k, hk, -, -, htype, -⟩ := htick 0 rfl rfl (by decide) rfl rfl
  rw [← Host.Outcome.next.inj (transitRoot_tickSend.symm.trans ht), transitRoot_last] at hk
  obtain rfl := Option.some.inj hk
  exact absurd htype (by decide)
end


section
/-! What sending packets leaves alone, and what a port that can send sends (R83-R92). -/

namespace Sys2Proof.Machine

open Sys2Proof.Claims

/-! ### Traffic -/

/-- What a change of one member leaves alone of every member. -/
theorem modifyNth_proj {α β : Type} {π : α → β} {f : α → α} (hf : ∀ x, π (f x) = π x) (d : α) :
    ∀ (l : List α) (i j : Nat), π ((modifyNth f l i).getD j d) = π (l.getD j d)
  | [], _, _ => rfl
  | x :: _, 0, 0 => hf x
  | _ :: _, 0, _ + 1 => rfl
  | _ :: _, _ + 1, 0 => rfl
  | _ :: xs, i + 1, j + 1 => by simpa [modifyNth] using modifyNth_proj hf d xs i j

/-- What sending leaves alone of a port: whether its link is up or idle, its neighbour and its latencies. -/
def linkOf (x : Port) : Bool × Bool × Nat × List Nat := (x.up, x.idle, x.neighbour, x.latencies)

/-- From `s` to `t` packets have been sent or taken in: table words, ports, SEQ counters, the buffers that packets in
transit occupy, LINKERR and the time of the root's last packet may differ, and no link has changed. -/
structure Traffic (s t : State) : Prop where
  only : ∃ l ps sq ow e h, t = { s with
    tbl := l, txn.lastFromRoot := h, vine := { s.vine with ports := ps, seqTx := sq, owed := ow, linkerr := e } }
  ports : t.vine.ports.length = s.vine.ports.length
  links : ∀ q, linkOf (portOf t q) = linkOf (portOf s q)

namespace Traffic

theorem refl (s : State) : Traffic s s := ⟨⟨_, _, _, _, _, _, rfl⟩, rfl, fun _ => rfl⟩

theorem trans {s t u : State} (h : Traffic s t) (h' : Traffic t u) : Traffic s u := by
  refine ⟨?_, h'.ports.trans h.ports, fun q => (h'.links q).trans (h.links q)⟩
  obtain ⟨l, ps, sq, ow, e, x, rfl⟩ := h.only
  obtain ⟨l', ps', sq', ow', e', x', rfl⟩ := h'.only
  exact ⟨l', ps', sq', ow', e', x', rfl⟩

theorem foldl {β : Type} {f : State → β → State} (hf : ∀ s x, Traffic s (f s x)) (l : List β) (s : State) :
    Traffic s (l.foldl f s) := by
  induction l generalizing s with
  | nil => exact refl s
  | cons x xs ih => exact (hf s x).trans (ih _)

theorem setPort (p : Nat) {f : Port → Port} (s : State) (hf : ∀ x, linkOf (f x) = linkOf x := by intro; rfl) :
    Traffic s (setPort p f s) :=
  ⟨⟨_, _, _, _, _, _, rfl⟩, modifyNth_length f _ p, fun q => modifyNth_proj hf {} _ p q⟩

theorem countSent (p n : Nat) (s : State) : Traffic s (countSent p n s) := ⟨⟨_, _, _, _, _, _, rfl⟩, rfl, fun _ => rfl⟩

theorem linkCount (p off : Nat) (s : State) : Traffic s (linkCount p off s) := ⟨⟨_, _, _, _, _, _, rfl⟩, rfl, fun _ => rfl⟩

theorem bump32 (tb a : Nat) (s : State) : Traffic s (bump32 tb a s) := ⟨⟨_, _, _, _, _, _, rfl⟩, rfl, fun _ => rfl⟩

theorem nextSeq (dst cls : Nat) (s : State) : Traffic s (nextSeq dst cls s).2 := ⟨⟨_, _, _, _, _, _, rfl⟩, rfl, fun _ => rfl⟩

theorem setOwed (ow : List Owed) (s : State) : Traffic s { s with vine.owed := ow } :=
  ⟨⟨_, _, _, _, _, _, rfl⟩, rfl, fun _ => rfl⟩

theorem heardFrom (src : Nat) (s : State) : Traffic s (heardFrom src s) := by
  unfold Machine.heardFrom
  split
  · exact ⟨⟨_, _, _, _, _, _, rfl⟩, rfl, fun _ => rfl⟩
  · exact refl s

theorem sendCredit (p cls : Nat) (init : Bool) (n : Nat) (s : State) : Traffic s (sendCredit p cls init n s) := by
  unfold Machine.sendCredit
  split
  · dsimp only
    split
    · exact (nextSeq 0 0 s).trans (setPort p _)
    · exact ((nextSeq 0 0 s).trans (setPort p _)).trans (countSent p 1 _)
  · exact refl s

theorem settleCopy (s : State) (pkt : Packet) : Traffic s (settleCopy s pkt) := by
  unfold Machine.settleCopy creditBack
  split
  · exact refl s
  · split
    · exact refl s
    · dsimp only
      split
      · exact setOwed _ s
      · refine Traffic.trans ?_ (sendCredit _ _ _ _ _)
        split
        · exact (setOwed _ s).trans (setPort _ _)
        · exact setOwed _ s

theorem linkOf_drainPort (stamp : Packet → Packet) (x : Port) : linkOf (drainPort stamp x) = linkOf x := by
  unfold drainPort
  split <;> rfl

theorem drain (p : Nat) (s : State) : Traffic s (drain p s) :=
  ((setPort p s (linkOf_drainPort _)).trans (countSent p _ _)).trans (foldl settleCopy _ _)

theorem sendOn (p : Nat) (pkt : Packet) (s : State) : Traffic s (sendOn p pkt s) := by
  unfold Machine.sendOn
  dsimp only
  split
  · exact settleCopy s pkt
  · split
    · exact setPort p s
    · split
      · exact (setPort p s).trans (drain p _)
      · exact (linkCount p 7 s).trans (settleCopy _ pkt)

theorem sendTo (dst type cls : Nat) (words : List Word) (s : State) : Traffic s (sendTo dst type cls words s) := by
  unfold Machine.sendTo
  dsimp only
  split
  · exact refl s
  · exact (nextSeq dst cls s).trans (sendOn _ _ _)

theorem sendEvent (code arg : Nat) (rest : List Word) (s : State) : Traffic s (sendEvent code arg rest s) :=
  sendTo _ _ _ _ s

theorem linkPacket (p type : Nat) (words : List Word) (s : State) : Traffic s (linkPacket p type words s) :=
  (nextSeq 0 0 s).trans (sendOn _ _ _)

theorem eventAnyway (code port : Nat) (rest : Word) (s : State) : Traffic s (eventAnyway code port rest s) := by
  unfold Machine.eventAnyway
  dsimp only
  split
  · exact sendEvent _ _ _ s
  · exact (nextSeq 1 0 s).trans (sendOn _ _ _)

theorem portArrived (p cls src : Nat) (s : State) : Traffic s (portArrived p cls src s) :=
  ((bump32 0x13 (16 * p + 8) s).trans (sendCredit p cls false 1 _)).trans (heardFrom src _)

theorem arrived (dst cls src : Nat) (s : State) : Traffic s (arrived dst cls src s) := by
  unfold Machine.arrived
  split
  · exact heardFrom src s
  · exact portArrived _ cls src s

variable {s t : State} (h : Traffic s t)
include h

/-- The fields of the state that traffic has no hand in. -/
theorem tk : t.tk = s.tk := by obtain ⟨_, _, _, _, _, _, rfl⟩ := h.only; rfl
theorem tick : t.tick = s.tick := by obtain ⟨_, _, _, _, _, _, rfl⟩ := h.only; rfl
theorem host : t.host = s.host := by obtain ⟨_, _, _, _, _, _, rfl⟩ := h.only; rfl
theorem boot : t.boot = s.boot := by obtain ⟨_, _, _, _, _, _, rfl⟩ := h.only; rfl
theorem pwr : t.pwr = s.pwr := by obtain ⟨_, _, _, _, _, _, rfl⟩ := h.only; rfl

/-- The registers of the forwarder but its ports, SEQ counters, buffers and LINKERR. -/
theorem vine : ∃ ps sq ow e, t.vine = { s.vine with ports := ps, seqTx := sq, owed := ow, linkerr := e } := by
  obtain ⟨_, ps, sq, ow, e, _, rfl⟩ := h.only
  exact ⟨ps, sq, ow, e, rfl⟩

theorem nodeId : t.vine.nodeId = s.vine.nodeId := by obtain ⟨_, _, _, _, hv⟩ := h.vine; rw [hv]
theorem rootUid : t.vine.rootUid = s.vine.rootUid := by obtain ⟨_, _, _, _, hv⟩ := h.vine; rw [hv]
theorem portEn : t.vine.portEn = s.vine.portEn := by obtain ⟨_, _, _, _, hv⟩ := h.vine; rw [hv]
theorem routes : t.vine.routes = s.vine.routes := by obtain ⟨_, _, _, _, hv⟩ := h.vine; rw [hv]
theorem learned : t.vine.learned = s.vine.learned := by obtain ⟨_, _, _, _, hv⟩ := h.vine; rw [hv]

theorem routeOf (n : Nat) : routeOf t n = routeOf s n := by rw [Machine.routeOf, h.routes, h.learned]; rfl

theorem isRoot : isRoot t = isRoot s := by rw [Machine.isRoot, h.boot]; rfl

theorem coreRuns : coreRuns t = coreRuns s := coreRuns_congr h.boot

theorem up (q : Nat) : (portOf t q).up = (portOf s q).up := congrArg (·.1) (h.links q)

theorem neighbour (q : Nat) : (portOf t q).neighbour = (portOf s q).neighbour := congrArg (·.2.2.1) (h.links q)

end Traffic

/-! ### A port that can send -/

/-- The credit that a packet of class 0 or 1 goes out by (R89). -/
def creditFor (cls : Nat) (x : Port) : Nat := if cls = 0 then x.credit0 else x.credit1

theorem canSend_iff {s : State} {r cls : Nat} : canSend s r cls = true ↔ r < 3 ∧ s.pwr.state ≤ 1 ∧
    (portOf s r).up = true ∧ (portOf s r).idle = false ∧ (portOf s r).txq = [] ∧ 1 ≤ creditFor cls (portOf s r) := by
  unfold canSend creditFor
  split <;> simp [and_assoc]

/-- A packet of no time type goes out as it is (R86). -/
theorem stampSent_plain {pkt : Packet} (h : pkt.type ∉ [0x10, 0x11, 0x12]) (s : State) (p : Nat) : stampSent s p pkt = pkt := by
  simp only [List.mem_cons, List.not_mem_nil, or_false, not_or] at h
  simp [stampSent, h]

/-- Where nothing waits and a credit is left, the packet that joins the queue is sent (R91). -/
theorem afterSending_out {x : Port} {pkt : Packet} (hup : x.up = true) (hidle : x.idle = false) (hq : x.txq = [])
    (hcls : pkt.cls ≤ 1) (hcr : 1 ≤ creditFor pkt.cls x) (htype : pkt.type ≠ 0x0A) (stamp : Packet → Packet) :
    (afterSending stamp pkt x).sent = x.sent ++ [stamp pkt] := by
  have h : pkt.cls = 0 ∨ pkt.cls = 1 := by omega
  rcases h with h | h <;> simp [creditFor, h] at hcr <;>
    simp [afterSending, drainPort, takeCredit, hup, hidle, hq, hcr, h, htype]

section
variable {s : State} {r : Nat} {pkt : Packet} (hl : s.vine.ports.length = 3) (hs : canSend s r pkt.cls = true)
  (hcls : pkt.cls ≤ 1) (htype : pkt.type ∉ [0x0A, 0x10, 0x11, 0x12])
include hl hs hcls htype

/-- What a port that can send sends goes out at once and is counted, and the buffer it came in by is settled (R91, R116). -/
theorem sendOn_out : sendOn r pkt s = settleCopy (countSent r 1 (setPort r (afterSending (stampSent s r) pkt) s)) pkt ∧
    (portOf (countSent r 1 (setPort r (afterSending (stampSent s r) pkt) s)) r).sent = (portOf s r).sent ++ [pkt] := by
  obtain ⟨hr, hpwr, hup, hidle, hq, hcr⟩ := canSend_iff.mp hs
  simp only [List.mem_cons, List.not_mem_nil, or_false, not_or] at htype
  have hstamp : stampSent s r pkt = pkt := stampSent_plain (by simp [htype]) s r
  have hout : (afterSending (stampSent s r) pkt (portOf s r)).sent = (portOf s r).sent ++ [pkt] :=
    (afterSending_out hup hidle hq hcls hcr htype.1 _).trans (by rw [hstamp])
  have hgo : sendOn r pkt s = drain r (setPort r (fun x => { x with txq := x.txq ++ [pkt] }) s) := by
    have : ¬ 2 ≤ s.pwr.state := by omega
    simp [sendOn, hup, hidle, this]
  have hset : setPort r (drainPort (stampSent s r)) (setPort r (fun x => { x with txq := x.txq ++ [pkt] }) s) =
    setPort r (afterSending (stampSent s r) pkt) s := setPort_setPort _ _ _ _
  have hnew : (portOf (setPort r (afterSending (stampSent s r) pkt) s) r).sent.drop
      (portOf (setPort r (fun x => { x with txq := x.txq ++ [pkt] }) s) r).sent.length = [pkt] := by
    rw [portOf_setPort_same (by omega), portOf_setPort_same (by omega), hout]
    exact List.drop_left' rfl
  constructor
  · rw [hgo, drain, show stampSent (setPort r (fun x => { x with txq := x.txq ++ [pkt] }) s) r = stampSent s r from rfl,
      hset, hnew]
    rfl
  · exact (congrArg Port.sent (portOf_setPort_same (by omega) _)).trans hout

/-- A packet of this node that a port can send is the last packet of that port. -/
theorem sendOn_lastSent (hsrc : pkt.src = s.vine.nodeId) (howe : pkt.owe = none) :
    lastSent (sendOn r pkt s) r pkt.dst pkt.type pkt.cls pkt.words := by
  obtain ⟨hgo, hsent⟩ := sendOn_out hl hs hcls htype
  rw [hgo, settleCopy_none howe]
  exact ⟨pkt, by rw [hsent]; exact List.getLast?_concat, rfl, hsrc, rfl, rfl, rfl⟩

end

/-- A link packet is the last packet of a port that can send it. -/
theorem linkPacket_lastSent {s : State} {p type : Nat} (hl : s.vine.ports.length = 3) (hs : canSend s p 0 = true)
    (htype : type ∉ [0x0A, 0x10, 0x11, 0x12]) (words : List Word) :
    lastSent (linkPacket p type words s) p 0 type 0 words :=
  sendOn_lastSent (s := (nextSeq 0 0 s).2)
    (pkt := { dst := 0, src := s.vine.nodeId, type := type, cls := 0, seq := (nextSeq 0 0 s).1, words := words })
    hl hs (Nat.zero_le _) htype rfl rfl

/-- A packet to another node is the last packet of the port toward it, where that can send. -/
theorem sendTo_lastSent {s : State} {r dst type : Nat} (hl : s.vine.ports.length = 3) (hroute : routeOf s dst = r + 1)
    (hs : canSend s r 0 = true) (htype : type ∉ [0x0A, 0x10, 0x11, 0x12]) (words : List Word) :
    lastSent (sendTo dst type 0 words s) r dst type 0 words := by
  have hgo : sendTo dst type 0 words s = sendOn r { dst := dst, src := s.vine.nodeId, type := type, cls := 0
                                                    seq := (nextSeq dst 0 s).1, words := words } (nextSeq dst 0 s).2 := by
    simp [sendTo, hroute]
  rw [hgo]
  exact sendOn_lastSent (s := (nextSeq dst 0 s).2)
    (pkt := { dst := dst, src := s.vine.nodeId, type := type, cls := 0, seq := (nextSeq dst 0 s).1, words := words })
    hl hs (Nat.zero_le _) htype rfl rfl

end Sys2Proof.Machine
end


section
/-! Link events and credits (R79, R83, R89): what they count, and the packets that a port drops. -/

namespace Sys2Proof.Machine

open Sys2Proof.Claims

/-- A port that is up is one of the node's. -/
theorem lt_of_up {s : State} {p : Nat} (h : (portOf s p).up = true) : p < s.vine.ports.length := by
  by_contra hp
  have : portOf s p = {} := List.getD_eq_default _ _ (by omega)
  rw [this] at h
  cases h

/-! ### The counters beside those of sent packets -/

/-- From `s` to `t` no word of table 0x13 changes but the counters of sent packets. -/
structure CountsKept (s t : State) : Prop where
  wf : tblWf s = true → tblWf t = true
  ports : t.vine.ports.length = s.vine.ports.length
  words : tblWf s = true → s.vine.ports.length = 3 → ∀ a < 2 ^ 24, (∀ q < 3, a ≠ 16 * q + 10 ∧ a ≠ 16 * q + 11) →
    tget t 0x13 a = tget s 0x13 a

namespace CountsKept

theorem of_eq {s t : State} (htbl : t.tbl = s.tbl) (hp : t.vine.ports.length = s.vine.ports.length) : CountsKept s t :=
  ⟨fun h => (tblWf_congr htbl).trans h, hp, fun _ _ _ _ _ => by rw [tget_congr htbl]⟩

theorem refl (s : State) : CountsKept s s := of_eq rfl rfl

theorem trans {s t u : State} (h : CountsKept s t) (h' : CountsKept t u) : CountsKept s u :=
  ⟨fun hw => h'.wf (h.wf hw), h'.ports.trans h.ports, fun hw hl a ha hq =>
    (h'.words (h.wf hw) (h.ports.trans hl) a ha hq).trans (h.words hw hl a ha hq)⟩

theorem foldl {β : Type} {f : State → β → State} (hf : ∀ s x, CountsKept s (f s x)) (l : List β) (s : State) :
    CountsKept s (l.foldl f s) := by
  induction l generalizing s with
  | nil => exact refl s
  | cons x xs ih => exact (hf s x).trans (ih _)

theorem setPort (p : Nat) (f : Port → Port) (s : State) : CountsKept s (setPort p f s) :=
  of_eq rfl (modifyNth_length f _ p)

theorem countSent {p : Nat} (n : Nat) {s : State} (hp : p < s.vine.ports.length) : CountsKept s (countSent p n s) := by
  refine ⟨fun h => tset_wf (tset_wf h _ _ _) _ _ _, rfl, fun hw hl a ha hq => ?_⟩
  obtain ⟨h10, h11⟩ := hq p (by omega)
  have hkey (o : Nat) (ho : o < 16) (hne : a ≠ 16 * p + o) : tkey 0x13 a ≠ tkey 0x13 (16 * p + o) := fun h =>
    hne ((tkey_inj ha (by omega)).mp h).2
  exact (tget_tset_other (tset_wf hw _ _ _) (hkey 11 (by decide) h11) _).trans
    (tget_tset_other hw (hkey 10 (by decide) h10) _)

theorem sendCredit (p cls : Nat) (init : Bool) (n : Nat) (s : State) : CountsKept s (sendCredit p cls init n s) := by
  unfold Machine.sendCredit
  split
  next hup =>
    have hq : CountsKept s (nextSeq 0 0 s).2 := of_eq rfl rfl
    dsimp only
    split
    · exact hq.trans (setPort p _ _)
    · exact (hq.trans (setPort p _ _)).trans (countSent 1 (by
        rw [(setPort p _ _).ports]; exact lt_of_up hup))
  next => exact refl s

theorem settleCopy (s : State) (pkt : Packet) : CountsKept s (settleCopy s pkt) := by
  unfold Machine.settleCopy creditBack
  split
  · exact refl s
  · split
    · exact refl s
    · dsimp only
      split
      · exact of_eq rfl rfl
      · refine CountsKept.trans ?_ (sendCredit _ _ _ _ _)
        split
        · exact of_eq rfl (modifyNth_length _ _ _)
        · exact of_eq rfl rfl

end CountsKept

/-- A port's counters below those of sent packets are among the words kept. -/
theorem portCounter_kept {p o : Nat} (hp : p < 3) (ho : o < 10) :
    16 * p + o < 2 ^ 24 ∧ ∀ q < 3, 16 * p + o ≠ 16 * q + 10 ∧ 16 * p + o ≠ 16 * q + 11 :=
  ⟨by omega, fun q hq => by omega⟩

/-! ### Dropped packets -/

theorem sendCredit_host (p cls : Nat) (init : Bool) (n : Nat) (s : State) : (sendCredit p cls init n s).host = s.host :=
  (Traffic.sendCredit p cls init n s).host

theorem sendCredit_linkerr (p cls : Nat) (init : Bool) (n : Nat) (s : State) :
    (sendCredit p cls init n s).vine.linkerr = s.vine.linkerr := by
  unfold sendCredit
  dsimp only
  (repeat' split) <;> rfl

theorem vineErr_vine (c : Nat) (s : State) : (vineErr c s).vine = s.vine := by rw [vineErr, recErr_only]

theorem vineErr_tbl (c : Nat) (s : State) : (vineErr c s).tbl = s.tbl := by rw [vineErr, recErr_only]

/-- What a counted link error leaves: LINKERR, one more of its counter, and the error as the newest. -/
structure LinkError (p off err : Nat) (s t : State) : Prop where
  linkerr : t.vine.linkerr = true
  counted : countedOne s t 0x13 (16 * p + off)
  newest : coreRuns s = true → newestError t s.tick (errWord 3 err)

theorem linkCount_error {s : State} (hw : tblWf s = true) (p off err : Nat) :
    LinkError p off err s (vineErr err (linkCount p off s)) where
  linkerr := congrArg Vine.linkerr (vineErr_vine err _)
  counted := by
    refine (congrFun₂ (tget_congr (vineErr_tbl err _)) _ _).trans ?_
    exact tget_bump hw 0x13 (16 * p + off)
  newest h := newestError_recErr (s := linkCount p off s) h 3 err

/-- A packet that is dropped is counted and recorded (R84, R85); then its buffer is free again (R89). -/
theorem dropPacket_error {s : State} (hw : WfState s) {p off : Nat} (hp : p < 3) (ho : off < 10) (err cls units : Nat) :
    LinkError p off err s (dropPacket p off err cls units s) := by
  have h := linkCount_error hw.tbl p off err
  have hkeep := CountsKept.sendCredit p cls false units (vineErr err (linkCount p off s))
  unfold dropPacket creditBack
  dsimp only
  split
  · refine ⟨?_, ?_, fun hr => ?_⟩
    · rw [sendCredit_linkerr]; exact h.linkerr
    · obtain ⟨ha, hq⟩ := portCounter_kept hp ho
      refine (hkeep.words ?_ ?_ _ ha hq).trans h.counted
      · rw [tblWf_congr (vineErr_tbl err _)]; exact tset_wf hw.tbl _ _ _
      · rw [vineErr_vine]; exact hw.ports
    · rw [newestError, sendCredit_host]; exact h.newest hr
  · exact h

theorem dropPacket_routes (p off err cls units : Nat) (s : State) :
    (dropPacket p off err cls units s).vine.routes = s.vine.routes := by
  have h := congrArg Vine.routes (vineErr_vine err (linkCount p off s))
  unfold dropPacket creditBack
  dsimp only
  split
  · exact (Traffic.sendCredit _ _ _ _ _).routes.trans h
  · exact h

end Sys2Proof.Machine
end


section
/-! A device is discovered, numbered and given its routes (O34). -/

namespace Sys2Proof.Machine

open Sys2Proof.Claims

/-- The forwarder takes in what comes on a port that is up (R83, R95). -/
theorem portTakes {s : State} {p : Nat} (hv : vineOn s = true) (hup : (portOf s p).up = true) :
    ¬ (!vineOn s || !(portOf s p).up) = true := by
  simp [hv, hup]

/-- DISCOVER is answered on the port it came in by, which now knows its neighbour (R86). -/
theorem answerDiscover_spec {s : State} {p : Nat} (hl : s.vine.ports.length = 3) (hr : isRoot s = false)
    (hs : canSend s p 0 = true) (epoch src : Nat) (root : BitVec 64) :
    let t := answerDiscover p epoch src root s
    (portOf t p).neighbour = src ∧ lastSent t p 1 0x02 0 (ackWords s p epoch) := by
  obtain ⟨hp, -⟩ := canSend_iff.mp hs
  have hset : canSend (setPort p (fun x => { x with neighbour := src }) s) p 0 = true :=
    canSend_setPort hl (fun _ => ⟨rfl, rfl, rfl, rfl⟩) hs
  have hlen : (setPort p (fun x => { x with neighbour := src }) s).vine.ports.length = 3 := (modifyNth_length _ _ p).trans hl
  have hgo : answerDiscover p epoch src root s = sendOn p
      { dst := 1, src := s.vine.nodeId, type := 0x02, cls := 0
        seq := (nextSeq 1 0 (setPort p (fun x => { x with neighbour := src }) s)).1, words := ackWords s p epoch }
      (nextSeq 1 0 (setPort p (fun x => { x with neighbour := src }) s)).2 := by
    simp [answerDiscover, hr]
  rw [hgo]
  constructor
  · rw [(Traffic.sendOn _ _ _).neighbour]
    exact congrArg Port.neighbour (portOf_setPort_same (s := s) (by omega) fun x => { x with neighbour := src })
  · exact sendOn_lastSent (s := (nextSeq 1 0 (setPort p (fun x => { x with neighbour := src }) s)).2)
      (pkt := { dst := 1, src := s.vine.nodeId, type := 0x02, cls := 0
                seq := (nextSeq 1 0 (setPort p (fun x => { x with neighbour := src }) s)).1, words := ackWords s p epoch })
      hlen hset (Nat.zero_le _) (by simp) rfl rfl

theorem ackWords_congr {s t : State} (h : Traffic s t) (hr : isRoot s = false) (p epoch : Nat) : ackWords t p epoch =
    wordsBE 4 Config.uid.toNat ++ [word (s.vine.nodeId * 256 + (p + 1)), word (epoch * 256)]
      ++ wordsBE 4 (if s.vine.nodeId = 0 then 0 else s.vine.rootUid.toNat) := by
  simp [ackWords, h.isRoot, hr, h.nodeId, h.rootUid, atBit]

/-- The words of a DISCOVER that is to be answered (R86). -/
theorem discoverWords_direct (epoch port : Nat) (root : BitVec 64) :
    discoverWords epoch false port root = word (epoch * 256 + port) :: wordsBE 4 root.toNat := by
  simp [discoverWords, atBit]

/-- The word that a ROUTE gives node `n` (R86, R100). -/
theorem applyRoute_routes (ws : List Word) (s : State) {n : Nat} (hn : n < 64) :
    (applyRoute ws s).vine.routes.getD n 0 = (ws.getD (n / 8) 0).toNat / 4 ^ (n % 8) % 4 := by
  have hword : bits (nth ws (n / 8)).toNat (2 * (n % 8) + 1) (2 * (n % 8)) = (ws.getD (n / 8) 0).toNat / 4 ^ (n % 8) % 4 := by
    rw [bits, Nat.shiftRight_eq_div_pow, Nat.pow_mul, show 2 * (n % 8) + 1 + 1 - 2 * (n % 8) = 2 by omega]
    rfl
  rw [← hword]
  simp [applyRoute, setVine, hn]

end Sys2Proof.Machine

open Sys2Proof.Machine Sys2Proof.Claims

/-- Settles O34: each packet by what its arrival keeps, and by what the device does with it. -/
theorem deviceIsNumbered : Obligations.DeviceIsNumbered := by
  intro s p h hw hv hup
  have hl := hw.ports
  have hin := portTakes hv hup
  have harr := Traffic.portArrived p 0 h.src.toNat s
  have hlen : (portArrived p 0 h.src.toNat s).vine.ports.length = 3 := harr.ports.trans hl
  have hsend {q : Nat} : canSend s q 0 = true → canSend (portArrived p 0 h.src.toNat s) q 0 = true :=
    (portArrived_answersAs hl q p 0 h.src.toNat).sends
  refine ⟨fun epoch on root hr hs => ?_, fun epoch q root hme hs => ?_, fun n on root => ?_, fun n on uid root hne => ?_,
    fun ws hlen11 hme hsrc => ?_, fun ws hlen11 hrun => ?_⟩
  · obtain ⟨hn, hlast⟩ := answerDiscover_spec hlen (harr.isRoot.trans hr) (hsend hs) epoch.toNat h.src.toNat root
    rw [ackWords_congr harr hr] at hlast
    exact ⟨_, congrArg Host.Outcome.next (if_neg hin), hn, hlast⟩
  · have hq : (BitVec.ofNat 2 (q + 1)).toNat = q + 1 := by
      have := q.isLt
      simp only [BitVec.toNat_ofNat]
      omega
    obtain ⟨-, -, hqup, -⟩ := canSend_iff.mp hs
    have hport : ¬ (BitVec.ofNat 2 (q + 1) = 0 ∨ (portOf s ((BitVec.ofNat 2 (q + 1)).toNat - 1)).up = false) := by
      rw [hq, Nat.add_sub_cancel, hqup]
      simpa [BitVec.toNat_eq] using hq.trans_ne (Nat.succ_ne_zero _)
    have ht : exec (.pktDiscover p h epoch true (BitVec.ofNat 2 (q + 1)) root) s = .next
        (linkPacket q 0x01 (discoverWords epoch.toNat false (q + 1) root) (portArrived p 0 h.src.toNat s)) := by
      refine congrArg Host.Outcome.next ((if_neg hin).trans ((if_neg (by simp)).trans ((if_pos hme).trans ?_)))
      rw [if_neg hport, hq, Nat.add_sub_cancel]
    rw [discoverWords_direct] at ht
    exact ⟨_, ht, linkPacket_lastSent hlen (hsend hs) (by simp) _⟩
  · exact ⟨_, congrArg Host.Outcome.next ((if_neg hin).trans ((if_pos rfl).trans (if_pos rfl))), rfl, rfl, rfl, rfl, rfl,
      harr.routes⟩
  · exact ⟨_, congrArg Host.Outcome.next ((if_neg hin).trans ((if_pos rfl).trans (if_neg hne))), harr.nodeId, harr.rootUid⟩
  · have ht : exec (.pktRoute p h ws) s = .next (applyRoute ws (portArrived p 0 h.src.toNat s)) :=
      congrArg Host.Outcome.next ((if_neg hin).trans ((if_neg (by simp [hlen11])).trans
        ((if_neg (by simp [hme])).trans (if_pos hsrc))))
    exact ⟨_, ht, by simp [applyRoute, setVine], fun n hn => applyRoute_routes ws _ hn, rfl, rfl, rfl⟩
  · have ht : exec (.pktRoute p h ws) s = .next (dropPacket p 3 4 0 1 s) :=
      congrArg Host.Outcome.next ((if_neg hin).trans (if_pos hlen11))
    have herr := dropPacket_error hw p.isLt (by decide : 3 < 10) 4 0 1
    exact ⟨_, ht, dropPacket_routes _ _ _ _ _ _, herr.counted, herr.newest hrun⟩
end


section
/-! The forwarder (O37). -/

namespace Sys2Proof.Machine

open Sys2Proof.Claims

/-! ### Forwarding to another node -/

theorem recvBytes_packet {s : State} {p : Nat} {k : Packet} (hup : (portOf s p).up = true) (hk : HeaderFits k)
    (howe : k.owe = none) (hrx : k.rx = none) : recvBytes p (packetBytes k) s = forwardPacket p k s := by
  have hsame : ({ k with owe := none, rx := none } : Packet) = k := by
    cases k
    cases howe
    cases hrx
    rfl
  simp [recvBytes, hup, packetCrcOk_packetBytes hk, packetOf_packetBytes hk, hsame]

/-- A route that a passing packet shows is learned, and nothing else changes (log entry 71). -/
theorem learnFrom_only (p r : Nat) (k : Packet) (s : State) : ∃ l, learnFrom p r k s = { s with vine.learned := l } := by
  have learn (n port : Nat) : ∃ l, learnRoute n port s = { s with vine.learned := l } := by
    unfold learnRoute
    split <;> exact ⟨_, rfl⟩
  unfold learnFrom
  split
  · exact learn _ _
  · split
    · exact learn _ _
    · exact ⟨_, rfl⟩

/-- An EVENT for the root takes its routed port where that is up and is not the one it came in by (R103). -/
theorem eventPort_routed {s : State} {r : Nat} {came : Option Nat} (hr : routeOf s 1 = r + 1) (hup : (portOf s r).up = true)
    (hne : came ≠ some r) : eventPort s came = r + 1 := by
  simp [eventPort, hr, hup, hne]

/-- The only copy of a packet has left: its buffer is returned by a CREDIT (R89). -/
theorem settleCopy_freed {s : State} {pkt : Packet} {i : Nat} {o : Owed} (howe : pkt.owe = some i)
    (hfind : s.vine.owed.find? (fun x => x.id == i) = some o) (hcopies : o.copies = 1) (hcls : o.cls ≠ 2) :
    settleCopy s pkt = creditBack o.port o.cls o.units { s with vine.owed := s.vine.owed.filter (fun x => x.id != i) } := by
  simp [settleCopy, howe, hfind, hcopies, hcls]

theorem portOf_sendCredit_other {s : State} {p r : Nat} (h : r ≠ p) (cls : Nat) (init : Bool) (n : Nat) :
    portOf (sendCredit p cls init n s) r = portOf s r := by
  unfold sendCredit
  split
  · dsimp only
    split
    · exact portOf_setPort_other (s := (nextSeq 0 0 s).2) h _
    · exact portOf_setPort_other (s := (nextSeq 0 0 s).2) h _
  · rfl

/-- The packet as it waits for its port: it names the buffer that it came in by (R89). -/
def owing (k : Packet) (s : State) : Packet := { k with owe := some s.vine.nextOwe }

/-- A unicast packet for another node is the last packet of the port toward it, where that can send (R99). -/
theorem forwardUnicast_out {s : State} {p r : Nat} {k : Packet} (hl : s.vine.ports.length = 3) (hcls : k.cls < 2)
    (htype : k.type ∉ [0x0A, 0x10, 0x11, 0x12]) (hroute : routeOf s k.dst = r + 1) (hne : r ≠ p)
    (hs : canSend s r k.cls = true) : ∃ k', (portOf (forwardUnicast p k s) r).sent.getLast? = some k' ∧
      { k' with owe := none } = { k with owe := none } := by
  obtain ⟨-, -, hup, -⟩ := canSend_iff.mp hs
  have hport : (if k.type = 9 ∧ k.dst = 1 then eventPort s (some p) else routeOf s k.dst) = r + 1 := by
    split
    next hev => exact eventPort_routed (hev.2 ▸ hroute) hup (by simpa using Ne.symm hne)
    next => exact hroute
  obtain ⟨l, hlearn⟩ := learnFrom_only p (r + 1) k s
  have hgo : forwardUnicast p k s = sendOn r (owing k s) (oweBuffer p 1 k { s with vine.learned := l }) := by
    have h2 : k.cls ≠ 2 := by omega
    simp [forwardUnicast, hport, hlearn, h2, hne, owing]
  obtain ⟨hsend, hsent⟩ := sendOn_out (s := oweBuffer p 1 k { s with vine.learned := l }) (r := r) (pkt := owing k s)
    hl hs (by simp only [owing]; omega) htype
  have hfree := settleCopy_freed (s := countSent r 1 (setPort r
      (afterSending (stampSent (oweBuffer p 1 k { s with vine.learned := l }) r) (owing k s))
      (oweBuffer p 1 k { s with vine.learned := l }))) (pkt := owing k s) rfl
    (o := { id := s.vine.nextOwe, port := p, cls := k.cls, units := packetUnits k }) (by
      simp [countSent, setPort, oweBuffer, setVine]) rfl (by simp only; omega)
  refine ⟨owing k s, ?_, rfl⟩
  rw [hgo, hsend, hfree, creditBack, portOf_sendCredit_other hne]
  exact (congrArg List.getLast? hsent).trans List.getLast?_concat

section
variable {s : State} {p : Nat} {k : Packet} (hform : packetFormOk k = true) (htype : k.type ∉ [0x0A, 0x10, 0x11, 0x12])
  (hbuf : noBuffer p k s = false) (hn : s.vine.nodeId ≠ 0)
include hform htype hbuf hn

theorem forwardPacket_away (h0 : k.dst ≠ 0) (h63 : k.dst ≠ 63) (hme : k.dst ≠ s.vine.nodeId) :
    forwardPacket p k s = forwardUnicast p k (bump32 0x13 (16 * p + 8) s) := by
  simp only [List.mem_cons, List.not_mem_nil, or_false, not_or] at htype
  obtain ⟨hA, h10, -, -⟩ := htype
  simp [forwardPacket, hform, hA, h10, hbuf, h0, hn, hme, h63]

/-- A packet for this node is left to its own command (log entry 72). -/
theorem forwardPacket_here (hev : eventReserved s k = false) (hme : k.dst = s.vine.nodeId) : forwardPacket p k s = s := by
  simp only [List.mem_cons, List.not_mem_nil, or_false, not_or] at htype
  obtain ⟨hA, h10, -, -⟩ := htype
  simp [forwardPacket, hform, hA, h10, hbuf, hn, hme, hev]

end

/-- A packet of the wrong form is dropped, counted and recorded (R85). -/
theorem forwardPacket_malformed {s : State} (hw : WfState s) {p : Nat} (hp : p < 3) {k : Packet}
    (hform : packetFormOk k = false) : LinkError p 3 4 s (forwardPacket p k s) := by
  by_cases h : k.type = 0x0A
  · have hgo : forwardPacket p k s = vineErr 4 (linkCount p 3 s) := by simp [forwardPacket, hform, h]
    rw [hgo]
    exact linkCount_error hw.tbl p 3 4
  · have hgo : forwardPacket p k s = dropPacket p 3 4 k.cls (packetUnits k) s := by simp [forwardPacket, hform, h]
    rw [hgo]
    exact dropPacket_error hw hp (by decide) 4 _ _

/-! ### CREDIT -/

theorem drainPort_empty (stamp : Packet → Packet) {x : Port} (hq : x.txq = []) : drainPort stamp x = x := by
  cases x
  cases hq
  simp [drainPort, takeCredit]

/-- A port on which nothing waits sends nothing. -/
theorem portOf_drain_empty {s : State} {p : Nat} (hp : p < s.vine.ports.length) (hq : (portOf s p).txq = []) :
    portOf (drain p s) p = portOf s p := by
  have hset := (portOf_setPort_same hp (drainPort (stampSent s p))).trans (drainPort_empty _ hq)
  unfold drain
  dsimp only
  rw [hset, List.drop_length]
  exact hset

/-- The packet that waited for a credit is sent (R89, R91). -/
theorem portOf_drain_single {s : State} {p : Nat} {k : Packet} (hp : p < s.vine.ports.length)
    (hup : (portOf s p).up = true) (hidle : (portOf s p).idle = false) (hq : (portOf s p).txq = [k]) (hcls : k.cls = 0)
    (htype : k.type ∉ [0x0A, 0x10, 0x11, 0x12]) (howe : k.owe = none) (hcr : 1 ≤ (portOf s p).credit0) :
    (portOf (drain p s) p).sent = (portOf s p).sent ++ [k] ∧ (portOf (drain p s) p).txq = [] ∧
      (portOf (drain p s) p).credit0 + 1 = (portOf s p).credit0 := by
  simp only [List.mem_cons, List.not_mem_nil, or_false, not_or] at htype
  have hstamp : stampSent s p k = k := stampSent_plain (by simp [htype]) s p
  have hport : drainPort (stampSent s p) (portOf s p) =
      { portOf s p with sent := (portOf s p).sent ++ [k], txq := [], credit0 := (portOf s p).credit0 - 1 } := by
    simp [drainPort, takeCredit, hup, hidle, hq, hcls, htype, hcr, hstamp]
  have hset := (portOf_setPort_same hp (drainPort (stampSent s p))).trans hport
  have hdrain : portOf (drain p s) p = portOf (setPort p (drainPort (stampSent s p)) s) p := by
    unfold drain
    dsimp only
    rw [hset, List.drop_left' rfl, List.foldl_cons, List.foldl_nil, settleCopy_none howe]
    exact hset
  rw [hdrain, hset]
  exact ⟨rfl, rfl, by simp only; omega⟩

section
variable {s : State} {p : Fin 3} (hv : vineOn s = true) (hup : (portOf s p).up = true) (init : Bool) (n : Byte)
include hv hup

/-- What CREDIT makes of the credits of a class. -/
def creditPut (init : Bool) (n : Byte) (old : Nat) : Nat := if init then n.toNat else old + n.toNat

theorem pktCredit_class0 : exec (.pktCredit p 0 init n) s = .next (drain p (setPort p
    (fun x => { x with credit0 := creditPut init n x.credit0 }) (bump32 0x13 (16 * p + 8) s))) :=
  congrArg Host.Outcome.next (if_neg (portTakes hv hup))

theorem pktCredit_class1 : exec (.pktCredit p 1 init n) s = .next (drain p (setPort p
    (fun x => { x with credit1 := creditPut init n x.credit1 }) (bump32 0x13 (16 * p + 8) s))) :=
  congrArg Host.Outcome.next (if_neg (portTakes hv hup))

theorem pktCredit_class2 : exec (.pktCredit p 2 init n) s = .next (drain p (setPort p
    (fun x => { x with credit2 := creditPut init n x.credit2 }) (bump32 0x13 (16 * p + 8) s))) :=
  congrArg Host.Outcome.next (if_neg (portTakes hv hup))

theorem pktCredit_class3 : exec (.pktCredit p 3 init n) s = .next (vineErr 4 (linkCount p 3 s)) :=
  congrArg Host.Outcome.next (if_neg (portTakes hv hup))

end

/-- Credits that come while nothing waits. -/
theorem portOf_drain_credited {s : State} {p : Fin 3} (hl : s.vine.ports.length = 3) (hq : (portOf s p).txq = [])
    (f : Port → Port) (hf : (f (portOf s p)).txq = (portOf s p).txq) :
    portOf (drain p (setPort p f (bump32 0x13 (16 * p + 8) s))) p = f (portOf s p) := by
  have hp : (p : Nat) < (bump32 0x13 (16 * p + 8) s).vine.ports.length := p.isLt.trans_eq hl.symm
  have hset := portOf_setPort_same hp f
  rw [portOf_drain_empty (hp.trans_eq (modifyNth_length f _ p).symm) (by rw [hset]; exact hf.trans hq), hset]
  rfl

end Sys2Proof.Machine

open Sys2Proof.Machine Sys2Proof.Claims

/-- Settles O37: a packet by its CRC, its form and its destination, CREDIT by its class and by what waits. -/
theorem forwarding : Obligations.Forwarding := by
  intro s p hw hv hup
  have hl := hw.ports
  have hexec (bs) : exec (.packetForward p bs) s = .next (recvBytes p bs s) := congrArg Host.Outcome.next (if_pos hv)
  refine ⟨fun bs hcrc => ?_, fun k hdst hsrc hty hcls hseq hlen htype howe hrx hform hbuf hn hev => ?_,
    fun k hdst hsrc hty hcls hseq hlen hform => ?_, fun n hq => ⟨?_, ?_, ?_⟩,
    fun n k hq hcls hty hA howe hidle hcr hn => ?_, fun init n hrun => ?_⟩
  · have herr := dropPacket_error hw p.isLt (by decide : 1 < 10) 2 (packetOf bs).cls (packetUnits (packetOf bs))
    have hgo : recvBytes p bs s = dropPacket p 1 2 (packetOf bs).cls (packetUnits (packetOf bs)) s := by
      simp [recvBytes, hup, hcrc]
    exact ⟨_, (hexec bs).trans (congrArg _ hgo), herr.linkerr, herr.counted, herr.newest⟩
  · have hgo := (hexec (packetBytes k)).trans (congrArg Host.Outcome.next
      (recvBytes_packet hup ⟨hdst, hsrc, hty, hcls.trans (by decide), hseq, hlen⟩ howe hrx))
    refine ⟨fun r h0 h63 hme hroute hne hs => ?_, fun hme => ?_⟩
    · obtain ⟨k', hlast, hk'⟩ := forwardUnicast_out (s := bump32 0x13 (16 * p + 8) s) hl hcls htype hroute hne hs
      refine ⟨_, k', hgo.trans (congrArg _ (forwardPacket_away hform htype hbuf hn h0 h63 hme)), hlast, hk'.trans ?_⟩
      rw [← howe]
    · exact hgo.trans (congrArg _ (forwardPacket_here hform htype hbuf hn hev hme))
  · have hk : HeaderFits k := ⟨hdst, hsrc, hty, hcls, hseq, hlen⟩
    have hgo : recvBytes p (packetBytes k) s = forwardPacket p { k with owe := none, rx := none } s := by
      simp [recvBytes, hup, packetCrcOk_packetBytes hk, packetOf_packetBytes hk]
    have herr := forwardPacket_malformed hw p.isLt (k := { k with owe := none, rx := none }) hform
    exact ⟨_, (hexec _).trans (congrArg _ hgo), herr.linkerr, herr.counted, herr.newest⟩
  · exact ⟨_, pktCredit_class0 hv hup false n, congrArg Port.credit0 (portOf_drain_credited hl hq _ rfl)⟩
  · exact ⟨_, pktCredit_class1 hv hup true n, congrArg Port.credit1 (portOf_drain_credited hl hq _ rfl)⟩
  · exact ⟨_, pktCredit_class2 hv hup false n, congrArg Port.credit2 (portOf_drain_credited hl hq _ rfl)⟩
  · have hp : (p : Nat) < (bump32 0x13 (16 * p + 8) s).vine.ports.length := p.isLt.trans_eq hl.symm
    have hport := portOf_setPort_same hp fun x => { x with credit0 := creditPut false n x.credit0 }
    have hput : creditPut false n (portOf s p).credit0 = n.toNat := by simp [creditPut, hcr]
    obtain ⟨hsent, htxq, hleft⟩ := portOf_drain_single (hp.trans_eq (modifyNth_length _ _ _).symm) (k := k)
      (by rw [hport]; exact hup) (by rw [hport]; exact hidle) (by rw [hport]; exact hq) hcls
      (by simp only [List.mem_cons, List.not_mem_nil, or_false, not_or]; omega) howe
      (by rw [hport]; exact hput.symm ▸ hn)
    rw [hport] at hsent hleft
    exact ⟨_, pktCredit_class0 hv hup false n, hsent, htxq, hleft.trans hput⟩
  · have herr := linkCount_error hw.tbl p 3 4
    exact ⟨_, pktCredit_class3 hv hup init n, (congrArg Vine.ports (vineErr_vine 4 (linkCount p 3 s))).trans rfl, herr.counted,
      herr.newest hrun⟩
end


section
/-! What distributing routing tables and reporting changes leave alone of the root's records (R94-R104). -/

namespace Sys2Proof.Machine

open Sys2Proof.Claims

/-- The root's records of its fabric, with what its discovery and its ports go by. -/
structure RootView where
  tk : Nat
  pwr : Nat
  boot : Boot
  nodeId : Nat
  epoch : Nat
  ready : Bool
  failover : Bool
  disc : Option Disc
  links : List Link
  dir : List DirEntry
  found : List Nat
  waiting : List (Nat × Nat)

/-- What `s` holds of them. -/
def rootView (s : State) : RootView where
  tk := s.tk
  pwr := s.pwr.state
  boot := s.boot
  nodeId := s.vine.nodeId
  epoch := s.vine.epoch
  ready := s.vine.ready
  failover := s.vine.failover
  disc := s.vine.disc
  links := s.vine.links
  dir := s.vine.dir
  found := s.vine.found
  waiting := s.vine.waiting

section
variable {t : State} {v : RootView} (h : rootView t = v)
include h

theorem view_tk : t.tk = v.tk := h ▸ rfl
theorem view_boot : t.boot = v.boot := h ▸ rfl
theorem view_nodeId : t.vine.nodeId = v.nodeId := h ▸ rfl
theorem view_epoch : t.vine.epoch = v.epoch := h ▸ rfl
theorem view_ready : t.vine.ready = v.ready := h ▸ rfl
theorem view_failover : t.vine.failover = v.failover := h ▸ rfl
theorem view_disc : t.vine.disc = v.disc := h ▸ rfl
theorem view_links : t.vine.links = v.links := h ▸ rfl
theorem view_dir : t.vine.dir = v.dir := h ▸ rfl
theorem view_found : t.vine.found = v.found := h ▸ rfl
theorem view_waiting : t.vine.waiting = v.waiting := h ▸ rfl

end

theorem Traffic.rootView {s t : State} (h : Traffic s t) : rootView t = rootView s := by
  obtain ⟨_, _, _, _, _, _, rfl⟩ := h.only
  rfl

@[simp] theorem rootView_vineErr (c : Nat) (s : State) : rootView (vineErr c s) = rootView s := by
  rw [vineErr, recErr_only]
  rfl

@[simp] theorem rootView_fabIrq (s : State) : rootView (fabIrq s) = rootView s := by
  unfold fabIrq
  split <;> rfl

@[simp] theorem rootView_applyRoute (ws : List Word) (s : State) : rootView (applyRoute ws s) = rootView s := rfl

@[simp] theorem rootView_sendRoutes (t : List Branch) (ns : List Nat) (s : State) :
    rootView (sendRoutes t ns s) = rootView s :=
  foldl_same (fun s n => (Traffic.sendTo n 0x04 0 (routeWords t n) s).rootView) ns s

@[simp] theorem rootView_distribute (old new : List Link) (s : State) : rootView (distribute old new s) = rootView s := by
  unfold distribute
  dsimp only
  split <;> simp

@[simp] theorem rootView_noteSplit (s : State) : rootView (noteSplit s) = rootView s := by
  unfold noteSplit
  dsimp only
  split
  · exact (rootView_fabIrq _).trans (rootView_vineErr 9 _)
  · rfl

theorem rootView_probe (n p : Nat) (s : State) : rootView (probe n p s) = rootView s := by
  unfold probe
  split
  · exact (Traffic.linkPacket _ _ _ _).rootView
  · exact (Traffic.sendTo _ _ _ _ _).rootView

theorem gridGate_vine (s : State) : (gridGate s).vine = s.vine := by
  unfold gridGate raiseIfShut
  dsimp only
  split <;> rfl

theorem rootView_gridGate (s : State) : rootView (gridGate s) = rootView s := by
  unfold gridGate raiseIfShut
  dsimp only
  split <;> rfl

/-- SYNC sets (R108). -/
theorem setSync_true (s : State) : rootView (setSync true s) = rootView s ∧ (setSync true s).vine.sync = true := by
  unfold setSync
  split
  next h => exact ⟨rfl, h⟩
  next =>
    refine ⟨(rootView_gridGate _).trans (rootView_fabIrq _), ?_⟩
    have hfab (x : State) : (fabIrq x).vine = x.vine := by unfold fabIrq; split <;> rfl
    show (gridGate _).vine.sync = true
    rw [gridGate_vine, hfab]
    rfl

end Sys2Proof.Machine
end


section
/-! Ports that come up and go down (R83, R89, R105). -/

namespace Sys2Proof.Machine

open Sys2Proof.Claims

theorem lookupD_assocSet {β : Type} (d : β) (k : Nat) (v : β) (l : List (Nat × β)) : lookupD d (assocSet k v l) k = v := by
  simp [assocSet, lookupD]

theorem fabIrq_only (s : State) : fabIrq s = { s with host := (fabIrq s).host } := by
  unfold fabIrq
  split <;> rfl

theorem fabIrq_pending {s : State} (h : coreRuns s = true) : (fabIrq s).host.irqPend.getLsbD 2 = true := by
  simp [fabIrq, h, irqPend_raise, irqFab]

theorem newestError_fabIrq {s : State} {tick : BitVec 48} {e : Word} (h : newestError s tick e) :
    newestError (fabIrq s) tick e := by
  unfold fabIrq
  split <;> exact h

theorem canSend_congr {s t : State} {r cls : Nat} (hport : portOf t r = portOf s r) (hpwr : t.pwr = s.pwr) :
    canSend t r cls = canSend s r cls := by
  unfold canSend
  rw [hport, hpwr]

/-! ### A port comes up -/

/-- A CREDIT packet of node `src` with the SEQ `n` (R86). -/
def creditPacket (src n cls : Nat) (init : Bool) (units : Nat) : Packet :=
  { dst := 0, src := src, type := 0x0A, cls := 0, seq := n, words := [word (cls * 2 ^ 14 + atBit init 8 + units)] }

/-- A CREDIT goes out at once on a link that is not idle, and the next one is numbered after it (R87). -/
theorem sendCredit_out {s : State} {p : Nat} (hup : (portOf s p).up = true) (hidle : (portOf s p).idle = false)
    (cls : Nat) (init : Bool) (units : Nat) :
    portOf (sendCredit p cls init units s) p =
      { portOf s p with sent := (portOf s p).sent ++ [creditPacket s.vine.nodeId (seqOf 0 0 s) cls init units] } ∧
    seqOf 0 0 (sendCredit p cls init units s) = (seqOf 0 0 s + 1) % 256 ∧
    (sendCredit p cls init units s).vine.nodeId = s.vine.nodeId := by
  have hp := lt_of_up hup
  have hidle' : ¬ (portOf s p).idle = true := by simp [hidle]
  have hgo : sendCredit p cls init units s = countSent p 1 (setPort p (fun x => { x with
      sent := x.sent ++ [creditPacket s.vine.nodeId (seqOf 0 0 s) cls init units] }) (nextSeq 0 0 s).2) := by
    rw [sendCredit, if_pos hup]
    exact if_neg hidle'
  refine ⟨?_, ?_, (Traffic.sendCredit p cls init units s).nodeId⟩
  · rw [hgo]
    exact portOf_setPort_same (s := (nextSeq 0 0 s).2) hp _
  · rw [hgo]
    exact lookupD_assocSet 0 0 _ _

/-- A port that has come up, before its first packets (R83, R107). -/
def portFresh (nbr : Nat) (s : State) (x : Port) : Port :=
  { x with up := true, neighbour := nbr, credit0 := 0, credit1 := 0, credit2 := 0, txq := []
           latencies := [], echoLeft := 8, echoNext := s.tk + 1024 }

/-- The state in which the change of a port that has come up is reported: the CREDITs of its three classes are sent. -/
def portRaised (p nbr : Nat) (s : State) : State :=
  fabIrq (sendCredit p 2 true 64 (sendCredit p 1 true 4 (sendCredit p 0 true 16 (setPort p (portFresh nbr s) s))))

theorem linkUp_raised {s : State} {p nbr : Nat} (hdown : (portOf s p).up = false) (hidle : (portOf s p).idle = false)
    (hen : s.vine.portEn.testBit p = true) : linkUp p nbr s = reportPort true p nbr (portRaised p nbr s) := by
  rw [linkUp, if_neg (by rw [hidle]; decide), if_neg (by simp [hdown, bit, hen])]
  rfl

theorem portRaised_other {s : State} {p nbr q : Nat} (h : q ≠ p) : portOf (portRaised p nbr s) q = portOf s q := by
  unfold portRaised
  rw [fabIrq_only]
  refine (portOf_sendCredit_other h ..).trans ((portOf_sendCredit_other h ..).trans ((portOf_sendCredit_other h ..).trans ?_))
  exact portOf_setPort_other h _

theorem portRaised_traffic (p nbr : Nat) (s : State) : ∃ x, portRaised p nbr s = fabIrq x ∧
    Traffic (setPort p (portFresh nbr s) s) x :=
  ⟨_, rfl, ((Traffic.sendCredit p 0 true 16 _).trans (Traffic.sendCredit p 1 true 4 _)).trans
    (Traffic.sendCredit p 2 true 64 _)⟩

/-- What the coming up of a port leaves alone, but for the port itself. -/
theorem portRaised_frame (p nbr : Nat) (s : State) :
    let t := portRaised p nbr s
    rootView t = rootView s ∧ t.pwr = s.pwr ∧ t.vine.ports.length = s.vine.ports.length ∧ routeOf t = routeOf s := by
  obtain ⟨x, hx, h⟩ := portRaised_traffic p nbr s
  dsimp only
  rw [hx]
  refine ⟨(rootView_fabIrq _).trans h.rootView, ?_, ?_, funext fun n => ?_⟩ <;> rw [fabIrq_only]
  · exact h.pwr
  · exact h.ports.trans (modifyNth_length _ _ _)
  · exact h.routeOf n

theorem portRaised_pending {s : State} (hrun : coreRuns s = true) (p nbr : Nat) :
    (portRaised p nbr s).host.irqPend.getLsbD 2 = true := by
  obtain ⟨x, hx, h⟩ := portRaised_traffic p nbr s
  rw [hx]
  exact fabIrq_pending (h.coreRuns.trans hrun)

theorem portRaised_port {s : State} {p nbr : Nat} (hp : p < s.vine.ports.length) (hidle : (portOf s p).idle = false) :
    portOf (portRaised p nbr s) p =
      let k := seqOf 0 0 s
      { portFresh nbr s (portOf s p) with
        sent := (portOf s p).sent ++ [(k, 0x0110), ((k + 1) % 256, 0x4104), (((k + 1) % 256 + 1) % 256, 0x8140)].map (fun w =>
          { dst := 0, src := s.vine.nodeId, type := 0x0A, cls := 0, seq := w.1, words := [w.2] }) } := by
  have h0 := portOf_setPort_same hp (portFresh nbr s)
  obtain ⟨h1, q1, n1⟩ := sendCredit_out (s := setPort p (portFresh nbr s) s) (p := p) (by rw [h0]; rfl)
    (by rw [h0]; exact hidle) 0 true 16
  obtain ⟨h2, q2, n2⟩ := sendCredit_out (by rw [h1, h0]; rfl) (by rw [h1, h0]; exact hidle) 1 true 4
  obtain ⟨h3, -, -⟩ := sendCredit_out (by rw [h2, h1, h0]; rfl) (by rw [h2, h1, h0]; exact hidle) 2 true 64
  have hseq : seqOf 0 0 (setPort p (portFresh nbr s) s) = seqOf 0 0 s := rfl
  unfold portRaised
  rw [fabIrq_only]
  refine h3.trans ?_
  rw [n2, q2, h2, n1, q1, h1, h0, hseq]
  simp only [portFresh, List.append_assoc]
  rfl

end Sys2Proof.Machine
end


section
/-! A port that goes down, and PORT_EN (R83, R103, R114). -/

namespace Sys2Proof.Machine

open Sys2Proof.Claims

/-! ### A change of a port is reported -/

theorem isRoot_view {s t : State} (h : rootView t = rootView s) {b : Bool} (hr : isRoot s = b) : isRoot t = b :=
  (congrArg Boot.hsel (view_boot h)).trans hr

/-- An unnumbered node reports nothing (R96). -/
theorem reportPort_unnumbered {s : State} (hr : isRoot s = false) (hn : s.vine.nodeId = 0) (up : Bool) (p nbr : Nat) :
    reportPort up p nbr s = s := by
  simp [reportPort, hr, hn]

/-- A node that is not the root reports by an EVENT. -/
theorem reportPort_event {s : State} (hr : isRoot s = false) (hn : s.vine.nodeId ≠ 0) (up : Bool) (p nbr : Nat) :
    reportPort up p nbr s =
      eventAnyway (if !up then 1 else if nbr = 0 then 3 else 2) (p + 1) (word (if up then nbr else 0)) s := by
  simp [reportPort, hr, hn]

theorem reportPort_traffic {s : State} (hr : isRoot s = false) (up : Bool) (p nbr : Nat) :
    Traffic s (reportPort up p nbr s) := by
  by_cases hn : s.vine.nodeId = 0
  · rw [reportPort_unnumbered hr hn]
    exact Traffic.refl s
  · rw [reportPort_event hr hn]
    exact Traffic.eventAnyway _ _ _ s

/-- An EVENT of this node leaves by the routed port, where that can send (R103). -/
theorem eventAnyway_lastSent {s : State} {r : Nat} (hl : s.vine.ports.length = 3) (hr : routeOf s 1 = r + 1)
    (hs : canSend s r 0 = true) (code port : Nat) (rest : Word) :
    lastSent (eventAnyway code port rest s) r 1 0x09 0 [word (code * 256 + port), rest] := by
  obtain ⟨-, -, hup, -⟩ := canSend_iff.mp hs
  have hgo : eventAnyway code port rest s = sendOn r
      { dst := 1, src := s.vine.nodeId, type := 0x09, cls := 0
        seq := (nextSeq 1 0 s).1, words := [word (code * 256 + port), rest] } (nextSeq 1 0 s).2 := by
    simp [eventAnyway, eventPort_routed (came := none) hr hup (by simp)]
  rw [hgo]
  exact sendOn_lastSent (s := (nextSeq 1 0 s).2)
    (pkt := { dst := 1, src := s.vine.nodeId, type := 0x09, cls := 0
              seq := (nextSeq 1 0 s).1, words := [word (code * 256 + port), rest] })
    hl hs (Nat.zero_le _) (by simp) rfl rfl

/-! ### A port goes down -/

/-- A port that is down has no credits and no queue (R83). -/
def portShut (x : Port) : Prop := x.up = false ∧ x.credit0 = 0 ∧ x.credit1 = 0 ∧ x.credit2 = 0 ∧ x.txq = []

theorem sendCredit_shut {s : State} {p : Nat} (h : portShut (portOf s p)) (q cls : Nat) (init : Bool) (n : Nat) :
    portShut (portOf (sendCredit q cls init n s) p) := by
  by_cases hq : p = q
  · subst hq
    rw [sendCredit, if_neg (by simp [h.1])]
    exact h
  · rw [portOf_sendCredit_other hq]
    exact h

/-- A packet that a port discards may free another's buffer; the port stays without credits. -/
theorem settleCopy_shut {s : State} {p : Nat} (h : portShut (portOf s p)) (pkt : Packet) :
    portShut (portOf (settleCopy s pkt) p) := by
  have hused (q n : Nat) (l : List Owed) : portShut (portOf (setPort q (fun x => { x with used2 := x.used2 - n })
      { s with vine.owed := l }) p) := by
    have hproj := modifyNth_proj (π := fun x : Port => (x.up, x.credit0, x.credit1, x.credit2, x.txq))
      (f := fun x => { x with used2 := x.used2 - n }) (fun _ => rfl) {} s.vine.ports q p
    simp only [Prod.mk.injEq] at hproj
    obtain ⟨h0, h1, h2, h3, h4⟩ := hproj
    exact ⟨h0.trans h.1, h1.trans h.2.1, h2.trans h.2.2.1, h3.trans h.2.2.2.1, h4.trans h.2.2.2.2⟩
  unfold settleCopy creditBack
  split
  · exact h
  · split
    · exact h
    · dsimp only
      split
      · exact h
      · refine sendCredit_shut ?_ ..
        split
        · exact hused _ _ _
        · exact h

theorem discard_shut {p : Nat} (l : List Packet) {s : State} (h : portShut (portOf s p)) :
    portShut (portOf (l.foldl settleCopy s) p) := by
  induction l generalizing s with
  | nil => exact h
  | cons k ks ih => exact ih (settleCopy_shut h k)

theorem tget_bumpBy {s : State} (hw : tblWf s = true) (tb n : Nat) {a b : Nat} (ha : a < 2 ^ 24) (hb : b < 2 ^ 24) :
    tget (bumpBy tb a n s) tb b = if b = a then word (sat16 (tnat s tb a + n)) else tget s tb b := by
  split
  next h => exact h ▸ tget_tset_same hw _ _ _
  next h => exact tget_tset_other hw (fun he => h ((tkey_inj hb ha).mp he).2) _

/-- Nothing added leaves a counter as it is. -/
theorem word_sat16_tnat (s : State) (tb a : Nat) : word (sat16 (tnat s tb a + 0)) = tget s tb a := by
  have h : tnat s tb a < 65536 := (tget s tb a).isLt
  have hsat : sat16 (tnat s tb a + 0) = tnat s tb a := by
    rw [sat16_eq_min]
    omega
  rw [hsat]
  simp [word, tnat]

/-- A port that has gone down. -/
def portLost (x : Port) : Port :=
  { x with up := false, idle := false, burst := none, credit0 := 0, credit1 := 0, credit2 := 0, txq := [] }

/-- The state in which what waited on a port that goes down has been counted (R83). -/
def queueCounted (p : Nat) (s : State) : State :=
  if (portOf s p).txq.isEmpty then setPort p portLost s
  else setVine (fun v => { v with linkerr := true }) (bumpBy 0x13 (16 * p + 7) (portOf s p).txq.length (setPort p portLost s))

/-- The state in which it has been discarded (R83, R89). -/
def queueLost (p : Nat) (s : State) : State := (portOf s p).txq.foldl settleCopy (queueCounted p s)

theorem linkDown_lost {s : State} {p : Nat} (hup : (portOf s p).up = true) :
    linkDown p s = reportPort false p 0 (fabIrq (vineErr 1 (linkCount p 5 (queueLost p s)))) :=
  if_neg (by simp [hup])

section
variable (p : Nat) (s : State)

theorem queueCounted_vine : ∃ e, (queueCounted p s).vine =
    { s.vine with ports := modifyNth portLost s.vine.ports p, linkerr := e } := by
  unfold queueCounted
  split <;> exact ⟨_, rfl⟩

theorem portOf_queueCounted (q : Nat) : portOf (queueCounted p s) q = portOf (setPort p portLost s) q := by
  obtain ⟨e, hv⟩ := queueCounted_vine p s
  show (queueCounted p s).vine.ports.getD q {} = _
  rw [hv]
  rfl

theorem queueCounted_frame : rootView (queueCounted p s) = rootView s ∧ (queueCounted p s).tick = s.tick := by
  unfold queueCounted
  split <;> exact ⟨rfl, rfl⟩

theorem queueLost_traffic : Traffic (queueCounted p s) (queueLost p s) := Traffic.foldl Traffic.settleCopy _ _

theorem queueLost_view : rootView (queueLost p s) = rootView s :=
  (queueLost_traffic p s).rootView.trans (queueCounted_frame p s).1

theorem queueLost_tick : (queueLost p s).tick = s.tick := (queueLost_traffic p s).tick.trans (queueCounted_frame p s).2

theorem queueLost_portEn : (queueLost p s).vine.portEn = s.vine.portEn := by
  obtain ⟨e, hv⟩ := queueCounted_vine p s
  rw [(queueLost_traffic p s).portEn, hv]

end

theorem queueLost_shut {s : State} {p : Nat} (hp : p < s.vine.ports.length) : portShut (portOf (queueLost p s) p) := by
  refine discard_shut _ ?_
  rw [portOf_queueCounted, portOf_setPort_same hp]
  exact ⟨rfl, rfl, rfl, rfl, rfl⟩

theorem queueLost_up {s : State} {p : Nat} (hp : p < s.vine.ports.length) (q : Nat) :
    (portOf (queueLost p s) q).up = ((portOf s q).up && decide (q ≠ p)) := by
  by_cases hq : q = p
  · subst hq
    simp [(queueLost_shut hp).1]
  · rw [(queueLost_traffic p s).up, portOf_queueCounted, portOf_setPort_other hq]
    simp [hq]

/-- The words of a port's counters below those of sent packets, once its queue is discarded (R116). -/
theorem queueLost_words {s : State} {p : Nat} (hw : tblWf s = true) (hl : s.vine.ports.length = 3) (hp : p < 3) :
    tblWf (queueLost p s) = true ∧ ∀ o < 10, tget (queueLost p s) 0x13 (16 * p + o) =
      if o = 7 then word (sat16 (tnat s 0x13 (16 * p + 7) + (portOf s p).txq.length)) else tget s 0x13 (16 * p + o) := by
  have hkeep : CountsKept (queueCounted p s) (queueLost p s) := CountsKept.foldl CountsKept.settleCopy _ _
  have hcount : tblWf (queueCounted p s) = true ∧ ∀ o < 10, tget (queueCounted p s) 0x13 (16 * p + o) =
      if o = 7 then word (sat16 (tnat s 0x13 (16 * p + 7) + (portOf s p).txq.length)) else tget s 0x13 (16 * p + o) := by
    unfold queueCounted
    split
    next h =>
      refine ⟨hw, fun o _ => ?_⟩
      split
      next h7 =>
        subst h7
        rw [List.isEmpty_iff.mp h]
        exact (word_sat16_tnat s 0x13 (16 * p + 7)).symm
      next => rfl
    next =>
      refine ⟨tset_wf hw _ _ _, fun o ho => ?_⟩
      refine (tget_bumpBy (s := setPort p portLost s) hw 0x13 _ (by omega) (by omega)).trans ?_
      simp only [Nat.add_left_cancel_iff]
      rfl
  refine ⟨hkeep.wf hcount.1, fun o ho => ?_⟩
  obtain ⟨ha, hq⟩ := portCounter_kept hp ho
  have hlen : (queueCounted p s).vine.ports.length = 3 := by
    obtain ⟨e, hv⟩ := queueCounted_vine p s
    rw [hv]
    exact (modifyNth_length _ _ _).trans hl
  exact (hkeep.words hcount.1 hlen _ ha hq).trans (hcount.2 o ho)

/-- What a port's loss of its link leaves on an unnumbered node (R83, R116). -/
structure PortDropped (p : Nat) (s t : State) : Prop where
  shut : portShut (portOf t p)
  linkerr : t.vine.linkerr = true
  counted : countedOne s t 0x13 (16 * p + 5)
  discarded : tget t 0x13 (16 * p + 7) = word (sat16 (tnat s 0x13 (16 * p + 7) + (portOf s p).txq.length))
  codes : tget t 0x13 (16 * p) = tget s 0x13 (16 * p)
  newest : coreRuns s = true → newestError t s.tick 0x0301

theorem linkDown_unnumbered {s : State} {p : Nat} (hw : tblWf s = true) (hl : s.vine.ports.length = 3)
    (hup : (portOf s p).up = true) (hr : isRoot s = false) (hn : s.vine.nodeId = 0) : PortDropped p s (linkDown p s) := by
  have hp := lt_of_up hup
  obtain ⟨hwf, hwords⟩ := queueLost_words hw hl (hl ▸ hp)
  have herr := linkCount_error hwf p 5 1
  have hview : rootView (fabIrq (vineErr 1 (linkCount p 5 (queueLost p s)))) = rootView s :=
    (rootView_fabIrq _).trans ((rootView_vineErr 1 _).trans (queueLost_view p s))
  have hgo : linkDown p s = fabIrq (vineErr 1 (linkCount p 5 (queueLost p s))) := by
    rw [linkDown_lost hup]
    exact reportPort_unnumbered (isRoot_view hview hr) ((view_nodeId hview).trans hn) ..
  have hread (o : Nat) (ho : o < 10) (h5 : o ≠ 5) :
      tget (linkDown p s) 0x13 (16 * p + o) = tget (queueLost p s) 0x13 (16 * p + o) := by
    rw [hgo, fabIrq_only]
    refine (congrFun₂ (tget_congr (vineErr_tbl 1 (linkCount p 5 (queueLost p s)))) _ _).trans ?_
    exact tget_bump_other hwf fun he => h5 (by have := ((tkey_inj (by omega) (by omega)).mp he).2; omega)
  have hport : (linkDown p s).vine = (linkCount p 5 (queueLost p s)).vine := by
    rw [hgo, fabIrq_only]
    exact vineErr_vine 1 _
  refine ⟨?_, ?_, ?_, ?_, ?_, fun hrun => ?_⟩
  · show portShut ((linkDown p s).vine.ports.getD p {})
    rw [hport]
    exact queueLost_shut hp
  · rw [hport]
    rfl
  · have h5 := hwords 5 (by decide)
    have hn5 : tnat (queueLost p s) 0x13 (16 * p + 5) = tnat s 0x13 (16 * p + 5) := congrArg BitVec.toNat h5
    have := herr.counted
    rw [countedOne, hn5] at this
    rw [hgo, fabIrq_only]
    exact this
  · exact (hread 7 (by decide) (by decide)).trans (hwords 7 (by decide))
  · exact (hread 0 (by decide) (by decide)).trans (hwords 0 (by decide))
  · have := herr.newest ((coreRuns_congr (view_boot (queueLost_view p s))).trans hrun)
    rw [queueLost_tick] at this
    rw [hgo]
    exact newestError_fabIrq this

/-! ### PORT_EN -/

/-- From `s` to `t` the ports of `off` have gone down, and no other port's link has changed, nor PORT_EN (R83). -/
structure PortsOff (off : Nat → Bool) (s t : State) : Prop where
  up : ∀ q, (portOf t q).up = ((portOf s q).up && !off q)
  portEn : t.vine.portEn = s.vine.portEn
  boot : t.boot = s.boot
  ports : t.vine.ports.length = s.vine.ports.length

theorem linkDown_off {s : State} (hr : isRoot s = false) (p : Nat) : PortsOff (fun q => q == p) s (linkDown p s) := by
  by_cases hup : (portOf s p).up = true
  · have hp := lt_of_up hup
    have hvine : (fabIrq (vineErr 1 (linkCount p 5 (queueLost p s)))).vine = (linkCount p 5 (queueLost p s)).vine := by
      rw [fabIrq_only]
      exact vineErr_vine 1 _
    have hview : rootView (fabIrq (vineErr 1 (linkCount p 5 (queueLost p s)))) = rootView s :=
      (rootView_fabIrq _).trans ((rootView_vineErr 1 _).trans (queueLost_view p s))
    have h := reportPort_traffic (isRoot_view hview hr) false p 0
    rw [linkDown_lost hup]
    refine ⟨fun q => ?_, ?_, ?_, ?_⟩
    · rw [h.up]
      show ((fabIrq _).vine.ports.getD q {}).up = _
      rw [hvine]
      exact (queueLost_up hp q).trans (by by_cases hq : q = p <;> simp [hq])
    · rw [h.portEn, hvine]
      exact queueLost_portEn p s
    · exact h.boot.trans (view_boot hview)
    · rw [h.ports, hvine]
      obtain ⟨e, hv⟩ := queueCounted_vine p s
      refine (queueLost_traffic p s).ports.trans ?_
      rw [hv]
      exact modifyNth_length _ _ _
  · have hgo : linkDown p s = s := if_pos (by simpa using hup)
    rw [hgo]
    refine ⟨fun q => ?_, rfl, rfl, rfl⟩
    by_cases hq : q = p
    · subst hq
      simp [hup]
    · simp [hq]

/-- PORT_EN at 0 takes a port down (R83). -/
theorem setPortEn_off {s : State} (hr : isRoot s = false) (m : Nat) :
    (setPortEn m s).vine.portEn = m ∧
      ∀ q, (portOf (setPortEn m s) q).up = ((portOf s q).up && ([0, 1, 2].all fun p => m.testBit p || q != p)) := by
  have step (p : Nat) {x : State} (hx : isRoot x = false) :
      PortsOff (fun q => !m.testBit p && q == p) x (if bit m p then x else linkDown p x) := by
    by_cases hb : m.testBit p = true
    · rw [bit, if_pos hb]
      exact ⟨fun q => by simp [hb], rfl, rfl, rfl⟩
    · rw [bit, if_neg hb]
      have h := linkDown_off hx p
      exact ⟨fun q => (h.up q).trans (by simp [hb]), h.portEn, h.boot, h.ports⟩
  have root {x t : State} {off : Nat → Bool} (h : PortsOff off x t) (hx : isRoot x = false) : isRoot t = false :=
    (congrArg Boot.hsel h.boot).trans hx
  have h0 := step 0 (x := setVine (fun v => { v with portEn := m }) s) hr
  have h1 := step 1 (root h0 hr)
  have h2 := step 2 (root h1 (root h0 hr))
  refine ⟨h2.portEn.trans (h1.portEn.trans h0.portEn), fun q => ?_⟩
  refine (h2.up q).trans ?_
  rw [h1.up, h0.up]
  simp only [List.all_cons, List.all_nil, Bool.and_true, Bool.not_and, Bool.not_not, Bool.and_assoc]
  rfl

end Sys2Proof.Machine
end


section
/-! The root's probes and the end of its discovery (R94, R104). -/

namespace Sys2Proof.Machine

open Sys2Proof.Claims

/-! ### The next port of the walk -/

/-- The state in which the walk goes on with port `np`: it waits 100 µs for the answer (R94). -/
def probing (d : Disc) (np : Nat × Nat) (rest : List (Nat × Nat)) (s : State) : State :=
  setVine (fun v => { v with disc := some { d with stack := rest, probe := some np, deadline := s.tk + 25000 } }) s

theorem discoverNext_some {d : Disc} {s : State} {np : Nat × Nat} {rest : List (Nat × Nat)}
    (h : nextPort s 256 d.stack = some (np, rest)) : discoverNext d s = probe np.1 np.2 (probing d np rest s) := by
  simp [discoverNext, h, probing]

theorem discoverNext_none {d : Disc} {s : State} (h : nextPort s 256 d.stack = none) :
    discoverNext d s = discoveryDone d s := by
  simp [discoverNext, h]

/-- On the root the walk takes its ports that are up (R94). -/
theorem nextPort_root {s : State} (hdir : s.vine.dir.head? = some rootEntry) (f : Nat) {p : Nat} (hp : p < 3)
    (rest : List (Nat × Nat)) : nextPort s (f + 1) ((1, p) :: rest) =
      if (portOf s p).up = true then some ((1, p + 1), (1, p + 1) :: rest) else nextPort s f ((1, p + 1) :: rest) := by
  obtain ⟨es, hes⟩ : ∃ es, s.vine.dir = rootEntry :: es := by
    cases h : s.vine.dir with
    | nil => rw [h] at hdir; cases hdir
    | cons e es => rw [h] at hdir; exact ⟨es, by rw [Option.some.inj hdir]⟩
  have hp' : ¬ 3 ≤ p := by omega
  cases hup : (portOf s p).up <;> simp [nextPort, hes, rootEntry, hp', hup]

/-- The walk starts with the root's first port that is up (R94). -/
theorem nextPort_first {s : State} (hdir : s.vine.dir.head? = some rootEntry) {p : Nat} (hp : p < 3)
    (hup : (portOf s p).up = true) (hdown : ∀ q < p, (portOf s q).up = false) :
    nextPort s 256 [(1, 0)] = some ((1, p + 1), [(1, p + 1)]) := by
  have walk (n f k : Nat) (hk : k + n = p) : nextPort s (f + n + 1) [(1, k)] = some ((1, p + 1), [(1, p + 1)]) := by
    induction n generalizing k with
    | zero =>
      have : k = p := by omega
      subst this
      rw [nextPort_root hdir _ hp, if_pos hup]
    | succ n ih =>
      rw [nextPort_root hdir _ (by omega), if_neg (by simp [hdown k (by omega)])]
      exact ih (k + 1) (by omega)
  have := walk p (255 - p) 0 (Nat.zero_add p)
  rwa [show 255 - p + p + 1 = 256 by omega] at this

/-- With no port up there is nothing to probe. -/
theorem nextPort_alone {s : State} (hdir : s.vine.dir.head? = some rootEntry) (hdown : ∀ q < 3, (portOf s q).up = false) :
    nextPort s 256 [(1, 0)] = none := by
  rw [nextPort_root hdir 255 (by decide), if_neg (by simp [hdown 0]), nextPort_root hdir 254 (by decide),
    if_neg (by simp [hdown 1]), nextPort_root hdir 253 (by decide), if_neg (by simp [hdown 2])]
  simp [nextPort]

/-! ### The end of the walk -/

/-- The root's records once its walk is done (R94 step 5, R104). -/
def doneView (d : Disc) (v : RootView) : RootView :=
  let ls := if d.known then v.links else chooseStandby v.links
  { v with ready := true, disc := none, links := ls, dir := dirFrom (treeOf (activeLinks ls)) cutReach v.dir }

theorem rootView_setReady (s : State) : rootView (setVine (fun v => { v with ready := true, disc := none }) s) =
    { rootView s with ready := true, disc := none } := rfl

/-- The walk's end sets READY and SYNC; then the ports that wait are taken up. -/
theorem discoveryDone_view (d : Disc) (s : State) : ∃ x, discoveryDone d s = nextWaiting x ∧
    rootView x = doneView d (rootView s) ∧ x.vine.sync = true := by
  unfold discoveryDone
  dsimp only
  refine ⟨_, rfl, ?_, (setSync_true _).2⟩
  rw [(setSync_true _).1, rootView_fabIrq, rootView_setReady, rootView_noteSplit, rootView_distribute]
  simp only [doneView, rootView, setVine]

/-- The tree over the new links is in force, and nothing else of the root's records is changed (R102-R104). -/
theorem changeTree_view (old ls : List Link) (s : State) : rootView (changeTree old ls s) =
    { rootView s with links := ls, dir := dirFrom (treeOf (activeLinks ls)) cutReach s.vine.dir } := by
  unfold changeTree
  rw [rootView_noteSplit, rootView_distribute]
  rfl

theorem changeTree_links (old ls : List Link) (s : State) : (changeTree old ls s).vine.links = ls :=
  view_links (changeTree_view old ls s)

theorem changeTree_ready (old ls : List Link) (s : State) : (changeTree old ls s).vine.ready = s.vine.ready :=
  view_ready (changeTree_view old ls s)

/-! ### The root alone -/

theorem treeOf_nil : treeOf [] = [rootBranch] := by
  have hgrow (k : Nat) : growTree [] [rootBranch] k = [rootBranch] := List.foldl_fixed' (fun _ => rfl) _
  exact List.foldl_fixed' hgrow _

/-- Where no link carries traffic, no node but the root is in the tree (R104). -/
theorem dirFrom_alone {es : List DirEntry} {e : DirEntry} (he : e ∈ dirFrom [rootBranch] cutReach es) (h1 : e.node ≠ 1) :
    ∃ e0 ∈ es, e0.node = e.node ∧ e0.uid = e.uid ∧ e.reach = (if e0.reach = 0 then 0 else 2) := by
  obtain ⟨e0, he0, rfl⟩ := List.mem_map.mp he
  by_cases h : e0.node = 1
  · simp [branchOf, rootBranch, h] at h1
  · have hb : branchOf [rootBranch] e0.node = none := by simp [branchOf, rootBranch, Ne.symm h]
    exact ⟨e0, he0, by simp [hb], by simp [hb], by simp [hb, cutReach]⟩

/-- The state in which a run of the root begins (R94). -/
def runBegun (s : State) : State :=
  setVine (fun v => { v with
    epoch := (v.epoch + 1) % 256, links := [], found := [1], waiting := [], ready := false
    dir := rootEntry :: v.dir.filter (fun e => e.node != 1) }) s

theorem startDiscovery_begun (s : State) :
    startDiscovery false s = discoverNext { stack := [(1, 0)], restarted := false } (runBegun s) := rfl

/-- The root probes its first port that is up (R94 step 1). -/
theorem startDiscovery_probes {s : State} (hl : s.vine.ports.length = 3) {p : Nat} (hs : canSend s p 0 = true)
    (hdown : ∀ q < p, (portOf s q).up = false) :
    let t := startDiscovery false s
    rootView t = { rootView (runBegun s) with
      disc := some { stack := [(1, p + 1)], probe := some (1, p + 1), deadline := s.tk + 25000 } } ∧
    lastSent t p 0 0x01 0 (word ((s.vine.epoch + 1) % 256 * 256 + (p + 1)) :: wordsBE 4 Config.uid.toNat) := by
  obtain ⟨hp, -, hup, -⟩ := canSend_iff.mp hs
  have hgo : startDiscovery false s = probe 1 (p + 1) (probing { stack := [(1, 0)], restarted := false } (1, p + 1)
      [(1, p + 1)] (runBegun s)) :=
    (startDiscovery_begun s).trans (discoverNext_some (d := { stack := [(1, 0)], restarted := false })
      (np := (1, p + 1)) (nextPort_first (s := runBegun s) rfl hp hup hdown))
  dsimp only
  rw [hgo]
  refine ⟨rootView_probe _ _ _, ?_⟩
  rw [← discoverWords_direct]
  exact linkPacket_lastSent (s := probing { stack := [(1, 0)], restarted := false } (1, p + 1) [(1, p + 1)] (runBegun s))
    hl hs (by simp) _

theorem doneView_alone {d : Disc} {v : RootView} (hk : d.known = false) (hl : v.links = []) :
    (doneView d v).dir = dirFrom [rootBranch] cutReach v.dir := by
  have hls : chooseStandby [] = [] := rfl
  have hact : activeLinks [] = [] := rfl
  simp only [doneView, hk, hl, hls, hact, treeOf_nil, Bool.false_eq_true, if_false]

/-- Where no port is up, discovery is done at once (R94), and no other node is reachable (R104). -/
theorem startDiscovery_alone {s : State} (hdown : ∀ q < 3, (portOf s q).up = false) :
    let t := startDiscovery false s
    t.vine.ready = true ∧ t.vine.disc = none ∧ t.vine.sync = true ∧ ∀ e ∈ t.vine.dir, e.node ≠ 1 →
      ∃ e0 ∈ s.vine.dir, e0.node = e.node ∧ e0.uid = e.uid ∧ e.reach = (if e0.reach = 0 then 0 else 2) := by
  obtain ⟨x, hx, hview, hsync⟩ := discoveryDone_view { stack := [(1, 0)], restarted := false } (runBegun s)
  have hgo : startDiscovery false s = nextWaiting x :=
    ((startDiscovery_begun s).trans (discoverNext_none (nextPort_alone (s := runBegun s) rfl hdown))).trans hx
  have hrest : nextWaiting x = x := by
    have hwait : x.vine.waiting = [] := view_waiting hview
    simp [nextWaiting, hwait]
  have hdir := (view_dir hview).trans (doneView_alone rfl rfl)
  dsimp only
  rw [hgo, hrest]
  refine ⟨view_ready hview, view_disc hview, hsync, fun e he h1 => ?_⟩
  rw [hdir] at he
  obtain ⟨e0, he0, hnode, huid⟩ := dirFrom_alone he h1
  refine ⟨e0, ?_, hnode, huid⟩
  rcases List.mem_cons.mp he0 with rfl | hmem
  · exact absurd hnode.symm h1
  · exact List.mem_of_mem_filter hmem

end Sys2Proof.Machine
end


section
/-! Ports, and the operations of FAB_CTL (O33). -/

namespace Sys2Proof.Machine

open Sys2Proof.Claims

/-- The host port may decode while the root's firmware is up, and then the root is clocked. -/
theorem rootUp_of_decodes {s : State} (hd : portDecodes s = true) (hup : isUp s = true) (hr : isRoot s = true)
    (hn : s.vine.nodeId = 1) : rootUp s = true := by
  simp [rootUp, clocked, hup, (Bool.and_eq_true_iff.mp hd).2, hr, hn]

/-- The state with PORT_EN at 7, where every port stays. -/
def allPortsOn (s : State) : State := { s with vine.portEn := 7 }

theorem allPortsOn_wf {s : State} (hw : WfState s) : WfState (allPortsOn s) :=
  { hw with }

/-- A RESET for one other node goes out, and this node stays (R113). -/
theorem resetNodeOp_other {s : State} (h0 : s.vine.fabDst ≠ 0) (hme : s.vine.fabDst ≠ s.vine.nodeId)
    (h63 : s.vine.fabDst ≠ 63) : resetNodeOp s = sendTo s.vine.fabDst 0x0B 0 [] s := by
  simp [resetNodeOp, h63, h0, hme]

/-- A RESET of the node itself resets its core, with its number as sub-cause (R113). -/
theorem resetNodeOp_self {s : State} (h : s.vine.fabDst = 0 ∨ (s.vine.fabDst = s.vine.nodeId ∧ s.vine.nodeId ≠ 63)) :
    resetNodeOp s = coreReset 6 s.vine.nodeId s := by
  have h63 : s.vine.fabDst ≠ 63 := by
    rcases h with h | ⟨h, hn⟩ <;> omega
  have hmine : s.vine.fabDst = 0 ∨ s.vine.fabDst = s.vine.nodeId := h.imp_right And.left
  simp [resetNodeOp, h63, hmine]

/-- Four invalid code groups of a port are counted (R116). -/
def codesCounted (p : Nat) (s : State) : State :=
  setVine (fun v => { v with linkerr := true }) (bumpBy 0x13 (16 * p) 4 s)

/-- A port's link is lost by its signal or by invalid code groups, which are counted (R83, R116). -/
theorem linkLost_unnumbered {s : State} {p : Nat} (hw : tblWf s = true) (hl : s.vine.ports.length = 3)
    (hup : (portOf s p).up = true) (hr : isRoot s = false) (hn : s.vine.nodeId = 0) {c : DownCause} (hc : c ≠ .idle) :
    let t := linkLost p c s
    portShut (portOf t p) ∧ t.vine.linkerr = true ∧ countedOne s t 0x13 (16 * p + 5) ∧
      tget t 0x13 (16 * p + 7) = word (sat16 (tnat s 0x13 (16 * p + 7) + (portOf s p).txq.length)) ∧
      tget t 0x13 (16 * p) = word (sat16 (tnat s 0x13 (16 * p) + if c = .codes then 4 else 0)) ∧
      (coreRuns s = true → newestError t s.tick 0x0301) := by
  have hp := hl ▸ lt_of_up hup
  cases c with
  | idle => exact absurd rfl hc
  | signal =>
    have h := linkDown_unnumbered hw hl hup hr hn
    exact ⟨h.shut, h.linkerr, h.counted, h.discarded, h.codes.trans (word_sat16_tnat s _ _).symm, h.newest⟩
  | codes =>
    have hread (o : Nat) (ho : o < 10) : tget (codesCounted p s) 0x13 (16 * p + o) =
        if 16 * p + o = 16 * p then word (sat16 (tnat s 0x13 (16 * p) + 4)) else tget s 0x13 (16 * p + o) :=
      tget_bumpBy hw 0x13 4 (by omega) (by omega)
    have hnat (o : Nat) (ho : o < 10) (h0 : o ≠ 0) : tnat (codesCounted p s) 0x13 (16 * p + o) = tnat s 0x13 (16 * p + o) :=
      congrArg BitVec.toNat ((hread o ho).trans (if_neg (by omega)))
    have h : PortDropped p (codesCounted p s) (linkDown p (codesCounted p s)) :=
      linkDown_unnumbered (tset_wf hw _ _ _) hl hup hr hn
    have hgo : linkLost p .codes s = linkDown p (codesCounted p s) := if_pos hup
    rw [hgo]
    refine ⟨h.shut, h.linkerr, ?_, ?_, ?_, h.newest⟩
    · rw [countedOne, ← hnat 5 (by decide) (by decide)]
      exact h.counted
    · rw [← hnat 7 (by decide) (by decide)]
      exact h.discarded
    · exact h.codes.trans ((hread 0 (by decide)).trans (if_pos rfl))

/-! ### What the commands mean -/

section
variable {s : State} (hd : portDecodes s = true)
include hd

/-- A refused operation, or one of the root on another node, sets OPERR and is recorded (R94, R103, R114). -/
theorem fabDiscover_refused (hr : isRoot s = false) : exec (.fabDiscover 7) s = .next (fabRefuse (allPortsOn s)) :=
  congrArg Host.Outcome.next ((if_pos hd).trans (if_pos (congrArg (!·) hr)))

theorem retree_refused (hr : isRoot s = false) : exec (.retree 7) s = .next (fabRefuse (allPortsOn s)) :=
  congrArg Host.Outcome.next ((if_pos hd).trans (if_pos (congrArg (!·) hr)))

theorem fabReservedOp_refused {op : BitVec 3} (hop : 4 ≤ op.toNat) :
    exec (.fabReservedOp op 7) s = .next (fabRefuse (allPortsOn s)) := by
  obtain ⟨n, hn⟩ : ∃ n, op.toNat = n + 4 := ⟨op.toNat - 4, by omega⟩
  refine (if_neg (by omega)).trans (congrArg Host.Outcome.next ((if_pos hd).trans ?_))
  rw [hn]
  rfl

theorem exec_resetNode : exec (.resetNode 7) s = .next (resetNodeOp (allPortsOn s)) :=
  congrArg Host.Outcome.next (if_pos hd)

variable (hup : isUp s = true) (hr : isRoot s = true) (hn : s.vine.nodeId = 1)
include hup hr hn

theorem exec_fabDiscover : exec (.fabDiscover 7) s = .next (startDiscovery false (allPortsOn s)) :=
  congrArg Host.Outcome.next ((if_pos hd).trans ((if_neg (by rw [Bool.not_eq_true, Bool.not_eq_false']; exact hr)).trans
    (if_pos (rootUp_of_decodes (s := allPortsOn s) hd hup hr hn))))

theorem exec_retree : exec (.retree 7) s = .next (retreeOp (allPortsOn s)) :=
  congrArg Host.Outcome.next ((if_pos hd).trans ((if_neg (by rw [Bool.not_eq_true, Bool.not_eq_false']; exact hr)).trans
    (if_pos (rootUp_of_decodes (s := allPortsOn s) hd hup hr hn))))

end

/-- RETREE chooses the standby links anew (R102). -/
theorem retreeOp_links {s : State} (hready : s.vine.ready = true) (hdisc : s.vine.disc = none) :
    (retreeOp s).vine.links = chooseStandby s.vine.links ∧ (retreeOp s).vine.ready = true := by
  rw [retreeOp, if_pos (by simp [hready, hdisc])]
  exact ⟨changeTree_links _ _ s, (changeTree_ready _ _ s).trans hready⟩

end Sys2Proof.Machine

open Sys2Proof.Machine Sys2Proof.Claims

/-- Settles O33: each port by what its coming up and going down leaves, each operation by what it sends or starts. -/
theorem portsAndFabricCommands : Obligations.PortsAndFabricCommands := by
  refine ⟨fun s p nbr hw hv hr => ?_, fun s hw hd => ?_⟩
  · have hl := hw.ports
    have hp : (p : Nat) < s.vine.ports.length := p.isLt.trans_eq hl.symm
    have hexec : exec (.portUp p nbr) s = .next (linkUp p nbr.toNat s) := congrArg Host.Outcome.next (if_pos hv)
    have hlost (c) : exec (.portDown ⟨p, c⟩) s = .next (linkLost p c s) := congrArg Host.Outcome.next (if_pos hv)
    have hother {q : Fin 3} (hq : q ≠ p) : (q : Nat) ≠ p := fun h => hq (Fin.ext h)
    obtain ⟨hview, hpwr, hlen, hroutes⟩ := portRaised_frame p nbr.toNat s
    have hr' := isRoot_view hview hr
    refine ⟨fun hdown hidle hen hn => ?_, fun r hdown hidle hen hn hroute hne hs => ?_, fun c hc hup hn => ?_, fun hup => ?_,
      fun m hd => ?_⟩
    · have hgo := (linkUp_raised hdown hidle hen).trans
        (reportPort_unnumbered hr' ((view_nodeId hview).trans hn) true p nbr.toNat)
      have hport := portRaised_port (nbr := nbr.toNat) hp hidle
      rw [hn] at hport
      exact ⟨_, hexec.trans (congrArg _ hgo), hport, fun q hq => portRaised_other (hother hq),
        fun hrun => portRaised_pending hrun p _⟩
    · have hgo := (linkUp_raised hdown hidle hen).trans
        (reportPort_event hr' ((view_nodeId hview).trans_ne hn) true p nbr.toNat)
      have hup : (portOf (portRaised p nbr.toNat s) p).up = true := by rw [portRaised_port hp hidle]; rfl
      have hcode : (if nbr = 0 then 3 else 2) = if nbr.toNat = 0 then 3 else 2 :=
        if_congr (by simp [BitVec.toNat_eq]) rfl rfl
      refine ⟨_, hexec.trans (congrArg _ hgo), ((Traffic.eventAnyway _ _ _ _).up _).trans hup, ?_⟩
      rw [hcode, Nat.add_assoc]
      exact eventAnyway_lastSent (s := portRaised p nbr.toNat s) (hlen.trans hl) ((congrFun hroutes 1).trans hroute)
        ((canSend_congr (portRaised_other hne) hpwr).trans hs) _ (p + 1) _
    · obtain ⟨⟨h0, h1, h2, h3, h4⟩, hrest⟩ := linkLost_unnumbered hw.tbl hl hup hr hn hc
      exact ⟨_, hlost c, h0, h1, h2, h3, h4, hrest⟩
    · exact ⟨_, (hlost .idle).trans (congrArg _ (if_pos hup)), portOf_setPort_same hp _,
        fun q hq => portOf_setPort_other (hother hq) _, rfl⟩
    · obtain ⟨hen, hups⟩ := setPortEn_off hr m.toNat
      refine ⟨_, congrArg Host.Outcome.next (if_pos hd), hen, fun q => (hups q).trans ?_⟩
      have hbit : ([0, 1, 2].all fun n => m.toNat.testBit n || (q : Nat) != n) = m.getLsbD q := by
        match q with
        | 0 | 1 | 2 => simp [BitVec.getLsbD]
      rw [hbit]
  · refine ⟨fun hr => ?_, fun op hop => ?_, fun hme => ?_, fun r h0 hme h63 hroute hs => ?_, fun hup hr hn hready hdisc => ?_,
      fun p hup hr hn hs hdown => ?_, fun hup hr hn hdown => ?_⟩
    · exact ⟨fabDiscover_refused hd hr, retree_refused hd hr⟩
    · exact fabReservedOp_refused hd hop
    · exact ⟨_, (exec_resetNode hd).trans (congrArg _ (resetNodeOp_self (s := allPortsOn s) hme)),
        coreReset_done (allPortsOn_wf hw) (by decide) _⟩
    · exact ⟨_, (exec_resetNode hd).trans (congrArg _ (resetNodeOp_other (s := allPortsOn s) h0 hme h63)),
        sendTo_lastSent (s := allPortsOn s) hw.ports hroute hs (by simp) [], (Traffic.sendTo _ _ _ _ _).boot⟩
    · exact ⟨_, exec_retree hd hup hr hn, retreeOp_links (s := allPortsOn s) hready hdisc⟩
    · obtain ⟨hview, hlast⟩ := startDiscovery_probes (s := allPortsOn s) hw.ports hs hdown
      exact ⟨_, exec_fabDiscover hd hup hr hn, view_ready hview, view_epoch hview,
        view_links hview, view_disc hview, hlast⟩
    · exact ⟨_, exec_fabDiscover hd hup hr hn, startDiscovery_alone (s := allPortsOn s) fun q hq => hdown ⟨q, hq⟩⟩
end


section
/-! The root's discovery (O35). -/

namespace Sys2Proof.Machine

open Sys2Proof.Claims

/-! ### The walk goes on -/

/-- The walk either probes a port, for 100 µs from now, or is done, and then a port that waited may be probed (R94, R96). -/
theorem discoverNext_cases (d : Disc) (s : State) :
    (∃ np rest, rootView (discoverNext d s) =
      { rootView s with disc := some { d with stack := rest, probe := some np, deadline := s.tk + 25000 } }) ∨
    ∃ x, discoverNext d s = nextWaiting x ∧ rootView x = doneView d (rootView s) := by
  cases h : nextPort s 256 d.stack with
  | some x =>
    rw [discoverNext_some h]
    exact .inl ⟨x.1, x.2, rootView_probe _ _ _⟩
  | none =>
    rw [discoverNext_none h]
    obtain ⟨x, hx, hview, -⟩ := discoveryDone_view d s
    exact .inr ⟨x, hx, hview⟩

theorem nextWaiting_none {x : State} (h : x.vine.waiting = []) : nextWaiting x = x := by
  simp [nextWaiting, h]

/-- A port probed alone (R96). -/
theorem readopt_disc (n p : Nat) (s : State) :
    (readopt n p s).vine.disc = some { known := true, probe := some (n, p), deadline := s.tk + 25000 } :=
  view_disc (rootView_probe n p _)

/-- After a probe that found no neighbour the next one is under way, or the run is done (R94). -/
theorem discoverNext_probes (d : Disc) (s : State) : let t := discoverNext d s
    (∃ d', t.vine.disc = some d' ∧ d'.probe.isSome = true ∧ d'.deadline = s.tk + 25000) ∨
      (t.vine.disc = none ∧ t.vine.ready = true) := by
  dsimp only
  obtain ⟨np, rest, hview⟩ | ⟨x, hx, hview⟩ := discoverNext_cases d s
  · exact .inl ⟨_, view_disc hview, rfl, rfl⟩
  · rw [hx]
    cases hwait : x.vine.waiting with
    | nil =>
      rw [nextWaiting_none hwait]
      exact .inr ⟨view_disc hview, view_ready hview⟩
    | cons np rest =>
      have hgo : nextWaiting x = readopt np.1 np.2 (setVine (fun v => { v with waiting := rest }) x) := by
        simp [nextWaiting, hwait]
      rw [hgo]
      refine .inl ⟨_, readopt_disc _ _ _, rfl, ?_⟩
      exact congrArg (· + 25000) (view_tk hview)

/-! ### A new device -/

/-- A node that the run has found keeps its number and its UID in the directory (R94, R104). -/
theorem mem_dirFrom {t : List Branch} {lost : DirEntry → Nat} {es : List DirEntry} {e : DirEntry} (he : e ∈ es) :
    ∃ e' ∈ dirFrom t lost es, e'.node = e.node ∧ e'.uid = e.uid := by
  refine ⟨_, List.mem_map_of_mem he, ?_⟩
  split <;> exact ⟨rfl, rfl⟩

theorem doneView_dir (d : Disc) (v : RootView) : ∃ t, (doneView d v).dir = dirFrom t cutReach v.dir := by
  simp only [doneView]
  exact ⟨_, rfl⟩

/-- As the walk goes on with none waiting, the nodes found and their entries stay. -/
theorem discoverNext_found {d : Disc} {s : State} (hwait : s.vine.waiting = []) {e : DirEntry} (he : e ∈ s.vine.dir) :
    (discoverNext d s).vine.found = s.vine.found ∧
      ∃ e' ∈ (discoverNext d s).vine.dir, e'.node = e.node ∧ e'.uid = e.uid := by
  obtain ⟨np, rest, hview⟩ | ⟨x, hx, hview⟩ := discoverNext_cases d s
  · exact ⟨view_found hview, e, (view_dir hview).symm ▸ he, rfl, rfl⟩
  · rw [hx, nextWaiting_none ((view_waiting hview).trans hwait)]
    refine ⟨view_found hview, ?_⟩
    obtain ⟨t, ht⟩ := doneView_dir d (rootView s)
    rw [view_dir hview, ht]
    exact mem_dirFrom he

theorem rootView_learnRoute (n port : Nat) (s : State) : rootView (learnRoute n port s) = rootView s := by
  unfold learnRoute
  split <;> rfl

/-- What the root notes of a node that joins the tree (R94 step 3). -/
theorem joinNode_view (n p num : Nat) (a : DiscAck) (s : State) : ∃ e ls, e.node = num ∧ e.uid = a.uid ∧
    rootView (joinNode n p num a s) = { rootView s with
      found := num :: s.vine.found, links := ls
      dir := s.vine.dir.filter (fun x => x.node != num && x.uid != a.uid) ++ [e] } := by
  unfold joinNode
  dsimp only
  refine ⟨?e, ?ls, ?node, ?uid, ?view⟩
  case view =>
    split
    · exact rootView_learnRoute _ _ _
    · exact rootView_learnRoute _ _ _
  case node => rfl
  case uid => rfl

theorem rootView_adopt (n p num : Nat) (a : DiscAck) (s : State) :
    rootView (adopt n p num a s) = rootView (joinNode n p num a s) := by
  unfold adopt
  dsimp only
  split
  · exact (Traffic.linkPacket _ _ _ _).rootView
  · exact (Traffic.sendTo _ _ _ _ _).rootView

/-- A device of a new UID gets the lowest free number (R94 step 3). -/
theorem numberFor_lowest {a : DiscAck} {s : State} {num : Nat} (h2 : 2 ≤ num) (h62 : num ≤ 62)
    (hnew : ∀ e ∈ s.vine.dir, e.uid ≠ a.uid ∧ e.node ≠ num) (hlow : ∀ m, 2 ≤ m → m < num → ∃ e ∈ s.vine.dir, e.node = m) :
    numberFor a s = some num := by
  have huid : s.vine.dir.find? (fun e => e.uid == a.uid && e.node != 1) = none := by
    refine List.find?_eq_none.mpr fun e he => ?_
    simp [(hnew e he).1]
  have hfree : ((List.range 61).map (· + 2)).find? (fun n => !s.vine.dir.any (fun e => e.node == n)) = some num := by
    refine List.find?_eq_some_iff_getElem.mpr ⟨?_, num - 2, by simp; omega, by simp; omega, fun j hj => ?_⟩
    · simpa using fun e he => (hnew e he).2
    · obtain ⟨e, he, hnum⟩ := hlow (j + 2) (by omega) (by omega)
      simpa using ⟨e, he, hnum⟩
  simp only [numberFor, huid, hfree]

/-- The answer of a new device in a run of the whole fabric is a number for it, and the walk goes on (R94). -/
theorem recvAck_new {a : DiscAck} {d : Disc} {np : Nat × Nat} {num : Nat} {s : State} (hdisc : s.vine.disc = some d)
    (hprobe : d.probe = some np) (hknown : d.known = false) (hepoch : a.epoch.toNat = s.vine.epoch) (hroot : a.root = false)
    (hnode : a.node = 0) (hdual : s.vine.dualroot = false) (hnum : numberFor a s = some num) :
    ∃ d', recvAck a s = discoverNext d' (adopt np.1 np.2 num a s) := by
  refine ⟨{ d with probe := none, stack := (num, 0) :: d.stack }, ?_⟩
  simp [recvAck, hroot, hnode, hdisc, hprobe, hepoch, probeAnswer, hdual, hknown, hnum]

theorem fullRun_none {s : State} (h : s.vine.disc = none) : fullRun s = none := by
  simp [fullRun, h]

/-! ### A link fails, and comes back (R103) -/

theorem rootView_recErr (b c : Nat) (s : State) : rootView (recErr b c s) = rootView s := by
  rw [recErr_only]
  rfl

theorem rootView_recErrLees (b c : Nat) (ds : List Nat) (s : State) : rootView (recErrLees b c ds s) = rootView s := by
  have hlees (x : State) : rootView (lees b c ds x) = rootView x := by
    unfold lees
    dsimp only
    repeat' split
    · rfl
    · rfl
    · rfl
    · rfl
    · exact rootView_recErr ..
  exact (hlees _).trans (rootView_recErr b c s)

/-- The links once a link has failed: a standby link takes over where one can. -/
theorem failLink_links (l : Link) (n p : Nat) (s : State) :
    let ls := changeLink l (fun x => { x with up := false }) s.vine.links
    (failLink l n p s).vine.links = (if l.standby then ls else activateStandby 64 ls) ∧
      (l.standby = false → activateStandby 64 ls ≠ ls → (failLink l n p s).vine.failover = true) := by
  dsimp only
  unfold failLink
  dsimp only
  generalize changeLink l (fun x => { x with up := false }) s.vine.links = ls
  have htree := changeTree_links (activeLinks ls) (activateStandby 64 ls) s
  generalize changeTree (activeLinks ls) (activateStandby 64 ls) s = x at htree ⊢
  cases hst : l.standby
  · simp only [Bool.false_eq_true, if_false]
    split
    next h => exact ⟨htree, fun _ hne => absurd h hne⟩
    next =>
      have hview := (rootView_fabIrq _).trans (rootView_recErrLees 0x03 8 [n, p]
        (setVine (fun v => { v with failover := true }) x))
      exact ⟨(view_links hview).trans htree, fun _ _ => view_failover hview⟩
  · exact ⟨rfl, fun h => by cases h⟩

/-- The two links have the same ends, and both are up or both are down. -/
def sameLink (l l' : Link) : Prop :=
  l'.up = l.up ∧ l'.nodeA = l.nodeA ∧ l'.portA = l.portA ∧ l'.nodeB = l.nodeB ∧ l'.portB = l.portB

/-- Standby links that are taken into the tree stay links, as all others do (R103). -/
theorem activateStandby_mem (n : Nat) {ls : List Link} {l : Link} (h : l ∈ ls) :
    ∃ l' ∈ activateStandby n ls, sameLink l l' := by
  induction n generalizing ls l with
  | zero => exact ⟨l, h, rfl, rfl, rfl, rfl, rfl⟩
  | succ n ih =>
    unfold activateStandby
    dsimp only
    split
    next x hx =>
      obtain ⟨l', hmem, hsame⟩ := ih (List.mem_map_of_mem (f := fun y => if y = x then { y with standby := false } else y) h)
      refine ⟨l', hmem, ?_⟩
      split at hsame <;> exact hsame
    next => exact ⟨l, h, rfl, rfl, rfl, rfl, rfl⟩

/-- Both ends of a link are in the tree without it. -/
def bothInTree (l : Link) (s : State) : Bool :=
  let t := treeOf (activeLinks s.vine.links)
  t.any (fun b => b.node == l.nodeA) && t.any (fun b => b.node == l.nodeB)

/-- The links once a link has come up again, a standby or back in the tree (R103, R104). -/
theorem restoreLink_links (l : Link) (s : State) :
    let ls := changeLink l (fun x => { x with up := true, standby := bothInTree l s }) s.vine.links
    (restoreLink l s).vine.links = if bothInTree l s then ls else activateStandby 64 ls := by
  dsimp only
  have hgo : restoreLink l s =
      let ls := changeLink l (fun x => { x with up := true, standby := bothInTree l s }) s.vine.links
      if bothInTree l s then setVine (fun v => { v with links := ls }) s
      else changeTree (activeLinks s.vine.links) (activateStandby 64 ls) s := by rfl
  rw [hgo]
  dsimp only
  split
  · rfl
  · exact changeTree_links _ _ s

theorem mem_changeLink {l : Link} {ls : List Link} (f : Link → Link) (h : l ∈ ls) : f l ∈ changeLink l f ls :=
  List.mem_map.mpr ⟨l, h, if_pos rfl⟩

theorem restoreLink_up {s : State} {l : Link} (h : l ∈ s.vine.links) :
    ∃ l' ∈ (restoreLink l s).vine.links, sameLink { l with up := true } l' := by
  rw [restoreLink_links]
  generalize bothInTree l s = b
  have hmem := mem_changeLink (fun x => { x with up := true, standby := b }) h
  split
  · exact ⟨_, hmem, rfl, rfl, rfl, rfl, rfl⟩
  · obtain ⟨l', hl', hsame⟩ := activateStandby_mem 64 hmem
    exact ⟨l', hl', hsame⟩

/-! ### An EVENT at the root -/

/-- An EVENT for the root is taken in, and its core acts on it (R103). -/
theorem takeAtRoot_acts {s : State} (hv : vineOn s = true) (hroot : rootUp s = true) (src : Nat) (f : State → State) :
    takeAtRoot src f s = f (arrived 1 0 src s) := by
  simp only [rootUp, Bool.and_eq_true, beq_iff_eq] at hroot
  obtain ⟨⟨hc, hr⟩, hn⟩ := hroot
  simp [takeAtRoot, takeUnicast, hv, hc, hr, isNode, hn]

end Sys2Proof.Machine

open Sys2Proof.Machine Sys2Proof.Claims

/-- Settles O35: the root's records through what each answer, time-out and EVENT does to them. -/
theorem rootDiscovers : Obligations.RootDiscovers := by
  intro s hw hv hroot
  have hevent (n : Nat) : rootView (arrived 1 0 n s) = rootView s := (Traffic.arrived 1 0 n s).rootView
  refine ⟨fun p h a d np num hup hdisc hprobe hknown hwait hepoch hr hnode hdual h2 h62 hnew hlow => ?_,
    fun d hdisc hprobe => ⟨fun htk => ?_, fun htk => ?_⟩, fun n p l hdisc hready hl hlup => ?_,
    fun n p hdisc hready => ⟨?_, fun nbr l hnbr hl hdown => ?_⟩⟩
  · have hin := Traffic.portArrived p 0 h.src.toNat s
    have hview := hin.rootView
    have hgo : exec (.pktDiscAck p h a) s = .next (recvAck a (portArrived p 0 h.src.toNat s)) :=
      congrArg Host.Outcome.next ((if_neg (portTakes hv hup)).trans (if_pos hroot))
    have hdir : (portArrived p 0 h.src.toNat s).vine.dir = s.vine.dir := view_dir hview
    have hone : (portArrived p 0 h.src.toNat s).vine.dualroot = false := by
      obtain ⟨_, _, _, _, hvine⟩ := hin.vine
      rw [hvine]
      exact hdual
    have hnum := numberFor_lowest (s := portArrived p 0 h.src.toNat s) h2 h62 (hdir.symm ▸ hnew) (hdir.symm ▸ hlow)
    obtain ⟨d', hd'⟩ := recvAck_new ((view_disc hview).trans hdisc) hprobe hknown (hepoch.trans (view_epoch hview).symm)
      hr hnode hone hnum
    obtain ⟨e, ls, hen, heu, hadopt⟩ := joinNode_view np.1 np.2 num a (portArrived p 0 h.src.toNat s)
    rw [← rootView_adopt] at hadopt
    have he : e ∈ (adopt np.1 np.2 num a (portArrived p 0 h.src.toNat s)).vine.dir := by
      rw [view_dir hadopt]
      simp
    obtain ⟨hfound, e', he', hnode', huid'⟩ := discoverNext_found (d := d')
      ((view_waiting hadopt).trans ((view_waiting hview).trans hwait)) he
    refine ⟨_, hgo.trans (congrArg _ hd'), ?_, e', he', hnode'.trans hen, huid'.trans heu⟩
    rw [hfound, view_found hadopt]
    exact List.mem_cons_self
  · have hgo : probeTimeout s = s := by simp [probeTimeout, hdisc, Nat.not_le.mpr htk]
    exact congrArg Host.Outcome.next ((if_pos hroot).trans hgo)
  · have hgo : probeTimeout s = discoverNext { d with probe := none } s := by simp [probeTimeout, hdisc, hprobe, htk]
    exact ⟨_, congrArg Host.Outcome.next ((if_pos hroot).trans hgo), discoverNext_probes _ s⟩
  · have hview := hevent n.toNat
    have hlinks : (arrived 1 0 n.toNat s).vine.links = s.vine.links := view_links hview
    have hat : linkAt n.toNat p.toNat (arrived 1 0 n.toNat s) = some l := by rw [linkAt, hlinks]; exact hl
    have hgo : fabricDown n.toNat p.toNat (arrived 1 0 n.toNat s) = failLink l n.toNat p.toNat (arrived 1 0 n.toNat s) := by
      simp [fabricDown, fullRun_none ((view_disc hview).trans hdisc), hat, hlup, (view_ready hview).trans hready]
    have hspec := failLink_links l n.toNat p.toNat (arrived 1 0 n.toNat s)
    rw [hlinks] at hspec
    exact ⟨_, congrArg Host.Outcome.next ((takeAtRoot_acts hv hroot _ _).trans hgo), hspec⟩
  · have hview := hevent n.toNat
    have hdisc' := (view_disc hview).trans hdisc
    have hgo : fabricUp n.toNat p.toNat 0 (arrived 1 0 n.toNat s) = readopt n.toNat p.toNat (arrived 1 0 n.toNat s) := by
      simp [fabricUp, fullRun_none hdisc', hdisc', (view_ready hview).trans hready]
    have hlast := readopt_disc n.toNat p.toNat (arrived 1 0 n.toNat s)
    rw [view_tk hview] at hlast
    exact ⟨_, congrArg Host.Outcome.next ((takeAtRoot_acts hv hroot _ _).trans hgo), hlast⟩
  · have hview := hevent n.toNat
    have hlinks : (arrived 1 0 n.toNat s).vine.links = s.vine.links := view_links hview
    have hat : linkAt n.toNat p.toNat (arrived 1 0 n.toNat s) = some l := by rw [linkAt, hlinks]; exact hl
    have hnbr' : nbr.toNat ≠ 0 := by simpa [BitVec.toNat_eq] using hnbr
    have hgo : fabricUp n.toNat p.toNat nbr.toNat (arrived 1 0 n.toNat s) = restoreLink l (arrived 1 0 n.toNat s) := by
      simp [fabricUp, fullRun_none ((view_disc hview).trans hdisc), hnbr', hat, hdown, (view_ready hview).trans hready]
    obtain ⟨l', hl', hsame⟩ := restoreLink_up (s := arrived 1 0 n.toNat s) (l := l) (hlinks ▸ List.mem_of_find?_eq_some hl)
    exact ⟨_, congrArg Host.Outcome.next ((takeAtRoot_acts hv hroot _ _).trans hgo), l', hl', hsame⟩
end


section
/-! The boot ROM's slots and the start of the firmware (R333-R337, R344). -/

namespace Sys2Proof.Machine

open Sys2Proof.Claims

/-! ### What the records of a start leave alone -/

/-- The clock, the start-up state, and the flash. -/
structure StartView where
  tk : Nat
  boot : Boot
  mem : List Host.Cell

/-- What `s` holds of them. -/
def startView (s : State) : StartView := ⟨s.tk, s.boot, s.nvm.mem⟩

@[simp] theorem startView_recErr (b c : Nat) (s : State) : startView (recErr b c s) = startView s := by
  rw [recErr_only]
  rfl

@[simp] theorem startView_lees (b c : Nat) (d : List Nat) (s : State) : startView (lees b c d s) = startView s := by
  unfold lees
  dsimp only
  repeat' split
  · rfl
  · rfl
  · rfl
  · rfl
  · exact startView_recErr ..

@[simp] theorem startView_recErrLees (b c : Nat) (d : List Nat) (s : State) :
    startView (recErrLees b c d s) = startView s := (startView_lees ..).trans (startView_recErr ..)

@[simp] theorem startView_startErrors (s : State) : startView (startErrors s) = startView s := by
  unfold startErrors trustErrLees
  dsimp only
  repeat' split
  all_goals simp only [startView_recErrLees]
  all_goals rfl

theorem startView_startRecords (s : State) : startView (startRecords s) = startView s :=
  (startView_lees ..).trans (startView_startErrors s)

theorem startView_leesScan (s : State) : startView (leesScan s) = startView s := by
  simp only [startView, leesScan]

/-! ### A slot that is not runnable (R335) -/

theorem coreRuns_of_rom {s : State} (h : s.boot.phase = .rom) : coreRuns s = true := by
  simp [coreRuns, h]

/-- The slot is given up, once, for the other one. -/
theorem bootSlotCheck_other {s : State} (hrom : s.boot.phase = .rom) (hslot : slotRunnable s s.boot.slotB = false)
    (hfall : s.boot.fallback = false) :
    bootSlotCheck s = { trustErrLees (if s.boot.slotB then 2 else 1) s with
      boot := { (trustErrLees (if s.boot.slotB then 2 else 1) s).boot with slotB := !s.boot.slotB, fallback := true } } := by
  simp [bootSlotCheck, hrom, hslot, hfall]

/-- Neither slot is runnable. -/
theorem bootSlotCheck_recovery {s : State} (hrom : s.boot.phase = .rom) (hslot : slotRunnable s s.boot.slotB = false)
    (hfall : s.boot.fallback = true) :
    bootSlotCheck s = enterRecovery (trustErrLees (if s.boot.slotB then 2 else 1) s) := by
  simp [bootSlotCheck, hrom, hslot, hfall]

/-- From `s` to `t` at most `n` errors with their records, and the note of a cut write (R388). -/
structure Logged (n : Nat) (s t : State) : Prop where
  only : ∃ h q c, t = { s with host := h, nvm := { s.nvm with leesQ := q, cut := c } }
  room : t.nvm.leesQ.length ≤ s.nvm.leesQ.length + n

namespace Logged

theorem refl (s : State) : Logged 0 s s := ⟨⟨_, _, _, rfl⟩, Nat.le_refl _⟩

theorem trans {n m : Nat} {s t u : State} (h : Logged n s t) (h' : Logged m t u) : Logged (n + m) s u := by
  refine ⟨?_, by have := h.room; have := h'.room; omega⟩
  obtain ⟨_, _, _, rfl⟩ := h.only
  obtain ⟨_, _, _, rfl⟩ := h'.only
  exact ⟨_, _, _, rfl⟩

theorem mono {n m : Nat} {s t : State} (h : Logged n s t) (hm : n ≤ m) : Logged m s t :=
  ⟨h.only, by have := h.room; omega⟩

variable {s : State} (hr : coreRuns s = true) (hb : s.rail.barred = false)
include hr hb

theorem record (hq : s.nvm.leesQ.length < 32) (b c : Nat) (d : List Nat) : Logged 1 s (recErrLees b c d s) := by
  rw [recErrLees_queued hr (by simp [logsFree, hb, hq]), recErr_only]
  exact ⟨⟨_, _, _, rfl⟩, by simp⟩

theorem recordIf {n : Nat} {x : State} (h : Logged n s x) (hq : s.nvm.leesQ.length + n < 32) (p : Prop) [Decidable p]
    (b c : Nat) (d : List Nat) : Logged (n + 1) s (if p then recErrLees b c d x else x) := by
  split
  next =>
    have hroom := h.room
    obtain ⟨_, _, _, rfl⟩ := h.only
    exact h.trans (record (by exact hr) (by exact hb) (Nat.lt_of_le_of_lt hroom hq) b c d)
  next => exact h.mono (Nat.le_succ n)

/-- The errors of a start are three at most (R344, R388). -/
theorem startErrors (hq : s.nvm.leesQ.length < 30) : Logged 3 s (startErrors s) := by
  have hcut : Logged 1 s (if s.nvm.cut then recErrLees 0x0E 9 [] { s with nvm.cut := false } else s) := by
    split
    · have hclear : Logged 0 s { s with nvm.cut := false } := ⟨⟨_, _, _, rfl⟩, Nat.le_refl _⟩
      exact hclear.trans (record (by exact hr) (by exact hb) (by simp only; omega) 0x0E 9 [])
    · exact (refl s).mono (Nat.zero_le 1)
  exact recordIf hr hb (recordIf hr hb hcut (by omega) _ 0x0C 4 []) (by omega) _ 0x0C 8 []

end Logged

/-- With room in the queue, an error that follows those of a start is the newest. -/
theorem newest_after_startErrors {s : State} (hr : coreRuns s = true) (hb : s.rail.barred = false)
    (hq : s.nvm.leesQ.length < 28) (c : Nat) : newestError (trustErrLees c (startErrors s)) s.tick (errWord 0x0C c) := by
  obtain ⟨⟨h, q, x, hx⟩, hroom⟩ := Logged.startErrors hr hb (by omega)
  rw [hx] at hroom ⊢
  have hf : logsFree { s with host := h, nvm := { s.nvm with leesQ := q, cut := x } } = true := by
    have : q.length < 32 := by simp only at hroom; omega
    simp [logsFree, hb, this]
  rw [trustErrLees, recErrLees_queued (by exact hr) hf]
  exact newestError_recErr (s := { s with host := h, nvm := { s.nvm with leesQ := q, cut := x } }) hr 0x0C c

theorem leesScan_frame (s : State) : (leesScan s).boot = s.boot ∧ (leesScan s).rail = s.rail ∧
    (leesScan s).tick = s.tick ∧ (leesScan s).nvm.leesQ = s.nvm.leesQ := by
  simp only [leesScan, and_self]

/-- The state in which ROM recovery mode begins (R335, R342). -/
def recoveryBegun (s : State) : State :=
  { bootRecord 2 none s with
    boot := { s.boot with phase := .recovery, cause := s.boot.cause ||| 0x80, slotB := false, fallback := false } }

theorem enterRecovery_begun (s : State) :
    enterRecovery s = trustErrLees 3 (startErrors (leesScan (recoveryBegun s))) := rfl

/-- In ROM recovery mode BOOTFAIL is set and error 0x03 is the newest; the vintage registers are as they were (R335). -/
theorem enterRecovery_spec {s : State} (hb : s.rail.barred = false) (hq : s.nvm.leesQ.length < 28) :
    let t := enterRecovery s
    t.boot = (recoveryBegun s).boot ∧ t.nvm.mem = s.nvm.mem ∧ newestError t s.tick 0x0C03 := by
  have hview : startView (enterRecovery s) = startView (recoveryBegun s) := by
    rw [enterRecovery_begun, trustErrLees, startView_recErrLees, startView_startErrors, startView_leesScan]
  obtain ⟨hboot, hrail, htick, hlees⟩ := leesScan_frame (recoveryBegun s)
  have hnew := newest_after_startErrors (s := leesScan (recoveryBegun s)) ((coreRuns_congr hboot).trans rfl)
    (by rw [hrail]; exact hb) (by rw [hlees]; exact hq) 3
  rw [htick] at hnew
  exact ⟨congrArg StartView.boot hview, congrArg StartView.mem hview, hnew⟩

/-! ### A slot that is runnable (R334, R336, R337) -/

/-- The state in which the boot ROM enters the firmware of a slot, measured into V0 (R334, R336). -/
def slotEntered (s : State) : State :=
  { bootRecord (if s.boot.fallback then 2 else 1) (some s.boot.slotB)
      (extendV 0 (sha256 (nvmBytes s (slotStart s.boot.slotB) 393216)) s) with
    boot.phase := .firmware, boot.fwFrom := s.tk
    boot.fwMajor := (nvmByte s (slotStart s.boot.slotB + 4)).toNat
    boot.fwMinor := (nvmByte s (slotStart s.boot.slotB + 5)).toNat }

/-- The firmware has recorded the start and measured the configuration image, and taken its calibration set
(R337, R381): the image is applied to this state. -/
def imageReady (s : State) : State :=
  let x := startRecords (leesScan (slotEntered s))
  applyCopy (extendV 1 (sha256 (imageBytes x)) x)

theorem bootSlotCheck_runs {s : State} (hrom : s.boot.phase = .rom) (hslot : slotRunnable s s.boot.slotB = true) :
    bootSlotCheck s = enterFirmware (slotEntered s) := by
  have hgo : bootSlotCheck s = runSlot s := (if_pos (by rw [hrom]; rfl)).trans (if_pos hslot)
  rw [hgo]
  unfold runSlot slotEntered
  rfl

theorem enterFirmware_ready (s : State) : enterFirmware (slotEntered s) =
    if (applyImage (imageReady s)).boot.phase = .firmware then
      startRun 1 true [.trims, .sense, .current, .scanner] (applyImage (imageReady s))
    else applyImage (imageReady s) := by
  unfold enterFirmware imageReady
  simp only [beq_iff_eq]

theorem startView_extendV (n : Nat) (d : List Byte) (s : State) : startView (extendV n d s) =
    { startView s with boot := { s.boot with v := modifyNth (fun v => sha256 (v ++ d)) s.boot.v n } } := rfl

theorem startView_extendV_congr {s t : State} (h : startView t = startView s) (n : Nat) (d : List Byte) :
    startView (extendV n d t) = startView (extendV n d s) := by
  have hboot : t.boot = s.boot := congrArg StartView.boot h
  rw [startView_extendV, startView_extendV, h, hboot]

theorem startView_calFlag (f : Cal → Cal) (s : State) : startView (calFlag f s) = startView s := rfl

/-- The calibration set of copy `b`, which spells `bs`, is in force (R381). -/
def copyTaken (b : Bool) (bs : List Byte) (s : State) : State :=
  let s1 := extendV 2 (sha256 bs) s
  let s2 := if copyValid s (!b) then s1 else recErrLees 0x0E 3 [] (calFlag (fun c => { c with copybad := true }) s1)
  { tsetRun 0x80 0 (packWords bs) s2 with
    cal.newest := some b, cal.tref := signed 16 (natBE ((bs.drop 12).take 2)), cal.trefSet := true }

theorem startView_copyTaken (b : Bool) (bs : List Byte) (s : State) :
    startView (copyTaken b bs s) = startView (extendV 2 (sha256 bs) s) := by
  have hset (x : State) (c : Cal) : startView { tsetRun 0x80 0 (packWords bs) x with cal := c } = startView x := rfl
  refine (hset _ _).trans ?_
  split
  · rfl
  · rw [startView_recErrLees, startView_calFlag]

/-- The calibration set is measured into V2, and no other register of the start changes (R337). -/
theorem applyCopy_view (s : State) : ∃ d, startView (applyCopy s) = startView (extendV 2 d s) := by
  cases h : chooseCopy s with
  | some b =>
    have hgo : applyCopy s = copyTaken b (nvmBytes s (copyBase b) 16384) s := by
      unfold applyCopy copyTaken
      rw [h]
    rw [hgo]
    exact ⟨_, startView_copyTaken _ _ _⟩
  | none =>
    have hgo : applyCopy s = recErrLees 0x0E 4 [] { extendV 2 (sha256 []) s with cal.noset := true } := by
      unfold applyCopy
      rw [h]
    rw [hgo]
    exact ⟨_, startView_recErrLees ..⟩

theorem imageBytes_congr {s t : State} (h : (startView t).mem = (startView s).mem) : imageBytes t = imageBytes s := by
  unfold imageBytes nvmBytes
  exact congrArg (cellRun nvmBlank · 0x0C0000 65536) h

/-- The firmware's registers when it applies the image: V0 to V2 are measured, no other one has changed (R337). -/
theorem imageReady_view (s : State) : ∃ d, startView (imageReady s) =
    startView (extendV 2 d (extendV 1 (sha256 (imageBytes s)) (slotEntered s))) := by
  have hrec : startView (startRecords (leesScan (slotEntered s))) = startView (slotEntered s) :=
    (startView_startRecords _).trans (startView_leesScan _)
  have himg : imageBytes (startRecords (leesScan (slotEntered s))) = imageBytes s :=
    imageBytes_congr ((congrArg StartView.mem hrec).trans rfl)
  unfold imageReady
  dsimp only
  rw [himg]
  generalize sha256 (imageBytes s) = di
  generalize startRecords (leesScan (slotEntered s)) = x at hrec
  obtain ⟨d, hd⟩ := applyCopy_view (extendV 1 di x)
  exact ⟨d, hd.trans (startView_extendV_congr (startView_extendV_congr hrec 1 di) 2 d)⟩

/-- The registers of the start once a slot is entered, whose digest is `d`. -/
def entered (d : List Byte) (s : State) : Boot :=
  { s.boot with
    v := modifyNth (fun v => sha256 (v ++ d)) s.boot.v 0, phase := .firmware, fwFrom := s.tk
    fwMajor := (nvmByte s (slotStart s.boot.slotB + 4)).toNat, fwMinor := (nvmByte s (slotStart s.boot.slotB + 5)).toNat }

theorem startView_slotEntered (s : State) : startView (slotEntered s) =
    ⟨s.tk, entered (sha256 (nvmBytes s (slotStart s.boot.slotB) 393216)) s, s.nvm.mem⟩ := by
  unfold slotEntered
  generalize sha256 (nvmBytes s (slotStart s.boot.slotB) 393216) = d
  rfl

/-- What the firmware has made of the registers of the start when it applies the image: the slot's digest is `d0` and
the image's `d1` (R334, R336, R337). -/
structure Measured (d0 d1 : List Byte) (s u : State) : Prop where
  tk : u.tk = s.tk
  mem : u.nvm.mem = s.nvm.mem
  phase : u.boot.phase = .firmware
  slotB : u.boot.slotB = s.boot.slotB
  fallback : u.boot.fallback = s.boot.fallback
  cause : u.boot.cause = s.boot.cause
  major : u.boot.fwMajor = (nvmByte s (slotStart s.boot.slotB + 4)).toNat
  minor : u.boot.fwMinor = (nvmByte s (slotStart s.boot.slotB + 5)).toNat
  v0 : u.boot.v.getD 0 [] = sha256 (s.boot.v.getD 0 [] ++ d0)
  v1 : u.boot.v.getD 1 [] = sha256 (s.boot.v.getD 1 [] ++ d1)
  v3 : u.boot.v.getD 3 [] = s.boot.v.getD 3 []

theorem Measured.imageBytes {d0 d1 : List Byte} {s u : State} (h : Measured d0 d1 s u) : imageBytes u = imageBytes s :=
  imageBytes_congr h.mem

theorem measured_of_view {s x u : State} {d0 d1 d : List Byte} (hv : s.boot.v.length = 4)
    (hx : startView x = ⟨s.tk, entered d0 s, s.nvm.mem⟩)
    (hu : startView u = startView (extendV 2 d (extendV 1 d1 x))) : Measured d0 d1 s u := by
  have hbx : x.boot = entered d0 s := congrArg StartView.boot hx
  have hbu : u.boot = { x.boot with
      v := modifyNth (fun v => sha256 (v ++ d)) (modifyNth (fun v => sha256 (v ++ d1)) x.boot.v 1) 2 } :=
    congrArg StartView.boot hu
  rw [hbx] at hbu
  have hother (f : List Byte → List Byte) (l : List (List Byte)) {i j : Nat} (h : j ≠ i) :
      (modifyNth f l i).getD j [] = l.getD j [] := modifyNth_get_other f [] l i j h
  refine ⟨(congrArg StartView.tk hu).trans (congrArg StartView.tk hx), (congrArg StartView.mem hu).trans
    (congrArg StartView.mem hx), (congrArg Boot.phase hbu).trans rfl, (congrArg Boot.slotB hbu).trans rfl,
    (congrArg Boot.fallback hbu).trans rfl, (congrArg Boot.cause hbu).trans rfl, (congrArg Boot.fwMajor hbu).trans rfl,
    (congrArg Boot.fwMinor hbu).trans rfl, ?_, ?_, ?_⟩
  all_goals simp only [hbu, entered]
  · rw [hother _ _ (by decide), hother _ _ (by decide)]
    exact modifyNth_get_same _ [] _ 0 (by omega)
  · rw [hother _ _ (by decide)]
    refine (modifyNth_get_same _ [] _ 1 (by rw [modifyNth_length]; omega)).trans ?_
    rw [hother _ _ (by decide)]
  · rw [hother _ _ (by decide), hother _ _ (by decide), hother _ _ (by decide)]

theorem imageReady_measured {s : State} (hv : s.boot.v.length = 4) :
    Measured (sha256 (nvmBytes s (slotStart s.boot.slotB) 393216)) (sha256 (imageBytes s)) s (imageReady s) := by
  obtain ⟨d, hd⟩ := imageReady_view s
  exact measured_of_view hv (startView_slotEntered s) hd

/-- An image that is not valid sets CFGBAD and has no other effect (R384). -/
theorem applyImage_invalid {s : State} (h : imageValid (imageBytes s) = false) :
    applyImage s = calFlag (fun c => { c with cfgbad := true }) s := by
  unfold applyImage
  simp only [h, Bool.false_eq_true, if_false]

end Sys2Proof.Machine
end


section
/-! The end of start-up, and what begins with UP (R326, R328, R93). -/

namespace Sys2Proof.Machine

open Sys2Proof.Claims

/-- The steps of the end of a run: the tables go out, SPLIT follows, READY and SYNC set (R94 step 5, R104). -/
theorem discoveryDone_steps (d : Disc) (s : State) : ∃ old new f, discoveryDone d s = nextWaiting (setSync true (fabIrq
    (setVine (fun v => { v with ready := true, disc := none }) (noteSplit (distribute old new (setVine f s)))))) := by
  unfold discoveryDone
  dsimp only
  exact ⟨_, _, _, rfl⟩

/-! ### Pending interrupts -/

/-- From `s` to `t` no pending interrupt is lost. -/
def IrqKept (s t : State) : Prop := ∀ n, s.host.irqPend.getLsbD n = true → t.host.irqPend.getLsbD n = true

namespace IrqKept

theorem of_host {s t : State} (h : t.host = s.host) : IrqKept s t := fun n hn => by rw [h]; exact hn

theorem refl (s : State) : IrqKept s s := of_host rfl

theorem trans {s t u : State} (h : IrqKept s t) (h' : IrqKept t u) : IrqKept s u := fun n hn => h' n (h n hn)

theorem fabIrq (s : State) : IrqKept s (fabIrq s) := by
  unfold Machine.fabIrq
  split
  · exact (Spares.raise irqFab s).irq
  · exact refl s

theorem applyRoute (ws : List Word) (s : State) : IrqKept s (applyRoute ws s) := of_host rfl

theorem sendRoutes (t : List Branch) (ns : List Nat) (s : State) : IrqKept s (sendRoutes t ns s) :=
  of_host (Traffic.foldl (fun s n => Traffic.sendTo n 0x04 0 (routeWords t n) s) ns s).host

theorem distribute (old new : List Link) (s : State) : IrqKept s (distribute old new s) := by
  unfold Machine.distribute
  dsimp only
  refine IrqKept.trans ?_ ((sendRoutes _ _ _).trans ((applyRoute _ _).trans (sendRoutes _ _ _)))
  split
  · exact refl s
  · exact (sendRoutes _ _ s).trans (applyRoute _ _)

theorem noteSplit (s : State) : IrqKept s (noteSplit s) := by
  unfold Machine.noteSplit
  dsimp only
  split
  · exact IrqKept.trans (Spares.recErr 0x03 9 (setVine (fun v => { v with split := splitNow s }) s)).irq (fabIrq _)
  · exact of_host rfl

theorem gridGate (s : State) : IrqKept s (gridGate s) := by
  unfold Machine.gridGate raiseIfShut
  dsimp only
  split
  · exact (Spares.raise irqGate (cutGroups (BitVec.allOnes 32) s)).irq
  · exact of_host rfl

theorem setSync_true (s : State) : IrqKept s (setSync true s) := by
  unfold setSync
  split
  · exact refl s
  · exact (fabIrq (setVine (fun v => { v with sync := true, good := 0, bad := 0 }) s)).trans (gridGate _)

theorem probe (n p : Nat) (s : State) : IrqKept s (probe n p s) := by
  unfold Machine.probe
  split
  · exact of_host (Traffic.linkPacket _ _ _ s).host
  · exact of_host (Traffic.sendTo _ _ _ _ s).host

theorem setVine (f : Vine → Vine) (s : State) : IrqKept s (setVine f s) := of_host rfl

theorem nextWaiting (s : State) : IrqKept s (nextWaiting s) := by
  unfold Machine.nextWaiting readopt
  split
  · exact (setVine _ _).trans ((setVine _ _).trans (probe _ _ _))
  · exact refl s

theorem discoveryDone (d : Disc) (s : State) : IrqKept s (discoveryDone d s) := by
  obtain ⟨old, new, f, hgo⟩ := discoveryDone_steps d s
  rw [hgo]
  exact (setVine f s).trans ((distribute old new _).trans ((noteSplit _).trans ((setVine _ _).trans ((fabIrq _).trans
    ((setSync_true _).trans (nextWaiting _))))))

theorem discoverNext (d : Disc) (s : State) : IrqKept s (discoverNext d s) := by
  cases h : nextPort s 256 d.stack with
  | some x =>
    rw [discoverNext_some h]
    exact (of_host (t := probing d x.1 x.2 s) rfl).trans (probe _ _ _)
  | none =>
    rw [discoverNext_none h]
    exact discoveryDone d s

theorem startDiscovery (s : State) : IrqKept s (startDiscovery false s) := by
  rw [startDiscovery_begun]
  exact (setVine _ s).trans (discoverNext _ (runBegun s))

theorem rootStarts (s : State) : IrqKept s (rootStarts s) := by
  unfold Machine.rootStarts
  split
  · exact (setVine _ s).trans (startDiscovery _)
  · exact refl s

end IrqKept

/-! ### The root takes its number -/

theorem nextWaiting_nodeId (s : State) : (nextWaiting s).vine.nodeId = s.vine.nodeId := by
  unfold nextWaiting readopt
  split
  · exact view_nodeId (rootView_probe _ _ _)
  · rfl

theorem discoverNext_nodeId (d : Disc) (s : State) : (discoverNext d s).vine.nodeId = s.vine.nodeId := by
  obtain ⟨np, rest, hview⟩ | ⟨x, hx, hview⟩ := discoverNext_cases d s
  · exact view_nodeId hview
  · rw [hx, nextWaiting_nodeId, view_nodeId hview]
    simp only [doneView, rootView]

/-- A root takes number 1 (R93). -/
theorem rootStarts_nodeId (s : State) : (rootStarts s).vine.nodeId = if isRoot s then 1 else s.vine.nodeId := by
  unfold rootStarts
  split
  · rw [startDiscovery_begun, discoverNext_nodeId]
    rfl
  · rfl

/-! ### What begins with UP (R326, R328) -/

/-- UP sets and PWR is raised (R328). -/
def upSet (s : State) : State :=
  raise irqPwr (tset 0x91 6 (word (divOpen 354 ((s.tk - s.boot.fwFrom : Nat) : Int) 1024).toNat) { s with
    boot.phase := .up, boot.resetSwath := none, bnd.gapFrom := s.tk })

/-- The heads are read (R219). -/
def headsRead (s : State) : State := startReads ((List.range 32).filter (headEn s)) s

/-- The consumables are authenticated (R226). -/
def consAuth (s : State) : State := ((List.range 8).filter (consEn s)).foldl (fun st f => startAuth false f st) s

theorem startupComplete_steps {s : State} (hphase : s.boot.phase = .firmware) (hrun : s.cal.run = none) :
    startupComplete s = startRun 1 false [.headTemp, .samplers, .wdacs]
      (consAuth (headsRead (rootStarts (loadCounters (upSet s))))) :=
  if_pos (by rw [hphase, hrun]; rfl)

theorem upSet_wf {s : State} (hw : WfState s) : WfState (upSet s) :=
  { hw with tbl := tset_wf hw.tbl _ _ _ }

theorem loadCounters_same {s : State} (hw : WfState s) : WfState (loadCounters s) ∧
    ∀ p ∉ [Part.tbl, .nvm], p.same s (loadCounters s) := by
  have : Fact (Part.tbl ∈ [Part.tbl, .nvm]) := ⟨by decide⟩
  have : Fact (Part.nvm ∈ [Part.tbl, .nvm]) := ⟨by decide⟩
  have h := loadCounters_keeps s (Keeps.start [Part.tbl, .nvm] hw)
  exact ⟨h.toWfState, h.stay⟩

/-- The parts that the root's discovery may change. -/
def rootParts : List Part := [.tbl, .host, .vine, .grid, .jet, .ing, .hc]

theorem rootStarts_same {s : State} (hw : WfState s) : WfState (rootStarts s) ∧
    ∀ p ∉ rootParts, p.same s (rootStarts s) := by
  have hin : ∀ q ∈ rootParts, Fact (q ∈ rootParts) := fun q hq => ⟨hq⟩
  have := hin .tbl (by decide); have := hin .host (by decide); have := hin .vine (by decide)
  have := hin .grid (by decide); have := hin .jet (by decide); have := hin .ing (by decide)
  have := hin .hc (by decide)
  have h := rootStarts_keeps s (Keeps.start rootParts hw)
  exact ⟨h.toWfState, h.stay⟩

theorem headsRead_same {s : State} (hw : WfState s) : WfState (headsRead s) ∧
    (∀ p ∉ [Part.host, .jet, .hc], p.same s (headsRead s)) ∧ IrqKept s (headsRead s) := by
  have : Fact (Part.host ∈ [Part.host, .jet, .hc]) := ⟨by decide⟩
  have : Fact (Part.jet ∈ [Part.host, .jet, .hc]) := ⟨by decide⟩
  have : Fact (Part.hc ∈ [Part.host, .jet, .hc]) := ⟨by decide⟩
  have : Fact (Part.hc ∈ [Part.hc]) := ⟨by decide⟩
  have h := startReads_keeps ((List.range 32).filter (headEn s)) s (Keeps.start [Part.host, .jet, .hc] hw)
  have hpump := pumpBuses_keeps _ (foldl_keeps (f := fun st h =>
    if headEn s h then setRead h (fun r => { r with busy := true }) st else st) (fun h st hst => by
      split
      · exact setRead_keeps h _ st hst
      · exact hst) ((List.range 32).filter (headEn s)) s (Keeps.start [Part.hc] hw))
  exact ⟨h.toWfState, h.stay, (IrqKept.of_host (hpump.stay .host (by decide))).trans (Spares.headidUpdate _).irq⟩

theorem consAuth_same {s : State} (hw : WfState s) : ∀ p ∉ [Part.free, .hc], p.same s (consAuth s) := by
  have : Fact (Part.free ∈ [Part.free, .hc]) := ⟨by decide⟩
  have : Fact (Part.hc ∈ [Part.free, .hc]) := ⟨by decide⟩
  exact (foldl_keeps (fun f st hst => startAuth_keeps false f st hst) ((List.range 8).filter (consEn s)) s
    (Keeps.start [Part.free, .hc] hw)).stay

/-- What the completion of start-up leaves (R93, R326, R328, R378). -/
theorem startupComplete_spec {s : State} (hw : WfState s) (hphase : s.boot.phase = .firmware) (hrun : s.cal.run = none) :
    let t := startupComplete s
    t.boot = { s.boot with phase := .up, resetSwath := none } ∧ t.host.irqPend.getLsbD 14 = true ∧
    t.vine.nodeId = (if s.boot.hsel then 1 else s.vine.nodeId) ∧ t.bnd = { s.bnd with gapFrom := s.tk } ∧
    t.cal.run = some { from_ := s.tk, startUp := false, todo := [.headTemp, .samplers, .wdacs], results := [] } := by
  obtain ⟨hw1, hs1⟩ := loadCounters_same (upSet_wf hw)
  obtain ⟨hw2, hs2⟩ := rootStarts_same hw1
  obtain ⟨hw3, hs3, hi3⟩ := headsRead_same hw2
  have hs4 := consAuth_same hw3
  have hirq : IrqKept (upSet s) (consAuth (headsRead (rootStarts (loadCounters (upSet s))))) :=
    (IrqKept.of_host (hs1 .host (by decide))).trans ((IrqKept.rootStarts _).trans
      (hi3.trans (IrqKept.of_host (hs4 .host (by decide)))))
  have hboot := (hs4 .boot (by decide)).trans ((hs3 .boot (by decide)).trans ((hs2 .boot (by decide)).trans
    (hs1 .boot (by decide))))
  have hbnd := (hs4 .bnd (by decide)).trans ((hs3 .bnd (by decide)).trans ((hs2 .bnd (by decide)).trans
    (hs1 .bnd (by decide))))
  have htk := (hs4 .tk (by decide)).trans ((hs3 .tk (by decide)).trans ((hs2 .tk (by decide)).trans
    (hs1 .tk (by decide))))
  have hvine := (hs4 .vine (by decide)).trans (hs3 .vine (by decide))
  have hnode : (rootStarts (loadCounters (upSet s))).vine.nodeId = if s.boot.hsel then 1 else s.vine.nodeId := by
    rw [rootStarts_nodeId, isRoot, hs1 .boot (by decide), hs1 .vine (by decide)]
    rfl
  dsimp only
  rw [startupComplete_steps hphase hrun]
  refine ⟨hboot, hirq 14 (irqPend_raise_self (by decide) _), (congrArg Vine.nodeId hvine).trans hnode, hbnd, ?_⟩
  rw [startRun, htk]
  rfl

end Sys2Proof.Machine
end


section
/-! Boot slots, ROM recovery, and the end of start-up (O11). -/

namespace Sys2Proof.Machine

open Sys2Proof.Claims

/-! ### A start-up run out of time (R378) -/

/-- From `s` to `t` what a run's end does not change: the run itself, what it has skipped, TREF and the errors. -/
structure RunKept (s t : State) : Prop where
  run : t.cal.run = s.cal.run
  skipped : t.cal.skipped = s.cal.skipped
  tref : t.cal.tref = s.cal.tref ∧ t.cal.trefSet = s.cal.trefSet
  errors : t.host.errTotal = s.host.errTotal ∧ t.host.errHist = s.host.errHist
  irq : IrqKept s t

namespace RunKept

theorem refl (s : State) : RunKept s s := ⟨rfl, rfl, ⟨rfl, rfl⟩, ⟨rfl, rfl⟩, IrqKept.refl s⟩

theorem trans {s t u : State} (h : RunKept s t) (h' : RunKept t u) : RunKept s u :=
  ⟨h'.run.trans h.run, h'.skipped.trans h.skipped, ⟨h'.tref.1.trans h.tref.1, h'.tref.2.trans h.tref.2⟩,
    ⟨h'.errors.1.trans h.errors.1, h'.errors.2.trans h.errors.2⟩, h.irq.trans h'.irq⟩

theorem foldl {β : Type} {f : State → β → State} (hf : ∀ s x, RunKept s (f s x)) (l : List β) (s : State) :
    RunKept s (l.foldl f s) := by
  induction l generalizing s with
  | nil => exact refl s
  | cons x xs ih => exact (hf s x).trans (ih _)

theorem tputBytes (t : Nat) : ∀ (bs : List Byte) (i : Nat) (s : State), RunKept s (tputBytes t i bs s)
  | [], _, s => refl s
  | b :: bs, i, s => by
    have h : RunKept s (tputByte t i b s) := ⟨rfl, rfl, ⟨rfl, rfl⟩, ⟨rfl, rfl⟩, IrqKept.of_host rfl⟩
    exact h.trans (tputBytes t bs (i + 1) _)

theorem setValid (t : Nat) (i : CalItem) (b : Bool) (s : State) : RunKept s (setValid t i b s) :=
  ⟨rfl, rfl, ⟨rfl, rfl⟩, ⟨rfl, rfl⟩, IrqKept.of_host rfl⟩

theorem putItem (t : Nat) (i : CalItem) (bs : List Byte) (s : State) : RunKept s (putItem t i bs s) :=
  (tputBytes t bs (itemStart i) s).trans (setValid t i true _)

theorem setStaged (l : List CalItem) (n : Nat) (s : State) :
    RunKept s { s with cal.staged := l, cal.stagedFrom := n } :=
  ⟨rfl, rfl, ⟨rfl, rfl⟩, ⟨rfl, rfl⟩, IrqKept.of_host rfl⟩

theorem stageOne (s : State) (r : CalItem × List Byte) : RunKept s (stageOne s r) :=
  (putItem 0x81 r.1 r.2 s).trans (setStaged _ _ _)

theorem applyItem (s : State) (i : CalItem) : RunKept s (applyItem s i) :=
  (putItem 0x80 i _ s).trans (((tputBytes 0x81 _ (itemStart i) _).trans (setValid 0x81 i false _)).trans (setStaged _ _ _))

theorem applyStaged (p : CalItem → Bool) (s : State) : RunKept s (applyStaged p s) := by
  unfold Machine.applyStaged
  dsimp only
  split
  · exact refl s
  · refine (foldl applyItem (s.cal.staged.filter p) s).trans ?_
    exact ⟨rfl, rfl, ⟨rfl, rfl⟩, ⟨rfl, rfl⟩, (Spares.raise irqCal _).irq⟩

theorem startStore (l : List (CalItem × List Byte)) (s : State) : RunKept s (startStore l s) := by
  unfold Machine.startStore
  split
  · exact refl s
  · exact ⟨rfl, rfl, ⟨rfl, rfl⟩, ⟨rfl, rfl⟩, IrqKept.of_host rfl⟩

end RunKept

/-- The run is over, and the die temperature is its TREF (R382). -/
def runClosed (s : State) : State :=
  { s with cal.run := none, cal.tref := signed 16 s.cal.tempDie.toNat, cal.trefSet := true }

/-- A run with nothing left to measure ends (R378). -/
theorem endRun_closed {s : State} {r : CalRun} (hrun : s.cal.run = some r) (htodo : r.todo = []) :
    RunKept (runClosed s) (endRun s) := by
  have hgo : ∃ p, endRun s = applyStaged p (startStore r.results (r.results.foldl stageOne (runClosed s))) := by
    simp only [endRun, hrun, htodo, List.isEmpty_nil, if_true]
    exact ⟨_, rfl⟩
  obtain ⟨p, hgo⟩ := hgo
  rw [hgo]
  exact ((RunKept.foldl RunKept.stageOne _ _).trans (RunKept.startStore _ _)).trans (RunKept.applyStaged _ _)

/-- From `s` to `t` the items `l` of the run `r` have been skipped, each with its error (R371, R378). -/
structure ItemsSkipped (r : CalRun) (l : List CalItem) (s t : State) : Prop where
  run : t.cal.run = some { r with todo := r.todo.filter (fun i => !l.contains i) }
  tempDie : t.cal.tempDie = s.cal.tempDie
  boot : t.boot = s.boot
  tick : t.tick = s.tick
  total : t.host.errTotal = s.host.errTotal + l.length
  hist : t.host.errHist.take 32 = (List.replicate l.length (0x0E02, s.tick) ++ s.host.errHist).take 32
  last : l ≠ [] → t.cal.skipped = true ∧ t.host.irqPend.getLsbD 13 = true ∧ t.host.errHist.length ≤ 32

/-- One item is skipped: the error 0x02 of block 0x0E is the newest, and SKIPPED raises CAL (R371). -/
theorem skipOne_step {r : CalRun} {s : State} (hr : coreRuns s = true) (hrun : s.cal.run = some r) (i : CalItem) :
    let t := skipOne s i
    t.cal = { s.cal with skipped := true, run := some { r with todo := r.todo.filter (· != i) } } ∧ t.boot = s.boot ∧
      t.tick = s.tick ∧ t.host.errTotal = s.host.errTotal + 1 ∧
      t.host.errHist = (0x0E02, s.tick) :: s.host.errHist.take 31 ∧ t.host.irqPend.getLsbD 13 = true := by
  have hgo : skipOne s i = calFlag (fun c => { c with skipped := true, run := some { r with todo := r.todo.filter (· != i) } })
      (recErr 0x0E 2 s) := by rw [skipOne, hrun]
  dsimp only
  rw [hgo]
  refine ⟨?_, ?_, ?_, ?_, ?_, irqPend_raise_self (by decide) _⟩
  · show ({ (recErr 0x0E 2 s).cal with skipped := true, run := _ } : Cal) = _
    rw [recErr_cal]
  · exact recErr_boot s 0x0E 2
  · exact recErr_tick s 0x0E 2
  · show (recErr 0x0E 2 s).host.errTotal = _
    rw [recErr_eq hr]
  · show (recErr 0x0E 2 s).host.errHist = _
    rw [recErr_eq hr]
    rfl

/-- An entry put before a history, which holds 32, and `n` more of it. -/
theorem take_replicate_cons {α : Type} (n : Nat) (x : α) (l : List α) :
    (List.replicate n x ++ x :: l.take 31).take 32 = (List.replicate (n + 1) x ++ l).take 32 := by
  rw [← List.take_succ_cons, List.take_append, List.take_take, Nat.min_eq_left (Nat.sub_le _ _), ← List.take_append,
    List.replicate_succ', List.append_assoc]
  rfl

theorem foldl_skipOne {r : CalRun} (l : List CalItem) {s : State} (hr : coreRuns s = true) (hrun : s.cal.run = some r) :
    ItemsSkipped r l s (l.foldl skipOne s) := by
  induction l generalizing s r with
  | nil => exact ⟨by simp [hrun], rfl, rfl, rfl, rfl, rfl, fun h => absurd rfl h⟩
  | cons i l ih =>
    obtain ⟨hcal, hboot, htick, htotal, hhist, hirq⟩ := skipOne_step hr hrun i
    have h := ih ((coreRuns_congr hboot).trans hr) (congrArg Cal.run hcal)
    rw [List.foldl_cons]
    have hdie := h.tempDie.trans ((congrArg Cal.tempDie hcal).trans rfl)
    refine ⟨?_, hdie, h.boot.trans hboot, h.tick.trans htick, ?_, ?_, fun _ => ?_⟩
    · refine h.run.trans ?_
      simp only [List.filter_filter, List.contains_cons, Bool.not_or, bne, Bool.and_comm]
    · rw [h.total, htotal, List.length_cons]
      omega
    · rw [h.hist, hhist, htick, take_replicate_cons, List.length_cons]
    · by_cases hl : l = []
      · subst hl
        refine ⟨congrArg Cal.skipped hcal, hirq, ?_⟩
        rw [List.foldl_nil, hhist]
        simp
      · exact h.last hl

/-- A start-up run out of time skips every item left, and ends (R378). -/
theorem startupTimeout_spec {s : State} {r : CalRun} (hr : coreRuns s = true) (hrun : s.cal.run = some r)
    (hstart : r.startUp = true) (htodo : r.todo ≠ []) (hlate : r.from_ + 10000000 ≤ s.tk) :
    let t := startupTimeout s
    t.cal.run = none ∧ t.cal.skipped = true ∧ t.cal.trefSet = true ∧ t.cal.tref = signed 16 s.cal.tempDie.toNat ∧
      t.host.errTotal = s.host.errTotal + r.todo.length ∧
      t.host.errHist = (List.replicate r.todo.length (0x0E02, s.tick) ++ s.host.errHist).take 32 ∧
      t.host.irqPend.getLsbD 13 = true := by
  have hgo : startupTimeout s = endRun (r.todo.foldl skipOne s) := by
    rw [startupTimeout, hrun]
    exact if_pos (by simp [hstart, hlate])
  have h := foldl_skipOne r.todo hr hrun
  obtain ⟨hskip, hirq, hlen⟩ := h.last htodo
  have hnone : r.todo.filter (fun i => !r.todo.contains i) = [] := List.filter_eq_nil_iff.mpr fun i hi => by simp [hi]
  have hend := endRun_closed h.run hnone
  dsimp only
  rw [hgo]
  refine ⟨hend.run, hend.skipped.trans hskip, hend.tref.2, hend.tref.1.trans ?_, hend.errors.1.trans h.total, ?_,
    hend.irq 13 hirq⟩
  · exact congrArg (fun d : BitVec 16 => signed 16 d.toNat) h.tempDie
  · rw [hend.errors.2, ← h.hist]
    exact (List.take_of_length_le hlen).symm

/-! ### A slot that runs -/

/-- Where the image is not valid, CFGBAD sets, and the start-up run begins over the registers as they are (R384). -/
theorem startUpRun_invalid {u : State} (hphase : u.boot.phase = .firmware) (h : imageValid (imageBytes u) = false) :
    let t := if (applyImage u).boot.phase = .firmware then startRun 1 true [.trims, .sense, .current, .scanner] (applyImage u)
      else applyImage u
    t.boot = u.boot ∧ t.cal.cfgbad = true ∧ t.tbl = u.tbl ∧
      t.cal.run = some { from_ := u.tk, startUp := true, todo := [.trims, .sense, .current, .scanner], results := [] } := by
  dsimp only
  rw [applyImage_invalid h, if_pos (by exact hphase)]
  exact ⟨rfl, rfl, rfl, rfl⟩

end Sys2Proof.Machine

open Sys2Proof.Machine Sys2Proof.Claims

/-- Settles O11: the boot ROM by its three branches, the firmware's start by what it has measured when it applies the
image, the end of start-up by what its steps keep, and the time-out by the items it skips. -/
theorem bootSlotsAndStartUpEnd : Obligations.BootSlotsAndStartUpEnd := by
  refine ⟨fun s hw hrom => ⟨fun hslot hfall hlog => ?_, fun hslot hfall hbar hroom => ?_, fun hslot => ?_⟩,
    fun s hw => ⟨fun hphase hrun => ?_, fun r hr hrun hstart htodo hlate => ?_⟩⟩
  · have hgo := bootSlotCheck_other hrom hslot hfall
    have hnew := newestError_recErr (coreRuns_of_rom hrom) 0x0C (if s.boot.slotB then 2 else 1)
    rw [trustErrLees, recErrLees_queued (coreRuns_of_rom hrom) hlog] at hgo
    have hcode : errWord 0x0C (if s.boot.slotB then 2 else 1) = if s.boot.slotB then 0x0C02 else 0x0C01 := by
      cases s.boot.slotB <;> rfl
    rw [hcode] at hnew
    refine ⟨_, congrArg Host.Outcome.next hgo, ?_, hnew, rfl, ?_, ?_⟩
    · simp
    · simp
    · simp
  · have hgo := bootSlotCheck_recovery hrom hslot hfall
    obtain ⟨⟨h, q, c, hlog⟩, hq⟩ := Logged.record (coreRuns_of_rom hrom) hbar (by omega) 0x0C
      (if s.boot.slotB then 2 else 1) []
    rw [trustErrLees, hlog] at hgo
    rw [hlog] at hq
    obtain ⟨hboot, hmem, hnew⟩ := enterRecovery_spec (s := { s with host := h, nvm := { s.nvm with leesQ := q, cut := c } })
      hbar (Nat.lt_of_le_of_lt hq (by omega))
    generalize enterRecovery { s with host := h, nvm := { s.nvm with leesQ := q, cut := c } } = t at *
    refine ⟨t, congrArg Host.Outcome.next hgo, ?_, ?_, ?_, ?_, ?_, ?_, hnew, hmem⟩ <;> rw [hboot] <;> rfl
  · have hv : s.boot.v.length = 4 := by simpa using congrArg List.length hw.v
    have hm := imageReady_measured hv
    have hgo := (bootSlotCheck_runs hrom hslot).trans (enterFirmware_ready s)
    refine ⟨imageReady s, bootSlotCheck s, rfl, hm.phase, hm.slotB, hm.fallback, hm.cause, hm.mem, hm.major, hm.minor,
      hm.v0, hm.v1, hm.v3, hgo, fun hbad => ?_⟩
    rw [← hm.imageBytes] at hbad
    rw [hgo, ← hm.tk]
    exact startUpRun_invalid hm.phase hbad
  · exact ⟨_, rfl, startupComplete_spec hw hphase hrun⟩
  · exact ⟨_, congrArg Host.Outcome.next (if_pos hr), startupTimeout_spec hr hrun hstart htodo hlate⟩
end

section
/-! Commands with operands of the form the spec gives them complete (O3). -/

namespace Sys2Proof.Machine

/-- A command that completes where its operands are well formed, and faults where they are not. -/
def CompletesIff (wf : Bool) (o : Out) : Prop :=
  (wf = true → ∃ t, o = .next t) ∧ (wf = false → o = .fault .malformedOperand)

namespace CompletesIff

variable {wf : Bool} {c : Prop} [Decidable c] {a : State}

/-- A command that every operand suits. -/
theorem next : CompletesIff true (.next a) := ⟨fun _ => ⟨a, rfl⟩, nofun⟩

/-- A command that asks for operands where `c` holds. -/
theorem asks (h : wf = true ↔ c) : CompletesIff wf (if c then .next a else .fault .malformedOperand) := by
  by_cases hc : c
  · rw [if_pos hc, h.mpr hc]
    exact next
  · rw [if_neg hc]
    exact ⟨fun hwf => absurd (h.mp hwf) hc, fun _ => rfl⟩

/-- A command that turns operands away where `c` holds. -/
theorem turnsAway (h : wf = true ↔ ¬ c) : CompletesIff wf (if c then .fault .malformedOperand else .next a) :=
  ite_not c _ (Host.Outcome.fault Fault.malformedOperand : Out) ▸ asks h

/-- A command for the reserved codes, which are those from `n` on. -/
theorem reservedFrom (op n : Nat) : CompletesIff (decide (n ≤ op)) (if op < n then .fault .malformedOperand else .next a) :=
  turnsAway (by simp)

end CompletesIff

theorem calItemBytes_eq_itemLen (i : CalItem) : calItemBytes i = itemLen i := by cases i <;> rfl

/-- A command that asks for nothing completes; the commands that read a list of samples ask for its length, those of
reserved codes for a reserved code. -/
theorem exec_completesIff (c : Instr) (s : State) : CompletesIff c.wf (exec c s) := by
  cases c with
  | vaonPowerOn h r q => exact .asks (by simp [Instr.wf, and_assoc])
  | signatureBurst g slots => exact .turnsAway (by simp [Instr.wf])
  | hmReadComplete head bytes => exact .turnsAway (by simp [Instr.wf])
  | railScanEnd codes => exact .asks (by simp [Instr.wf])
  | calItemDone i bytes => exact .asks (by simp [Instr.wf, calItemBytes_eq_itemLen])
  | rstCauseInvalidWrite d => exact .turnsAway (by simp [Instr.wf])
  | hcReservedOp op t => exact .turnsAway (by simp [Instr.wf]; omega)
  | nvmReservedOp op t => exact .turnsAway (by simp [Instr.wf]; omega)
  | txnReservedOp | attReservedOp | fabReservedOp | jetReservedOp | motReservedOp | vlvReservedOp | railReservedOp
  | calReservedOp | ingestReservedOp => exact .reservedFrom _ _
  | _ => exact .next

end Sys2Proof.Machine

open Sys2Proof.Machine

/-- Settles O3: each command by what it asks of its operands. -/
theorem wellFormedCommandsComplete : Obligations.WellFormedCommandsComplete := exec_completesIff
end

section
/-! Position channels (O39, O40): every operation on channel `c` is worked out on `encTo s c e`, the state whose channel
`c` is `e`, and leads to such a state again. -/

namespace Sys2Proof.Machine

open Sys2Proof.Claims

/-- The state with channel `c` as `e`. -/
def encTo (s : State) (c : Nat) (e : Enc) : State := setEnc c (fun _ => e) s

/-- Counter `k` of channel `c` counts, and error `code` of the channel is recorded (R136). -/
def encFault (c k code : Nat) (s : State) : State := encErr c code (bump 0xA3 (8 * c + k) s)

variable {s u : State} {c : Nat} {e : Enc}

/-! ### Channels -/

theorem setEnc_eq (c : Nat) (f : Enc → Enc) (s : State) : setEnc c f s = encTo s c (f (encOf s c)) :=
  congrArg (fun l => { s with enc := l }) (modifyNth_const f {} s.enc c)

@[simp] theorem setEnc_encTo (f : Enc → Enc) : setEnc c f (encTo s c e) = encTo s c (f e) :=
  congrArg (fun l => { s with enc := l }) (modifyNth_modifyNth _ f s.enc c)

theorem channel_lt (hw : WfState s) (c : Fin 8) : c.val < s.enc.length := c.isLt.trans_eq hw.enc.symm

theorem encTo_encOf (s : State) (c : Nat) : encTo s c (encOf s c) = s :=
  congrArg (fun l => { s with enc := l }) (modifyNth_self {} s.enc c)

theorem encOf_encTo (hc : c < s.enc.length) : encOf (encTo s c e) c = e := modifyNth_get_same (fun _ => e) {} s.enc c hc

@[simp] theorem setEnc_length (f : Enc → Enc) : (setEnc c f s).enc.length = s.enc.length := modifyNth_length _ _ _

@[simp] theorem encTo_length : (encTo s c e).enc.length = s.enc.length := setEnc_length _

/-- The other channels, where at most channel `c`, table words, errors and the grid have changed. -/
theorem otherChannels_encTo {c : Fin 8} (hu : u.enc = s.enc) : otherChannels s (encTo u c e) c := fun d hd =>
  (modifyNth_get_other (fun _ => e) {} u.enc c d (fun h => hd (Fin.ext h))).trans (congrArg (·.getD d.val {}) hu)

/-! ### Configuration -/

@[simp] theorem tnat_encTo : tnat (encTo s c e) = tnat s := rfl
@[simp] theorem tnat32_encTo : tnat32 (encTo s c e) = tnat32 s := rfl
@[simp] theorem encMode_encTo : encMode (encTo s c e) = encMode s := rfl
@[simp] theorem indexChecked_encTo : indexChecked (encTo s c e) = indexChecked s := rfl
@[simp] theorem encCfg_encTo : encCfg (encTo s c e) = encCfg s := rfl
@[simp] theorem softLimits_encTo : softLimits (encTo s c e) = softLimits s := rfl
@[simp] theorem isGridSource_encTo : isGridSource (encTo s c e) = isGridSource s := rfl
@[simp] theorem revSign_encTo : revSign (encTo s c e) = revSign s := rfl
@[simp] theorem encTo_tk : (encTo s c e).tk = s.tk := rfl

/-! ### Errors and their counters (R136) -/

@[simp] theorem encErr_encTo (code : Nat) : encErr c code (encTo s c e) = encTo (encErr c code s) c e := by
  unfold encErr recErr
  rw [show coreRuns (encTo s c e) = coreRuns s from rfl]
  split <;> rfl

@[simp] theorem encFault_encTo (k code : Nat) : encFault c k code (encTo s c e) = encTo (encFault c k code s) c e :=
  encErr_encTo (s := bump 0xA3 (8 * c + k) s) code

/-- A recorded error changes the host port alone. -/
theorem encErr_only (c code : Nat) (s : State) : encErr c code s = { s with host := (encErr c code s).host } :=
  recErr_only _ _ _

@[simp] theorem encFault_enc (k code : Nat) : (encFault c k code s).enc = s.enc := recErr_enc _ _ _
@[simp] theorem encFault_tick (k code : Nat) : (encFault c k code s).tick = s.tick := recErr_tick _ _ _
theorem encFault_tbl (k code : Nat) : (encFault c k code s).tbl = (bump 0xA3 (8 * c + k) s).tbl := recErr_tbl _ _ _

theorem encFault_wf (hw : tblWf s = true) (k code : Nat) : tblWf (encFault c k code s) = true :=
  (tblWf_congr (encFault_tbl k code)).trans (bump_wf hw _ _)

@[simp] theorem encFault_runs (k code : Nat) : coreRuns (encFault c k code s) = coreRuns s := by
  simp [coreRuns, encFault, encErr]

theorem encFault_counted (hw : tblWf s = true) (k code : Nat) : countedOne s (encFault c k code s) 0xA3 (8 * c + k) := by
  rw [countedOne, tget_congr (encFault_tbl k code), tget_bump hw]

theorem tget_encFault_other (hw : tblWf s = true) {k j : Nat} (hj : j ≠ k) (code : Nat) :
    tget (encFault c k code s) 0xA3 (8 * c + j) = tget s 0xA3 (8 * c + j) := by
  rw [tget_congr (encFault_tbl k code), tget_bump_other hw]
  unfold tkey
  omega

theorem encFault_newest (hr : coreRuns s = true) (k code : Nat) :
    newestError (encFault c k code s) s.tick (errWord 4 (c * 32 + code)) :=
  newestError_recErr (s := bump 0xA3 (8 * c + k) s) hr 4 (c * 32 + code)

/-! ### Counts (R127) -/

/-- A count stored: one other than the count asked for sets HELD, and may be recorded as an error. -/
theorem putCount_encTo (hc : c < s.enc.length) (n m : Int) : ∃ w h b, putCount c n m (encTo s c e) =
    encTo { s with host := w } c { e with count := m, held := h, broken := b } ∧
    (m = n → w = s.host ∧ h = e.held) ∧ (m ≠ n → h = true) := by
  by_cases hm : m = n
  · exact ⟨s.host, e.held, e.broken, by simp [putCount, hm], fun _ => ⟨rfl, rfl⟩, fun h => absurd hm h⟩
  · refine ⟨if e.held then s.host else (encErr c 9 s).host, true, true, ?_, fun h => absurd h hm, fun _ => rfl⟩
    simp only [putCount, hm, if_false, setEnc_encTo, encErr_encTo, encOf_encTo hc]
    split
    · rfl
    · rw [encErr_only]

theorem loadCount_encTo (hc : c < s.enc.length) (n : Int) :
    let m := clampInt n (softLimits s c).1 (softLimits s c).2
    ∃ w h b, loadCount c n (encTo s c e) = encTo { s with host := w } c { e with count := m, held := h, broken := b } ∧
      (m = n → w = s.host ∧ h = e.held) ∧ (m ≠ n → h = true) := putCount_encTo hc n _

/-- The count that a step of `d` from `n` leads to. -/
def stepsTo (s : State) (c : Nat) (n d : Int) : Int :=
  if 0 < d then min (n + d) (softLimits s c).2 else max (n + d) (softLimits s c).1

theorem stepsTo_inLimits {n d : Int} (hlo : (softLimits s c).1 ≤ n + d) (hhi : n + d ≤ (softLimits s c).2) :
    stepsTo s c n d = n + d := by
  unfold stepsTo
  split <;> omega

theorem clampInt_inLimits {n lo hi : Int} (hlo : lo ≤ n) (hhi : n ≤ hi) : clampInt n lo hi = n := by
  rw [clampInt, if_neg (by omega), if_neg (by omega)]

theorem loadCount_inLimits {n : Int} (hlo : (softLimits s c).1 ≤ n) (hhi : n ≤ (softLimits s c).2) :
    loadCount c n (encTo s c e) = encTo s c { e with count := n } := by
  simp [loadCount, putCount, clampInt_inLimits hlo hhi]

/-- Channel `e` as it begins a count by `d`: direction, time, interval list and the estimate carried over (R125). -/
def counting (s : State) (d : Int) (e : Enc) : Enc :=
  let reversed := e.counted && (e.down != decide (d < 0))
  let iv := if !e.counted || reversed then [] else ((s.tk - e.lastCount) :: e.intervals).take 4
  { e with
    down := decide (d < 0), counted := true, velZero := false, lastCount := s.tk, intervals := iv
    velHeld := if iv.isEmpty then e.velHeld else none, broken := e.broken || reversed }

theorem countBy_encTo {t : State} {d : Int} (hc : c < s.enc.length) (ht : t = countBy c d (encTo s c e)) : ∃ w h b, t =
    encTo { s with host := w } c { counting s d e with count := stepsTo s c e.count d, held := h, broken := b } ∧
    (stepsTo s c e.count d = e.count + d → w = s.host ∧ h = e.held) ∧
    (stepsTo s c e.count d ≠ e.count + d → h = true) := by
  have heq : countBy c d (encTo s c e) =
      putCount c (e.count + d) (stepsTo s c e.count d) (encTo s c (counting s d e)) := by
    simp only [countBy, stepCount, setEnc_encTo, encOf_encTo hc, encTo_tk, softLimits_encTo]
    rfl
  rw [ht, heq]
  exact putCount_encTo hc (e.count + d) (stepsTo s c e.count d)

end Sys2Proof.Machine
end

section
/-! Quadrature inputs of a position channel (R121, R123, R124, R126). -/

namespace Sys2Proof.Machine

open Sys2Proof.Claims

variable {s u : State} {c : Nat} {e : Enc} {a b : Bool} {k : Nat}

/-! ### Edges -/

/-- No edge of the channel has been accepted less than 10 TK ago (R124). -/
def edgeSlow (s : State) (e : Enc) : Prop := ∀ k, e.lastEdge = some k → 10 ≤ s.tk - k

theorem edgeNoted_slow (hc : c < s.enc.length) (h : edgeSlow s e) :
    edgeNoted c (encTo s c e) = encTo s c { e with lastEdge := some s.tk } := by
  cases hk : e.lastEdge with
  | none => simp [edgeNoted, encOf_encTo hc, hk]
  | some k => simp [edgeNoted, encOf_encTo hc, hk, Nat.not_lt.mpr (h k hk)]

theorem edgeNoted_fast (hc : c < s.enc.length) (hk : e.lastEdge = some k) (hlt : s.tk - k < 10) :
    edgeNoted c (encTo s c e) =
      encTo (encFault c 3 3 s) c { e with lastEdge := some s.tk, overspeed := true } := by
  have heq : edgeNoted c (encTo s c e) =
      encFault c 3 3 (encTo s c { e with lastEdge := some s.tk, overspeed := true }) := by
    simp [edgeNoted, encFault, encOf_encTo hc, hk, hlt]
  rw [heq, encFault_encTo]

/-! ### The decoder -/

theorem quadStep_same (hc : c < s.enc.length) (ha : e.levelA = some a) (hb : e.levelB = some b) :
    quadStep c a b (encTo s c e) = encTo s c e := by
  have he : { e with levelA := some a, levelB := some b } = e := by rw [← ha, ← hb]
  simp [quadStep, encOf_encTo hc, ha, hb, he]

/-- One line has changed (R123): A leads where it is not at B's level, B where it is at A's. -/
theorem quadStep_one (hc : c < s.enc.length) (hone : e.levelA = some a ↔ e.levelB ≠ some b) (hslow : edgeSlow s e) :
    quadStep c a b (encTo s c e) = countBy c (revSign s c (if e.levelA ≠ some a then a != b else a == b))
      (encTo s c { e with lastEdge := some s.tk, levelA := some a, levelB := some b }) := by
  by_cases ha : e.levelA = some a
  · have hb := hone.mp ha
    simp [quadStep, encOf_encTo hc, edgeNoted_slow hc hslow, ha, hb]
  · have hb : e.levelB = some b := not_not.mp (mt hone.mpr ha)
    simp [quadStep, encOf_encTo hc, edgeNoted_slow hc hslow, ha, hb]

/-- Both lines have changed, and the step is not inferred (R126). -/
theorem quadStep_both (hc : c < s.enc.length) (ha : e.levelA ≠ some a) (hb : e.levelB ≠ some b)
    (hinfer : bit (encCfg s c) 13 = false) (hslow : edgeSlow s e) :
    quadStep c a b (encTo s c e) = encTo (encFault c 1 2 s) c { e with
      lastEdge := some s.tk, levelA := some a, levelB := some b, uncertain := true } := by
  have heq : quadStep c a b (encTo s c e) = setEnc c (fun e => { e with uncertain := true })
      (encFault c 1 2 (encTo s c { e with lastEdge := some s.tk, levelA := some a, levelB := some b })) := by
    simp [quadStep, encFault, encOf_encTo hc, edgeNoted_slow hc hslow, ha, hb, hinfer]
  rw [heq, encFault_encTo, setEnc_encTo]

/-! ### Edges that come too fast -/

/-- OVERSPEED of channel `c` has been set since `s`, and counted as one (R124). -/
structure Overspeeds (c : Nat) (s t : State) : Prop where
  flag : (encOf t c).overspeed = true
  counted : countedOne s t 0xA3 (8 * c + 3)
  wf : tblWf t = true
  len : c < t.enc.length

namespace Overspeeds

theorem start (hw : tblWf s = true) (hc : c < s.enc.length) (he : e.overspeed = true) (code : Nat) :
    Overspeeds c s (encTo (encFault c 3 code s) c e) := by
  have hc' : c < (encFault c 3 code s).enc.length := by simpa using hc
  exact ⟨by rw [encOf_encTo hc', he], encFault_counted hw 3 code, encFault_wf hw 3 code, by simpa using hc⟩

theorem set (h : Overspeeds c s u) {f : Enc → Enc} (hf : ∀ e, (f e).overspeed = e.overspeed) :
    Overspeeds c s (setEnc c f u) := by
  refine ⟨?_, h.counted, h.wf, by simpa using h.len⟩
  rw [setEnc_eq, encOf_encTo h.len, hf, h.flag]

theorem fault (h : Overspeeds c s u) {j : Nat} (hj : j ≠ 3) (code : Nat) : Overspeeds c s (encFault c j code u) := by
  refine ⟨?_, (tget_encFault_other h.wf hj.symm code).trans h.counted, encFault_wf h.wf j code, by simpa using h.len⟩
  rw [encOf, encFault_enc]
  exact h.flag

theorem count (h : Overspeeds c s u) {j : Nat} (hj : j ≠ 3) : Overspeeds c s (bump 0xA3 (8 * c + j) u) := by
  refine ⟨h.flag, (tget_bump_other h.wf ?_).trans h.counted, bump_wf h.wf _ _, h.len⟩
  unfold tkey
  omega

theorem step (h : Overspeeds c s u) (d : Int) : Overspeeds c s (countBy c d u) := by
  obtain ⟨w, hd, b, heq, -⟩ := countBy_encTo h.len (congrArg (countBy c d) (encTo_encOf u c).symm)
  rw [heq]
  exact ⟨(congrArg Enc.overspeed (encOf_encTo h.len)).trans h.flag, h.counted, h.wf, by simpa using h.len⟩

/-- What the decoder does about the edge itself leaves OVERSPEED and its counter alone. -/
theorem edge (hw : tblWf s = true) (hc : c < s.enc.length) (hedge : e.levelA ≠ some a ∨ e.levelB ≠ some b)
    (hk : e.lastEdge = some k) (hlt : s.tk - k < 10) : Overspeeds c s (quadStep c a b (encTo s c e)) := by
  have h0 : Overspeeds c s (edgeNoted c (encTo s c e)) := by
    rw [edgeNoted_fast hc hk hlt]
    exact start hw hc rfl 3
  have h1 := h0.set (f := fun e => { e with levelA := some a, levelB := some b }) fun _ => rfl
  have h2 := h1.fault (j := 1) (by decide) 2
  have hca : (e.levelA != some a || e.levelB != some b) = true := by simpa using hedge
  have hfold (v : State) : encErr c 2 (bump 0xA3 (8 * c + 1) v) = encFault c 1 2 v := rfl
  simp only [quadStep, encOf_encTo hc, hca, if_true, hfold]
  split
  · split
    · exact ((h2.set (f := fun e => { e with inferred := true }) fun _ => rfl).count (j := 2) (by decide)).step _
    · exact h2.set fun _ => rfl
  · split
    · exact h1.step _
    · split
      · exact h1.step _
      · exact h1

end Overspeeds

/-! ### Samples -/

/-- Channel `e` with the samples `x` of A and `y` of B. -/
def sampled (x y : Bool) (e : Enc) : Enc := { e with smpA := smpPut x e.smpA, smpB := smpPut y e.smpB }

/-- The decoder sees the levels held for FILT + 1 samples (R121), and the index condition is looked at again. -/
theorem quadSample_eq {x y : Bool} (ha : levelAfter s c 0 x = some a) (hb : levelAfter s c 1 y = some b) :
    let t := quadStep c a b (encTo s c (sampled x y (encOf s c)))
    quadSample c x y s = setEnc c (fun e => { e with idxOn := e.idxOn && indexOn t c }) t := by
  have ha' : smpLevel (encFilt s c) (encOf s c).levelA (smpPut x (encOf s c).smpA) = some a := ha
  have hb' : smpLevel (encFilt s c) (encOf s c).levelB (smpPut y (encOf s c).smpB) = some b := hb
  have hs1 : setEnc c (fun e => { e with smpA := smpPut x e.smpA, smpB := smpPut y e.smpB }) s =
      encTo s c (sampled x y (encOf s c)) := setEnc_eq _ _ _
  simp only [quadSample, ha', hb', hs1, Option.getD_some]

theorem quadSample_of_quadStep {x y : Bool} (ha : levelAfter s c 0 x = some a) (hb : levelAfter s c 1 y = some b)
    (hstep : quadStep c a b (encTo s c (sampled x y (encOf s c))) = encTo u c e) :
    ∃ i, quadSample c x y s = encTo u c { e with idxOn := i } := by
  refine ⟨e.idxOn && indexOn (encTo u c e) c, ?_⟩
  rw [quadSample_eq ha hb]
  simp only [hstep, setEnc_encTo]

/-- A channel that is active and reads no SSI sensor knows the levels of A and B (R122). -/
theorem levels_of_encActive (hact : encActive s c = true) (hmode : encMode s c ≠ 2) :
    ∃ a b, (encOf s c).levelA = some a ∧ (encOf s c).levelB = some b := by
  simp only [encActive, encKnown, hmode, if_false, Bool.and_eq_true, Option.isSome_iff_exists] at hact
  obtain ⟨-, ⟨⟨a, ha⟩, b, hb⟩, -⟩ := hact
  exact ⟨a, b, ha, hb⟩

theorem exec_quadEdge {c : Fin 8} (hck : clocked s = true) (hact : encActive s c = true) (hmode : encMode s c = 0)
    (x y : Bool) : exec (.quadEdge c x y) s = .next (quadSample c x y s) :=
  congrArg Host.Outcome.next (if_pos (by simp [hck, hact, hmode]))

end Sys2Proof.Machine
end

section
/-! Hall inputs of a position channel (R121, R130, R131). -/

namespace Sys2Proof.Machine

open Sys2Proof.Claims

variable {s : State} {c : Nat} {e : Enc} {code : BitVec 3}

/-- Channel `e` with the code as its levels and raw position. -/
def hallSeen (code : BitVec 3) (e : Enc) : Enc :=
  { e with
    rawpos := code.toNat, levelA := some (code.getLsbD 2), levelB := some (code.getLsbD 1), levelZ := some (code.getLsbD 0) }

theorem hallStep_same (hc : c < s.enc.length) (h : e.rawpos = code.toNat) :
    hallStep c code (encTo s c e) = encTo s c (hallSeen code e) := by
  simp only [hallStep, encOf_encTo hc, h, if_true, setEnc_encTo]
  rfl

theorem hallStep_illegal (hc : c < s.enc.length) (h : e.rawpos ≠ code.toNat) (hbad : hallPlace code.toNat = 6) :
    hallStep c code (encTo s c e) = encTo (encFault c 4 4 s) c { hallSeen code e with hallbad := true } := by
  rw [← encFault_encTo]
  simp only [hallStep, encOf_encTo hc, h, if_false, hbad, if_true, setEnc_encTo, hallIllegal]
  rfl

/-- A code one place on from the last legal one, or one place back (R130). -/
theorem hallStep_adjacent (hc : c < s.enc.length) (h : e.rawpos ≠ code.toNat) (hplace : hallPlace code.toNat ≠ 6) {l : Nat}
    (hl : e.hallLast = some l) (hm : (hallPlace code.toNat + 6 - hallPlace l) % 6 = 1 ∨
      (hallPlace code.toNat + 6 - hallPlace l) % 6 = 5) :
    hallStep c code (encTo s c e) =
      countBy c (revSign s c ((hallPlace code.toNat + 6 - hallPlace l) % 6 == 1))
        (encTo s c { hallSeen code e with hallLast := some code.toNat }) := by
  rcases hm with hm | hm <;>
    simp only [hallStep, encOf_encTo hc, h, if_false, hplace, setEnc_encTo, hl, hm] <;> rfl

theorem hallStep_skip (hc : c < s.enc.length) (h : e.rawpos ≠ code.toNat) (hplace : hallPlace code.toNat ≠ 6) {l : Nat}
    (hl : e.hallLast = some l) (hne1 : (hallPlace code.toNat + 6 - hallPlace l) % 6 ≠ 1)
    (hne5 : (hallPlace code.toNat + 6 - hallPlace l) % 6 ≠ 5) :
    hallStep c code (encTo s c e) = encTo (encFault c 1 5 s) c
      { hallSeen code e with hallLast := some code.toNat, hallskip := true, uncertain := true } := by
  rw [← encFault_encTo]
  simp only [hallStep, encOf_encTo hc, h, if_false, hplace, setEnc_encTo, hl, hne1, hne5]
  rfl

/-- The three bits of a code. -/
theorem ofNat_bits (code : BitVec 3) :
    BitVec.ofNat 3 (atBit (code.getLsbD 2) 2 + atBit (code.getLsbD 1) 1 + atBit (code.getLsbD 0) 0) = code := by
  revert code
  decide

/-- Channel `e` with the samples of U, V and W. -/
def hallSampled (x : BitVec 3) (e : Enc) : Enc :=
  { e with
    smpA := smpPut (x.getLsbD 2) e.smpA, smpB := smpPut (x.getLsbD 1) e.smpB, smpZ := smpPut (x.getLsbD 0) e.smpZ }

/-- The code of the levels held for FILT + 1 samples makes the step (R121). -/
theorem hallSample_eq {x : BitVec 3}
    (hlevel : ∀ i < 3, levelAfter s c i (x.getLsbD (2 - i)) = some (code.getLsbD (2 - i))) :
    hallSample c x s = hallStep c code (encTo s c (hallSampled x (encOf s c))) := by
  have ha : smpLevel (encFilt s c) (encOf s c).levelA (smpPut (x.getLsbD 2) (encOf s c).smpA) = _ := hlevel 0 (by decide)
  have hb : smpLevel (encFilt s c) (encOf s c).levelB (smpPut (x.getLsbD 1) (encOf s c).smpB) = _ := hlevel 1 (by decide)
  have hz : smpLevel (encFilt s c) (encOf s c).levelZ (smpPut (x.getLsbD 0) (encOf s c).smpZ) = _ := hlevel 2 (by decide)
  have hbool (b : Bool) : (some b == some true) = b := by cases b <;> rfl
  simp only [hallSample, ha, hb, hz, hbool, Nat.sub_zero, Nat.sub_self, Nat.reduceSub, ofNat_bits, setEnc_eq]
  rfl

theorem exec_hallCodeChange {c : Fin 8} (hck : clocked s = true) (hact : encActive s c = true) (hmode : encMode s c = 1)
    (x : BitVec 3) : exec (.hallCodeChange c x) s = .next (hallSample c x s) :=
  congrArg Host.Outcome.next (if_pos (by simp [hck, hact, hmode]))

end Sys2Proof.Machine
end

section
/-! SSI channels (R132, R133). -/

namespace Sys2Proof.Machine

open Sys2Proof.Claims

variable {s t : State} {c : Nat} {e : Enc} {crc err mono : Bool}

/-! ### The faults of a frame -/

/-- Counter `k` of channel `c` and its error, where there is a fault. -/
def encFaultIf (b : Bool) (c k code : Nat) (s : State) : State := if b then encFault c k code s else s

theorem encFaultIf_encTo (b : Bool) (k code : Nat) :
    encFaultIf b c k code (encTo s c e) = encTo (encFaultIf b c k code s) c e := by
  cases b
  · rfl
  · exact encFault_encTo k code

/-- What a fault that counts in word `k` of channel `c` leaves alone. -/
structure FaultKeeps (c k : Nat) (s t : State) : Prop where
  wf : tblWf t = true
  enc : t.enc = s.enc
  tick : t.tick = s.tick
  runs : coreRuns t = coreRuns s
  words : ∀ j, j ≠ k → tget t 0xA3 (8 * c + j) = tget s 0xA3 (8 * c + j)

theorem encFaultIf_keeps (hw : tblWf s = true) (b : Bool) (c k code : Nat) : FaultKeeps c k s (encFaultIf b c k code s) := by
  cases b
  · exact ⟨hw, rfl, rfl, rfl, fun _ _ => rfl⟩
  · exact ⟨encFault_wf hw k code, encFault_enc k code, encFault_tick k code, encFault_runs k code,
      fun _ hj => tget_encFault_other hw hj code⟩

/-- A frame's faults, counted and recorded one after the other (R132 step 6). -/
def ssiFrameFaults (c : Nat) (crc err mono : Bool) (s : State) : State :=
  encFaultIf mono c 7 8 (encFaultIf err c 6 7 (encFaultIf crc c 5 6 s))

theorem ssiFault_encTo : ssiFault c crc err mono (encTo s c e) = encTo (ssiFrameFaults c crc err mono s) c
    { e with
      stale := true, ssicrc := e.ssicrc || crc, ssierr := e.ssierr || err, ssimono := e.ssimono || mono, ssiBusy := false } := by
  simp only [ssiFrameFaults, ← encFaultIf_encTo]
  rw [ssiFault, setEnc_encTo]
  rfl

/-- Each fault counts in its own word, and the last of them is the newest error. -/
theorem ssiFrameFaults_spec (hw : tblWf s = true) (hr : coreRuns s = true) :
    let t := ssiFrameFaults c crc err mono s
    t.enc = s.enc ∧ (crc = true → countedOne s t 0xA3 (8 * c + 5)) ∧ (err = true → countedOne s t 0xA3 (8 * c + 6)) ∧
    (mono = true → countedOne s t 0xA3 (8 * c + 7)) ∧
    (mono = true → newestError t s.tick (errWord 4 (c * 32 + 8))) ∧
    (mono = false → err = true → newestError t s.tick (errWord 4 (c * 32 + 7))) ∧
    (mono = false → err = false → crc = true → newestError t s.tick (errWord 4 (c * 32 + 6))) := by
  have h1 := encFaultIf_keeps hw crc c 5 6
  have h2 := encFaultIf_keeps h1.wf err c 6 7
  have h3 := encFaultIf_keeps h2.wf mono c 7 8
  have hr1 := h1.runs.trans hr
  have hr2 := h2.runs.trans hr1
  refine ⟨h3.enc.trans (h2.enc.trans h1.enc), ?_, ?_, ?_, ?_, ?_, ?_⟩
  · rintro rfl
    exact (h3.words 5 (by decide)).trans ((h2.words 5 (by decide)).trans (encFault_counted hw 5 6))
  · rintro rfl
    refine (h3.words 6 (by decide)).trans ((encFault_counted h1.wf 6 7).trans ?_)
    rw [tnat, h1.words 6 (by decide), tnat]
  · rintro rfl
    refine (encFault_counted h2.wf 7 8).trans ?_
    rw [tnat, h2.words 7 (by decide), h1.words 7 (by decide), tnat]
  · rintro rfl
    rw [← h1.tick, ← h2.tick]
    exact encFault_newest hr2 7 8
  · rintro rfl rfl
    rw [← h1.tick]
    exact encFault_newest hr1 6 7
  · rintro rfl rfl rfl
    exact encFault_newest hr 5 6

/-! ### A readout begins -/

/-- Channel `e` with its next readout due (R132 step 1). -/
def ssiBegun (s : State) (c : Nat) (e : Enc) : Enc :=
  { e with ssiFrom := e.ssiNext, ssiNext := e.ssiNext + 250 * tnat s 0xA2 (16 * c + 9) }

theorem ssiStart_high : ssiStart c true s = encTo s c { ssiBegun s c (encOf s c) with ssiBusy := true } := by
  simp only [ssiStart, if_true, setEnc_eq c _ s, setEnc_encTo, ssiPeriodTk, usTk, Nat.mul_comm _ 250]
  rfl

theorem ssiStart_low : ssiStart c false s =
    ssiFault c false false true (encTo s c (ssiBegun s c (encOf s c))) := by
  simp only [ssiStart, setEnc_eq c _ s, ssiPeriodTk, usTk, Nat.mul_comm _ 250]
  rfl

theorem exec_ssiFrameStart {c : Fin 8} (hck : clocked s = true) (hact : encActive s c = true) (hmode : encMode s c = 2)
    (hdue : (encOf s c).ssiNext ≤ s.tk) (high : Bool) : exec (.ssiFrameStart c high) s = .next (ssiStart c high s) :=
  congrArg Host.Outcome.next (if_pos (by simp [hck, hact, hmode, hdue]))

/-! ### A frame ends -/

theorem ssiEnd_fault {fr : List Bool} {ok : Bool} (h : (ssiCrcBad s c fr || ssiErrBad s c fr || !ok) = true) :
    ssiEnd c fr ok s = ssiFault c (ssiCrcBad s c fr) (ssiErrBad s c fr) (!ok) s :=
  if_pos h

/-- A frame without a fault gives the count (R133). -/
theorem ssiEnd_good {fr : List Bool} (hcrc : ssiCrcBad s c fr = false)
    (herr : ssiErrBad s c fr = false) (hlo : (softLimits s c).1 ≤ ssiPosition s c fr + (encOf s c).ssiOffset)
    (hhi : ssiPosition s c fr + (encOf s c).ssiOffset ≤ (softLimits s c).2) :
    ∃ e, ssiEnd c fr true s = encTo s c e ∧ e.count = ssiPosition s c fr + (encOf s c).ssiOffset ∧
      e.rawpos = ssiPosition s c fr ∧ e.stale = false ∧ e.ssiBusy = false := by
  refine ⟨?e, ?taken, ?fields⟩
  case taken =>
    simp only [ssiEnd, hcrc, herr, setEnc_eq c _ s]
    exact loadCount_inLimits hlo hhi
  case fields => exact ⟨rfl, rfl, rfl, rfl⟩

theorem exec_ssiFrameEnd {c : Fin 8} (hck : clocked s = true) (hmode : encMode s c = 2) (hbusy : (encOf s c).ssiBusy = true)
    {runs : List (Nat × Bool)} {rest : Bool} (hend : ssiEndTk s c (runs ++ [(0, rest)]) ≤ s.tk) :
    exec (.ssiFrameEnd c runs rest) s = .next (ssiEnd c (ssiBits s c (runs ++ [(0, rest)]))
      (ssiMonoflop s c (runs ++ [(0, rest)])).2 s) :=
  congrArg Host.Outcome.next (if_pos (by simp [hck, hbusy, hmode, hend]))

end Sys2Proof.Machine
end

section
/-! How the position channels count (O40). -/

namespace Sys2Proof.Machine

open Sys2Proof.Claims

variable {s : State} {c : Fin 8}

/-- A frame with a fault is discarded (R132 step 6). -/
theorem ssiEnd_bad (hw : WfState s) (hck : clocked s = true) {fr : List Bool} {ok : Bool}
    (h : ssiCrcBad s c fr = true ∨ ssiErrBad s c fr = true ∨ ok = false) :
    let t := ssiEnd c fr ok s
    ((encOf t c).count = (encOf s c).count ∧ (encOf t c).stale = true ∧ (encOf t c).ssiBusy = false) ∧
    (ok = true → ssiCrcBad s c fr = true → ssiErrBad s c fr = false → (encOf t c).ssicrc = true ∧
      countedOne s t 0xA3 (8 * c + 5) ∧ newestError t s.tick (errWord 4 (c * 32 + 6))) ∧
    (ok = true → ssiErrBad s c fr = true → (encOf t c).ssierr = true ∧
      countedOne s t 0xA3 (8 * c + 6) ∧ newestError t s.tick (errWord 4 (c * 32 + 7))) ∧
    (ok = false → (encOf t c).ssimono = true ∧
      countedOne s t 0xA3 (8 * c + 7) ∧ newestError t s.tick (errWord 4 (c * 32 + 8))) := by
  obtain ⟨henc, h5, h6, h7, hn8, hn7, hn6⟩ := ssiFrameFaults_spec (c := c) (crc := ssiCrcBad s c fr)
    (err := ssiErrBad s c fr) (mono := !ok) hw.tbl (coreRuns_of_clocked hck)
  have hlen : c.val < (ssiFrameFaults c (ssiCrcBad s c fr) (ssiErrBad s c fr) (!ok) s).enc.length := henc ▸ channel_lt hw c
  have heq := (ssiEnd_fault (s := s) (c := c) (fr := fr) (ok := ok) (by simpa [or_assoc] using h)).trans
    (congrArg _ (encTo_encOf s c).symm)
  rw [ssiFault_encTo] at heq
  dsimp only
  rw [heq, encOf_encTo hlen]
  refine ⟨⟨rfl, rfl, rfl⟩, fun hok hcrc herr => ⟨?_, h5 hcrc, hn6 (by simp [hok]) herr hcrc⟩,
    fun hok herr => ⟨?_, h6 herr, hn7 (by simp [hok]) herr⟩, fun hok => ⟨?_, h7 (by simp [hok]), hn8 (by simp [hok])⟩⟩
  · simp [hcrc]
  · simp [herr]
  · simp [hok]

end Sys2Proof.Machine

open Sys2Proof.Machine Sys2Proof.Claims

/-- Settles O40: each sample by the levels that it leads to, an edge by the lines that changed, a Hall code by its place,
a frame by its faults. -/
theorem positionCounting : Obligations.PositionCounting := by
  intro s c hw hck hact
  have hc := channel_lt hw c
  have hr := coreRuns_of_clocked hck
  refine ⟨fun x y hm hx hy => ?_, fun x y a b hm hx hy hone hslow => ?_, fun x y a b k hm hx hy hedge hk hlt => ?_,
    fun x y a b hm hx hy hxa hyb hinfer hslow => ?_, fun x code hm hlevel => ?_, fun hm hdue => ?_,
    fun runs rest hm hbusy hend => ?_⟩
  · obtain ⟨a, b, ha, hb⟩ := levels_of_encActive hact (by omega)
    obtain ⟨i, hq⟩ := quadSample_of_quadStep (hx.trans ha) (hy.trans hb) (quadStep_same hc ha hb)
    refine ⟨_, exec_quadEdge hck hact hm x y, ?_⟩
    rw [hq, encOf_encTo hc]
    exact ⟨rfl, rfl, rfl, rfl⟩
  · obtain ⟨w, h, b', hcount, hsame, hheld⟩ := countBy_encTo hc (quadStep_one (e := sampled x y (encOf s c)) hc hone hslow)
    obtain ⟨i, hq⟩ := quadSample_of_quadStep hx hy hcount
    refine ⟨_, exec_quadEdge hck hact hm x y, ?_⟩
    rw [hq, encOf_encTo (s := { s with host := w }) hc]
    exact ⟨rfl, rfl, rfl, rfl, rfl, rfl, otherChannels_encTo rfl, rfl, hsame, hheld⟩
  · have hfast : Overspeeds c s (quadSample c x y s) := by
      rw [quadSample_eq hx hy]
      exact (Overspeeds.edge (e := sampled x y (encOf s c)) hw.tbl hc hedge hk hlt).set fun _ => rfl
    exact ⟨_, exec_quadEdge hck hact hm x y, hfast.flag, hfast.counted⟩
  · have hlen : c.val < (encFault c 1 2 s).enc.length := by simpa using hc
    obtain ⟨i, hq⟩ := quadSample_of_quadStep hx hy (quadStep_both hc hxa hyb hinfer hslow)
    refine ⟨_, exec_quadEdge hck hact hm x y, ?_⟩
    rw [hq, encOf_encTo hlen]
    exact ⟨rfl, encFault_counted hw.tbl 1 2, encFault_newest hr 1 2, otherChannels_encTo (encFault_enc 1 2)⟩
  · have hgo := (exec_hallCodeChange hck hact hm x).trans (congrArg _ (hallSample_eq hlevel))
    refine ⟨fun h => ?_, fun l h hplace _ hl => ⟨fun hm1 hin => ?_, fun hne1 hne5 => ?_⟩, fun h hbad => ?_⟩
    · rw [hallStep_same (e := hallSampled x (encOf s c)) hc h] at hgo
      refine ⟨_, hgo, ?_⟩
      rw [encOf_encTo hc]
      exact ⟨rfl, rfl⟩
    · obtain ⟨w, hd, b, hcount, hsame, -⟩ := countBy_encTo hc
        (hallStep_adjacent (e := hallSampled x (encOf s c)) hc h hplace hl hm1)
      rw [hcount] at hgo
      have hto : stepsTo s c (encOf s c).count (revSign s c _) = _ := stepsTo_inLimits hin.1 hin.2
      refine ⟨_, hgo, ?_⟩
      rw [encOf_encTo (s := { s with host := w }) hc]
      exact ⟨hto, rfl, rfl, (hsame hto).1⟩
    · have hlen : c.val < (encFault c 1 5 s).enc.length := by simpa using hc
      rw [hallStep_skip (e := hallSampled x (encOf s c)) hc h hplace hl hne1 hne5] at hgo
      refine ⟨_, hgo, ?_⟩
      rw [encOf_encTo hlen]
      exact ⟨rfl, rfl, rfl, encFault_counted hw.tbl 1 5, encFault_newest hr 1 5⟩
    · have hlen : c.val < (encFault c 4 4 s).enc.length := by simpa using hc
      have hplace : hallPlace code.toNat = 6 := by rcases hbad with rfl | rfl <;> rfl
      rw [hallStep_illegal (e := hallSampled x (encOf s c)) hc h hplace] at hgo
      refine ⟨_, hgo, ?_⟩
      rw [encOf_encTo hlen]
      exact ⟨rfl, rfl, encFault_counted hw.tbl 4 4, encFault_newest hr 4 4⟩
  · refine ⟨⟨_, exec_ssiFrameStart hck hact hm hdue true, ?_⟩, ⟨_, exec_ssiFrameStart hck hact hm hdue false, ?_⟩⟩
    · rw [ssiStart_high, encOf_encTo hc]
      exact ⟨otherChannels_encTo rfl, rfl, rfl⟩
    · obtain ⟨henc, -, -, h7, hn8, -, -⟩ := ssiFrameFaults_spec (c := c) (crc := false) (err := false) (mono := true)
        hw.tbl hr
      have hlen : c.val < (ssiFrameFaults c false false true s).enc.length := by rwa [henc]
      rw [ssiStart_low, ssiFault_encTo, encOf_encTo hlen]
      exact ⟨rfl, Bool.or_true _, rfl, h7 rfl, hn8 rfl⟩
  · have hgo := exec_ssiFrameEnd hck hm hbusy hend
    have hfault := ssiEnd_bad (c := c) (fr := ssiBits s c (runs ++ [(0, rest)])) (ok := (ssiMonoflop s c (runs ++ [(0, rest)])).2)
      hw hck
    refine ⟨fun hok hcrc herr hin => ?_, fun hok hcrc herr => ?_, fun hok herr => ?_, fun hok => ?_⟩
    · obtain ⟨e, heq, hcount, hraw, hstale, hfree⟩ := ssiEnd_good hcrc herr hin.1 hin.2
      rw [hok, heq] at hgo
      refine ⟨_, hgo, ?_⟩
      rw [encOf_encTo hc]
      exact ⟨hcount, hraw, hstale, hfree, rfl, rfl⟩
    · obtain ⟨hbad, hspec, -, -⟩ := hfault (.inl hcrc)
      exact ⟨_, ⟨hgo, hbad⟩, hspec hok hcrc herr⟩
    · obtain ⟨hbad, -, hspec, -⟩ := hfault (.inr (.inl herr))
      exact ⟨_, ⟨hgo, hbad⟩, hspec hok herr⟩
    · obtain ⟨hbad, -, -, hspec⟩ := hfault (.inr (.inr hok))
      exact ⟨_, ⟨hgo, hbad⟩, hspec hok⟩
end

section
/-! Enabling, levels, count writes and the index of a position channel (R118-R122, R128, R129). -/

namespace Sys2Proof.Machine

open Sys2Proof.Claims

variable {s : State} {c : Nat} {e : Enc}

/-! ### ENC_CTL -/

theorem gridInactive_encTo : ∃ g, gridInactive c (encTo s c e) = encTo { s with grid := g } c e := by
  unfold gridInactive
  split
  · exact ⟨(gridUnlock { s with grid.lastStamp := none }).grid, rfl⟩
  · exact ⟨s.grid, rfl⟩

/-- EN starts the channel over (R118, R122, R125). -/
theorem encEnableOp_encTo (h : (encOf s c).en = false) : let e := encOf s c
    ∃ g, encEnableOp c s = encTo { s with grid := g } c { e with
      en := true, counted := false, intervals := [], ssiGood := [], stale := true, prevIndex := none, broken := false
      levelA := none, levelB := none, levelZ := none, hallLast := none, ssiBusy := false, lastEdge := none
      idxOn := false, velHeld := none
      smpA := { e.smpA with n := 1 }, smpB := { e.smpB with n := 1 }, smpZ := { e.smpZ with n := 1 } } := by
  simp only [encEnableOp, h, encRestart, setEnc_eq c _ s, setEnc_encTo]
  exact gridInactive_encTo

/-- Clearing EN freezes the velocity (R120). -/
theorem encDisableOp_encTo (h : (encOf s c).en = true) : ∃ g, encDisableOp c s =
    encTo { s with grid := g } c { encOf s c with en := false, velFrozen := encVel s c, ssiBusy := false } := by
  simp only [encDisableOp, h, setEnc_eq c _ s]
  exact gridInactive_encTo

/-- An operation of ENC_CTL acts where no power entry holds it and the node is not in REST (R359, R362). -/
theorem encWrite_acts (hentry : s.pwr.entering = none) (hrest : inRest s = false) (h : Held) (op : Nat) :
    routedOp h (encWrite op c) s = encOp op c s := by
  rw [routedOp_acts hrest, encWrite, if_neg (by simp [entryHolds, hentry])]

/-! ### Levels (R122) -/

/-- A channel that becomes active counts nothing, and its levels stay. -/
theorem encStarts_encTo : ∃ u e', encStarts c (encTo s c e) = encTo u c e' ∧ u.enc = s.enc ∧
    e'.levelA = e.levelA ∧ e'.levelB = e.levelB ∧ e'.levelZ = e.levelZ ∧ e'.count = e.count := by
  have hill (u : State) (e : Enc) :
      hallIllegal c (encTo u c e) = encTo (encFault c 4 4 u) c { e with hallbad := true } := by
    rw [← encFault_encTo, ← setEnc_encTo (f := fun e => { e with hallbad := true })]
    rfl
  simp only [encStarts, setEnc_encTo, hill]
  split
  · exact ⟨_, _, rfl, encFault_enc 4 4, rfl, rfl, rfl, rfl⟩
  · exact ⟨_, _, rfl, rfl, rfl, rfl, rfl, rfl⟩

/-- A level that is not yet known becomes known once it has been held; a known one stays. -/
theorem levelKnown_encTo (pin : Fin 3) (l : Bool) :
    let e := encOf s c
    let known (i : Fin 3) (old : Option Bool) (x : Sampler) : Option Bool :=
      if pin = i ∧ old = none then smpHeld (max (encFilt s c + 1) 4) (smpPut l x) else old
    ∃ u e', levelKnown c pin l s = encTo u c e' ∧ u.enc = s.enc ∧ e'.levelA = known 0 e.levelA e.smpA ∧
      e'.levelB = known 1 e.levelB e.smpB ∧ e'.levelZ = known 2 e.levelZ e.smpZ ∧ e'.count = e.count := by
  intro e known
  have hstarts (e₁ : Enc) (b : Bool) : ∃ u e', (if b then encStarts c (encTo s c e₁) else encTo s c e₁) = encTo u c e' ∧
      u.enc = s.enc ∧
      e'.levelA = e₁.levelA ∧ e'.levelB = e₁.levelB ∧ e'.levelZ = e₁.levelZ ∧ e'.count = e₁.count := by
    cases b
    · exact ⟨s, e₁, rfl, rfl, rfl, rfl, rfl, rfl⟩
    · exact encStarts_encTo
  simp only [levelKnown, setEnc_eq c _ s]
  obtain ⟨u, e', heq, henc, hA, hB, hZ, hn⟩ := hstarts _ _
  refine ⟨u, e', heq, henc, hA.trans ?_, hB.trans ?_, hZ.trans ?_, hn.trans ?_⟩ <;> clear heq hA hB hZ hn
  · fin_cases pin <;> cases (encOf s c).levelA <;> simp [known, e, smpFirst]
  · fin_cases pin <;> cases (encOf s c).levelB <;> simp [known, e, smpFirst]
  · fin_cases pin <;> cases (encOf s c).levelZ <;> simp [known, e, smpFirst]
  · fin_cases pin <;> rfl

/-! ### Count writes (R128, R148) -/

theorem clearGridOfs_encTo (hc : c < s.enc.length) : clearGridOfs c (encTo s c e) =
    encTo { s with grid := if isGridSource s c then { s.grid with ofs := 0, lastG := e.count } else s.grid } c e := by
  simp only [clearGridOfs, isGridSource_encTo, encOf_encTo hc]
  split <;> rfl

theorem clearGridOfs_other (h : isGridSource s c = false) : clearGridOfs c s = s := if_neg (by simp [h])

/-- A count write loads the count, saturated at the soft limits. -/
theorem countWriteOp_encTo (hc : c < s.enc.length) (hmode : encMode s c ≠ 2) (hi : Word) :
    let n := signed 32 (hi.toNat * 65536 + (encOf s c).stageLo.toNat)
    let m := clampInt n (softLimits s c).1 (softLimits s c).2
    ∃ w b, countWriteOp c hi s =
      encTo { s with
        host := w, grid := if isGridSource s c then { s.grid with ofs := 0, lastG := m } else s.grid } c
        { encOf s c with count := m, held := decide (m ≠ n), broken := b } ∧ (m = n → w = s.host) := by
  intro n m
  obtain ⟨w, h, b, heq, hsame, hheld⟩ := loadCount_encTo (s := s)
    (e := { encOf s c with held := false, broken := true }) hc n
  have hh : h = decide (m ≠ n) := by
    by_cases hm : m = n
    · simpa [hm] using (hsame hm).2
    · simpa [hm] using hheld hm
  refine ⟨w, b, ?_, fun hm => (hsame hm).1⟩
  have hgo : countWriteOp c hi s =
      clearGridOfs c (loadCount c n (encTo s c { encOf s c with held := false, broken := true })) := by
    simp only [countWriteOp, setEnc_eq c _ s, hmode, if_false]
    rfl
  rw [hgo, heq, clearGridOfs_encTo (s := { s with host := w }) hc, hh]
  rfl

/-! ### The index (R129) -/

/-- Channel `c` with the sample `z` of Z, which may change the filtered level. -/
def zSampled (s : State) (c : Nat) (z : Bool) : Enc :=
  { encOf s c with smpZ := smpPut z (encOf s c).smpZ, levelZ := levelAfter s c 2 z }

theorem indexOn_zSampled (hc : c < s.enc.length) (z : Bool) : indexOn (encTo s c (zSampled s c z)) c =
    (levelAfter s c 2 z == some (!bit (encCfg s c) 10) && zgateHolds s c) := by
  simp only [indexOn, zgateHolds, encOf_encTo hc, encCfg_encTo]
  rfl

theorem indexSample_eq (z : Bool) : indexSample c z s =
    let on := indexOn (encTo s c (zSampled s c z)) c
    let s2 := encTo s c { zSampled s c z with idxOn := on }
    if on && !(encOf s c).idxOn then
      if isGridSource s c then gridIndex (indexVerdict s2 c) (indexStep c s2) else indexStep c s2
    else s2 := by
  have hs1 : setEnc c (fun e => { e with
      smpZ := smpPut z e.smpZ, levelZ := smpLevel (encFilt s c) e.levelZ (smpPut z e.smpZ) }) s =
      encTo s c (zSampled s c z) := setEnc_eq _ _ _
  simp only [indexSample, hs1, setEnc_encTo]

theorem indexSample_idle (hc : c < s.enc.length) {z : Bool} (h : ¬ indexRises s c z) :
    ∃ i, indexSample c z s = encTo s c { zSampled s c z with idxOn := i } := by
  have hon : (indexOn (encTo s c (zSampled s c z)) c && !(encOf s c).idxOn) = false := by
    rw [indexOn_zSampled hc, Bool.eq_false_iff]
    exact fun h' => h (by simpa [and_assoc] using h')
  refine ⟨indexOn (encTo s c (zSampled s c z)) c, ?_⟩
  simp only [indexSample_eq, hon, Bool.false_eq_true, if_false]

theorem indexSample_rises (hc : c < s.enc.length) {z : Bool} (h : indexRises s c z) (hg : isGridSource s c = false) :
    indexSample c z s = indexStep c (encTo s c { zSampled s c z with idxOn := true }) := by
  have hon : indexOn (encTo s c (zSampled s c z)) c = true := by
    rw [indexOn_zSampled hc]
    simp [h.1, h.2.1]
  simp [indexSample_eq, hon, h.2.2, hg]

/-- The first index after a rehome is armed loads ENC_HOME (R128). -/
theorem indexStep_rehome (hc : c < s.enc.length) (hp : e.prevIndex = none) (harm : e.rehomeArmed = true)
    (hg : isGridSource s c = false) : let n := tint32 s 0xA0 (16 * c + 9)
    let m := clampInt n (softLimits s c).1 (softLimits s c).2
    ∃ w h, indexStep c (encTo s c e) = encTo { s with host := w } c
      { e with rehomeArmed := false, uncertain := false, count := m, held := h, prevIndex := some m, broken := false } := by
  intro n m
  obtain ⟨w, h, b, heq, -⟩ := loadCount_encTo (s := s)
    (e := { e with rehomeArmed := false, held := false, uncertain := false }) hc n
  have hclear (e : Enc) : clearGridOfs c (encTo { s with host := w } c e) = encTo { s with host := w } c e :=
    clearGridOfs_other hg
  have hverdict : indexVerdict (encTo s c e) c = none := by simp only [indexVerdict, encOf_encTo hc, hp]
  have hgo : indexStep c (encTo s c e) = setEnc c (fun e => { e with prevIndex := some e.count, broken := false })
      (clearGridOfs c (loadCount c n (encTo s c { e with rehomeArmed := false, held := false, uncertain := false }))) := by
    simp only [indexStep, encOf_encTo hc, hp, hverdict, harm, if_true, reduceCtorEq, if_false, setEnc_encTo]
    rfl
  refine ⟨w, h, ?_⟩
  rw [hgo, heq, hclear, setEnc_encTo]

/-- A revolution that is off by more than the tolerance. -/
theorem indexVerdict_miss (hc : c < s.enc.length) {p : Int} (hp : e.prevIndex = some p) (hbroken : e.broken = false)
    (hcheck : indexChecked s c = true)
    (hmiss : tnat s 0xA0 (16 * c + 1) < ((e.count - p).natAbs : Int) - 4 * tnat32 s 0xA0 (16 * c + 2) ∨
      tnat s 0xA0 (16 * c + 1) < (4 * tnat32 s 0xA0 (16 * c + 2) : Int) - (e.count - p).natAbs) :
    indexVerdict (encTo s c e) c = some true := by
  simp only [indexVerdict, encOf_encTo hc, hp, indexChecked_encTo, hcheck, hbroken, tnat_encTo,
    Option.some.injEq, decide_eq_true_eq, Bool.not_false, Bool.and_self, if_true, tnat32_encTo]
  split <;> omega

theorem indexStep_miss (hc : c < s.enc.length) {p : Int} (hp : e.prevIndex = some p) (harm : e.rehomeArmed = false)
    (hbroken : e.broken = false) (hcheck : indexChecked s c = true)
    (hverdict : indexVerdict (encTo s c e) c = some true) :
    indexStep c (encTo s c e) = encTo (encFault c 0 1 s) c
      { e with lastRev := e.count - p, idx := true, prevIndex := some e.count } := by
  have hfault (e : Enc) : encErr c 1 (bump 0xA3 (8 * c) (encTo s c e)) = encTo (encFault c 0 1 s) c e := encFault_encTo 0 1
  simp only [indexStep, encOf_encTo hc, hp, indexChecked_encTo, hcheck, hverdict, if_true, setEnc_encTo, hfault,
    harm, Bool.false_eq_true, if_false]
  rw [← hbroken]

end Sys2Proof.Machine
end

section
/-! The position channels (O39). -/

open Sys2Proof.Machine Sys2Proof.Claims

/-- Settles O39: each command by the state of the channel that its operation leads to, an index event by whether the
condition rises, by the rehome and by the revolution. -/
theorem positionChannels : Obligations.PositionChannels := by
  intro s c hw hck
  have hc := channel_lt hw c
  refine ⟨fun hen hentry hrest => ?_, fun hen hentry hrest => ?_, fun hentry hrest => ?_, fun pin l hen => ?_,
    fun hen hold hm => ?_, fun hi hrest hm => ?_, fun z hact hm hidle => ?_, fun z hact hrise hm hp harm hg => ?_,
    fun z p lines hact hrise hm hp harm hg hchk hbroken hlines hne hmiss => ?_⟩
  · obtain ⟨g, hgo⟩ := encEnableOp_encTo hen
    refine ⟨_, congrArg Host.Outcome.next (if_pos hck), ?_⟩
    rw [encWrite_acts hentry hrest, encOp, hgo, encOf_encTo (s := { s with grid := g }) hc]
    exact ⟨rfl, otherChannels_encTo rfl, rfl, rfl⟩
  · obtain ⟨g, hgo⟩ := encDisableOp_encTo hen
    refine ⟨_, congrArg Host.Outcome.next (if_pos hck), ?_⟩
    rw [encWrite_acts hentry hrest, encOp, hgo, encOf_encTo (s := { s with grid := g }) hc]
    refine ⟨rfl, ?_, otherChannels_encTo rfl, rfl, rfl⟩
    simp [encVel, encOf_encTo (s := { s with grid := g }) hc]
  · refine ⟨_, congrArg Host.Outcome.next (if_pos hck), ?_⟩
    rw [encWrite_acts hentry hrest, encOp, setEnc_eq, encOf_encTo hc]
    exact ⟨rfl, otherChannels_encTo rfl, rfl⟩
  · obtain ⟨u, e', hgo, henc, hA, hB, hZ, hcount⟩ := levelKnown_encTo (s := s) (c := c) pin l
    refine ⟨_, congrArg Host.Outcome.next (if_pos (by simp [hck, hen])), ?_⟩
    rw [hgo, encOf_encTo (henc ▸ hc)]
    exact ⟨hA, hB, hZ, hcount, otherChannels_encTo henc⟩
  · refine ⟨_, congrArg Host.Outcome.next (if_pos (by simp [hck, hen, hold])), ?_⟩
    rw [setEnc_eq, encOf_encTo hc]
    refine ⟨rfl, ?_, otherChannels_encTo rfl, rfl⟩
    simp [encVel, encOf_encTo hc, hen, hm]
  · obtain ⟨w, b, hgo, hhost⟩ := countWriteOp_encTo hc hm hi
    refine ⟨_, congrArg Host.Outcome.next (if_pos hck), ?_⟩
    rw [routedOp_acts hrest, hgo, encOf_encTo (by exact hc)]
    exact ⟨rfl, rfl, rfl, otherChannels_encTo rfl, rfl, fun h => hhost (by simpa using h)⟩
  · obtain ⟨i, hgo⟩ := indexSample_idle hc hidle
    refine ⟨_, congrArg Host.Outcome.next (if_pos (by simp [hck, hact, hm])), ?_⟩
    rw [hgo, encOf_encTo hc]
    exact ⟨rfl, rfl, rfl, rfl⟩
  · obtain ⟨w, h, hgo⟩ := indexStep_rehome (e := { zSampled s c z with idxOn := true }) hc hp harm hg
    refine ⟨_, congrArg Host.Outcome.next (if_pos (by simp [hck, hact, hm])), ?_⟩
    rw [indexSample_rises hc hrise hg, hgo, encOf_encTo (s := { s with host := w }) hc]
    exact ⟨rfl, rfl, rfl, rfl⟩
  · have hcheck : indexChecked s c = true := by simp [indexChecked, hchk, ← hlines, hne]
    have hgo := indexStep_miss (e := { zSampled s c z with idxOn := true }) hc hp harm hbroken hcheck
      (indexVerdict_miss hc hp hbroken hcheck (hlines ▸ hmiss))
    refine ⟨_, congrArg Host.Outcome.next (if_pos (by simp [hck, hact, hm])), ?_⟩
    rw [indexSample_rises hc hrise hg, hgo, encOf_encTo (by simpa using hc)]
    exact ⟨rfl, encFault_counted hw.tbl 0 1, encFault_newest (coreRuns_of_clocked hck) 0 1⟩
end

section
/-! The state after power-on (O4). -/

namespace Sys2Proof.Machine

theorem reset_wf : WfState State.reset :=
  ⟨rfl, rfl, rfl, rfl, rfl, rfl, rfl, rfl, rfl, rfl, rfl, rfl, rfl, rfl, rfl, rfl, rfl, rfl⟩

end Sys2Proof.Machine

open Sys2Proof.Machine

/-- Settles O4: each value as the reset state has it. -/
theorem resetState : Obligations.ResetState :=
  ⟨reset_wf, rfl, rfl, rfl, fun _ hg => groupGateOpen_headid (BitVec.getLsbD_allOnes.trans (decide_eq_true hg)), by decide, by decide, by decide, by decide, rfl, rfl, rfl, rfl, rfl,
    rfl, rfl, rfl, rfl, rfl⟩
end

section
/-! A grid token that is not the last packet of its port (O42): the root of `transitRoot`, with a grid of its own, whose
token is sent on ports 0 and 1 as the TICK is there. -/

namespace Sys2Proof.Machine

open Sys2Proof.Claims

/-- `transitRoot` with SRC = 1 and TXON in word 0 of table 0xA6: it sends tokens. -/
def tokenRoot : State := { transitRoot with tbl := [(tkey 0xA6 0, 0x4100)] }

theorem tokenRoot_wf : WfState tokenRoot :=
  ⟨rfl, rfl, rfl, rfl, rfl, rfl, rfl, rfl, rfl, rfl, rfl, rfl, rfl, rfl, rfl, rfl, rfl, rfl⟩

theorem tokenRoot_send : exec .gridTokenSend tokenRoot = .next (broadcast 0x13 1 (tokenWords tokenRoot) tokenRoot) := rfl

/-- The last packet of port 0 is the CREDIT for the buffer of the packet in transit, sent after the token. -/
theorem tokenRoot_last : (portOf (broadcast 0x13 1 (tokenWords tokenRoot) tokenRoot) 0).sent.getLast? =
    some { dst := 0, src := 1, type := 0x0A, cls := 0, seq := 0, words := [0x4001] } := rfl

end Sys2Proof.Machine

open Sys2Proof.Machine

/-- Refutes O42: the token goes out on ports 0 and 1, and a packet that has waited on port 1 goes out with it, whose
buffer is returned by a CREDIT on port 0. -/
theorem not_gridVerdictsAndRelay : ¬ Obligations.GridVerdictsAndRelay := by
  intro h
  obtain ⟨-, htoken, -⟩ := h tokenRoot tokenRoot_wf rfl
  obtain ⟨t, ht, ⟨k, hk, -, -, htype, -⟩, -⟩ := htoken 0 rfl rfl rfl rfl (by decide)
  rw [← Host.Outcome.next.inj (tokenRoot_send.symm.trans ht), tokenRoot_last] at hk
  obtain rfl := Option.some.inj hk
  exact absurd htype (by decide)
end

section
/-! The operations of the grid that its counts use: suspect regions, the GRID gate and the marks of the swath in flight
(R147-R150). -/

namespace Sys2Proof.Machine

open Sys2Proof.Claims

variable {s : State}

theorem gridErr_eq (h : coreRuns s = true) (code : Nat) : gridErr code s = { s with host := errNoted 5 code s } :=
  if_pos h

/-! ### P is read from other parts than the host port -/

theorem camKin_host (w : HostPort) (c : Cam) (k : Kin) : camKin { s with host := w } c k = camKin s c k := rfl

theorem axisKinVia_host (w : HostPort) (tk : Nat) : ∀ f n, axisKinVia { s with host := w } f n tk = axisKinVia s f n tk
  | 0, _ => rfl
  | f + 1, n => by
    simp only [axisKinVia, camKin_host, axisKinVia_host w tk f]
    rfl

theorem gridPred_host (w : HostPort) (tk : Nat) : gridPred { s with host := w } tk = gridPred s tk := by
  unfold gridPred axisKin
  simp only [axisKinVia_host]
  rfl

theorem gridUnits_host (w : HostPort) : gridUnits { s with host := w } = gridUnits s := by
  simp only [gridUnits, gridP, gridPred_host]
  rfl

/-! ### Suspect regions -/

/-- The region that opens at the present P. -/
def newRegion (s : State) : Region := { id := s.grid.nextRegion, start := gridUnits s, relay := false, swaths := [] }

/-- The state with error `code` of the grid recorded, a new region open and REGIONS counted. -/
def regionOpened (code : Nat) (s : State) : State :=
  { s with
    host := errNoted 5 code s, tbl := (bump 0xA7 8 s).tbl
    grid.openRegion := some (newRegion s), grid.regions := s.grid.regions ++ [newRegion s]
    grid.nextRegion := s.grid.nextRegion + 1 }

theorem openRegion_none (h : s.grid.openRegion = none) : openRegion false s = { s with
    tbl := (bump 0xA7 8 s).tbl, grid.openRegion := some (newRegion s), grid.regions := s.grid.regions ++ [newRegion s]
    grid.nextRegion := s.grid.nextRegion + 1 } := by
  simp only [openRegion, h]
  rfl

theorem openRegion_gridErr (hr : coreRuns s = true) (h : s.grid.openRegion = none) (code : Nat) :
    openRegion false (gridErr code s) = regionOpened code s := by
  have hregion (w : HostPort) : newRegion { s with host := w } = newRegion s := by
    simp only [newRegion, gridUnits_host]
  rw [gridErr_eq hr, openRegion_none (by exact h), hregion]
  rfl

theorem gridErr_openRegion (hr : coreRuns s = true) (h : s.grid.openRegion = none) (code : Nat) :
    gridErr code (openRegion false s) = regionOpened code s := by
  rw [openRegion_none h, gridErr_eq (by exact hr)]
  rfl

theorem regionOpened_newest (code : Nat) (s : State) : newestError (regionOpened code s) s.tick (errWord 5 code) := by
  simp [newestError, regionOpened, errNoted, errWord]

theorem regionOpened_counted (hw : tblWf s = true) (code : Nat) : countedOne s (regionOpened code s) 0xA7 8 :=
  tget_bump hw 0xA7 8

/-! ### The GRID gate and the swath in flight -/

/-- A source of the whole node that closes cuts fires and raises GATE; no error is recorded. -/
theorem raiseIfShut_only (was now : Bool) (s : State) : ∃ w j, raiseIfShut was now s = { s with host := w, jet := j } ∧
    w.errHist = s.host.errHist := by
  unfold raiseIfShut
  split
  · exact ⟨_, _, rfl, rfl⟩
  · exact ⟨_, _, rfl, rfl⟩

/-- What closes the GRID gate (R139, R148, R150, R157). -/
def gridCloses (s : State) : Bool := gridSrc s == 0 || gridNoSync s || s.grid.gateShut || s.grid.gatePolicy

theorem gridGate_only (s : State) : ∃ w j, gridGate s = { s with host := w, jet := j, hc.gridClosed := gridCloses s } ∧
    w.errHist = s.host.errHist := by
  obtain ⟨w, j, h, hw⟩ := raiseIfShut_only s.hc.gridClosed (gridCloses s) s
  exact ⟨w, j, by rw [gridGate, ← gridCloses, h], hw⟩

theorem onActiveRec_active {a : Active} (h : s.ing.active = some a) (f : SwathRec → SwathRec) :
    onActiveRec f s = { s with ing.active := some { a with rcd := f a.rcd } } := by
  simp only [onActiveRec, h]

theorem markBad_active {a : Active} (h : s.ing.active = some a) (disc : Int) :
    markBad disc s = { s with ing.active := some { a with rcd := badRec disc a.rcd } } := by
  unfold markBad badRec
  simp only [h]
  split
  · rw [← h]
  · rfl

theorem markBad_idle (h : s.ing.active = none) (disc : Int) : markBad disc s = s := by simp only [markBad, h]

theorem badRec_state (disc : Int) (r : SwathRec) : (badRec disc r).state = 3 := by
  unfold badRec
  split
  · assumption
  · rfl

/-- The GRID gate is shut for the rest of the swath in flight (log entry 38). -/
theorem gridShut_active {a : Active} (h : s.ing.active = some a) : ∃ w j, gridShut s = { s with
    host := w, jet := j, grid.gateShut := true, hc.gridClosed := true
    ing.active := some { a with rcd := { a.rcd with gated := true } } } ∧ w.errHist = s.host.errHist := by
  have hact : swathActive s = true := by simp [swathActive, h]
  obtain ⟨w, j, hgate, hw⟩ := gridGate_only { s with
    grid.gateShut := true, ing.active := some { a with rcd := { a.rcd with gated := true } } }
  refine ⟨w, j, ?_, hw⟩
  rw [gridShut, if_pos hact, onActiveRec_active (s := { s with grid.gateShut := true }) h, hgate]
  simp [gridCloses]

/-- A swath that is marked BAD and has its gate shut (R148, R157). -/
theorem gridShut_markBad {a : Active} (h : s.ing.active = some a) (disc : Int) :
    ∃ w j, gridShut (markBad disc s) = { s with
      host := w, jet := j, grid.gateShut := true, hc.gridClosed := true
      ing.active := some { a with rcd := { badRec disc a.rcd with gated := true } } } ∧ w.errHist = s.host.errHist := by
  rw [markBad_active h]
  exact gridShut_active (s := { s with ing.active := some { a with rcd := badRec disc a.rcd } }) rfl

theorem gridShut_idle (h : s.ing.active = none) : gridShut s = s := by simp [gridShut, swathActive, h]

end Sys2Proof.Machine
end

section
/-! A count of the source (R142, R147, R148), by its class and by the region that is open. -/

namespace Sys2Proof.Machine

open Sys2Proof.Claims

variable {s : State} {g : Int} {tc : Nat}

/-! ### The class of a count -/

theorem countClass_early (h : (tc - s.grid.tb) * 16 * (tavg s).2 < winLo s * (tavg s).1) : countClass s true tc = some 1 := by
  simp [countClass, h]

/-- A count is not early, and is in its window, or comes while a region is open. -/
theorem countClass_regular (hlo : winLo s * (tavg s).1 ≤ (tc - s.grid.tb) * 16 * (tavg s).2)
    (h : inWindow s (tc - s.grid.tb) = true ∨ s.grid.openRegion.isSome = true) : countClass s true tc = none := by
  have hlate : (inWindow s (tc - s.grid.tb) || s.grid.openRegion.isSome) = true := by simpa using h
  simp only [countClass, Nat.not_lt.mpr hlo, hlate, Bool.not_true, Bool.false_eq_true, if_false, if_true]

/-- An interval in the window is not short (R147). -/
theorem le_of_inWindow {i : Nat} (h : inWindow s i = true) : winLo s * (tavg s).1 ≤ i * 16 * (tavg s).2 :=
  of_decide_eq_true (Bool.and_eq_true_iff.mp h).1

/-- An interval that began earlier ends no sooner: it is not short either. -/
theorem le_of_inWindow_since {l : Nat} (htb : s.grid.tb ≤ l) (h : inWindow s (tc - l) = true) :
    winLo s * (tavg s).1 ≤ (tc - s.grid.tb) * 16 * (tavg s).2 :=
  (le_of_inWindow h).trans (Nat.mul_le_mul_right _ (Nat.mul_le_mul_right _ (by omega)))

/-! ### A count without LOCK -/

theorem acquire_regular {l : Nat} (hl : s.grid.lastStamp = some l) (hin : inWindow s (tc - l) = true) {down : Bool}
    (hdir : s.grid.dirDown = down) : acquire g down true tc s = { s with
      grid.base := 64 * g * 65536, grid.tb := tc, grid.intervals := ((tc - l) :: s.grid.intervals).take 4
      grid.lock := decide (4 ≤ (((tc - l) :: s.grid.intervals).take 4).length), grid.lastDown := down } := by
  subst hdir
  simp only [acquire, hl, hin, Option.isSome_some, Bool.or_true, Bool.and_self, if_true]
  rfl

/-! ### A count under LOCK -/

/-- The state whose prediction runs in the direction of the source's last count. -/
def turned (s : State) : State := { s with grid.lastDown := (encOf s (gridUnit s)).down }

/-- The state after the class of a count is noted: its error and its region (R147). -/
def classed (s : State) (same : Bool) (tc : Nat) : State :=
  match countClass s same tc with
  | some code => openRegion false (gridErr code (turned s))
  | none => turned s

theorem lockedCount_eq (g : Int) (same : Bool) (tc : Nat) (s : State) : lockedCount g same tc s =
    if closesRegion s same tc then closeSlip (encOf s (gridUnit s)).count tc (classed s same tc)
    else if !same && !swathActive s then
      acquire g (encOf s (gridUnit s)).down false tc (gridUnlock (classed s same tc))
    else if (countClass s same tc).isSome || s.grid.openRegion.isSome then classed s same tc
    else rebase g tc { classed s same tc with
      grid.intervals := ((tc - s.grid.tb) :: s.grid.intervals).take 4 } := rfl

theorem classed_none {same : Bool} (h : countClass s same tc = none) : classed s same tc = turned s := by
  simp only [classed, h]

theorem classed_some (hr : coreRuns s = true) (h : s.grid.openRegion = none) {same : Bool} {code : Nat}
    (hclass : countClass s same tc = some code) : classed s same tc = regionOpened code (turned s) := by
  simp only [classed, hclass]
  exact openRegion_gridErr (s := turned s) hr h code

theorem closesRegion_none (h : s.grid.openRegion = none) (same : Bool) : closesRegion s same tc = false := by
  simp [closesRegion, h]

theorem lockedCount_regular (h : s.grid.openRegion = none) (hclass : countClass s true tc = none) :
    lockedCount g true tc s =
      rebase g tc { turned s with grid.intervals := ((tc - s.grid.tb) :: s.grid.intervals).take 4 } := by
  have hopen : s.grid.openRegion.isSome = false := by simp [h]
  rw [lockedCount_eq, closesRegion_none h, classed_none hclass, hclass, hopen]
  rfl

/-- A count that is early, or against the direction inside a swath, opens a region and moves nothing else (R147). -/
theorem lockedCount_suspect (hr : coreRuns s = true) (h : s.grid.openRegion = none) {same : Bool} {code : Nat}
    (hclass : countClass s same tc = some code) (hstays : same = true ∨ swathActive s = true) :
    lockedCount g same tc s = regionOpened code (turned s) := by
  have hstay : (!same && !swathActive s) = false := by rcases hstays with h | h <;> simp [h]
  rw [lockedCount_eq, closesRegion_none h, classed_some hr h hclass, hclass, hstay]
  rfl

/-- A reversal with no swath active clears LOCK, and is the first count of a new acquisition (log entry 92). -/
theorem lockedCount_reversal (hr : coreRuns s = true) (h : s.grid.openRegion = none) (hact : swathActive s = false) :
    lockedCount g false tc s =
      acquire g (encOf s (gridUnit s)).down false tc (gridUnlock (regionOpened 3 (turned s))) := by
  rw [lockedCount_eq, closesRegion_none h, classed_some (same := false) (code := 3) hr h rfl, hact]
  rfl

theorem lockedCount_closes {r : Region} {l : Nat} (h : s.grid.openRegion = some r) (hl : s.grid.lastStamp = some l)
    (hin : inWindow s (tc - l) = true) (hclass : countClass s true tc = none) :
    lockedCount g true tc s = closeSlip (encOf s (gridUnit s)).count tc (turned s) := by
  have hcloses : closesRegion s true tc = true := by simp [closesRegion, h, hl, hin]
  rw [lockedCount_eq, hcloses, classed_none hclass]
  rfl

/-! ### The slip of the count that closes a region -/

/-- What the prediction is ahead of a count of value `c` and stamp `tc`, in counts (R148). -/
def countSlip (s : State) (c : Int) (tc : Nat) : Int :=
  roundDivTowardZero (gridPred s tc - 64 * (c + s.grid.ofs) * 65536) 4194304

theorem closeSlip_within {c : Int} (h : (countSlip s c tc).natAbs ≤ tnat s 0xA6 2 % 16) :
    ∃ l, closeSlip c tc s = { s with
      tbl := l, grid.openRegion := none, grid.ofs := s.grid.ofs + countSlip s c tc
      grid.base := 64 * (c + s.grid.ofs + countSlip s c tc) * 65536, grid.tb := tc } := by
  have hcounted : ∃ l, (if countSlip s c tc ≠ 0 then bump 0xA7 7 (closeRegion s) else closeRegion s) =
      { closeRegion s with tbl := l } := by
    split
    · exact ⟨_, rfl⟩
    · exact ⟨s.tbl, rfl⟩
  have hgo : closeSlip c tc s = rebase (c + s.grid.ofs + countSlip s c tc) tc
      { (if countSlip s c tc ≠ 0 then bump 0xA7 7 (closeRegion s) else closeRegion s) with
        grid.ofs := s.grid.ofs + countSlip s c tc } := if_pos h
  obtain ⟨l, hl⟩ := hcounted
  rw [hgo, hl]
  exact ⟨l, rfl⟩

/-- A slip beyond SLIP_MAX ends LOCK and, inside a swath, makes the swath BAD and shuts its gate (R148). -/
theorem closeSlip_beyond (hr : coreRuns s = true) {c : Int} (h : tnat s 0xA6 2 % 16 < (countSlip s c tc).natAbs) :
    let t := closeSlip c tc s
    t.grid.openRegion = none ∧ t.grid.lock = false ∧ newestError t s.tick (errWord 5 4) ∧
      ∀ a, s.ing.active = some a → t.hc.gridClosed = true ∧
        ∃ b, t.ing.active = some b ∧ b.rcd.state = 3 ∧ b.rcd.gated = true := by
  obtain ⟨disc, hgo⟩ : ∃ disc, closeSlip c tc s =
      gridShut (markBad disc (gridErr 4 (rebase (c + s.grid.ofs) tc (gridUnlock (closeRegion s))))) :=
    ⟨_, if_neg (Nat.not_le.mpr h)⟩
  rw [hgo, gridErr_eq (by exact hr)]
  cases ha : s.ing.active with
  | none =>
    rw [markBad_idle (by exact ha), gridShut_idle (by exact ha)]
    exact ⟨rfl, rfl, rfl, nofun⟩
  | some a =>
    obtain ⟨w, j, hshut, hw⟩ := gridShut_markBad (s := { rebase (c + s.grid.ofs) tc (gridUnlock (closeRegion s)) with
      host := errNoted 5 4 s }) ha disc
    rw [show errNoted 5 4 (rebase (c + s.grid.ofs) tc (gridUnlock (closeRegion s))) = errNoted 5 4 s from rfl, hshut]
    exact ⟨rfl, rfl, congrArg List.head? hw, fun _ _ => ⟨rfl, _, rfl, badRec_state _ _, rfl⟩⟩

/-! ### The command -/

/-- The stamp of the source's last count (R142). -/
abbrev countStamp (s : State) : Nat := s.tk - (encFilt s (gridUnit s) + 3)

section
variable (hck : clocked s = true) (hsrc : gridSrc s = 1) (hact : encActive s (gridUnit s) = true)
  (hnew : (encOf s (gridUnit s)).count ≠ s.grid.lastG)
include hck hsrc hact hnew

theorem exec_gridCount : exec .gridCount s = .next (gridCountOp s) :=
  congrArg Host.Outcome.next (if_pos (by simp [hck, hsrc, hact, hnew]))

theorem exec_gridCount_acquires (hlock : s.grid.lock = false) : exec .gridCount s = .next
    { acquire ((encOf s (gridUnit s)).count + s.grid.ofs) (encOf s (gridUnit s)).down
        (s.grid.dirDown == (encOf s (gridUnit s)).down) (countStamp s) s with
      grid.lastStamp := some (countStamp s), grid.lastG := (encOf s (gridUnit s)).count } := by
  rw [exec_gridCount hck hsrc hact hnew, gridCountOp, hlock]
  rfl

theorem exec_gridCount_locked (hlock : s.grid.lock = true) : exec .gridCount s = .next
    { lockedCount ((encOf s (gridUnit s)).count + s.grid.ofs) (s.grid.dirDown == (encOf s (gridUnit s)).down)
        (countStamp s) s with
      grid.lastStamp := some (countStamp s), grid.lastG := (encOf s (gridUnit s)).count } := by
  rw [exec_gridCount hck hsrc hact hnew, gridCountOp, hlock]
  rfl

end

end Sys2Proof.Machine
end

section
/-! The firing grid on its counts (O41). -/

namespace Sys2Proof.Machine

open Sys2Proof.Claims

variable {s : State}

/-! ### Writes of table 0xA6 (R140) -/

theorem exec_gridCfgWrite (hck : clocked s = true) (hrest : inRest s = false) (a : Fin 5) (d : Word) :
    exec (.gridCfgWrite a d) s = .next (gridCfgWriteOp a d s) :=
  congrArg Host.Outcome.next ((if_pos hck).trans (routedOp_acts hrest _ _))

/-- A write that is taken stores its word; the track may start over. -/
theorem gridCfgWriteOp_taken {a : Nat} {d : Word} (hact : swathActive s = false) (hok : gridCfgOk s a d.toNat = true) :
    ∃ w g j h, gridCfgWriteOp a d s = { tset 0xA6 a (word (gridCfgKeep a d.toNat)) s with
      host := w, grid := g, jet := j, hc := h } := by
  have hgate (u : State) : ∃ w g j h, gridGate u = { u with host := w, grid := g, jet := j, hc := h } := by
    obtain ⟨w, j, hu, -⟩ := gridGate_only u
    exact ⟨w, u.grid, j, _, hu⟩
  unfold gridCfgWriteOp
  rw [if_neg (by simp [hact]), if_neg (by simp [hok])]
  dsimp only
  split
  · obtain ⟨w, g, j, h, hu⟩ := hgate (gridRestart (tset 0xA6 a (word (gridCfgKeep a d.toNat)) s))
    exact ⟨w, g, j, h, hu⟩
  · exact hgate _

theorem exec_countLate (hck : clocked s = true) (hlate : countIsLate s = true) :
    exec .countLate s = .next (regionOpened 2 s) := by
  have hopen : s.grid.openRegion = none := by
    have : s.grid.openRegion.isNone = true := by
      simp only [countIsLate, Bool.and_eq_true] at hlate
      exact hlate.1.2
    simpa using this
  rw [← gridErr_openRegion (coreRuns_of_clocked hck) hopen]
  exact congrArg Host.Outcome.next (if_pos (by simp [hck, hlate]))

end Sys2Proof.Machine

open Sys2Proof.Machine Sys2Proof.Claims

/-- Settles O41: a count without LOCK is taken by `acquire`, one under LOCK by its class and the open region. -/
theorem gridOnCounts : Obligations.GridOnCounts := by
  intro s hw hck
  have hr := coreRuns_of_clocked hck
  refine ⟨fun a d hrest => ⟨fun hact => ?_, fun hact hno => ?_, fun hact hok => ?_⟩, fun hlate => ?_,
    fun hsrc henc hnew => ?_⟩
  · exact (exec_gridCfgWrite hck hrest a d).trans (congrArg Host.Outcome.next (if_pos hact))
  · refine (exec_gridCfgWrite hck hrest a d).trans (congrArg Host.Outcome.next ?_)
    exact (if_neg (by simp [hact])).trans (if_pos (by simp [hno]))
  · obtain ⟨w, g, j, h, hgo⟩ := gridCfgWriteOp_taken hact hok
    refine ⟨_, exec_gridCfgWrite hck hrest a d, ?_⟩
    rw [hgo]
    exact ⟨tget_tset_same hw.tbl _ _ _, rfl, rfl, fun tb b hne => tget_tset_other hw.tbl hne _⟩
  · exact ⟨_, exec_countLate hck hlate, regionOpened_counted hw.tbl 2, regionOpened_newest 2 s, rfl⟩
  · intro e tc g track
    have hsame (h : s.grid.dirDown = e.down) : (s.grid.dirDown == e.down) = true := beq_iff_eq.mpr h
    refine ⟨fun l hlock hdir hl hin => ?_, fun hlock hopen hdir hin hlo => ?_, fun hlock hopen hdir hearly => ?_,
      fun hlock hopen hdir => ?_, fun r l hlock hopen hdir hl htb hin => ?_⟩
    · rw [exec_gridCount_acquires hck hsrc henc hnew hlock, hsame hdir,
        acquire_regular (down := (encOf s (gridUnit s)).down) hl hin hdir]
    · rw [exec_gridCount_locked hck hsrc henc hnew hlock, hsame hdir,
        lockedCount_regular hopen (countClass_regular hlo (.inl hin))]
      rfl
    · have hgo := exec_gridCount_locked hck hsrc henc hnew hlock
      rw [hsame hdir, lockedCount_suspect hr hopen (countClass_early hearly) (.inl rfl)] at hgo
      exact ⟨_, hgo, rfl, rfl, hlock, regionOpened_newest 1 track⟩
    · have hturn : (s.grid.dirDown == e.down) = false := beq_eq_false_iff_ne.mpr hdir
      have hgo := exec_gridCount_locked hck hsrc henc hnew hlock
      rw [hturn] at hgo
      cases hact : swathActive s with
      | true =>
        rw [lockedCount_suspect hr hopen rfl (.inr hact)] at hgo
        exact ⟨_, hgo, regionOpened_newest 3 track, fun _ => ⟨hlock, rfl, rfl⟩, nofun⟩
      | false =>
        rw [lockedCount_reversal hr hopen hact] at hgo
        exact ⟨_, hgo, regionOpened_newest 3 track, nofun, fun _ => ⟨rfl, rfl, rfl, rfl, rfl⟩⟩
    · have hclass := countClass_regular (le_of_inWindow_since htb hin) (.inr (by simp [hopen]))
      have hgo := exec_gridCount_locked hck hsrc henc hnew hlock
      rw [hsame hdir, lockedCount_closes hopen hl hin hclass] at hgo
      refine ⟨fun hslip => ?_, fun hslip => ?_⟩
      · obtain ⟨x, hx⟩ := closeSlip_within (s := turned s) (tc := countStamp s) hslip
        rw [hx] at hgo
        exact ⟨_, hgo, rfl, hlock, rfl, rfl, rfl, rfl, rfl⟩
      · obtain ⟨hregion, hunlock, hnewest, hswath⟩ := closeSlip_beyond (s := turned s) hr hslip
        exact ⟨_, hgo, hregion, hunlock, hnewest, hswath⟩
end


section
/-! What an issued fire does to the fires of the units (R163-R172, R183, R227): it takes its unit's place, and a gate that
closes as it is charged cuts the running ones. -/

namespace Sys2Proof.Machine

variable {s t u : State}

/-! ### Cut fires -/

/-- What a cut leaves of a channel of a fire. -/
def chanFacts (c : ChanFire) : Nat × Int × List Nat × Nat × Nat := (c.channel, c.column, c.codes, c.from_, c.tap)

/-- What a cut leaves of a fire (R183): its end and its pulses change, these do not. -/
structure FireFacts where
  trig : Nat
  column : Int
  start : Nat
  tap : Nat
  groups : List Nat
  guardEnd : Nat
  chans : List (Nat × Int × List Nat × Nat × Nat)

@[inherit_doc FireFacts]
def fireFacts (f : Fire) : FireFacts :=
  { trig := f.trig, column := f.column, start := f.start, tap := f.tap, groups := f.groups, guardEnd := f.guardEnd
    chans := f.chans.map chanFacts }

/-- The refire guard lasts to the end of the fire and of each of its parts. -/
structure GuardHolds (f : Fire) : Prop where
  fire : f.fireEnd ≤ f.guardEnd
  keep : f.keepEnd ≤ f.guardEnd
  ends : ∀ e ∈ f.ends, e.2 ≤ f.guardEnd

theorem foldl_max_le {l : List (Nat × Nat)} {m n : Nat} (hm : m ≤ n) (h : ∀ e ∈ l, e.2 ≤ n) :
    l.foldl (fun a e => max a e.2) m ≤ n := by
  induction l generalizing m with
  | nil => exact hm
  | cons e l ih =>
    exact ih (max_le hm (h e List.mem_cons_self)) (fun x hx => h x (List.mem_cons_of_mem e hx))

theorem le_foldl_max (l : List (Nat × Nat)) (m : Nat) : m ≤ l.foldl (fun a e => max a e.2) m ∧
    ∀ e ∈ l, e.2 ≤ l.foldl (fun a e => max a e.2) m := by
  induction l generalizing m with
  | nil => exact ⟨le_rfl, nofun⟩
  | cons e l ih =>
    obtain ⟨hm, hl⟩ := ih (max m e.2)
    refine ⟨(le_max_left _ _).trans hm, fun x hx => ?_⟩
    rcases List.mem_cons.mp hx with rfl | hx
    · exact (le_max_right _ _).trans hm
    · exact hl x hx

theorem cutFire_facts (m : BitVec 32) (now : Nat) (f : Fire) : fireFacts (cutFire m now f) = fireFacts f := by
  have hchans : (cutFire m now f).chans.map chanFacts = f.chans.map chanFacts := by
    refine List.map_map.trans (List.map_congr_left fun c _ => ?_)
    dsimp only [Function.comp]
    split <;> rfl
  simp only [fireFacts, hchans]
  rfl

theorem cutFire_guardHolds (m : BitVec 32) (now : Nat) {f : Fire} (h : GuardHolds f) : GuardHolds (cutFire m now f) := by
  have hends : ∀ e ∈ (cutFire m now f).ends, e.2 ≤ f.guardEnd := by
    intro e he
    obtain ⟨x, hx, rfl⟩ := List.mem_map.mp he
    have := h.ends x hx
    split
    · exact (min_le_left _ _).trans this
    · exact this
  exact ⟨foldl_max_le h.keep hends, h.keep, hends⟩

/-- From `s` to `t` running fires have been cut, and no target has gone by. -/
structure FiresCut (s t : State) : Prop where
  ing : t.ing = s.ing
  fires : ∃ g : Fire → Fire, t.jet.fires = s.jet.fires.map g ∧
    ∀ f, fireFacts (g f) = fireFacts f ∧ (GuardHolds f → GuardHolds (g f))

namespace FiresCut

theorem of_eq (hfires : t.jet.fires = s.jet.fires := by simp) (hing : t.ing = s.ing := by simp) : FiresCut s t :=
  ⟨hing, id, by simp [hfires], fun _ => ⟨rfl, id⟩⟩

theorem refl (s : State) : FiresCut s s := of_eq

theorem trans (h : FiresCut s t) (h' : FiresCut t u) : FiresCut s u := by
  obtain ⟨g, hg, hgf⟩ := h.fires
  obtain ⟨g', hg', hgf'⟩ := h'.fires
  exact ⟨h'.ing.trans h.ing, g' ∘ g, by rw [hg', hg, List.map_map],
    fun f => ⟨(hgf' _).1.trans (hgf f).1, fun hf => (hgf' _).2 ((hgf f).2 hf)⟩⟩

theorem foldl {β : Type} {f : State → β → State} (hf : ∀ s x, FiresCut s (f s x)) (l : List β) (s : State) :
    FiresCut s (l.foldl f s) := by
  induction l generalizing s with
  | nil => exact refl s
  | cons x xs ih => exact (hf s x).trans (ih _)

theorem ite {c : Prop} [Decidable c] {a b : State} (ha : FiresCut s a) (hb : FiresCut s b) :
    FiresCut s (if c then a else b) := by
  split
  · exact ha
  · exact hb

theorem cutGroups (m : BitVec 32) (s : State) : FiresCut s (cutGroups m s) := by
  refine ⟨rfl, _, rfl, fun f => ?_⟩
  split
  · exact ⟨cutFire_facts m s.tk f, cutFire_guardHolds m s.tk⟩
  · exact ⟨rfl, id⟩

theorem raise (n : Nat) (s : State) : FiresCut s (raise n s) := of_eq

theorem raiseIfNew (old new : BitVec 32) (s : State) : FiresCut s (raiseIfNew old new s) := by
  unfold Machine.raiseIfNew
  split
  · exact refl s
  · exact (cutGroups _ s).trans (raise _ _)

theorem consUpdate (s : State) : FiresCut s (consUpdate s) :=
  (raiseIfNew s.hc.consClosed (grpMap (consShut s)) s).trans (of_eq rfl rfl)

theorem consLevels (f : Nat) (s : State) : FiresCut s (consLevels f s) := by
  unfold Machine.consLevels
  refine FiresCut.trans ?_ (consUpdate _)
  (repeat' split) <;> exact of_eq (by simp [hcErrLees, recErrLees]) (by simp [hcErrLees, recErrLees])

theorem chargeFire (l : List (Nat × List Nat)) (s : State) : FiresCut s (chargeFire l s) := by
  exact foldl (fun st m => ite (FiresCut.trans of_eq (consLevels _ _)) (refl st)) l s

theorem nozzleEvent (type c n : Nat) (delta : Int) (dp : Nat) (s : State) :
    FiresCut s (nozzleEvent type c n delta dp s) := by
  unfold Machine.nozzleEvent
  dsimp only
  split
  · exact of_eq (by simp [hcErr]) (by simp [hcErr])
  · exact of_eq

theorem countRow (c : Nat) (codes : List Nat) (sense : Option Nat) (s : State) :
    FiresCut s (countRow c codes sense s) := by
  refine foldl (fun st n => ite (refl st) ?_) _ s
  have hput (z : Nozzle) : FiresCut st (putNozzle z st) := of_eq rfl rfl
  exact (hput _).trans (ite (FiresCut.trans of_eq (nozzleEvent _ _ _ _ _ _)) (refl _))

theorem senseFire (g endTk : Nat) (rows : List (Nat × List Nat)) (s : State) :
    FiresCut s (senseFire g endTk rows s) := by
  have hburst : FiresCut s (senseBurst g endTk rows s) := by
    unfold senseBurst
    split
    · exact of_eq rfl rfl
    · exact refl s
  exact hburst.trans (foldl (fun st r => countRow _ _ _ st) rows _)

/-- The last fire of a unit, as cuts leave it. -/
theorem lastFire (h : FiresCut s t) (n : Nat) : ∃ g : Fire → Fire, lastFire t n = (lastFire s n).map g ∧
    ∀ f, fireFacts (g f) = fireFacts f ∧ (GuardHolds f → GuardHolds (g f)) := by
  obtain ⟨g, hg, hgf⟩ := h.fires
  have htrig : (fun f : Fire => f.trig == n) ∘ g = fun f => f.trig == n := by
    funext f
    exact congrArg (fun x => x.trig == n) (hgf f).1
  exact ⟨g, by rw [Machine.lastFire, hg, List.find?_map, htrig, Machine.lastFire], hgf⟩

end FiresCut

/-! ### The fire that is issued -/

/-- The fire that a unit issues for the groups `live` with what `ps` presents (R145, R163, R165, R172). -/
structure IssuedFire (s : State) (t : Nat) (k : Int) (place : Nat × Nat × Nat) (live : List Nat) (ps : List Presented)
    (f : Fire) : Prop where
  facts : fireFacts f =
    { trig := t, column := k, start := place.1, tap := place.2.2, groups := live, guardEnd := f.guardEnd
      chans := (ps.filter (fun p => live.contains (p.channel / 8))).map (fun p => (p.channel, p.column, p.codes,
        s.tk + (place.2.1 + trimOf s p.channel) / 32, (place.2.1 + trimOf s p.channel) % 32)) }
  interval : place.1 + refireGuard s t ≤ f.guardEnd
  holds : GuardHolds f

theorem issueFire_fires (t : Nat) (k : Int) (place : Nat × Nat × Nat) (live : List Nat) (ps : List Presented)
    (s : State) :
    ∃ f, IssuedFire s t k place live ps f ∧
      FiresCut { s with jet.fires := f :: s.jet.fires.filter (fun f => f.trig != t) }
        (issueFire t k place live ps s) := by
  refine ⟨?fire, ?issued, ?cut⟩
  case cut =>
    refine FiresCut.trans ?_ (FiresCut.foldl (fun st g => FiresCut.senseFire g _ _ st) live _)
    refine FiresCut.trans ?_ (FiresCut.chargeFire _ _)
    exact FiresCut.ite (FiresCut.of_eq (by rfl) rfl) (FiresCut.of_eq (by rfl) rfl)
  case issued =>
    refine ⟨?_, le_max_left _ _, le_max_right _ _, ?_, fun e he => ?_⟩
    · simp only [fireFacts, List.map_map]
      rfl
    · exact (le_foldl_max _ _).1.trans (le_max_right _ _)
    · exact ((le_foldl_max _ _).2 e he).trans (le_max_right _ _)

end Sys2Proof.Machine
end


section
/-! A target of a unit that falls due (R144-R150, R163, R172, R183): the swath is marked, the unit's next column moves on,
the records of its members are read, and `fireDue` decides whether it fires. -/

namespace Sys2Proof.Machine

open Sys2Proof.Claims

variable {s t u : State} {a : Active} {n now : Nat} {k : Int}

/-! ### What the table words say of a fire -/

/-- MIN_INTERVAL and TRIM are read from the table words alone. -/
theorem refireGuard_of_words (s : State) : refireGuard s = refireGuard { State.reset with tbl := s.tbl } := rfl

theorem trimOf_of_words (s : State) : trimOf s = trimOf { State.reset with tbl := s.tbl } := rfl

theorem refireGuard_congr (h : t.tbl = s.tbl) : refireGuard t = refireGuard s := by
  rw [refireGuard_of_words, h, ← refireGuard_of_words]

theorem trimOf_congr (h : t.tbl = s.tbl) : trimOf t = trimOf s := by
  rw [trimOf_of_words, h, ← trimOf_of_words]

/-! ### The swath in flight -/

/-- A swath in flight without its record: its slot, the next column of each unit and the targets that have gone by. -/
def flightParts (a : Active) : Nat × List (Nat × Int) × List (Nat × Nat) := (a.slot, a.next, a.gone)

/-- That of the swath in flight. -/
def flightOf (s : State) : Option (Nat × List (Nat × Int) × List (Nat × Nat)) := s.ing.active.map flightParts

theorem flightOf_active (h : s.ing.active = some a) : flightOf s = some (flightParts a) := by simp [flightOf, h]

/-- From `s` to `t` the swath's record, its marks and the reading of its data have changed, nothing that a fire depends
on. -/
structure Noted (s t : State) : Prop where
  jet : t.jet = s.jet := by rfl
  hc : t.hc = s.hc := by rfl
  tk : t.tk = s.tk := by rfl
  tick : t.tick = s.tick := by rfl
  boot : t.boot = s.boot := by rfl
  skips : t.grid.skipTotal = s.grid.skipTotal := by rfl
  policy : t.grid.gatePolicy = s.grid.gatePolicy := by rfl
  flight : flightOf t = flightOf s := by rfl

namespace Noted

theorem refl (s : State) : Noted s s := {}

theorem trans (h : Noted s t) (h' : Noted t u) : Noted s u :=
  ⟨h'.jet.trans h.jet, h'.hc.trans h.hc, h'.tk.trans h.tk, h'.tick.trans h.tick, h'.boot.trans h.boot,
    h'.skips.trans h.skips,
    h'.policy.trans h.policy, h'.flight.trans h.flight⟩

theorem foldl {β : Type} {f : State → β → State} (hf : ∀ s x, Noted s (f s x)) (l : List β) (s : State) :
    Noted s (l.foldl f s) := by
  induction l generalizing s with
  | nil => exact refl s
  | cons x xs ih => exact (hf s x).trans (ih _)

theorem onActiveRec (f : SwathRec → SwathRec) (s : State) : Noted s (onActiveRec f s) := by
  cases h : s.ing.active with
  | none => simpa only [Machine.onActiveRec, h] using refl s
  | some a =>
    rw [onActiveRec_active h]
    exact { flight := by simp [flightOf, flightParts, h] }

theorem markBad (disc : Int) (s : State) : Noted s (markBad disc s) := by
  cases h : s.ing.active with
  | none => rw [markBad_idle h]; exact refl s
  | some a =>
    rw [markBad_active h]
    exact { flight := by simp [flightOf, flightParts, h] }

theorem markTarget (s : State) : Noted s (markTarget s) := by
  unfold Machine.markTarget
  split
  · exact refl s
  · split
    · exact trans (t := { s with grid.regions := _ }) {} (onActiveRec _ _)
    · split
      · exact onActiveRec _ s
      · exact refl s

theorem markFire (s : State) : Noted s (markFire s) := by
  unfold Machine.markFire
  split
  · exact refl s
  · exact {}

theorem ingErr (code : Nat) (s : State) : Noted s (ingErr code s) := by
  rw [Machine.ingErr, recErr_only]
  exact {}

theorem ite {c : Prop} [Decidable c] {b b' : State} (h : Noted s b) (h' : Noted s b') :
    Noted s (if c then b else b') := by
  split
  · exact h
  · exact h'

/-- An event of the ingest block that makes the swath BAD (R203, R210). -/
theorem ingestFault (disc : Int) (code tb w : Nat) (s : State) :
    Noted s (raise irqIngest (Machine.markBad disc (Machine.ingErr code (bump tb w s)))) :=
  trans (t := bump tb w s) {} (((ingErr code _).trans (markBad disc _)).trans {})

theorem noteRecord (sl : Nat) (p : Presented) (s : State) : Noted s (noteRecord sl p s) := by
  let x := target s sl p.channel p.column
  have hskipped : Noted s (if p.skipped = 0 then s else bumpBy 0x45 82 p.skipped s) := ite (refl s) {}
  have hbad (u : State) : Noted u (if p.bad then
      Machine.raise irqIngest (Machine.markBad x (Machine.ingErr 7 (bump 0x45 78 { u with ing.decerr := true }))) else u) :=
    ite (trans (t := { u with ing.decerr := true }) {} (ingestFault x 7 0x45 78 _)) (refl u)
  have hstarved (u : State) : Noted u { u with
      ing.underrun := true
      ing.active := u.ing.active.map (fun a => { a with starvedChans := p.channel :: a.starvedChans }) } :=
    { flight := by simp only [flightOf, Option.map_map]; rfl }
  have hunder (u : State) : Noted u (if p.under then
      Machine.raise irqIngest (Machine.markBad x (Machine.ingErr 6 (bump 0x45 77 { u with
        ing.underrun := true
        ing.active := u.ing.active.map (fun a => { a with starvedChans := p.channel :: a.starvedChans }) }))) else u) :=
    ite ((hstarved u).trans (ingestFault x 6 0x45 77 _)) (refl u)
  exact (hskipped.trans (hbad _)).trans (hunder _)

end Noted

/-! ### The target goes by -/

/-- The swath in flight once a target of unit `n` has gone by at TK `now` (R146). -/
def passedBy (n now : Nat) (a : Active) : Active :=
  { a with next := a.next.map (fun p => if p.1 = n then (p.1, p.2 + 1) else p), gone := assocSet n now a.gone }

theorem advance_only (a : Active) (n : Nat) (k : Int) (at_ : Nat) (s : State) : ∃ l, advance a n k at_ s = { s with
    jet.lanes := l, ing.active := s.ing.active.map (passedBy n s.tk) } := by
  refine List.foldlRecOn (motive := fun st : State => ∃ l, st = { s with
    jet.lanes := l, ing.active := s.ing.active.map (passedBy n s.tk) }) _ _ ⟨s.jet.lanes, rfl⟩ ?_
  rintro _ ⟨l, rfl⟩ g -
  exact ⟨_, rfl⟩

/-- A target of unit `n` has gone by between `s`, where `a` is in flight, and `t`, and nothing has fired. -/
structure Passed (a : Active) (n : Nat) (s t : State) : Prop where
  jet : ∃ l, t.jet = { s.jet with lanes := l }
  hc : t.hc = s.hc
  tick : t.tick = s.tick
  boot : t.boot = s.boot
  skips : t.grid.skipTotal = s.grid.skipTotal
  flight : flightOf t = some (flightParts (passedBy n s.tk a))

theorem Passed.noted (h : Passed a n s t) (h' : Noted t u) : Passed a n s u := by
  obtain ⟨l, hl⟩ := h.jet
  exact ⟨⟨l, h'.jet.trans hl⟩, h'.hc.trans h.hc, h'.tick.trans h.tick, h'.boot.trans h.boot,
    h'.skips.trans h.skips,
    h'.flight.trans h.flight⟩

/-- The swath in flight once the target has gone by, part by part. -/
theorem moved_of_flight (h : flightOf t = some (flightParts (passedBy n now a))) :
    ∃ b, t.ing.active = some b ∧ b.slot = a.slot ∧
      b.next = a.next.map (fun p => if p.1 = n then (p.1, p.2 + 1) else p) ∧ b.gone.contains (n, now) = true := by
  obtain ⟨b, hb, heq⟩ := Option.map_eq_some_iff.mp h
  obtain ⟨hslot, hnext, hgone⟩ : b.slot = (passedBy n now a).slot ∧ b.next = (passedBy n now a).next ∧
      b.gone = (passedBy n now a).gone := by
    simpa only [flightParts, Prod.mk.injEq] using heq
  exact ⟨b, hb, hslot, hnext, by simp [hgone, passedBy, assocSet]⟩

/-! ### The steps of `fireDue` -/

/-- The swath is SUSPECT at its targets (R149, R150). -/
def suspectNow (s : State) : Bool := s.grid.openRegion.isSome || (gridSrc s == 1 && !s.grid.lock)

/-- GATE shuts the gate in a suspect region (R150). -/
def gates (s : State) : Bool := suspectNow s && gridPolicy s == 2

/-- The target has marked its swath and gone by. -/
def targetPassed (s : State) (a : Active) (n : Nat) (k : Int) : State :=
  advance a n k (firePlace s n (target s a.slot n k)).1 (markTarget s)

/-- GATE has shut the gate, where the policy says so. -/
def policyApplied (s : State) (a : Active) (n : Nat) (k : Int) : State :=
  if gates s then
    gridGate (onActiveRec (fun r => { r with gated := true }) { targetPassed s a n k with grid.gatePolicy := true })
  else targetPassed s a n k

/-- What the members of unit `n` present at column `k`. -/
def presents (s : State) (a : Active) (n : Nat) (k : Int) : List Presented :=
  (unitMembers s n).map (fun c => present s a n c k)

/-- The members' records have been read. -/
def recordsRead (s : State) (a : Active) (n : Nat) (k : Int) : State :=
  (presents s a n k).foldl (fun st p => noteRecord a.slot p st) (policyApplied s a n k)

/-- The members of the groups `gs` that have a code other than 0. -/
def dropping (ps : List Presented) (gs : List Nat) : List Presented :=
  ps.filter (fun p => gs.contains (p.channel / 8) && p.codes.any (fun c => c != 0))

/-- The enabled groups of unit `n`. -/
def enabledGroups (s : State) (n : Nat) : List Nat := (unitGroups s n).filter (grEn s)

/-- Those whose gate is open. -/
def liveGroups (s : State) (n : Nat) : List Nat := (enabledGroups s n).filter (groupGateOpen s)

/-- A fire of unit `n` at TK `at_` is inside the refire guard (R172). -/
def refireHolds (s : State) (n at_ : Nat) : Bool :=
  match lastFire s n with
  | some f => decide (at_ < f.guardEnd)
  | none => false

theorem refireHolds_iff {at_ : Nat} :
    refireHolds s n at_ = true ↔ ∃ f, lastFire s n = some f ∧ at_ < f.guardEnd := by
  unfold refireHolds
  split <;> simp_all

theorem fireDue_eq (a : Active) (n : Nat) (k : Int) (s : State) : fireDue a n k s =
    let live := (enabledGroups s n).filter (groupGateOpen (policyApplied s a n k))
    let place := firePlace s n (target s a.slot n k)
    let read := recordsRead s a n k
    if (dropping (presents s a n k) (enabledGroups s n)).isEmpty then read
    else if suspectNow s && gridPolicy s == 1 then
      (if (dropping (presents s a n k) live).isEmpty then read
       else (dropping (presents s a n k) live).foldl (fun st p => logSkip p.channel p.column st) (markFire read))
    else if refireHolds s n place.1 then refireHeld n (unitMembers s n) read
    else if (dropping (presents s a n k) live).isEmpty then read
    else issueFire n k place live (presents s a n k) (markFire read) := rfl

theorem targetPassed_passed (h : s.ing.active = some a) (n : Nat) (k : Int) : Passed a n s (targetPassed s a n k) := by
  have hmark := Noted.markTarget s
  obtain ⟨l, hl⟩ := advance_only a n k (firePlace s n (target s a.slot n k)).1 (markTarget s)
  obtain ⟨b, hb, heq⟩ := Option.map_eq_some_iff.mp (hmark.flight.trans (flightOf_active h))
  rw [targetPassed, hl]
  refine ⟨⟨l, by simp only [hmark.jet]⟩, hmark.hc, hmark.tick, hmark.boot, hmark.skips, ?_⟩
  obtain ⟨hslot, hnext, hgone⟩ : b.slot = a.slot ∧ b.next = a.next ∧ b.gone = a.gone := by
    simpa [flightParts] using heq
  simp [flightOf, flightParts, hb, passedBy, hslot, hnext, hgone, hmark.tk]

theorem policyApplied_off (h : gates s = false) : policyApplied s a n k = targetPassed s a n k := by
  simp [policyApplied, h]

theorem recordsRead_noted (s : State) (a : Active) (n : Nat) (k : Int) :
    Noted (policyApplied s a n k) (recordsRead s a n k) :=
  Noted.foldl (fun st p => Noted.noteRecord a.slot p st) _ _

theorem recordsRead_passed (h : s.ing.active = some a) (hgates : gates s = false) :
    Passed a n s (recordsRead s a n k) := by
  have hread := recordsRead_noted s a n k
  rw [policyApplied_off hgates] at hread
  exact (targetPassed_passed h n k).noted hread

theorem groupGateOpen_congr (h : t.hc = s.hc) : groupGateOpen t = groupGateOpen s := by
  funext g
  simp only [groupGateOpen, gateBits, inputClosed, h]

theorem live_eq (h : s.ing.active = some a) (hgates : gates s = false) :
    (enabledGroups s n).filter (groupGateOpen (policyApplied s a n k)) = liveGroups s n := by
  rw [policyApplied_off hgates, groupGateOpen_congr (targetPassed_passed h n k).hc, liveGroups]

/-- A fire that no open group is in has no channel of an enabled group either. -/
theorem dropping_live {ps : List Presented} (h : dropping ps (enabledGroups s n) = []) (p : Nat → Bool) :
    dropping ps ((enabledGroups s n).filter p) = [] := by
  refine List.filter_eq_nil_iff.mpr fun x hx => ?_
  have := List.filter_eq_nil_iff.mp h x hx
  simp only [Bool.and_eq_true, List.contains_iff_mem, List.mem_filter, not_and] at this ⊢
  exact fun hmem => this hmem.1

end Sys2Proof.Machine
end


section
/-! The outcomes of a target that falls due: nothing, a skip, a fire that the guard holds, a gate that shuts, a fire. -/

namespace Sys2Proof.Machine

open Sys2Proof.Claims

variable {s t : State} {a : Active} {n : Nat} {k : Int}

/-! ### No fire (R144, R183) -/

/-- No enabled group drops anything. -/
theorem fireDue_blank (h : dropping (presents s a n k) (enabledGroups s n) = []) :
    fireDue a n k s = recordsRead s a n k := by
  rw [fireDue_eq]
  simp only [h, List.isEmpty_nil, if_true]

/-- No enabled group of open gate drops anything, and neither SKIP nor the guard comes first. -/
theorem fireDue_shut (h : dropping (presents s a n k)
      ((enabledGroups s n).filter (groupGateOpen (policyApplied s a n k))) = [])
    (hskip : (suspectNow s && gridPolicy s == 1) = false)
    (hheld : refireHolds s n (firePlace s n (target s a.slot n k)).1 = false) :
    fireDue a n k s = recordsRead s a n k := by
  rw [fireDue_eq]
  simp only [h, hskip, hheld, List.isEmpty_nil, Bool.false_eq_true, if_true, if_false, ite_self]

/-! ### The refire guard (R172) -/

theorem fireDue_held (h : dropping (presents s a n k) (enabledGroups s n) ≠ [])
    (hskip : (suspectNow s && gridPolicy s == 1) = false)
    (hheld : refireHolds s n (firePlace s n (target s a.slot n k)).1 = true) :
    fireDue a n k s = refireHeld n (unitMembers s n) (recordsRead s a n k) := by
  rw [fireDue_eq]
  simp only [List.isEmpty_eq_false_iff.mpr h, hskip, hheld, Bool.false_eq_true, if_true, if_false]

theorem refireHeld_eq (hr : coreRuns s = true) (n : Nat) (members : List Nat) : ∃ l, refireHeld n members s = { s with
    tbl := l, host := errNoted 6 1 s, jet.refire := true, jet.lastGrp := n / 8 } := by
  obtain ⟨l, hl⟩ : ∃ l, members.foldl (fun st c => bump 0x25 c st) s = { s with tbl := l } := by
    refine List.foldlRecOn (motive := fun st : State => ∃ l, st = { s with tbl := l }) _ _ ⟨s.tbl, rfl⟩ ?_
    rintro _ ⟨l, rfl⟩ c -
    exact ⟨_, rfl⟩
  rw [refireHeld, hl]
  exact ⟨_, if_pos hr⟩

theorem newestError_errNoted {b c : Nat} {tick : BitVec 48} (h : t.host = errNoted b c s) (htick : s.tick = tick) :
    newestError t tick (errWord b c) := by
  simp [newestError, h, errNoted, errWord, htick]

/-! ### SKIP (R150) -/

/-- From `s` to `t` the skip log has counted `m` fires that SKIP holds. -/
structure Skipped (m : Nat) (s t : State) : Prop where
  jet : t.jet = s.jet
  flight : flightOf t = flightOf s
  total : t.grid.skipTotal = s.grid.skipTotal + m

theorem logSkip_skipped (h : (flightOf s).isSome = true) (ch : Nat) (col : Int) : Skipped 1 s (logSkip ch col s) := by
  obtain ⟨a, ha⟩ : ∃ a, s.ing.active = some a := Option.isSome_iff_exists.mp (by simpa [flightOf] using h)
  have hlog (f : SwathRec → SwathRec) (es : List SkipEntry) : Skipped 1 s
      (onActiveRec f { s with grid.skips := es, grid.skipTotal := s.grid.skipTotal + 1 }) := by
    have hrec := Noted.onActiveRec f { s with grid.skips := es, grid.skipTotal := s.grid.skipTotal + 1 }
    exact ⟨hrec.jet, hrec.flight, hrec.skips⟩
  have hover {u : State} (hu : Skipped 1 s u) (m : Nat) : Skipped 1 s (gridErr 8 { u with grid.skipOver := m }) := by
    rw [gridErr, recErr_only]
    exact ⟨hu.jet, hu.flight, hu.total⟩
  simp only [logSkip, ha]
  split
  · exact hover (hlog _ _) _
  · exact hlog _ _

theorem foldl_logSkip (l : List Presented) (h : (flightOf s).isSome = true) :
    Skipped l.length s (l.foldl (fun st p => logSkip p.channel p.column st) s) := by
  induction l generalizing s with
  | nil => exact ⟨rfl, rfl, rfl⟩
  | cons p l ih =>
    have hp := logSkip_skipped h p.channel p.column
    have hl := ih (s := logSkip p.channel p.column s) (by rw [hp.flight]; exact h)
    refine ⟨hl.jet.trans hp.jet, hl.flight.trans hp.flight, hl.total.trans ?_⟩
    rw [hp.total, List.length_cons]
    omega

theorem fireDue_skipped (hact : s.ing.active = some a) (hsus : suspectNow s = true) (hpol : gridPolicy s = 1) :
    Skipped (dropping (presents s a n k) (liveGroups s n)).length (recordsRead s a n k) (fireDue a n k s) := by
  have hgates : gates s = false := by simp [gates, hpol]
  have hskip : (suspectNow s && gridPolicy s == 1) = true := by simp [hsus, hpol]
  by_cases hlive : dropping (presents s a n k) (liveGroups s n) = []
  · have hgo : fireDue a n k s = recordsRead s a n k := by
      rw [fireDue_eq]
      simp only [live_eq hact hgates, hlive, hskip, List.isEmpty_nil, if_true, ite_self]
    rw [hlive, hgo]
    exact ⟨rfl, rfl, rfl⟩
  · have hen : dropping (presents s a n k) (enabledGroups s n) ≠ [] := fun hnil => hlive (dropping_live hnil _)
    have hgo : fireDue a n k s = (dropping (presents s a n k) (liveGroups s n)).foldl
        (fun st p => logSkip p.channel p.column st) (markFire (recordsRead s a n k)) := by
      rw [fireDue_eq]
      simp only [live_eq hact hgates, List.isEmpty_eq_false_iff.mpr hlive, List.isEmpty_eq_false_iff.mpr hen, hskip,
        Bool.false_eq_true, if_true, if_false]
    have hmark := Noted.markFire (recordsRead s a n k)
    have hskips := foldl_logSkip (s := markFire (recordsRead s a n k)) (dropping (presents s a n k) (liveGroups s n))
      (by rw [hmark.flight, (recordsRead_passed hact hgates).flight]; rfl)
    rw [hgo]
    exact ⟨hskips.jet.trans hmark.jet, hskips.flight.trans hmark.flight, hskips.total.trans (by rw [hmark.skips])⟩

/-! ### GATE (R150) -/

/-- GATE has shut the GRID gate of the node. -/
theorem policyApplied_gate (hact : s.ing.active = some a) (hgates : gates s = true) :
    let u := policyApplied s a n k
    flightOf u = flightOf (targetPassed s a n k) ∧ u.grid.gatePolicy = true ∧ u.hc.gridClosed = true ∧
      u.boot = s.boot := by
  have hpassed := targetPassed_passed hact n k
  have hmark := Noted.onActiveRec (fun r => { r with gated := true })
    { targetPassed s a n k with grid.gatePolicy := true }
  obtain ⟨w, j, hgo, -⟩ := gridGate_only
    (onActiveRec (fun r => { r with gated := true }) { targetPassed s a n k with grid.gatePolicy := true })
  intro u
  have hu : u = _ := (if_pos hgates).trans hgo
  rw [hu]
  have hpol := hmark.policy
  exact ⟨hmark.flight, hpol, by simp [gridCloses, hpol], hmark.boot.trans hpassed.boot⟩

theorem groupGateOpen_gridClosed (h : s.hc.gridClosed = true) (g : Nat) : groupGateOpen s g = false := by
  simp only [groupGateOpen, gateBits, h, atBit, if_true, beq_eq_false_iff_ne]
  omega

/-- Under GATE nothing fires: the gate is shut before the fire is asked for. -/
theorem fireDue_gate (hact : s.ing.active = some a) (hgates : gates s = true) (hr : coreRuns s = true) :
    let t := fireDue a n k s
    flightOf t = flightOf (targetPassed s a n k) ∧ t.grid.gatePolicy = true ∧ t.hc.gridClosed = true := by
  obtain ⟨hflight, hpol, hclosed, hboot⟩ := policyApplied_gate (n := n) (k := k) hact hgates
  have hnoted := recordsRead_noted s a n k
  have hread : flightOf (recordsRead s a n k) = flightOf (targetPassed s a n k) ∧
      (recordsRead s a n k).grid.gatePolicy = true ∧ (recordsRead s a n k).hc.gridClosed = true :=
    ⟨hnoted.flight.trans hflight, hnoted.policy.trans hpol, (congrArg HeadCare.gridClosed hnoted.hc).trans hclosed⟩
  have hskip : (suspectNow s && gridPolicy s == 1) = false := by
    have : gridPolicy s = 2 := by
      simp only [gates, Bool.and_eq_true, beq_iff_eq] at hgates
      exact hgates.2
    simp [this]
  have hlive : dropping (presents s a n k)
      ((enabledGroups s n).filter (groupGateOpen (policyApplied s a n k))) = [] := by
    have hnone : (enabledGroups s n).filter (groupGateOpen (policyApplied s a n k)) = [] :=
      List.filter_eq_nil_iff.mpr fun g _ => by simp [groupGateOpen_gridClosed hclosed]
    simp [hnone, dropping]
  cases hheld : refireHolds s n (firePlace s n (target s a.slot n k)).1 with
  | false => rwa [fireDue_shut hlive hskip hheld]
  | true =>
    by_cases hen : dropping (presents s a n k) (enabledGroups s n) = []
    · rwa [fireDue_blank hen]
    · have hruns : coreRuns (recordsRead s a n k) = true := coreRuns_congr (hnoted.boot.trans hboot) ▸ hr
      obtain ⟨l, hl⟩ := refireHeld_eq hruns n (unitMembers s n)
      rw [fireDue_held hen hskip hheld, hl]
      exact hread

/-! ### A fire -/

/-- Records in order change nothing but the swath's targets where no region is suspect. -/
theorem recordsRead_clean (hact : s.ing.active = some a) (hsus : suspectNow s = false)
    (hclean : ∀ p ∈ presents s a n k, p.skipped = 0 ∧ p.under = false ∧ p.bad = false) :
    ∃ l, recordsRead s a n k = { s with jet.lanes := l, ing.active := some (passedBy n s.tk a) } := by
  have hmark : markTarget s = s := by
    obtain ⟨hopen, hlock⟩ := Bool.or_eq_false_iff.mp hsus
    have : s.grid.openRegion = none := by simpa using hopen
    simp [markTarget, hact, this, hlock]
  have hread (u : State) : ∀ l : List Presented, (∀ p ∈ l, p.skipped = 0 ∧ p.under = false ∧ p.bad = false) →
      l.foldl (fun st p => noteRecord a.slot p st) u = u := by
    intro l hl
    induction l with
    | nil => rfl
    | cons p l ih =>
      obtain ⟨hskip, hunder, hbad⟩ := hl p List.mem_cons_self
      have hp : noteRecord a.slot p u = u := by simp [noteRecord, hskip, hunder, hbad]
      rw [List.foldl_cons, hp, ih (fun q hq => hl q (List.mem_cons_of_mem p hq))]
  obtain ⟨l, hl⟩ := advance_only a n k (firePlace s n (target s a.slot n k)).1 s
  refine ⟨l, ?_⟩
  rw [recordsRead, hread _ _ hclean, policyApplied_off (by simp [gates, hsus]), targetPassed, hmark, hl, hact]
  rfl

theorem fireDue_fires (hact : s.ing.active = some a) (hsus : suspectNow s = false)
    (h : dropping (presents s a n k) (liveGroups s n) ≠ [])
    (hheld : refireHolds s n (firePlace s n (target s a.slot n k)).1 = false) :
    fireDue a n k s = issueFire n k (firePlace s n (target s a.slot n k)) (liveGroups s n) (presents s a n k)
      (markFire (recordsRead s a n k)) := by
  have hen : dropping (presents s a n k) (enabledGroups s n) ≠ [] := fun hnil => h (dropping_live hnil _)
  rw [fireDue_eq]
  simp only [live_eq hact (by simp [gates, hsus]), List.isEmpty_eq_false_iff.mpr h, List.isEmpty_eq_false_iff.mpr hen,
    hsus, hheld, Bool.false_and, Bool.false_eq_true, if_false]

theorem markFire_only (s : State) : ∃ g, markFire s = { s with grid := g } := by
  unfold markFire
  split
  · exact ⟨s.grid, rfl⟩
  · exact ⟨_, rfl⟩

/-! ### The command -/

section
variable {trig : Fin 256} (hck : clocked s = true) (hact : s.ing.active = some a)
  (hfind : a.next.find? (fun p => p.1 == trig.val) = some (trig.val, k))
include hact hfind

theorem exec_unitFire_gone (hgone : a.gone.contains (trig.val, s.tk) = true) : exec (.unitFire trig) s = .next s := by
  refine congrArg Host.Outcome.next ?_
  simp only [hact, hfind, hgone, Bool.not_true, Bool.and_false, Bool.false_eq_true, if_false]

include hck in
theorem exec_unitFire_due (hcols : k ≤ (unitCols s a.slot trig).2)
    (hreached : reached s a.slot (target s a.slot trig k) = true) (hgone : a.gone.contains (trig.val, s.tk) = false) :
    exec (.unitFire trig) s = .next (fireDue a trig k s) := by
  refine congrArg Host.Outcome.next ?_
  simp only [hact, hfind, hgone, hck, hcols, hreached, decide_true, Bool.not_false, Bool.and_self, if_true]

end

end Sys2Proof.Machine
end


section
/-! The fire of a unit (O44). -/

namespace Sys2Proof.Machine

open Sys2Proof.Claims

variable {s t : State} {a : Active} {n : Nat} {k : Int}

/-- A cut leaves an issued fire what it is (R183). -/
theorem IssuedFire.cut {place : Nat × Nat × Nat} {live : List Nat} {ps : List Presented} {f f' : Fire}
    (h : IssuedFire s n k place live ps f) (hfacts : fireFacts f' = fireFacts f) (hholds : GuardHolds f') :
    IssuedFire s n k place live ps f' := by
  have hguard : f'.guardEnd = f.guardEnd := congrArg FireFacts.guardEnd hfacts
  exact ⟨by rw [hfacts, h.facts, hguard], hguard ▸ h.interval, hholds⟩

/-- Of the state, an issued fire shows the TK and the table words. -/
theorem IssuedFire.congr {place : Nat × Nat × Nat} {live : List Nat} {ps : List Presented} {f : Fire}
    (h : IssuedFire t n k place live ps f) (htbl : t.tbl = s.tbl) (htk : t.tk = s.tk) :
    IssuedFire s n k place live ps f := by
  obtain ⟨hfacts, hinterval, hholds⟩ := h
  rw [htk, trimOf_congr htbl] at hfacts
  rw [refireGuard_congr htbl] at hinterval
  exact ⟨hfacts, hinterval, hholds⟩

/-- A fire takes the place of its unit's last one. -/
theorem lastFire_replaced (s : State) {f : Fire} (hf : f.trig = n) :
    let t := { s with jet.fires := f :: s.jet.fires.filter (fun f => f.trig != n) }
    lastFire t n = some f ∧ ∀ u ≠ n, lastFire t u = lastFire s u := by
  refine ⟨by simp [lastFire, hf], fun u hu => ?_⟩
  have hne : (f.trig == u) = false := by simpa [hf] using Ne.symm hu
  rw [lastFire, List.find?_cons_of_neg (by simp [hne]), List.find?_filter, lastFire]
  congr 1
  funext x
  by_cases hx : x.trig = u <;> simp [hx, hu]

/-- A fire that is issued is the unit's last one, and the other units' fires are those of before, but for cuts. -/
theorem fireDue_issued (hact : s.ing.active = some a) (hsus : suspectNow s = false)
    (hclean : ∀ p ∈ presents s a n k, p.skipped = 0 ∧ p.under = false ∧ p.bad = false)
    (h : dropping (presents s a n k) (liveGroups s n) ≠ [])
    (hheld : refireHolds s n (firePlace s n (target s a.slot n k)).1 = false) :
    let t := fireDue a n k s
    flightOf t = some (flightParts (passedBy n s.tk a)) ∧
    (∃ f, lastFire t n = some f ∧
      IssuedFire s n k (firePlace s n (target s a.slot n k)) (liveGroups s n) (presents s a n k) f) ∧
    ∀ u ≠ n, ∃ g : Fire → Fire, lastFire t u = (lastFire s u).map g ∧ ∀ f, fireFacts (g f) = fireFacts f := by
  obtain ⟨l, hread⟩ := recordsRead_clean hact hsus hclean
  obtain ⟨x, hmark⟩ := markFire_only (recordsRead s a n k)
  rw [hread] at hmark
  intro t
  have ht : t = issueFire n k (firePlace s n (target s a.slot n k)) (liveGroups s n) (presents s a n k)
      { s with jet.lanes := l, grid := x, ing.active := some (passedBy n s.tk a) } := by
    rw [← hmark, ← hread]
    exact fireDue_fires hact hsus h hheld
  obtain ⟨f, hf, hcut⟩ :=
    issueFire_fires n k (firePlace s n (target s a.slot n k)) (liveGroups s n) (presents s a n k)
    { s with jet.lanes := l, grid := x, ing.active := some (passedBy n s.tk a) }
  rw [← ht] at hcut
  obtain ⟨hnew, hothers⟩ := lastFire_replaced
    { s with jet.lanes := l, grid := x, ing.active := some (passedBy n s.tk a) } (congrArg FireFacts.trig hf.facts)
  refine ⟨?_, ?_, fun u hu => ?_⟩
  · rw [flightOf, hcut.ing]
    rfl
  · obtain ⟨g, hg, hgf⟩ := hcut.lastFire n
    obtain ⟨hfacts, hholds⟩ := hgf f
    exact ⟨g f, hg.trans (congrArg (Option.map g) hnew),
      (IssuedFire.congr (s := s) hf rfl rfl).cut hfacts (hholds hf.holds)⟩
  · obtain ⟨g, hg, hgf⟩ := hcut.lastFire u
    exact ⟨g, hg.trans (congrArg (Option.map g) (hothers u hu)), fun f => (hgf f).1⟩

end Sys2Proof.Machine
end


section
/-! The fire of a unit (O44). -/

open Sys2Proof.Machine Sys2Proof.Claims

/-- Settles O44: the target of the unit in each of the ways in which `fireDue` ends. -/
theorem unitFires : Obligations.UnitFires := by
  intro s trig a k _ hck hact hfind hcols hreached place ps live suspect moved unfired held drops
  have hr := coreRuns_of_clocked hck
  have hdue := exec_unitFire_due hck hact hfind hcols hreached
  have hmoved {t : State} (h : flightOf t = some (flightParts (passedBy trig s.tk a))) : moved t := moved_of_flight h
  have hpassed (hgates : gates s = false) : Passed a trig s (recordsRead s a trig k) := recordsRead_passed hact hgates
  have hunfired {t : State} (h : ∃ l, t.jet = { s.jet with lanes := l }) : unfired t := by
    obtain ⟨l, hl⟩ := h
    show t.jet = _
    rw [hl]
  have hquiet {t : State} (h : Passed a trig s t) : moved t ∧ unfired t := ⟨hmoved h.flight, hunfired h.jet⟩
  have hnotheld (h : ¬ held) : refireHolds s trig place.1 = false :=
    Bool.eq_false_iff.mpr fun h' => h (refireHolds_iff.mp h')
  refine ⟨fun hgone => exec_unitFire_gone hact hfind hgone, fun hgone hsuspect hclean => ?_,
    fun hgone hsuspect => ?_⟩
  · have hsus : suspectNow s = false := hsuspect
    have hgates : gates s = false := by simp [gates, hsus]
    have hskip : (suspectNow s && gridPolicy s == 1) = false := by simp [hsus]
    refine ⟨fun hdrops hheld => ?_, fun hheld hdrops => ?_, fun hdrops hheld => ?_, fun hdrops => ?_⟩
    · obtain ⟨hflight, ⟨f, hlast, hf⟩, hothers⟩ := fireDue_issued hact hsus hclean hdrops (hnotheld hheld)
      refine ⟨_, f, hdue hgone, hmoved hflight, hlast, congrArg FireFacts.column hf.facts,
        congrArg FireFacts.start hf.facts, congrArg FireFacts.tap hf.facts, congrArg FireFacts.groups hf.facts,
        hf.interval, hf.holds.fire, congrArg FireFacts.chans hf.facts, fun u hu => ?_⟩
      obtain ⟨g, hg, hgf⟩ := hothers u (fun h => hu (Fin.ext h))
      rw [hg, Option.map_map]
      refine congrArg (Option.map · _) (funext fun f => ?_)
      exact congrArg (fun x => (x.column, x.start, x.guardEnd)) (hgf f)
    · have hread := hpassed hgates
      obtain ⟨x, hx⟩ := refireHeld_eq (s := recordsRead s a trig k) (coreRuns_congr hread.boot ▸ hr) trig
        (unitMembers s trig)
      refine ⟨_, hdue hgone, ?_⟩
      rw [fireDue_held hdrops hskip (refireHolds_iff.mpr hheld), hx]
      obtain ⟨l, hl⟩ := hread.jet
      exact ⟨hmoved hread.flight, by simp only [hl], rfl, newestError_errNoted (b := 6) (c := 1) rfl hread.tick⟩
    · refine ⟨_, hdue hgone, ?_⟩
      rw [fireDue_shut (by rw [live_eq hact hgates]; exact hdrops) hskip (hnotheld hheld)]
      exact hquiet (hpassed hgates)
    · refine ⟨_, hdue hgone, ?_⟩
      rw [fireDue_blank hdrops]
      exact hquiet (hpassed hgates)
  · have hsus : suspectNow s = true := hsuspect
    refine ⟨fun hpol => ?_, fun hpol => ?_⟩
    · have hread := hpassed (by simp [gates, hpol])
      have hskips := fireDue_skipped (n := trig) (k := k) hact hsus hpol
      obtain ⟨l, hl⟩ := hread.jet
      exact ⟨_, hdue hgone, hmoved (hskips.flight.trans hread.flight), hunfired ⟨l, hskips.jet.trans hl⟩,
        hskips.total.trans (by rw [hread.skips]; rfl)⟩
    · have hgates : gates s = true := by simp [gates, hsus, hpol]
      obtain ⟨hflight, hgate, hclosed⟩ := fireDue_gate (n := trig) (k := k) hact hgates hr
      exact ⟨_, hdue hgone, hmoved (hflight.trans (targetPassed_passed hact trig k).flight), hgate,
        fun g _ => groupGateOpen_gridClosed hclosed g⟩
end


section
/-! The operations of JET_CTL and what they do to group maps, lanes, running fires and WDACs (R176, R180, R182, R183). -/

namespace Sys2Proof.Machine

open Sys2Proof.Claims

variable {s : State} {g h : Nat} {m : BitVec 32}

/-! ### Writes of JET_CTL -/

/-- A command that writes JET_CTL is its operation where the core is clocked and neither REST nor a power entry holds
it (R359, R362). -/
theorem exec_jetReg {i : Instr} {op target : Nat} {t : State} (hck : clocked s = true) (hentry : s.pwr.entering = none)
    (hrest : inRest s = false) (hi : exec i s = .next (jetReg op target s)) (hop : jetCmd op target s = t) :
    exec i s = .next t := by
  rw [hi, ← hop]
  simp [jetReg, hck, routedOp_acts hrest, jetWrite, entryHolds, hentry]

theorem jetCmd_reserved {op : Nat} (h : op = 6 ∨ op = 7) (target : Nat) (s : State) :
    jetCmd op target s = jetRefuse target s := by
  rcases h with rfl | rfl <;> rfl

/-- An error of the jet block with its flag of JET_STAT (R185, R186). -/
theorem jetErr_jetFlag (hr : coreRuns s = true) (code g : Nat) (f : Jet → Jet) :
    (jetErr code (jetFlag g f s)).jet = { f s.jet with lastGrp := g } ∧
    newestError (jetErr code (jetFlag g f s)) s.tick (errWord 6 code) ∧ (jetErr code (jetFlag g f s)).tbl = s.tbl :=
  ⟨recErr_jet _ _ _, newestError_recErr (s := jetFlag g f s) hr 6 code, recErr_tbl _ _ _⟩

/-- A refused operation sets OPERR and records error 0x04 (R183). -/
theorem jetRefuse_spec (hr : coreRuns s = true) (g : Nat) :
    (jetRefuse g s).jet = { s.jet with operr := true, lastGrp := (jetRefuse g s).jet.lastGrp } ∧
    newestError (jetRefuse g s) s.tick 0x0604 ∧ (jetRefuse g s).tbl = s.tbl := by
  obtain ⟨hjet, hnewest, htbl⟩ := jetErr_jetFlag hr 4 g (fun j => { j with operr := true })
  exact ⟨hjet.trans (congrArg (fun x : Jet => { s.jet with operr := true, lastGrp := x.lastGrp }) hjet.symm),
    hnewest, htbl⟩

/-! ### Group maps and lanes -/

/-- The map of one group alone. -/
theorem grp_one (g h : Nat) : grp (BitVec.ofNat 32 (2 ^ g)) h = (decide (h < 32) && decide (g = h)) := by
  rw [grp, BitVec.getLsbD_ofNat, Nat.testBit_two_pow]

theorem grp_allOnes (hh : h < 32) : grp (BitVec.allOnes 32) h = true :=
  BitVec.getLsbD_allOnes.trans (decide_eq_true hh)

theorem grp_setGrp_true (hh : h < 32) : grp (setGrp m g true) h = (h == g || grp m h) := by
  rw [setGrp, if_pos rfl, grp, BitVec.getLsbD_or, ← grp, ← grp, grp_one, Bool.or_comm]
  simp [hh, beq_eq_decide, eq_comm (a := g)]

theorem grp_setGrp_false (hh : h < 32) : grp (setGrp m g false) h = (h != g && grp m h) := by
  rw [setGrp, if_neg Bool.false_ne_true, grp, BitVec.getLsbD_and, BitVec.getLsbD_not, ← grp, ← grp, grp_one,
    Bool.and_comm]
  simp [hh, bne, beq_eq_decide, eq_comm (a := g)]

theorem laneOf_setLane_same (l : Lane) (s : State) : laneOf (setLane l s) l.group = l := by
  simp [laneOf, setLane]

theorem laneOf_setLane_other {l : Lane} (hne : h ≠ l.group) (s : State) : laneOf (setLane l s) h = laneOf s h := by
  rw [laneOf, setLane, List.find?_cons_of_neg (by simpa using Ne.symm hne), List.find?_filter, laneOf]
  congr 2
  funext x
  by_cases hx : x.group = h <;> simp [hx, hne]

/-! ### Groups go into service and out of it (R182, R183) -/

theorem enableGroupOp_enables (hidle : swathActive s = false) (hvalid : groupValid s g = true)
    (hinputs : inputsOk s g = true) (hready : grDrive s g = 1 → (wdacOf s (grWdac s g)).ready = true) :
    enableGroupOp g s = setLane { group := g, from_ := s.tk } { s with jet.en := setGrp s.jet.en g true } := by
  refine if_neg ?_
  simpa [hidle, hvalid, hinputs] using hready

theorem enableGroupOp_refuses (hbad : swathActive s = true ∨ groupValid s g = false ∨ inputsOk s g = false ∨
    (grDrive s g = 1 ∧ (wdacOf s (grWdac s g)).ready = false)) : enableGroupOp g s = jetRefuse g s := by
  refine if_pos ?_
  rcases hbad with h | h | h | ⟨hdrive, h⟩
  · simp [h]
  · simp [h]
  · simp [h]
  · simp [hdrive, h]

/-- What a cut of the groups in `m` at TK `now` makes of a channel of a fire that runs (R183). -/
def chanCut (m : BitVec 32) (now : Nat) (c : ChanFire) : ChanFire :=
  if grp m (c.channel / 8) && c.cutAt.isNone then { c with cutAt := some now, cuts := [] } else c

/-- A channel of a group that is cut ends now, if nothing has cut it before. -/
theorem chanCut_cutAt {c : ChanFire} (hin : grp m (c.channel / 8) = true) (now : Nat) :
    (chanCut m now c).cutAt = some (c.cutAt.getD now) := by
  cases hcut : c.cutAt <;> simp [chanCut, hin, hcut]

theorem chanCut_outside {c : ChanFire} (hout : grp m (c.channel / 8) = false) (now : Nat) : chanCut m now c = c := by
  simp [chanCut, hout]

/-- A cut keeps the places of fires and channels: each channel of a running fire is cut, and a fire that has ended
is left alone. -/
theorem cutGroups_chan {i j : Nat} {f : Fire} {c : ChanFire} (hf : s.jet.fires[i]? = some f) (hc : f.chans[j]? = some c)
    (m : BitVec 32) : ∃ f', (cutGroups m s).jet.fires[i]? = some f' ∧ f'.trig = f.trig ∧
      f'.chans[j]? = some (if s.tk < f.fireEnd then chanCut m s.tk c else c) := by
  refine ⟨if s.tk < f.fireEnd then cutFire m s.tk f else f, by simp [cutGroups, hf], ?_⟩
  split
  · exact ⟨rfl, by simp [cutFire, hc, chanCut]⟩
  · exact ⟨rfl, hc⟩

/-- Which channels of which fires a cut reaches (R183). -/
theorem cutGroups_reaches {i j : Nat} {f : Fire} {c : ChanFire} (hf : s.jet.fires[i]? = some f)
    (hc : f.chans[j]? = some c) (m : BitVec 32) :
    ∃ f' c', (cutGroups m s).jet.fires[i]? = some f' ∧ f'.trig = f.trig ∧ f'.chans[j]? = some c' ∧
      (grp m (c.channel / 8) = true → s.tk < f.fireEnd → c'.cutAt = some (c.cutAt.getD s.tk)) ∧
      (grp m (c.channel / 8) = false ∨ f.fireEnd ≤ s.tk → c' = c) := by
  obtain ⟨f', hf', htrig, hc'⟩ := cutGroups_chan hf hc m
  refine ⟨f', _, hf', htrig, hc', fun hin hruns => ?_, fun hspared => ?_⟩
  · rw [if_pos hruns]
    exact chanCut_cutAt hin s.tk
  · rcases hspared with hout | hended
    · rw [chanCut_outside hout, ite_self]
    · exact if_neg (Nat.not_lt.mpr hended)

/-! ### WDACs (R176) -/

theorem wdacOnOp_glides (hw : g ≤ 7) (hfree : wdacBusy s g = false) (hwave : waveOk s 1 (wdacWf s g) = true)
    (hentry : wdacSelected s g = true → wdacFaults s g = []) :
    wdacOnOp g s = setWdac g (fun d => { d with
      on := true, ready := false, glideUp := true, glideEnd := some (s.tk + 25000), code := 0x2000, used := true
      glideTo := playLevel s (wdacWf s g) 0 (if ampcor s g then d.scale else none), playFrom := none }) s := by
  refine if_neg ?_
  simpa [Nat.not_lt.mpr hw, hfree, hwave] using hentry

theorem wdacOnOp_refuses (hbad : 7 < g ∨ wdacBusy s g = true ∨ waveOk s 1 (wdacWf s g) = false ∨
    (wdacSelected s g = true ∧ wdacFaults s g ≠ [])) : wdacOnOp g s = jetRefuse s.jet.lastGrp s :=
  if_pos (by simpa using hbad)

theorem wdacOffOp_acts (hw : g ≤ 7) (hfree : wdacBusy s g = false) :
    wdacOffOp g s = if (wdacOf s g).on then setWdac g (fun d => { d with
      ready := false, glideUp := false, glideEnd := some (s.tk + 25000), code := wdacCode s g, glideTo := 0x2000
      playFrom := none }) s else s :=
  if_neg (by simp [Nat.not_lt.mpr hw, hfree])

theorem wdacOffOp_refuses (hbad : 7 < g ∨ wdacBusy s g = true) : wdacOffOp g s = jetRefuse s.jet.lastGrp s := if_pos hbad

/-- A change of a WDAC is what it makes of that WDAC as it stands. -/
theorem setWdac_congr {f f' : Wdac → Wdac} (hf : f (wdacOf s g) = f' (wdacOf s g)) : setWdac g f s = setWdac g f' s := by
  have hlist : modifyNth f s.jet.wdacs g = modifyNth f' s.jet.wdacs g := by
    rw [modifyNth_const f {}, modifyNth_const f' {}]
    exact congrArg (fun d => modifyNth (fun _ => d) s.jet.wdacs g) hf
  rw [setWdac, setWdac, hlist]

theorem glideDone_ends {e : Nat} (hglide : (wdacOf s g).glideEnd = some e) (hdue : e ≤ s.tk) :
    glideDone g s = setWdac g (fun d => if d.glideUp then { d with glideEnd := none, ready := true, code := d.glideTo }
      else { d with glideEnd := none, on := false, code := d.glideTo }) s := by
  simp only [glideDone, hglide, if_pos hdue]
  split
  case isTrue hup => exact setWdac_congr (if_pos hup).symm
  case isFalse hdown => exact setWdac_congr (if_neg hdown).symm

theorem glideDone_runs {e : Nat} (hglide : (wdacOf s g).glideEnd = some e) (hearly : s.tk < e) : glideDone g s = s := by
  simp [glideDone, hglide, Nat.not_le.mpr hearly]

/-! ### Inputs of the energy curves (R180) -/

/-- With no loss recorded yet, a group's inputs are stale from 1 ms after the older of their samples on. -/
theorem inputsStale_unrecorded (hnone : s.jet.staleAt = []) : inputsStale s g = true ↔
    (tempOf s g).at_ + 250000 ≤ s.tk ∨ (s.rail.rails.getD (grSupply s g) {}).vAt.getD 0 + 250000 ≤ s.tk := by
  simp [inputsStale, hnone]

end Sys2Proof.Machine
end


section
/-! The operations of JET_CTL and the WDACs (O43). -/

open Sys2Proof.Machine Sys2Proof.Claims

/-- Settles O43: a write of JET_CTL is its operation, each in the ways it can end, and the two events of the block. -/
theorem jetCommands : Obligations.JetCommands := by
  intro s w _ hck hentry hrest g refused
  have hr := coreRuns_of_clocked hck
  have hacts {i : Sys2Proof.Instr} {op : Nat} {t : State} (hi : exec i s = .next (jetReg op g s))
      (hop : jetCmd op g s = t) : exec i s = .next t := exec_jetReg hck hentry hrest hi hop
  have hrefused {i : Sys2Proof.Instr} {op x : Nat} (hi : exec i s = .next (jetReg op g s))
      (hop : jetCmd op g s = jetRefuse x s) : refused i := ⟨_, hacts hi hop, jetRefuse_spec hr x⟩
  have hon (h : 7 < g ∨ wdacBusy s g = true ∨ waveOk s 1 (wdacWf s g) = false ∨
      (wdacSelected s g = true ∧ wdacFaults s g ≠ [])) : refused (.wdacOn w) := hrefused rfl (wdacOnOp_refuses h)
  refine ⟨hacts (op := 0) rfl rfl, fun hidle hvalid hinputs hready => ?enable,
    fun hbad => hrefused rfl (enableGroupOp_refuses hbad),
    ⟨_, hacts rfl rfl, rfl, fun h hh => grp_setGrp_false hh, fun i j f c hf hc => ?disable⟩,
    ⟨_, hacts rfl rfl, rfl, fun i j f c hf hc hchan => ?disableAll⟩,
    fun hw hfree hwave hok => hacts rfl (wdacOnOp_glides hw hfree hwave hok),
    fun hw hfree hlit => hacts rfl ((wdacOffOp_acts hw hfree).trans (if_pos hlit)),
    fun hw hfree hdark => hacts rfl ((wdacOffOp_acts hw hfree).trans (if_neg (by simp [hdark]))),
    fun hbad => ⟨hon (hbad.imp_right .inl), hrefused rfl (wdacOffOp_refuses hbad)⟩,
    fun _ hbad => hon (.inr (.inr hbad)), fun op hop => ?reserved,
    fun v e hglide => ⟨fun hdue => ?glideEnds, fun hearly => ?glideRuns⟩,
    fun h hmode hnone => ⟨fun hstale => ?stale, fun htemp hsupply => ?fresh⟩⟩
  case enable =>
    exact ⟨_, hacts rfl (enableGroupOp_enables hidle hvalid hinputs hready), rfl, laneOf_setLane_same _ _,
      fun h hne => laneOf_setLane_other hne _, fun h hh => grp_setGrp_true hh⟩
  case disable =>
    obtain ⟨f', c', hf', htrig, hc', hcut, hspared⟩ := cutGroups_reaches hf hc (BitVec.ofNat 32 (2 ^ g))
    have hg : g < 32 := w.isLt
    refine ⟨f', c', hf', htrig, hc', fun hin => hcut ?_, fun hout => hspared (hout.imp_left fun hne => ?_)⟩
    · rw [grp_one]
      simp [hin, hg]
    · rw [grp_one]
      simp [Ne.symm hne]
  case disableAll =>
    obtain ⟨f', c', hf', _, hc', hcut, hspared⟩ := cutGroups_reaches hf hc (BitVec.allOnes 32)
    exact ⟨f', c', hf', hc', hcut (grp_allOnes (by omega)), fun hended => hspared (.inr hended)⟩
  case reserved =>
    exact hrefused (if_neg (Nat.not_lt.mpr hop)) (jetCmd_reserved (by omega) g s)
  case glideEnds => exact congrArg Host.Outcome.next ((if_pos hck).trans (glideDone_ends hglide hdue))
  case glideRuns => exact congrArg Host.Outcome.next ((if_pos hck).trans (glideDone_runs hglide hearly))
  case stale =>
    obtain ⟨hjet, hnewest, htbl⟩ := jetErr_jetFlag hr 5 h
      (fun j => { j with stalein := true, staleAt := assocSet h.val s.tk j.staleAt })
    refine ⟨_, congrArg Host.Outcome.next (if_pos ?_), hjet.trans (by simp [hnone, assocSet]), hnewest, htbl⟩
    simp [hck, hmode, (inputsStale_unrecorded hnone).mpr hstale]
  case fresh =>
    refine congrArg Host.Outcome.next (if_neg ?_)
    rw [Bool.and_eq_true, inputsStale_unrecorded hnone]
    omega
end


section
/-! HV_RDY and the word that SYNC is in (O45). The SYNC word of a block takes a place in the FIFO as any other word of it
does (R188, R191): where exactly eight words are free before its edge, seven are free after it, and HV_RDY falls. The FIFO
can stand there: it holds complete blocks for slots that are not FILLING (R190). -/

namespace Sys2Proof.Machine

open Sys2Proof.Claims

variable {s : State}

/-- SYNC, accepted while the port hunts, is the first word of a block and takes one free word. -/
theorem takeWord_sync (hbuf : s.ing.hvBuf = []) (hskip : s.ing.hvSkip = 0) :
    takeWord 0xA5C3 s = { s with ing.hvBuf := [0xA5C3] } := by
  simp [takeWord, hbuf, hskip]

theorem hvFree_sync (hbuf : s.ing.hvBuf = []) : hvFree { s with ing.hvBuf := [0xA5C3] } = hvFree s - 1 := by
  simp only [hvFree, hbuf, List.length_nil, List.length_singleton]
  omega

/-- At an edge after which fewer than eight words are free HV_RDY goes low (R191). -/
theorem hvEdge_rdy_low (hfree : hvFree s < 8) : (hvEdge s).ing.rdy = false := by
  have hrdy : hvRdy s = false := by simp [hvRdy, hfree]
  cases hwas : s.ing.rdy <;> simp [hvEdge, hvRdyTo, hrdy, hwas, ingFlag]

/-- HV_RDY falls at the edge of a SYNC that leaves seven words free. -/
theorem harvestEdge_sync_rdy_low (hbuf : s.ing.hvBuf = []) (hskip : s.ing.hvSkip = 0)
    (hedges : s.ing.rdyEdges.any (fun r => r) = true) (hfree : hvFree s = 8) :
    (harvestEdge s (some 0xA5C3)).ing.rdy = false := by
  have hok : wordOk s = true := by simp only [wordOk, hedges, hfree]; rfl
  simp only [harvestEdge, if_pos hok, takeWord_sync hbuf hskip]
  exact hvEdge_rdy_low (by rw [hvFree_sync hbuf, hfree]; decide)

theorem exec_harvestHuntDiscard (hck : clocked s = true) (hon : s.ing.hvOn = true) (hbuf : s.ing.hvBuf = []) (w : Word) :
    exec (.harvestHuntDiscard w) s = .next (harvestEdge s (some w)) :=
  congrArg Host.Outcome.next (if_pos (by simp [hck, hon, hbuf]))

/-- A Harvest block of 510 words for slot 0. -/
def longBlock : DataBlock := { slot := 0, last := false, swath := 0, offset := 0, data := List.replicate 503 0 }

/-- A port that takes blocks, whose FIFO holds four blocks for slot 0: the slot has a size and is EMPTY. -/
def eightFree : State := { State.reset with
  boot.phase := .up, tbl := [(tkey 0x41 1, 1)]
  ing := { hvOn := true, rdy := true, rdyEdges := [true], fifo := List.replicate 4 (0, longBlock) } }

theorem eightFree_wf : WfState eightFree :=
  ⟨rfl, rfl, rfl, rfl, rfl, rfl, rfl, rfl, rfl, rfl, rfl, rfl, rfl, rfl, rfl, rfl, rfl, rfl⟩

theorem longBlock_length : longBlock.data.length = 503 := List.length_replicate

theorem hvFree_eightFree : hvFree eightFree = 8 := by
  simp only [hvFree, eightFree, List.replicate, List.foldl, longBlock_length]
  rfl

end Sys2Proof.Machine

open Sys2Proof.Machine

/-- Refutes O45: HV_RDY does not stay as it was at the edge of a SYNC before which eight words of the FIFO are free. -/
theorem not_swathDataArrives : ¬ Obligations.SwathDataArrives := by
  intro h
  obtain ⟨-, -, -, -, hhunt, -⟩ := h eightFree longBlock eightFree_wf rfl
  obtain ⟨t, ht, hsame, -⟩ := hhunt 0xA5C3 ⟨rfl, rfl, rfl, rfl, rfl, rfl⟩ hvFree_eightFree.ge
  rw [exec_harvestHuntDiscard rfl rfl rfl] at ht
  obtain rfl := Host.Outcome.next.inj ht
  have hlow := harvestEdge_sync_rdy_low (s := eightFree) rfl rfl rfl hvFree_eightFree
  rw [hsame] at hlow
  exact absurd hlow (by decide)
end


section
/-! An ADMIT that is not the last packet of its port (O47): as with TICK, a packet in transit from port 0 that waits on
port 1 goes out with the ADMIT sent there, and its buffer is returned by a CREDIT on port 0 (R89), after the ADMIT that
port 0 has sent already. -/

namespace Sys2Proof.Machine

/-- The root of a fabric of two nodes, with ports 0 and 1 on its tree and a packet in transit from port 0 on port 1. -/
def admitRoot : State := { transitRoot with
  vine := { transitRoot.vine with
    dir := [{ node := 2, uid := 0 }]
    ports := [{ up := true, credit0 := 1 }, { up := true, credit0 := 1, credit1 := 1, txq := [transitPacket] }, {}] } }

theorem admitRoot_wf : WfState admitRoot :=
  ⟨rfl, rfl, rfl, rfl, rfl, rfl, rfl, rfl, rfl, rfl, rfl, rfl, rfl, rfl, rfl, rfl, rfl, rfl⟩

/-- The report of node 2 is the only one that the root needs. -/
theorem admitNodes_admitRoot : admitNodes admitRoot = [(2 : BitVec 6).toNat] := by decide +kernel

theorem admitRoot_report : exec (.eventAdmitReady 2 0 1 1) admitRoot = .next (takeReport 2 0 1 1 admitRoot) := rfl

/-- The last packet of port 0 is the CREDIT for the buffer of the packet in transit. -/
theorem admitRoot_last : (portOf (takeReport 2 0 1 1 admitRoot) 0).sent.getLast? =
    some { dst := 0, src := 1, type := 0x0A, cls := 0, seq := 0, words := [0x4001] } := rfl

end Sys2Proof.Machine

open Sys2Proof.Machine

/-- Refutes O47: with the report of the last node the root sends ADMIT on ports 0 and 1, and the last packet of port 0 is
the CREDIT for a packet that has waited on port 1. -/
theorem not_fabricAdmission : ¬ Obligations.FabricAdmission := by
  intro h
  obtain ⟨-, hroot, -⟩ := h admitRoot 0 admitRoot_wf rfl
  obtain ⟨hadmit, -⟩ := hroot 2 0 1 1 0 rfl rfl rfl admitNodes_admitRoot rfl rfl
  obtain ⟨t, k, ht, -, hk, htype, -⟩ := hadmit (Nat.le_refl _)
  rw [← Host.Outcome.next.inj (admitRoot_report.symm.trans ht), admitRoot_last] at hk
  obtain rfl := Option.some.inj hk
  exact absurd htype (by decide)
end


section
/-! A boundary leaves the swath records alone (R152, R401): of its steps only the decant of a position channel's MODE or
FILT reaches the grid, and it takes LOCK and no record. -/

namespace Sys2Proof.Machine

variable {K : List Part} {s t u : State}

/-- The state `t` is in good form and holds the swath records of `s`; of the parts in `K` the grid is none. -/
structure RecordsKept (K : List Part) (s t : State) : Prop where
  off : Part.grid ∉ K
  wf : WfState t
  results : t.grid.results = s.grid.results
  total : t.grid.resultTotal = s.grid.resultTotal

namespace RecordsKept

/-- A step that has no hand in the grid. -/
theorem step (h : RecordsKept K s t) (f : Keeps K t t → Keeps K t u) : RecordsKept K s u := by
  have hu := f (Keeps.start K h.wf)
  have hgrid : u.grid = t.grid := hu.stay .grid h.off
  exact ⟨h.off, hu.toWfState, by rw [hgrid, h.results], by rw [hgrid, h.total]⟩

theorem ite {c : Prop} [Decidable c] {a b : State} (ha : c → RecordsKept K s a) (hb : ¬ c → RecordsKept K s b) :
    RecordsKept K s (if c then a else b) := by
  split
  · exact ha ‹_›
  · exact hb ‹_›

theorem foldl {β : Type} {f : State → β → State} (hf : ∀ t x, RecordsKept K s t → RecordsKept K s (f t x)) (l : List β)
    (h : RecordsKept K s t) : RecordsKept K s (l.foldl f t) := by
  induction l generalizing t with
  | nil => exact h
  | cons x l ih => exact ih (hf t x h)

theorem gridInactive (h : RecordsKept K s t) (c : Nat) : RecordsKept K s (gridInactive c t) := by
  have : ∀ p, Fact (p ∈ allParts) := fun p => ⟨mem_allParts p⟩
  refine ⟨h.off, (gridInactive_keeps c t (Keeps.start allParts h.wf)).toWfState, ?_, ?_⟩
  · rw [← h.results, Machine.gridInactive]
    split <;> rfl
  · rw [← h.total, Machine.gridInactive]
    split <;> rfl

section
variable [Fact (Part.enc ∈ K)]

theorem setEnc (h : RecordsKept K s t) (c : Nat) (f : Enc → Enc) : RecordsKept K s (setEnc c f t) :=
  h.step fun hk => setEnc_keeps c f t hk

theorem encModeDecant (h : RecordsKept K s t) (old : State) (c : Nat) : RecordsKept K s (encModeDecant old c t) := by
  unfold Machine.encModeDecant encRestart
  exact ((ite (fun _ => h.setEnc c _) (fun _ => h)).setEnc c _).gridInactive c

end

variable [Fact (Part.tbl ∈ K)] [Fact (Part.host ∈ K)] [Fact (Part.enc ∈ K)] [Fact (Part.jet ∈ K)] [Fact (Part.hc ∈ K)]
  [Fact (Part.mot ∈ K)] [Fact (Part.vlv ∈ K)]

theorem afterCask (h : RecordsKept K s t) (old : State) (tt : Touched) : RecordsKept K s (afterCask old tt t) := by
  have h1 := foldl (f := fun st c => if encMode old c = encMode st c ∧ encFilt old c = encFilt st c then st
    else Machine.encModeDecant old c st) (fun _ c hst => ite (fun _ => hst) fun _ => hst.encModeDecant old c) (List.range 8) h
  have h2 := h1.step fun hk => foldl_keeps (fun n st hst => axisAfterCask_keeps old (hasE tt 0x60 n) n st hst)
    (List.range 8) _ hk
  exact h2.step fun hk => vlvAfterCask_keeps _ _ (ite_keeps (fun _ => recheckHeads_keeps _ hk) fun _ => hk)

variable [Fact (Part.txn ∈ K)] [Fact (Part.vine ∈ K)] [Fact (Part.boot ∈ K)] [Fact (Part.nvm ∈ K)]

theorem decant (h : RecordsKept K s t) : RecordsKept K s (decant t) := by
  unfold Machine.decant
  split
  · exact h.step fun hk => txnEnd_keeps _ _ hk
  · rename_i k _
    have hext := h.step fun hk => v3Extend_keeps t hk
    generalize v3Extend t = x at hext ⊢
    have hcask : RecordsKept K s { x with tbl := decantCells k x.tbl } := hext.step fun hk => underCask_keeps k x hk
    have happlied := (hcask.afterCask x k.touched).step fun hk => applyAgain_keeps _ hk
    dsimp only
    generalize applyAgain (Machine.afterCask x k.touched { x with tbl := decantCells k x.tbl }) = y at happlied ⊢
    refine happlied.step fun hk => txnEnd_keeps _ _ (raise_keeps _ _ (txnLees_keeps _ _ ?_))
    exact ite_keeps (fun _ => mk_keeps hk) (fun _ => mk_keeps hk)

theorem decide2 (h : RecordsKept K s t) : RecordsKept K s (decide2 t) := by
  unfold Machine.decide2
  dsimp only
  split
  · have hnamed := h.step (u := sendNamed 5 { txnLees 0x82 (txnClearFault { t with txn.collecting := false }) with
      txn.phase := .pending }) fun hk => sendNamed_keeps _ _ (mk_keeps (txnLees_keeps _ _ (txnClearFault_keeps _ (mk_keeps hk))))
    exact ite (fun _ => hnamed.decant) (fun _ => hnamed)
  · exact h.step fun hk => rollback_keeps _ _ (sendAbort_keeps _ (txnLees_keeps _ _ (txnRefuseAt_keeps _ _ _ _ _ (mk_keeps hk))))

theorem judgeNamed (h : RecordsKept K s t) (sw ly idle : Bool) : RecordsKept K s (judgeNamed sw ly idle t).1 := by
  unfold Machine.judgeNamed
  dsimp only
  generalize (t.txn.scope != .localScope && _ : Bool) = fabric
  generalize (fabric && hitsNamed sw ly idle t) = hit
  have hfollow : RecordsKept K s (if fabric then followEnds sw hit t else t) :=
    ite (fun _ => h.step fun hk => followEnds_keeps _ _ _ hk) (fun _ => h)
  split
  · exact hfollow.decide2
  · split
    · exact hfollow.step fun hk => strand_keeps _ hk
    · exact hfollow

theorem deferredActions [Fact (Part.free ∈ K)] [Fact (Part.cal ∈ K)] (h : RecordsKept K s t) (sw ly idle : Bool) :
    RecordsKept K s (deferredActions sw ly idle t) := by
  have hjudged := h.judgeNamed sw ly idle
  have hdecanted := ite (c := decantDue sw ly idle (Machine.judgeNamed sw ly idle t).2 (Machine.judgeNamed sw ly idle t).1 = true)
    (fun _ => hjudged.decant) (fun _ => hjudged)
  have hdone := hdecanted.step fun hk =>
    writebacks_keeps _ (correctWdacs_keeps _ (applyPrepared_keeps _ (applyCalibration_keeps idle _ hk)))
  exact ite (fun _ => hdone.step fun hk => unsyncedClosures_keeps _ hk) (fun _ => hdone)

end RecordsKept

/-- The parts, but the grid, that the deferred actions of a boundary may change. -/
def offGridParts : List Part := deferredParts.filter (· != Part.grid)

/-- The deferred actions of a boundary leave the swath records alone. -/
theorem deferredActions_records (hw : WfState s) (sw ly idle : Bool) :
    (deferredActions sw ly idle s).grid.results = s.grid.results ∧
    (deferredActions sw ly idle s).grid.resultTotal = s.grid.resultTotal := by
  have hin : ∀ q ∈ offGridParts, Fact (q ∈ offGridParts) := fun q hq => ⟨hq⟩
  have := hin .free (by decide); have := hin .tbl (by decide); have := hin .host (by decide)
  have := hin .txn (by decide); have := hin .vine (by decide); have := hin .enc (by decide)
  have := hin .jet (by decide); have := hin .hc (by decide); have := hin .mot (by decide)
  have := hin .vlv (by decide); have := hin .boot (by decide); have := hin .cal (by decide)
  have := hin .nvm (by decide)
  have hstart : RecordsKept offGridParts s s := ⟨by decide, hw, rfl, rfl⟩
  have hkept := hstart.deferredActions sw ly idle
  exact ⟨hkept.results, hkept.total⟩

end Sys2Proof.Machine
end


section
/-! The end of a swath (R148, R152, R207, R401). -/

namespace Sys2Proof.Machine

variable {s : State} {a : Active}

/-! ### Slots -/

theorem slotOf_setSlot_same {sl : Nat} (h : sl < s.ing.slots.length) (f : Slot → Slot) :
    slotOf (setSlot sl f s) sl = f (slotOf s sl) :=
  modifyNth_get_same f {} _ _ h

/-! ### The boundary of a swath end -/

theorem startForced_only (s : State) : ∃ w c, startForced s = { s with host := w, cal := c } := by
  unfold startForced
  split
  · exact ⟨_, _, rfl⟩
  · exact ⟨_, _, rfl⟩

/-- What a boundary that comes with a swath end does to the boundary registers, and what it leaves alone. -/
structure SwathBoundary (ly : Bool) (s t : State) : Prop where
  bnd : t.bnd = { s.bnd with last := if ly then 2 else 1 }
  irq : t.host.irqPend.getLsbD 3 = true
  ing : t.ing = s.ing
  results : t.grid.results = s.grid.results
  total : t.grid.resultTotal = s.grid.resultTotal

theorem boundaryEvent_swath (hw : WfState s) (ly : Bool) : SwathBoundary ly s (boundaryEvent true ly false s) := by
  have hlast := hw.withBnd { s.bnd with last := lastKind true ly }
  have hsame := deferredActions_same hlast true ly false
  obtain ⟨hresults, htotal⟩ := deferredActions_records hlast true ly false
  obtain ⟨w, c, hforced⟩ := startForced_only (deferredActions true ly false { s with bnd.last := lastKind true ly })
  have hevent : boundaryEvent true ly false s = raise irqBound (startForced (deferredActions true ly false
      { s with bnd.last := lastKind true ly })) := rfl
  rw [hevent]
  refine ⟨?_, irqPend_raise_self (by decide) _, ?_, ?_, ?_⟩ <;> rw [hforced]
  · exact hsame .bnd (by decide)
  · exact hsame .ing (by decide)
  · exact hresults
  · exact htotal

/-- The boundary registers at the begin of a gap: a held declaration is in force (R17, R18). -/
def gapBegun (layer : BitVec 32) (swath : Word) (s : State) : Bnd :=
  { s.bnd with
    lastEnd := some (layer, swath), inGap := true, idle := false, gapFrom := s.tk
    layer := s.bnd.held.getD s.bnd.layer, held := none, lrepl := s.bnd.held.isNone && s.bnd.lrepl }

theorem swathBoundary_eq (layer : BitVec 32) (swath : Word) (s : State) : swathBoundary layer swath s =
    boundaryEvent true s.bnd.held.isSome false { s with bnd := gapBegun layer swath s } := by
  unfold swathBoundary gapBegun
  cases hheld : s.bnd.held <;> simp [hheld]

/-! ### The grid at the end of a swath -/

theorem writeRecord_only (r : SwathRec) (s : State) : ∃ w, writeRecord r s = { s with
    host := w, grid.results := (r :: s.grid.results).take 32, grid.resultTotal := s.grid.resultTotal + 1 } := by
  unfold writeRecord
  dsimp only
  split
  · exact ⟨_, rfl⟩
  · exact ⟨_, rfl⟩

theorem gridSwathEnd_only (s : State) : ∃ w j h g, gridSwathEnd s = { s with host := w, jet := j, hc := h, grid := g } ∧
    g.results = s.grid.results ∧ g.resultTotal = s.grid.resultTotal := by
  unfold gridSwathEnd
  dsimp only
  split
  · obtain ⟨w, j, h, -⟩ := gridGate_only { gridUnlock s with grid.gateShut := false, grid.gatePolicy := false }
    exact ⟨w, j, _, _, h, rfl, rfl⟩
  · obtain ⟨w, j, h, -⟩ := gridGate_only { s with grid.gateShut := false, grid.gatePolicy := false }
    exact ⟨w, j, _, _, h, rfl, rfl⟩

/-! ### The end -/

/-- The swath in flight before the boundary of its end: its record is written, its slot DONE, and the grid has left it. -/
def swathLeft (a : Active) (s : State) : State :=
  gridSwathEnd (setSlot a.slot (fun x => { x with st := .done }) (writeRecord a.rcd { s with ing.active := none }))

theorem swathLeft_wf (hw : WfState s) (a : Active) : WfState (swathLeft a s) := by
  have : ∀ p, Fact (p ∈ allParts) := fun p => ⟨mem_allParts p⟩
  exact (gridSwathEnd_keeps _ (setSlot_keeps _ _ _ (writeRecord_keeps _ _ (mk_keeps (Keeps.start allParts hw))))).toWfState

theorem swathLeft_only (a : Active) (s : State) : ∃ w j h g, swathLeft a s = { s with
    host := w, jet := j, hc := h, grid := g
    ing := { s.ing with active := none, slots := modifyNth (fun x => { x with st := .done }) s.ing.slots a.slot } } ∧
    g.results = (a.rcd :: s.grid.results).take 32 ∧ g.resultTotal = s.grid.resultTotal + 1 := by
  obtain ⟨w, hrec⟩ := writeRecord_only a.rcd { s with ing.active := none }
  rw [swathLeft, hrec]
  obtain ⟨w', j, h, g, hend, hresults, htotal⟩ := gridSwathEnd_only (setSlot a.slot (fun x => { x with st := .done })
    { s with ing.active := none, host := w, grid.results := (a.rcd :: s.grid.results).take 32
             grid.resultTotal := s.grid.resultTotal + 1 })
  exact ⟨w', j, h, g, hend, hresults, htotal⟩

/-- From `s` to `t` the swath `a` in flight has ended: its slot is DONE, its record the newest, and the gap has begun
with a boundary (R17, R18, R207). -/
structure SwathEnded (a : Active) (s t : State) : Prop where
  flight : t.ing.active = none
  slot : (slotOf t a.slot).st = .done
  record : t.grid.results.head? = some a.rcd
  total : t.grid.resultTotal = s.grid.resultTotal + 1
  lastEnd : t.bnd.lastEnd = some (a.rcd.layer, a.rcd.swath)
  gap : t.bnd.inGap = true ∧ t.bnd.gapFrom = s.tk
  layer : t.bnd.layer = s.bnd.held.getD s.bnd.layer ∧ t.bnd.last = if s.bnd.held.isSome then 2 else 1
  irq : t.host.irqPend.getLsbD 3 = true

theorem endSwath_ended (hw : WfState s) (hact : s.ing.active = some a) (hslot : a.slot < 8) :
    SwathEnded a s (endSwath s) := by
  obtain ⟨w, j, h, g, hleft, hresults, htotal⟩ := swathLeft_only a s
  have hend : endSwath s = swathBoundary a.rcd.layer a.rcd.swath (swathLeft a s) := by
    simp only [endSwath, hact, swathLeft]
  obtain ⟨hbnd, hirq, hing, hres, htot⟩ := boundaryEvent_swath
    ((swathLeft_wf hw a).withBnd (gapBegun a.rcd.layer a.rcd.swath (swathLeft a s))) (swathLeft a s).bnd.held.isSome
  rw [← swathBoundary_eq, ← hend] at hbnd hirq hing hres htot
  rw [hleft] at hbnd hing hres htot
  have hslots : a.slot < s.ing.slots.length := by rw [hw.slots]; exact hslot
  refine ⟨by rw [hing], ?_, by rw [hres, hresults]; rfl, htot.trans htotal, by rw [hbnd]; rfl, by rw [hbnd]; exact ⟨rfl, rfl⟩,
    by rw [hbnd]; exact ⟨rfl, rfl⟩, hirq⟩
  rw [slotOf, hing]
  exact congrArg Slot.st (slotOf_setSlot_same hslots fun x => { x with st := .done })

end Sys2Proof.Machine
end


section
/-! ARM, CANCEL and admission (R199, R206-R208). -/

namespace Sys2Proof.Machine

open Sys2Proof.Claims

variable {s : State} {sl : Nat}

/-! ### Writes of table 0x45 word 0 (R214) -/

/-- A command of table 0x45 is its operation where the core is clocked and neither REST nor a power entry holds it
(R359, R362). -/
theorem exec_ingReg {i : Instr} {op : Nat} {t : State} (hck : clocked s = true) (hentry : s.pwr.entering = none)
    (hrest : inRest s = false) (hi : exec i s = .next (ingReg op sl s)) (hop : ingCmd op sl s = t) : exec i s = .next t := by
  rw [hi, ← hop]
  simp [ingReg, hck, routedOp_acts hrest, ingWrite, entryHolds, hentry]

theorem ingCmd_reserved {op : Nat} (h : 5 ≤ op) (sl : Nat) (s : State) : ingCmd op sl s = ingRefuse s := by
  obtain ⟨n, rfl⟩ : ∃ n, op = n + 5 := ⟨op - 5, by omega⟩
  rfl

/-- A flag of INGEST_STAT with its error (R212, R213). -/
theorem ingErr_ingFlag (hr : coreRuns s = true) (code : Nat) (f : Ingest → Ingest) :
    (ingErr code (ingFlag f s)).ing = f s.ing ∧ newestError (ingErr code (ingFlag f s)) s.tick (errWord 7 code) ∧
    (ingErr code (ingFlag f s)).tbl = s.tbl :=
  ⟨recErr_ing _ _ _, newestError_recErr (s := ingFlag f s) hr 7 code, recErr_tbl _ _ _⟩

/-! ### Arming and cancelling -/

/-- A new head of the queue changes nothing but what is kept of the head. -/
theorem newHead_only (s : State) : ∃ v r q d w, newHead s = { s with
    ing.admitValue := v, ing.lastReport := r, ing.seqSeen := q, ing.starveDone := d, ing.waitFrom := w } :=
  ⟨_, _, _, _, _, rfl⟩

/-- What ARM and CANCEL do to a slot and the queue, and to nothing else that a host reads. -/
structure SlotTo (sl : Nat) (st : SlotState) (q : List Nat) (s t : State) : Prop where
  slot : slotOf t sl = { slotOf s sl with st := st }
  queue : t.ing.armq = q
  tbl : t.tbl = s.tbl
  host : t.host = s.host

theorem SlotTo.ofSetSlot (h : sl < s.ing.slots.length) (st : SlotState) (q : List Nat) :
    SlotTo sl st q s (setSlot sl (fun x => { x with st := st }) { s with ing.armq := q }) :=
  ⟨slotOf_setSlot_same (s := { s with ing.armq := q }) h _, rfl, rfl, rfl⟩

theorem SlotTo.newHeadIf {st : SlotState} {q : List Nat} {t : State} (h : SlotTo sl st q s t) (c : Prop) [Decidable c] :
    SlotTo sl st q s (if c then newHead t else t) := by
  split
  · obtain ⟨_, _, _, _, _, hn⟩ := newHead_only t
    rw [hn]
    exact ⟨h.slot, h.queue, h.tbl, h.host⟩
  · exact h

theorem armOp_arms (h : sl < s.ing.slots.length) (hok : armOk s sl = true) :
    SlotTo sl .armed (s.ing.armq ++ [sl]) s (armOp sl s) := by
  rw [armOp, if_pos hok]
  exact (SlotTo.ofSetSlot h .armed _).newHeadIf _

theorem cancelOp_armed (h : sl < s.ing.slots.length) (hst : (slotOf s sl).st = .armed) :
    SlotTo sl .done (s.ing.armq.filter (· != sl)) s (cancelOp sl s) := by
  simp only [cancelOp, hst]
  exact (SlotTo.ofSetSlot h .done _).newHeadIf _

/-- CANCEL of the slot of the swath in flight ends it as BAD, discarded at P. -/
theorem cancelOp_active {a : Active} (hw : WfState s) (hact : s.ing.active = some a) (hslot : a.slot = sl) (hsl : sl < 8)
    (hst : (slotOf s sl).st = .active) :
    SwathEnded { a with rcd := { a.rcd with state := 3, disc := gridUnits s } } s (cancelOp sl s) := by
  have : ∀ p, Fact (p ∈ allParts) := fun p => ⟨mem_allParts p⟩
  have hwf := (onActiveRec_keeps (fun r => { r with state := 3, disc := gridUnits s }) s (Keeps.start allParts hw)).toWfState
  simp only [cancelOp, hst]
  rw [onActiveRec_active hact] at hwf ⊢
  obtain ⟨hflight, hdone, hrec, htotal, hend, hgap, hlayer, hirq⟩ := endSwath_ended hwf rfl (hslot.trans_lt hsl)
  exact ⟨hflight, hdone, hrec, htotal, hend, hgap, hlayer, hirq⟩

/-! ### Admission -/

section
variable (hhead : armHead s = some sl) (hgap : gapOpen s = true)
include hhead hgap

theorem tryAdmit_otherLayer (hlayer : descLayer s sl ≠ s.bnd.layer) : tryAdmit s = layerMismatch sl s := by
  simp [tryAdmit, hhead, hgap, hlayer]

theorem tryAdmit_slow (hlayer : descLayer s sl = s.bnd.layer) (hspeed : speedPass s sl = false) : tryAdmit s = s := by
  simp [tryAdmit, hhead, hgap, hlayer, hspeed]

theorem tryAdmit_admits (hlayer : descLayer s sl = s.bnd.layer) (hspeed : speedPass s sl = true)
    (hfabric : descFabric s sl = false) : tryAdmit s = admitSlot sl (speedOf s sl) s := by
  simp [tryAdmit, hhead, hgap, hlayer, hspeed, hfabric]

end

theorem relayAtAdmission_off (h : gridSrc s ≠ 2 ∨ s.grid.lostOut = false) : relayAtAdmission s = s := by
  rcases h with h | h <;> simp [relayAtAdmission, h]

/-- Slot `sl` has left the queue for the swath in flight, and the gap is over. -/
def slotTaken (sl v : Nat) (s : State) : State :=
  setSlot sl (fun x => { x with st := .active, vplan := v }) { s with
    ing.active := some (newActive s sl), ing.armq := s.ing.armq.filter (· != sl)
    bnd.swath := tget s 0x40 (16 * sl + 2), bnd.inGap := false, bnd.idle := false
    grid.serial := s.grid.serial + 1, grid.pHeld := gridP s, grid.gateShut := false, grid.gatePolicy := false }

/-- The state that an admission leaves before CLAMPED and the permit are dealt with. -/
def slotAdmitted (sl v : Nat) (s : State) : State :=
  raise irqIngest (newHead (relayAtAdmission (gridGate (slotTaken sl v s))))

/-- CLAMPED, where slot `sl` runs below its VREQ (R206). -/
def clampNoted (sl v : Nat) (s t : State) : State :=
  if v < descVreq s sl then bump 0x45 83 (ingFlag (fun i => { i with clamped := true }) t) else t

theorem admitSlot_eq (sl v : Nat) (s : State) : admitSlot sl v s =
    if printAxisOn s && !descFabric s sl then addPermit v (clampNoted sl v s (slotAdmitted sl v s))
    else clampNoted sl v s (slotAdmitted sl v s) := rfl

/-- From `s` to `t` slot `sl` has gone into flight at speed `v`, and the gap is over (R207). -/
structure Admitted (sl v : Nat) (s t : State) : Prop where
  active : t.ing.active = some (newActive s sl)
  slot : slotOf t sl = { slotOf s sl with st := .active, vplan := v }
  queue : sl ∉ t.ing.armq
  bnd : t.bnd = { s.bnd with swath := tget s 0x40 (16 * sl + 2), inGap := false, idle := false }
  irq : t.host.irqPend.getLsbD 6 = true

theorem slotAdmitted_spec (hslot : sl < s.ing.slots.length) (hrelay : gridSrc s ≠ 2 ∨ s.grid.lostOut = false) (v : Nat) :
    Admitted sl v s (slotAdmitted sl v s) ∧ (slotAdmitted sl v s).tbl = s.tbl ∧ (slotAdmitted sl v s).mot = s.mot := by
  have hout (hin : sl ∈ s.ing.armq.filter (· != sl)) : False := by simp at hin
  obtain ⟨w, j, hgate, -⟩ := gridGate_only (slotTaken sl v s)
  rw [slotAdmitted, hgate, relayAtAdmission_off (by exact hrelay)]
  exact ⟨⟨rfl, slotOf_setSlot_same hslot _, hout, rfl, irqPend_raise_self (by decide) _⟩, rfl, rfl⟩

theorem Admitted.clampNoted {v : Nat} {t : State} (h : Admitted sl v s t) : Admitted sl v s (clampNoted sl v s t) := by
  unfold Machine.clampNoted
  split
  · exact ⟨h.active, h.slot, h.queue, h.bnd, irqPend_raise_self (by decide) _⟩
  · exact h

theorem clampNoted_clamps {v : Nat} {t : State} (hw : tblWf s = true) (htbl : t.tbl = s.tbl) (hv : v < descVreq s sl) :
    (clampNoted sl v s t).ing.clamped = true ∧ countedOne s (clampNoted sl v s t) 0x45 83 := by
  rw [clampNoted, if_pos hv]
  refine ⟨rfl, ?_⟩
  rw [countedOne, tnat, ← tget_congr htbl]
  exact tget_bump (s := ingFlag _ t) ((tblWf_congr htbl).trans hw) 0x45 83

theorem clampNoted_mot (sl v : Nat) (s t : State) : (clampNoted sl v s t).mot = t.mot := by
  unfold clampNoted
  split <;> rfl

theorem Admitted.addPermit {v : Nat} {t : State} (h : Admitted sl v s t) (p : Nat) : Admitted sl v s (addPermit p t) := by
  unfold Machine.addPermit
  split
  · exact ⟨h.active, h.slot, h.queue, h.bnd, h.irq⟩
  · refine ⟨?_, ?_, ?_, ?_, (Spares.recErr 9 9 t).irq 6 h.irq⟩
    · rw [recErr_ing, h.active]
    · rw [slotOf, recErr_ing]; exact h.slot
    · rw [recErr_ing]; exact h.queue
    · rw [recErr_bnd, h.bnd]

theorem addPermit_same (p : Nat) (t : State) : (addPermit p t).ing = t.ing ∧ (addPermit p t).tbl = t.tbl := by
  unfold addPermit
  split
  · exact ⟨rfl, rfl⟩
  · exact ⟨recErr_ing _ _ _, recErr_tbl _ _ _⟩

/-- An admission (R206, R207, R265). -/
theorem admitSlot_spec (hw : WfState s) (hsl : sl < 8) (hrelay : gridSrc s ≠ 2 ∨ s.grid.lostOut = false)
    (hfabric : descFabric s sl = false) (v : Nat) :
    Admitted sl v s (admitSlot sl v s) ∧
    (v < descVreq s sl → (admitSlot sl v s).ing.clamped = true ∧ countedOne s (admitSlot sl v s) 0x45 83) ∧
    (printAxisOn s = true → s.mot.permits.length < 8 → (admitSlot sl v s).mot.permits = s.mot.permits ++ [v]) := by
  obtain ⟨hadmitted, htbl, hmot⟩ := slotAdmitted_spec (by rw [hw.slots]; exact hsl) hrelay v
  have hmot' := (clampNoted_mot sl v s (slotAdmitted sl v s)).trans hmot
  have hclamps := clampNoted_clamps (v := v) hw.tbl htbl (sl := sl)
  rw [admitSlot_eq, hfabric]
  split
  · obtain ⟨hing, htbl'⟩ := addPermit_same v (clampNoted sl v s (slotAdmitted sl v s))
    refine ⟨hadmitted.clampNoted.addPermit v, fun hv => ?_, fun _ hroom => ?_⟩
    · rw [hing, countedOne, tget_congr htbl']
      exact hclamps hv
    · rw [addPermit, hmot', if_pos hroom]
  · rename_i hoff
    exact ⟨hadmitted.clampNoted, hclamps, fun hon => absurd (by simp [hon]) hoff⟩

end Sys2Proof.Machine
end


section
/-! A swath from ARM to its end (O46). -/

open Sys2Proof.Machine Sys2Proof.Claims

/-- Settles O46: ARM and CANCEL in the ways they can end, the end of a swath with its boundary, admission by its LAYER and
speed, and STARVED. -/
theorem swathLife : Obligations.SwathLife := by
  intro s w hw hck sl ready refused
  have hr := coreRuns_of_clocked hck
  have hsl : sl < s.ing.slots.length := by rw [hw.slots]; exact w.isLt
  have hacts {i : Sys2Proof.Instr} {op : Nat} {t : State} (hready : ready) (hi : exec i s = .next (ingReg op sl s))
      (hop : ingCmd op sl s = t) : exec i s = .next t := exec_ingReg hck hready.1 hready.2 hi hop
  have hrefused {i : Sys2Proof.Instr} {op : Nat} (hready : ready) (hi : exec i s = .next (ingReg op sl s))
      (hop : ingCmd op sl s = ingRefuse s) : refused i := ⟨_, hacts hready hi hop, ingErr_ingFlag hr 5 _⟩
  have hadmission {t : State} (ht : tryAdmit s = t) : exec .admission s = .next t :=
    congrArg Host.Outcome.next ((if_pos hck).trans ht)
  refine ⟨fun hready hsize hok => ?arms, fun hready hbad => ?armRefused, fun hready hsize => hrefused hready rfl (if_pos hsize),
    fun op hready hop => ?reserved, fun hready hsize hst => ?cancelArmed, fun a hready hsize hst hact hslot => ?cancelActive,
    fun a hact hslot hover => ?ends, fun _ hover => congrArg Host.Outcome.next (if_neg (by simp [hover])),
    fun hhead hgap _ => ⟨fun hlayer hspeed hfabric hrelay => ?admits, fun hlayer hspeed => hadmission (tryAdmit_slow hhead hgap hlayer hspeed),
      fun hlayer hseen => ?otherLayer⟩, fun k hwait hdone hdue => ?starves⟩
  case arms =>
    obtain ⟨hslot, hqueue, htbl, hhost⟩ := armOp_arms hsl hok
    exact ⟨_, hacts hready rfl (if_neg hsize), hqueue, hslot, htbl, hhost⟩
  case armRefused =>
    refine hrefused hready rfl ?_
    rcases hbad with hsize | hbad
    · exact if_pos hsize
    · exact (if_congr Iff.rfl rfl (if_neg (by simp [hbad]))).trans (ite_self _)
  case reserved => exact hrefused hready (if_neg (Nat.not_lt.mpr hop)) (ingCmd_reserved hop sl s)
  case cancelArmed =>
    obtain ⟨hslot, hqueue, htbl, hhost⟩ := cancelOp_armed hsl hst
    refine ⟨_, hacts hready rfl (if_neg hsize), hslot, ?_, htbl, hhost⟩
    rw [hqueue]
    simp
  case cancelActive =>
    have hended := cancelOp_active hw hact hslot w.isLt hst
    exact ⟨_, hacts hready rfl (if_neg hsize), hended.flight, hslot ▸ hended.slot, hended.gap.1, hended.gap.2, hended.record⟩
  case ends =>
    have hended := endSwath_ended hw hact hslot
    exact ⟨_, congrArg Host.Outcome.next (if_pos (by simp [hck, hover])), hended.flight, hended.slot, hended.record,
      hended.total, hended.lastEnd, hended.gap.1, hended.gap.2, hended.layer.1, hended.layer.2, hended.irq⟩
  case admits =>
    obtain ⟨⟨hactive, hslot, hqueue, hbnd, hirq⟩, hclamps, hpermit⟩ := admitSlot_spec hw w.isLt hrelay hfabric (speedOf s sl)
    exact ⟨_, hadmission (tryAdmit_admits hhead hgap hlayer hspeed hfabric), hactive, hslot, hqueue, hbnd, hirq, hclamps, hpermit⟩
  case otherLayer =>
    obtain ⟨hing, hnewest, -⟩ := ingErr_ingFlag hr 8 fun i => { i with seqerr := true, seqSeen := some (sl, s.bnd.layer) }
    exact ⟨_, hadmission ((tryAdmit_otherLayer hhead hgap hlayer).trans (if_neg hseen)), hing, hnewest⟩
  case starves =>
    have hstarve : starve s = ingErr 9 (ingFlag (fun i => { i with starved := true, starveDone := true }) s) := by
      simp [starve, hwait, hdone, hdue]
    exact ⟨_, congrArg Host.Outcome.next ((if_pos hck).trans hstarve), ingErr_ingFlag hr 9 _⟩
end


section
/-! Head care: its commands, the sources of its gates, the errors it logs and the tables that it leaves alone (R216, R234,
R246). -/

namespace Sys2Proof.Machine

open Sys2Proof.Claims

variable {s t u : State} {g : Nat}

/-! ### Commands of table 0x5B (R216) -/

/-- A command of table 0x5B is its operation where the core is clocked out of REST (R328, R362). -/
theorem exec_hcReg {i : Instr} {op target : Nat} (hck : clocked s = true) (hrest : inRest s = false)
    (hi : exec i s = .next (hcReg op target s)) (hop : hcCmd op target s = t) : exec i s = .next t := by
  rw [hi, hcReg, if_pos hck, routedOp_acts hrest, hop]

theorem lt_of_mem_hcTargets {n w : Nat} (hg : g ∈ hcTargets n w) : g < n := by
  unfold hcTargets at hg
  split at hg
  · exact List.mem_range.mp hg
  · split at hg
    · rwa [List.mem_singleton.mp hg]
    · cases hg

theorem hcTargets_one {n w : Nat} (hw : w < n) (hn : n ≤ 63) : hcTargets n w = [w] := by
  rw [hcTargets, if_neg (by omega), if_pos hw]

/-! ### The sources of a group's gate (R234) -/

theorem groupGateOpen_eq_false_iff : groupGateOpen s g = false ↔
    inputClosed s 0 = true ∨ inputClosed s 1 = true ∨ inputClosed s 2 = true ∨ grp s.hc.tempClosed g = true ∨
    grp s.hc.headidClosed g = true ∨ grp s.hc.consClosed g = true ∨ s.hc.txnClosed = true ∨ grp s.hc.wdgClosed g = true ∨
    grp s.hc.railClosed g = true ∨ s.hc.gridClosed = true ∨ grp s.hc.hostClosed g = true := by
  have hbit (b : Bool) (i : Nat) : atBit b i = 0 ↔ b = false := by cases b <;> simp [atBit]
  simp only [groupGateOpen, gateBits, beq_eq_false_iff_ne, ne_eq, Nat.add_eq_zero_iff, hbit, not_and_or,
    Bool.not_eq_false, or_assoc]

theorem inputClosed_eq (s : State) (i : Nat) : inputClosed s i = (s.hc.inputs.getD i {}).closed := by
  rw [inputClosed, List.getD_eq_getElem?_getD]
  cases s.hc.inputs[i]? <;> rfl

theorem groupGateOpen_input {i : Fin 3} (hi : inputClosed s i = true) : groupGateOpen s g = false := by
  rw [groupGateOpen_eq_false_iff]
  match i with
  | 0 => exact .inl hi
  | 1 => exact .inr (.inl hi)
  | 2 => exact .inr (.inr (.inl hi))

/-! ### What the closing of a source makes known -/

/-- From `s` to `t` interrupts have become pending and running fires have been cut, and nothing else has happened
(R72, R183). -/
structure GateNews (s t : State) : Prop where
  only : t = { s with host := t.host, jet := t.jet }
  errHist : t.host.errHist = s.host.errHist
  irq : ∀ n, s.host.irqPend.getLsbD n = true → t.host.irqPend.getLsbD n = true

namespace GateNews

theorem refl (s : State) : GateNews s s := ⟨rfl, rfl, fun _ => id⟩

theorem trans (h : GateNews s t) (h' : GateNews t u) : GateNews s u :=
  ⟨h'.only.trans (by rw [h.only]), h'.errHist.trans h.errHist, fun n hn => h'.irq n (h.irq n hn)⟩

theorem raise (n : Nat) (s : State) : GateNews s (raise n s) := ⟨rfl, rfl, (Spares.raise n s).irq⟩

theorem raiseIfNew (old new : BitVec 32) (s : State) : GateNews s (raiseIfNew old new s) := by
  refine ⟨?_, ?_, (Spares.raiseIfNew old new s).irq⟩ <;> (unfold Machine.raiseIfNew; split <;> rfl)

theorem raiseIfShut (was now : Bool) (s : State) : GateNews s (raiseIfShut was now s) := by
  unfold Machine.raiseIfShut
  split
  · exact ⟨rfl, rfl, (Spares.raise _ _).irq⟩
  · exact refl s

/-- A source that is set to what it has become. -/
theorem source (h : GateNews s t) (f : HeadCare → HeadCare) : GateNews { s with hc := f s.hc } { t with hc := f t.hc } := by
  obtain ⟨honly, herr, hirq⟩ := h
  exact ⟨by rw [honly], herr, hirq⟩

/-- HEADID set (R222): a changed source also raises HEAD. -/
theorem setHeadid (new : BitVec 32) (s : State) : GateNews { s with hc.headidClosed := new } (setHeadid new s) := by
  unfold Machine.setHeadid
  dsimp only
  split
  case isTrue heq =>
    subst heq
    exact raiseIfNew _ _ s
  case isFalse =>
    exact ((raiseIfNew s.hc.headidClosed new s).source fun c => { c with headidClosed := new }).trans (raise _ _)

theorem headidUpdate (s : State) : GateNews { s with hc.headidClosed := grpMap (headidShut s) } (headidUpdate s) :=
  setHeadid _ s

theorem consUpdate (s : State) : GateNews { s with hc.consClosed := grpMap (consShut s) } (consUpdate s) :=
  (raiseIfNew s.hc.consClosed _ s).source fun c => { c with consClosed := grpMap (consShut s) }

theorem tempUpdate (s : State) : GateNews { s with hc.tempClosed := grpMap (tempShut s) } (tempUpdate s) :=
  (raiseIfNew s.hc.tempClosed _ s).source fun c => { c with tempClosed := grpMap (tempShut s) }

theorem setHostGate (new : BitVec 32) (s : State) : GateNews { s with hc.hostClosed := new } (setHostGate new s) :=
  (raiseIfNew s.hc.hostClosed new s).source fun c => { c with hostClosed := new }

section
variable (h : GateNews s t)
include h

theorem hc : t.hc = s.hc := by rw [h.only]
theorem tbl : t.tbl = s.tbl := by rw [h.only]
theorem nvm : t.nvm = s.nvm := by rw [h.only]

theorem newest {tick : BitVec 48} {e : Word} (he : newestError s tick e) : newestError t tick e := by
  rw [newestError, h.errHist]; exact he

end

end GateNews

/-! ### Errors with a lees record (R246, R388) -/

/-- Error `code` of the head-care block has been recorded with its lees record, and nothing else has changed but the
pending interrupts and running fires. -/
structure HeadFault (code : Nat) (data : List Nat) (s t : State) : Prop where
  newest : newestError t s.tick (errWord 8 code)
  irq : ∀ n, s.host.irqPend.getLsbD n = true → t.host.irqPend.getLsbD n = true
  lees : t.nvm.leesQ = s.nvm.leesQ ++ [leesRec s 8 code data]
  hc : t.hc = s.hc
  tbl : t.tbl = s.tbl

theorem hcErrLees_fault (hr : coreRuns s = true) (hf : logsFree s = true) (code : Nat) (data : List Nat) :
    HeadFault code data s (hcErrLees code data s) := by
  refine ⟨?_, (Spares.recErrLees 8 code data s).irq, ?_, ?_, ?_⟩ <;> rw [hcErrLees, recErrLees_queued hr hf]
  · exact newestError_recErr hr 8 code
  · exact recErr_hc s 8 code
  · exact recErr_tbl s 8 code

theorem HeadFault.news {code : Nat} {data : List Nat} (h : HeadFault code data s t) (hn : GateNews t u) :
    HeadFault code data s u :=
  ⟨hn.newest h.newest, fun n hs => hn.irq n (h.irq n hs), by rw [hn.nvm, h.lees], hn.hc.trans h.hc, hn.tbl.trans h.tbl⟩

@[simp] theorem hcErr_hc (code : Nat) (s : State) : (hcErr code s).hc = s.hc := recErr_hc s 8 code
@[simp] theorem hcErr_tbl (code : Nat) (s : State) : (hcErr code s).tbl = s.tbl := recErr_tbl s 8 code
@[simp] theorem hcErrLees_hc (code : Nat) (data : List Nat) (s : State) : (hcErrLees code data s).hc = s.hc := by
  rw [hcErrLees, recErrLees, lees_hc, recErr_hc]

/-! ### Tables left alone -/

/-- From `s` to `t` no table changes but those of `L`. -/
structure TablesKept (L : List Nat) (s t : State) : Prop where
  wf : tblWf s = true → tblWf t = true
  words : tblWf s = true → ∀ tb ∉ L, ∀ a < 2 ^ 24, tget t tb a = tget s tb a

namespace TablesKept

variable {L : List Nat}

theorem of_eq (h : t.tbl = s.tbl) : TablesKept L s t :=
  ⟨fun hw => (tblWf_congr h).trans hw, fun _ _ _ _ _ => by rw [tget_congr h]⟩

theorem trans (h : TablesKept L s t) (h' : TablesKept L t u) : TablesKept L s u :=
  ⟨fun hw => h'.wf (h.wf hw), fun hw tb ht a ha => (h'.words (h.wf hw) tb ht a ha).trans (h.words hw tb ht a ha)⟩

theorem foldl {β : Type} {f : State → β → State} (l : List β) (s : State) (hf : ∀ t, ∀ x ∈ l, TablesKept L t (f t x)) :
    TablesKept L s (l.foldl f s) := by
  induction l generalizing s with
  | nil => exact of_eq rfl
  | cons x l ih => exact (hf s x (.head l)).trans (ih _ fun t y hy => hf t y (.tail x hy))

theorem tkey_ne {tb tb' a a' : Nat} (hL : tb ∈ L) (ht : tb' ∉ L) (ha : a < 2 ^ 24) (ha' : a' < 2 ^ 24) :
    tkey tb' a' ≠ tkey tb a := fun he => ht (((tkey_inj ha' ha).mp he).1.symm ▸ hL)

theorem tset {tb a : Nat} (hL : tb ∈ L) (ha : a < 2 ^ 24) (v : Word) (s : State) : TablesKept L s (tset tb a v s) :=
  ⟨fun hw => tset_wf hw _ _ _, fun hw _ ht _ ha' => tget_tset_other hw (tkey_ne hL ht ha ha') v⟩

theorem bump {tb a : Nat} (hL : tb ∈ L) (ha : a < 2 ^ 24) (s : State) : TablesKept L s (bump tb a s) := tset hL ha _ s

theorem raise (n : Nat) (s : State) : TablesKept L s (raise n s) := of_eq rfl

theorem lees (h7B : 0x7B ∈ L) (h89 : 0x89 ∈ L) (b c : Nat) (d : List Nat) (s : State) : TablesKept L s (lees b c d s) :=
  ⟨(Spares.lees b c d s).wf, fun hw _ ht _ ha =>
    tget_lees_other hw b c d (tkey_ne h7B ht (by decide) ha) (tkey_ne h89 ht (by decide) ha)⟩

theorem hcErrLees (h7B : 0x7B ∈ L) (h89 : 0x89 ∈ L) (code : Nat) (d : List Nat) (s : State) :
    TablesKept L s (hcErrLees code d s) :=
  (of_eq (recErr_tbl s 8 code)).trans (lees h7B h89 8 code d _)

theorem ite {c : Prop} [Decidable c] {a b : State} (ha : TablesKept L s a) (hb : TablesKept L s b) :
    TablesKept L s (if c then a else b) := by
  split
  · exact ha
  · exact hb

end TablesKept

end Sys2Proof.Machine
end


section
/-! The gates of head care and its configuration writes (R215, R216, R234, R235). -/

namespace Sys2Proof.Machine

open Sys2Proof.Claims

variable {s : State} {g : Nat}

/-! ### Configuration writes (R215) -/

theorem exec_hcConfigWrite {tb : Byte} (hck : clocked s = true) (hrest : inRest s = false)
    (htb : tb.toNat ∈ [0x51, 0x52, 0x54, 0x58, 0x59]) (a : BitVec 24) (d : Word) :
    exec (.hcConfigWrite tb a d) s = .next (hcConfigWriteOp tb.toNat a.toNat d s) := by
  have hacts : (clocked s && [0x51, 0x52, 0x54, 0x58, 0x59].contains tb.toNat) = true := by
    rw [hck, Bool.true_and, List.contains_iff_mem]
    exact htb
  exact congrArg Host.Outcome.next ((if_pos hacts).trans (routedOp_acts hrest _ _))

theorem recheckHeads_tables {L : List Nat} (h50 : 0x50 ∈ L) (s : State) : TablesKept L s (recheckHeads s) :=
  (TablesKept.foldl (List.range 32) s fun t _ hh =>
    .ite (.tset h50 (by have := List.mem_range.mp hh; omega) _ t) (.of_eq rfl)).trans (.of_eq (GateNews.headidUpdate _).tbl)

/-- EXHAUSTED and LOW as they follow from what a slot holds (R228). -/
def levelsSet (f : Nat) (s : State) : State :=
  setConsSlot f (fun x => { x with
    exhausted := (consOf s f).seen && decide ((consOf s f).remain * 1000 ≤ pendingPl (consOf s f))
    low := (consOf s f).seen && decide ((consOf s f).remain * 1000 ≤ pendingPl (consOf s f) + lowMark s f * 1000) }) s

/-- The levels of a slot change head care by its flags alone, and the tables by the counters of lost lees records. -/
theorem consLevels_eq (f : Nat) (s : State) : ∃ x, consLevels f s = consUpdate x ∧ x.hc = (levelsSet f s).hc ∧
    ∀ L : List Nat, 0x7B ∈ L → 0x89 ∈ L → TablesKept L s x := by
  refine ⟨_, rfl, ?_, fun L h7B h89 => ?_⟩
  · have hout (c : Bool) : (if c then raise irqHead (hcErrLees 5 [f] (levelsSet f s)) else levelsSet f s).hc =
        (levelsSet f s).hc := by cases c <;> simp
    have hlow (c : Bool) (x : State) : (if c then raise irqHead x else x).hc = x.hc := by cases c <;> rfl
    exact (hlow _ _).trans (hout _)
  · have hset : TablesKept L s (levelsSet f s) := .of_eq rfl
    have hout (c : Bool) : TablesKept L s (if c then raise irqHead (hcErrLees 5 [f] (levelsSet f s)) else levelsSet f s) :=
      .ite ((hset.trans (.hcErrLees h7B h89 5 [f] _)).trans (.raise _ _)) hset
    exact .ite ((hout _).trans (.raise _ _)) (hout _)

theorem consLevels_tables {L : List Nat} (h7B : 0x7B ∈ L) (h89 : 0x89 ∈ L) (f : Nat) (s : State) :
    TablesKept L s (consLevels f s) := by
  obtain ⟨x, hx, -, htbl⟩ := consLevels_eq f s
  rw [hx]
  exact (htbl L h7B h89).trans (.of_eq (GateNews.consUpdate x).tbl)

/-- What follows a stored configuration word writes at most head statuses and the counters of lost lees records. -/
theorem hcAfter_tables (tb a : Nat) (s : State) : TablesKept [0x50, 0x7B, 0x89] s (hcAfter tb a s) := by
  have hnews {x t : State} (h : GateNews x t) (hx : x.tbl = s.tbl) : TablesKept [0x50, 0x7B, 0x89] s t :=
    .of_eq (h.tbl.trans hx)
  exact .ite (.ite (recheckHeads_tables (by decide) s) (hnews (GateNews.headidUpdate s) rfl))
    (.ite (.ite (consLevels_tables (by decide) (by decide) _ s) (hnews (GateNews.consUpdate s) rfl))
      (.ite (hnews (GateNews.tempUpdate s) rfl) (.of_eq rfl)))

theorem hcSize_le (tb : Nat) : hcSize tb ≤ 6144 := by
  unfold hcSize
  (repeat' split) <;> decide

/-- A word that is stored reads as its defined bits (R248). -/
theorem hcConfigWriteOp_stores {tb a : Nat} {d : Word} (hw : tblWf s = true) (htb : tb ∈ [0x51, 0x52, 0x54, 0x58, 0x59])
    (hidle : swathActive s = false) (ha : a < hcSize tb)
    (hok : hcBreaks (tset tb a (d &&& word (hcMask tb a)) s) tb a (d &&& word (hcMask tb a)).toNat = false) :
    tget (hcConfigWriteOp tb a d s) tb a = d &&& word (hcMask tb a) := by
  have hsize := hcSize_le tb
  have hother : tb ∉ [0x50, 0x7B, 0x89] := by
    simp only [List.mem_cons, List.not_mem_nil, or_false] at htb ⊢
    omega
  simp only [hcConfigWriteOp, hidle, Nat.not_le.mpr ha, hok, if_false, Bool.false_eq_true]
  rw [(hcAfter_tables tb a _).words (tset_wf hw _ _ _) tb hother a (by omega), tget_tset_same hw]

/-! ### OPEN and CLOSE (R216) -/

theorem grp_foldl_setGrp (b : Bool) (hg : g < 32) : ∀ (l : List Nat) (m : BitVec 32),
    grp (l.foldl (fun m g => setGrp m g b) m) g = if g ∈ l then b else grp m g
  | [], _ => rfl
  | x :: l, m => by
    have hx : grp (setGrp m x b) g = if g = x then b else grp m g := by
      cases b
      · rw [grp_setGrp_false hg]; by_cases h : g = x <;> simp [h]
      · rw [grp_setGrp_true hg]; by_cases h : g = x <;> simp [h]
    rw [List.foldl_cons, grp_foldl_setGrp b hg l, hx]
    by_cases hl : g ∈ l <;> by_cases h : g = x <;> simp [hl, h]

theorem openOp_eq (w : Nat) (s : State) : openOp w s = { s with
    hc.hostClosed := (hcTargets 32 w).foldl (fun m g => setGrp m g false) s.hc.hostClosed
    hc.wdgClosed := (hcTargets 32 w).foldl (fun m g => setGrp m g false) s.hc.wdgClosed } := by
  unfold openOp
  induction hcTargets 32 w generalizing s with
  | nil => rfl
  | cons x l ih => rw [List.foldl_cons, ih]; rfl

/-! ### Gating inputs (R235) -/

theorem exec_gateInputLow (hck : clocked s = true) (i : Fin 3) : exec (.gateInputLow i) s = .next (inputLow i s) :=
  congrArg Host.Outcome.next (if_pos (portDecodes_of_clocked hck))

theorem exec_gateDwellExpiry (hck : clocked s = true) (i : Fin 3) :
    exec (.gateDwellExpiry i) s = .next (inputDwell i s) :=
  congrArg Host.Outcome.next (if_pos (portDecodes_of_clocked hck))

/-- A low sample of input `i` has been taken in. -/
def lowSeen (i : Nat) (s : State) : State :=
  { s with hc.inputs := modifyNth (lowSample s.tk) s.hc.inputs i, hc.jamWait := s.hc.jamWait && i != 2 }

/-- An open input that goes low has shut every group and counted. -/
def inputShut (i : Nat) (s : State) : State := raiseIfShut false true (bump 0x57 (32 + i) (lowSeen i s))

theorem inputLow_open {i : Nat} (h : inputClosed s i = false) :
    inputLow i s = if i = 2 then hcErrLees 8 [i] (inputShut i s) else hcErr 8 (inputShut i s) := by
  rw [inputClosed_eq] at h
  simp only [inputLow, h, Bool.false_eq_true, if_false]
  rfl

theorem inputShut_news (i : Nat) (s : State) : GateNews (bump 0x57 (32 + i) (lowSeen i s)) (inputShut i s) :=
  .raiseIfShut false true _

theorem inputLow_hc (i : Nat) (s : State) : (inputLow i s).hc = (lowSeen i s).hc := by
  cases h : inputClosed s i with
  | false =>
    rw [inputLow_open h]
    split
    · rw [hcErrLees_hc, (inputShut_news i s).hc, bump_hc]
    · rw [hcErr_hc, (inputShut_news i s).hc, bump_hc]
  | true =>
    rw [inputClosed_eq] at h
    simp only [inputLow, h, if_true]
    rfl

theorem lowSeen_input {i : Nat} (hi : i < s.hc.inputs.length) :
    (lowSeen i s).hc.inputs.getD i {} = lowSample s.tk (s.hc.inputs.getD i {}) := modifyNth_get_same _ _ _ _ hi

theorem lowSample_fourth {now : Nat} {x : GateInput} (hrun : x.lowRun = 3) (hat : x.lowAt + 1 = now) :
    (lowSample now x).known = true ∧ (lowSample now x).low = true := by
  have hne : x.lowAt ≠ now := by omega
  simp [lowSample, hne, hat, hrun]

/-- The input is shut, and the error recorded, for JAM with its lees record (R235, R246). -/
theorem inputLow_shuts (hw : WfState s) (hr : coreRuns s = true) (hf : logsFree s = true) {i : Fin 3}
    (h : inputClosed s i = false) : let t := inputLow i s
    inputClosed t i = true ∧ countedOne s t 0x57 (32 + i) ∧ newestError t s.tick 0x0808 ∧
    t.host.irqPend.getLsbD 4 = true ∧ (i = 2 → t.nvm.leesQ = s.nvm.leesQ ++ [leesRec s 8 8 [2]]) := by
  intro t
  have hnews := inputShut_news i s
  have hclosed : inputClosed t i = true := by
    rw [inputClosed_eq, inputLow_hc, lowSeen_input (by rw [hw.inputs]; exact i.isLt)]
    rfl
  have hcount {u : State} (hu : u.tbl = (inputShut i s).tbl) : countedOne s u 0x57 (32 + i) := by
    rw [countedOne, tget_congr (hu.trans hnews.tbl)]
    exact tget_bump (s := lowSeen i s) hw.tbl 0x57 (32 + i)
  have hirq : (inputShut i s).host.irqPend.getLsbD 4 = true := irqPend_raise_self (by decide) _
  have hr' : coreRuns (inputShut i s) = true := by rw [hnews.only]; exact hr
  have hf' : logsFree (inputShut i s) = true := by rw [hnews.only]; exact hf
  have htick : (inputShut i s).tick = s.tick := by rw [hnews.only]; rfl
  refine ⟨hclosed, ?_⟩
  simp only [t, inputLow_open h]
  split
  case isTrue hjam =>
    have hfault := hcErrLees_fault hr' hf' 8 [i]
    refine ⟨hcount hfault.tbl, htick ▸ hfault.newest, hfault.irq 4 hirq, fun _ => ?_⟩
    rw [hfault.lees, hnews.only, hjam]
    rfl
  case isFalse hjam =>
    exact ⟨hcount (hcErr_tbl _ _), htick ▸ newestError_recErr hr' 8 8, (Spares.recErr 8 8 _).irq 4 hirq,
      fun h2 => absurd (congrArg Fin.val h2) hjam⟩

theorem inputDwell_ends (hw : WfState s) {i : Fin 3} (h : inputClosed s i = true)
    (hd : dwellStart (s.hc.inputs.getD i {}) + dwellTk s i ≤ s.tk) : let t := inputDwell i s
    inputClosed t i = (i == 2) ∧ t.hc.jamWait = (s.hc.jamWait || i == 2) ∧ t.host = s.host := by
  have hi : i < s.hc.inputs.length := by rw [hw.inputs]; exact i.isLt
  rw [inputClosed_eq] at h
  simp only [inputDwell, h, hd, decide_true, Bool.and_self, if_true, inputClosed_eq]
  split
  case isTrue hjam =>
    obtain rfl : i = 2 := Fin.ext hjam
    refine ⟨?_, (Bool.or_true _).symm, rfl⟩
    rw [modifyNth_get_same _ _ _ _ hi]
    exact h
  case isFalse hjam =>
    have hne : (i == 2) = false := beq_eq_false_iff_ne.mpr fun h2 => hjam (congrArg Fin.val h2)
    rw [modifyNth_get_same _ _ _ _ hi, hne]
    exact ⟨rfl, (Bool.or_false _).symm, rfl⟩

theorem inputDwell_waits {i : Nat} (hd : s.tk < dwellStart (s.hc.inputs.getD i {}) + dwellTk s i) :
    inputDwell i s = s :=
  if_neg fun hdue => absurd (of_decide_eq_true (Bool.and_eq_true_iff.mp hdue).2) (Nat.not_le.mpr hd)

/-! ### JAM_REARM (R216, R235) -/

theorem jamRearmOp_refused (hwait : s.hc.jamWait = false) (hclosed : inputClosed s 2 = true) :
    jamRearmOp s = hcRefuse s := by
  simp [jamRearmOp, hwait, hclosed]

theorem jamRearmOp_idle (hwait : s.hc.jamWait = false) (hopen : inputClosed s 2 = false) : jamRearmOp s = s := by
  simp [jamRearmOp, hwait, hopen]

theorem jamRearmOp_rearms (hw : WfState s) (hwait : s.hc.jamWait = true) : let t := jamRearmOp s
    inputClosed t 2 = false ∧ t.hc.jamWait = false ∧ t.host = s.host := by
  simp only [jamRearmOp, hwait, if_true, inputClosed_eq]
  rw [modifyNth_get_same _ _ _ _ (by rw [hw.inputs]; decide)]
  exact ⟨rfl, trivial, trivial⟩

theorem hcCmd_reserved {op : Nat} (hop : op < 1 ∨ 8 < op) (w : Nat) (s : State) : hcCmd op w s = hcRefuse s := by
  rcases hop with hop | hop
  · obtain rfl : op = 0 := by omega
    rfl
  · obtain ⟨n, rfl⟩ : ∃ n, op = n + 9 := ⟨op - 9, by omega⟩
    rfl

end Sys2Proof.Machine
end

section
/-! The gates and the configuration of head care (O48). -/

open Sys2Proof.Machine Sys2Proof.Claims

/-- Settles O48: the configuration write by its outcomes, OPEN and CLOSE on the group maps, and a gating input from its
low sample to its dwell and re-arm. -/
theorem headCareGates : Obligations.HeadCareGates := by
  intro s hw hck refused
  have hr := coreRuns_of_clocked hck
  refine ⟨fun tb a d hrest htb => ?config, fun w hrest => ?opens, fun w hrest => ?closes, fun w hrest => ?rearm,
    fun i hopen hfree => ?low, fun i hrun hat => ?known, fun i hclosed => ?dwell, fun op w hrest hop => ?reserved⟩
  case config =>
    intro v
    have hexec := exec_hcConfigWrite hck hrest htb a d
    refine ⟨fun hact => ?_, fun hidle hsize => ?_, fun hidle hsize hbreaks => ?_, fun hidle hsize hok => ?_⟩
    · simp only [hexec, hcConfigWriteOp, hact, if_true]
      rfl
    · simp only [hexec, hcConfigWriteOp, hidle, hsize, if_true, Bool.false_eq_true, if_false]
    · simp only [hexec, hcConfigWriteOp, hidle, Nat.not_le.mpr hsize, Bool.false_eq_true, if_false]
      exact congrArg _ (if_pos hbreaks)
    · exact ⟨_, hexec, hcConfigWriteOp_stores hw.tbl htb hidle hsize hok⟩
  case opens =>
    refine ⟨_, exec_hcReg hck hrest rfl (openOp_eq w.toNat s), rfl, fun g hg => ?_⟩
    constructor
    all_goals
      refine (grp_foldl_setGrp false hg _ _).trans ?_
      by_cases hin : g ∈ hcTargets 32 w.toNat <;> simp [hin]
  case closes =>
    have hnews := GateNews.setHostGate ((hcTargets 32 w.toNat).foldl (fun m g => setGrp m g true) s.hc.hostClosed) s
    have hgrp {g : Nat} (hg : g < 32) : grp (closeOp w.toNat s).hc.hostClosed g =
        (grp s.hc.hostClosed g || decide (g ∈ hcTargets 32 w.toNat)) := by
      rw [closeOp, hnews.hc]
      refine (grp_foldl_setGrp true hg _ _).trans ?_
      by_cases hin : g ∈ hcTargets 32 w.toNat <;> simp [hin]
    refine ⟨closeOp w.toNat s, exec_hcReg hck hrest rfl rfl, fun g => hgrp, fun g hin => ?_, hnews.tbl⟩
    rw [groupGateOpen_eq_false_iff, hgrp (lt_of_mem_hcTargets hin)]
    simp [hin]
  case rearm =>
    exact ⟨fun hwait => ⟨_, exec_hcReg hck hrest rfl rfl, jamRearmOp_rearms hw hwait⟩,
      fun hwait hclosed => exec_hcReg hck hrest rfl (jamRearmOp_refused hwait hclosed),
      fun hwait hopen => exec_hcReg hck hrest rfl (jamRearmOp_idle hwait hopen)⟩
  case low =>
    obtain ⟨hshut, hcount, hnewest, hirq, hlees⟩ := inputLow_shuts hw hr hfree hopen
    exact ⟨_, exec_gateInputLow hck i, fun g _ => groupGateOpen_input hshut, hcount, hnewest, hirq, hlees⟩
  case known =>
    refine ⟨_, exec_gateInputLow hck i, ?_⟩
    rw [inputLow_hc, lowSeen_input (by rw [hw.inputs]; exact i.isLt)]
    exact lowSample_fourth hrun hat
  case dwell =>
    exact ⟨fun hdue => ⟨_, exec_gateDwellExpiry hck i, inputDwell_ends hw hclosed hdue⟩,
      fun hearly => (exec_gateDwellExpiry hck i).trans (congrArg _ (inputDwell_waits hearly))⟩
  case reserved =>
    exact exec_hcReg hck hrest (if_neg (by omega)) (hcCmd_reserved hop w.toNat s)
end


section
/-! Runs of table words, and bytes packed into them. -/

namespace Sys2Proof.Machine

/-- A run of values reads back within itself. -/
theorem cellGet_cellSetRun_same {α : Type} [DecidableEq α] {d : Nat → α} (x : α) : ∀ {vs : List α} {k i : Nat}
    {m : List (Nat × α)}, cellsWf d 0 m = true → i < vs.length → cellGet d (cellSetRun d k vs m) (k + i) = vs.getD i x
  | v :: vs, k, 0, m, hm, _ => by
    rw [cellSetRun, cellGet_cellSetRun_other (cellSet_wf (Nat.zero_le _) hm) (.inl (by omega)), Nat.add_zero,
      cellGet_cellSet_same hm, List.getD_cons_zero]
  | v :: vs, k, i + 1, m, hm, hi => by
    rw [cellSetRun, show k + (i + 1) = k + 1 + i by omega, List.getD_cons_succ]
    exact cellGet_cellSetRun_same x (cellSet_wf (Nat.zero_le _) hm) (Nat.lt_of_succ_lt_succ hi)

variable {s : State}

theorem tget_tsetRun_same (hw : tblWf s = true) (tb a : Nat) {vs : List Word} {i : Nat} (hi : i < vs.length) :
    tget (tsetRun tb a vs s) tb (a + i) = vs.getD i 0 := by
  rw [tget, show tkey tb (a + i) = tkey tb a + i by unfold tkey; omega]
  exact cellGet_cellSetRun_same 0 hw hi

/-- A run leaves the words before and behind it in its table alone. -/
theorem tget_tsetRun_other (hw : tblWf s = true) (tb : Nat) {a b : Nat} {vs : List Word}
    (hb : b < a ∨ a + vs.length ≤ b) : tget (tsetRun tb a vs s) tb b = tget s tb b :=
  cellGet_cellSetRun_other hw (by unfold tkey; omega)

theorem TablesKept.tsetRun {L : List Nat} {tb a : Nat} (hL : tb ∈ L) {vs : List Word} (ha : a + vs.length ≤ 2 ^ 24)
    (s : State) : TablesKept L s (tsetRun tb a vs s) := by
  refine ⟨fun hw => tsetRun_wf hw tb a vs, fun hw tb' ht a' ha' => cellGet_cellSetRun_other hw ?_⟩
  have hne : tb' ≠ tb := fun he => ht (he ▸ hL)
  unfold tkey
  omega

/-! ### Packed bytes -/

theorem packWords_length : ∀ (n : Nat) {bs : List Byte}, bs.length = 2 * n → (packWords bs).length = n
  | 0, [], _ => rfl
  | n + 1, b :: c :: bs, h => by
    rw [packWords, List.length_cons, packWords_length n (by simpa [Nat.mul_succ] using h)]
  | 0, _ :: _, h => by simp at h
  | n + 1, [], h => by simp at h
  | n + 1, [_], h => by simp at h; omega

end Sys2Proof.Machine
end


section
/-! Reads of head records (R217-R222, R238): the buses, the verdict on a record, and the HEADID sources. -/

namespace Sys2Proof.Machine

open Sys2Proof.Claims

variable {s t u : State} {g h : Nat}

/-! ### The HEADID sources (R222) -/

theorem headidUpdate_closed (hg : g < 32) (s : State) : grp (headidUpdate s).hc.headidClosed g = headidShut s g := by
  rw [(GateNews.headidUpdate s).hc]
  exact grp_grpMap _ hg

theorem headidShut_of_head (hhead : headOf s g = some h) (hbad : (s.hc.reads.getD h {}).busy = true ∨ headGood s h = false) :
    headidShut s g = true := by
  rcases hbad with hbad | hbad <;> simp only [headidShut, hhead, hbad, Bool.true_or, Bool.not_false, Bool.or_true]

/-- The head of a group is the one that the head map gives it. -/
theorem headOf_congr (hmap : ∀ a < 2 ^ 24, tget t 0x51 a = tget s 0x51 a) (g : Nat) : headOf t g = headOf s g := by
  refine List.find?_congr fun h hh => ?_
  have hlt := List.mem_range.mp hh
  have hen : headEn t h = headEn s h := by rw [headEn, tnat, hmap _ (by omega)]; rfl
  have hfirst : headFirst t h = headFirst s h := by rw [headFirst, tnat, hmap _ (by omega)]; rfl
  have hgroups : headGroups t h = headGroups s h := by rw [headGroups, tnat, hmap _ (by omega)]; rfl
  rw [hen, hfirst, hgroups]

/-- The HEADID sources close for the groups of a head that is being read or not good. -/
theorem headidUpdate_shuts (hmap : ∀ a < 2 ^ 24, tget t 0x51 a = tget s 0x51 a) (hg : g < 32) (hhead : headOf s g = some h)
    (hbad : (t.hc.reads.getD h {}).busy = true ∨ headGood t h = false) :
    grp (headidUpdate t).hc.headidClosed g = true ∧ groupGateOpen (headidUpdate t) g = false := by
  have hclosed := (headidUpdate_closed hg t).trans (headidShut_of_head ((headOf_congr hmap g).trans hhead) hbad)
  exact ⟨hclosed, groupGateOpen_headid hclosed⟩

/-! ### Reads and their buses (R219) -/

theorem lt_of_readBusy (hb : (s.hc.reads.getD h {}).busy = true) : h < s.hc.reads.length := by
  by_contra hlt
  rw [List.getD_eq_default _ _ (by omega)] at hb
  cases hb

theorem setRead_same (hh : h < s.hc.reads.length) (f : HeadRead → HeadRead) :
    (setRead h f s).hc.reads.getD h {} = f (s.hc.reads.getD h {}) := modifyNth_get_same f {} _ h hh

theorem setRead_other {k : Nat} (hne : k ≠ h) (f : HeadRead → HeadRead) :
    (setRead h f s).hc.reads.getD k {} = s.hc.reads.getD k {} := modifyNth_get_other f {} _ h k hne

/-- From `s` to `t` reads have at most been asked for or begun. -/
structure ReadsGo (s t : State) : Prop where
  only : t = { s with hc.reads := t.hc.reads }
  length : t.hc.reads.length = s.hc.reads.length
  busy : ∀ k, (s.hc.reads.getD k {}).busy = true → (t.hc.reads.getD k {}).busy = true

namespace ReadsGo

theorem refl (s : State) : ReadsGo s s := ⟨rfl, rfl, fun _ => id⟩

theorem trans (hst : ReadsGo s t) (htu : ReadsGo t u) : ReadsGo s u :=
  ⟨htu.only.trans (by rw [hst.only]), htu.length.trans hst.length, fun k hk => htu.busy k (hst.busy k hk)⟩

theorem setRead (h : Nat) {f : HeadRead → HeadRead} (hf : ∀ r, r.busy = true → (f r).busy = true) (s : State) :
    ReadsGo s (setRead h f s) := by
  refine ⟨rfl, modifyNth_length f _ h, fun k hk => ?_⟩
  by_cases hkh : k = h
  · subst hkh
    rw [setRead_same (lt_of_readBusy hk)]
    exact hf _ hk
  · rwa [setRead_other hkh]

end ReadsGo

/-- A bus takes up the read of a head that waits for it, and touches no other head. -/
theorem pumpBus_spec (b : Nat) (s : State) : ReadsGo s (pumpBus b s) ∧
    ∀ k, (s.hc.reads.getD k {}).busy = false → (pumpBus b s).hc.reads.getD k {} = s.hc.reads.getD k {} := by
  unfold pumpBus
  dsimp only
  split
  · exact ⟨.refl s, fun _ _ => rfl⟩
  · split
    case h_1 h hfind =>
      refine ⟨.setRead h (f := fun r => { r with active := true }) (fun _ hb => hb) s, fun k hk => setRead_other (fun hkh => ?_) _⟩
      have hwaits := List.find?_some hfind
      rw [← hkh, hk, Bool.and_false] at hwaits
      cases hwaits
    case h_2 => exact ⟨.refl s, fun _ _ => rfl⟩

theorem pumpBuses_spec (s : State) : ReadsGo s (pumpBuses s) ∧
    ∀ k, (s.hc.reads.getD k {}).busy = false → (pumpBuses s).hc.reads.getD k {} = s.hc.reads.getD k {} := by
  unfold pumpBuses
  induction List.range 4 generalizing s with
  | nil => exact ⟨.refl s, fun _ _ => rfl⟩
  | cons b l ih =>
    obtain ⟨hgo, hidle⟩ := pumpBus_spec b s
    obtain ⟨hgo', hidle'⟩ := ih (pumpBus b s)
    exact ⟨hgo.trans hgo', fun k hk => (hidle' k (by rw [hidle k hk, hk])).trans (hidle k hk)⟩

/-- The read of a head ends, and its bus goes to the next head. -/
theorem readEnded_spec (hh : h < s.hc.reads.length) {f : HeadRead → HeadRead} (hf : ∀ r, (f r).busy = false) :
    let t := pumpBuses (setRead h f s)
    t.hc.reads.getD h {} = f (s.hc.reads.getD h {}) ∧ t.tbl = s.tbl ∧ t.tick = s.tick ∧ t.boot = s.boot := by
  obtain ⟨hgo, hidle⟩ := pumpBuses_spec (setRead h f s)
  have hread := setRead_same hh f
  exact ⟨(hidle h (by rw [hread, hf])).trans hread, by rw [hgo.only]; rfl, by rw [hgo.only]; rfl, by rw [hgo.only]; rfl⟩

/-! ### HM_READ -/

/-- The enabled heads of a list are asked for. -/
def readsAsked (hs : List Nat) (s : State) : State :=
  hs.foldl (fun st h => if headEn s h then setRead h (fun r => { r with busy := true }) st else st) s

theorem startReads_eq (hs : List Nat) (s : State) : startReads hs s = headidUpdate (pumpBuses (readsAsked hs s)) := rfl

theorem readsAsked_spec {hs : List Nat} (hin : h ∈ hs) (hlt : h < s.hc.reads.length) (hen : headEn s h = true) :
    ((readsAsked hs s).hc.reads.getD h {}).busy = true ∧ ReadsGo s (readsAsked hs s) := by
  have hstep (t : State) (x : Nat) :
      ReadsGo t (if headEn s x then setRead x (fun r => { r with busy := true }) t else t) := by
    split
    · exact .setRead x (fun _ _ => rfl) t
    · exact .refl t
  refine foldl_reaches (I := ReadsGo s) (P := fun t => (t.hc.reads.getD h {}).busy = true)
    (fun t x _ ht => ht.trans (hstep t x)) (fun t _ ht => ?_) (fun t x _ _ hb => (hstep t x).busy h hb) (.refl s) (.inl hin)
  rw [if_pos hen, setRead_same (by rw [ht.length]; exact hlt)]

/-- HM_READ of an enabled head: its read is under way, and HEADID shuts its groups (R219, R222). -/
theorem startReads_starts {hs : List Nat} (hin : h ∈ hs) (hlt : h < s.hc.reads.length) (hen : headEn s h = true) :
    let t := startReads hs s
    (t.hc.reads.getD h {}).busy = true ∧ t.tbl = s.tbl ∧
    ∀ g < 32, headOf s g = some h → grp t.hc.headidClosed g = true ∧ groupGateOpen t g = false := by
  obtain ⟨hbusy, hasked⟩ := readsAsked_spec hin hlt hen
  have hgo := hasked.trans (pumpBuses_spec _).1
  have htbl : (pumpBuses (readsAsked hs s)).tbl = s.tbl := by rw [hgo.only]
  have hreads := (pumpBuses_spec _).1.busy h hbusy
  have hnews := GateNews.headidUpdate (pumpBuses (readsAsked hs s))
  simp only [startReads_eq]
  refine ⟨?_, hnews.tbl.trans htbl, fun g hg hhead => ?_⟩
  · rw [hnews.hc]
    exact hreads
  · exact headidUpdate_shuts (fun a _ => by rw [tget_congr htbl]) hg hhead (.inl hreads)

/-! ### A record arrives (R221) -/

theorem recordFault_le (s : State) (h : Nat) (bs : List Byte) : recordFault s h bs ≤ 7 := by
  unfold recordFault
  dsimp only
  (repeat' split) <;> decide

/-- The status word of a head (R248). -/
def statusWord (fault : Nat) : Word := word ((if fault = 0 then 0x8000 else 0) + 0x4000 + fault)

/-- GOOD is bit 15 of the status. -/
theorem headGood_of_status {fault : Nat} (hstatus : tget s 0x50 (1024 + h) = statusWord fault) (h0 : fault ≠ 0)
    (h7 : fault ≤ 7) : headGood s h = false := by
  rw [headGood, tnat, hstatus, statusWord, if_neg h0]
  interval_cases fault <;> rfl

/-- What follows the storing of a record leaves head care as it is but for the nozzles' waits and the HEADID sources. -/
theorem curveBadCheck_same (s0 : State) (h : Nat) (s : State) :
    ((curveBadCheck s0 h s).hc, (curveBadCheck s0 h s).tbl) = (s.hc, s.tbl) := by
  refine foldl_same (π := fun x : State => (x.hc, x.tbl)) (fun st g => ?_) _ s
  split
  · simp only [recErr_hc, recErr_tbl]
    rfl
  · rfl

/-- The record of head `h` has been stored with its verdict. -/
def recordStored (h : Nat) (bs : List Byte) (s : State) : State :=
  headStatus h (recordFault s h bs) (tsetRun 0x50 (32 * h) (packWords bs)
    (pumpBuses (setRead h (fun _ => { sent := senseWrite s h }) s)))

theorem headComplete_eq (h : Nat) (bs : List Byte) (s : State) : ∃ x, headComplete h bs s = headidUpdate x ∧
    x.hc.reads = (recordStored h bs s).hc.reads ∧ TablesKept [0x7B, 0x89] (recordStored h bs s) x := by
  let logged := if recordFault s h bs = 0 then recordStored h bs s
    else hcErrLees 2 [h, recordFault s h bs] (recordStored h bs s)
  have hlogged : logged.hc = (recordStored h bs s).hc ∧ TablesKept [0x7B, 0x89] (recordStored h bs s) logged := by
    simp only [logged]
    split
    · exact ⟨rfl, .of_eq rfl⟩
    · exact ⟨hcErrLees_hc _ _ _, .hcErrLees (by decide) (by decide) _ _ _⟩
  obtain ⟨hhc, htbl⟩ := Prod.mk.inj (curveBadCheck_same s h (clearWaits s h logged))
  refine ⟨curveBadCheck s h (clearWaits s h logged), rfl, ?_, hlogged.2.trans (.of_eq htbl)⟩
  rw [hhc, ← hlogged.1]
  rfl

/-- A record of 64 bytes is stored, whatever its verdict (R219, R221, R222). -/
theorem headComplete_stores (hw : WfState s) (hh : h < 32) {bs : List Byte} (hlen : bs.length = 64) :
    let f := recordFault s h bs
    let t := headComplete h bs s
    t.hc.reads.getD h {} = { sent := senseWrite s h } ∧
    (∀ i < 32, tget t 0x50 (32 * h + i) = (packWords bs).getD i 0) ∧ tget t 0x50 (1024 + h) = statusWord f ∧
    (f ≠ 0 → ∀ g < 32, headOf s g = some h → groupGateOpen t g = false) := by
  intro f t
  obtain ⟨x, hx, hreads, htables⟩ := headComplete_eq h bs s
  have ht : t = headidUpdate x := hx
  have hnews := GateNews.headidUpdate x
  have hwords : (packWords bs).length = 32 := packWords_length 32 hlen
  obtain ⟨hread, htbl, -, -⟩ := readEnded_spec (s := s) (h := h) (by rw [hw.reads]; exact hh)
    (f := fun _ => { sent := senseWrite s h }) (fun _ => rfl)
  have hw1 := (tblWf_congr htbl).trans hw.tbl
  have hw2 := tsetRun_wf hw1 0x50 (32 * h) (packWords bs)
  have hw3 : tblWf (recordStored h bs s) = true := tset_wf hw2 _ _ _
  have hstored (i : Nat) (hi : i < 32) : tget (recordStored h bs s) 0x50 (32 * h + i) = (packWords bs).getD i 0 :=
    (tget_tset_other hw2 (fun he => by have := ((tkey_inj (by omega) (by omega)).mp he).2; omega) _).trans
      (tget_tsetRun_same hw1 0x50 (32 * h) (by omega))
  have hstatus : tget x 0x50 (1024 + h) = statusWord f :=
    (htables.words hw3 0x50 (by decide) _ (by omega)).trans (tget_tset_same hw2 _ _ _)
  have hmap (a : Nat) (ha : a < 2 ^ 24) : tget x 0x51 a = tget s 0x51 a := by
    have hkept : TablesKept [0x50] s (recordStored h bs s) := (TablesKept.of_eq htbl).trans
      ((TablesKept.tsetRun (by decide) (by omega) _).trans (.tset (by decide) (by omega) _ _))
    exact (htables.words hw3 0x51 (by decide) a ha).trans (hkept.words hw.tbl 0x51 (by decide) a ha)
  refine ⟨?_, fun i hi => ?_, ?_, fun hf g hg hhead => ?_⟩
  · rw [ht, hnews.hc]
    show x.hc.reads.getD h {} = _
    rw [hreads]
    exact hread
  · rw [ht, tget_congr hnews.tbl]
    exact (htables.words hw3 0x50 (by decide) _ (by omega)).trans (hstored i hi)
  · rw [ht, tget_congr hnews.tbl]
    exact hstatus
  · rw [ht]
    exact (headidUpdate_shuts hmap hg hhead (.inr (headGood_of_status hstatus hf (recordFault_le s h bs)))).2

/-! ### An attempt fails (R217, R219) -/

theorem headAttemptFails_retries (htries : (s.hc.reads.getD h {}).tries < 3) :
    headAttemptFails h s = setRead h (fun r => { r with tries := r.tries + 1, retryAt := some (s.tk + 250000) }) s :=
  if_pos htries

theorem headAttemptFails_gives_up (hw : WfState s) (hr : coreRuns s = true) (hh : h < 32)
    (htries : 3 ≤ (s.hc.reads.getD h {}).tries) : let t := headAttemptFails h s
    t.hc.reads.getD h {} = { sent := (s.hc.reads.getD h {}).sent } ∧ tget t 0x50 (1024 + h) = 0x4001 ∧
    newestError t s.tick 0x0801 := by
  obtain ⟨hread, htbl, htick, hboot⟩ := readEnded_spec (s := s) (h := h) (by rw [hw.reads]; exact hh)
    (f := fun r => { sent := r.sent }) (fun _ => rfl)
  let marked := headStatus h 1 (pumpBuses (setRead h (fun r => { sent := r.sent }) s))
  have ht : headAttemptFails h s = headidUpdate (hcErr 1 marked) := if_neg (by omega)
  have hnews := GateNews.headidUpdate (hcErr 1 marked)
  have hr' : coreRuns marked = true := (coreRuns_congr (t := marked) hboot).trans hr
  rw [ht]
  refine ⟨?_, ?_, hnews.newest (htick ▸ newestError_recErr hr' 8 1)⟩
  · rw [hnews.hc]
    show (hcErr 1 marked).hc.reads.getD h {} = _
    rw [hcErr_hc]
    exact hread
  · rw [tget_congr (hnews.tbl.trans (hcErr_tbl 1 marked))]
    exact tget_tset_same ((tblWf_congr htbl).trans hw.tbl) _ _ _

/-! ### The commands -/

section
variable {head : Fin 32} (hck : clocked s = true)
include hck

theorem exec_hmReadComplete {bs : List Byte} (hlen : bs.length = 64) (hb : (s.hc.reads.getD head {}).busy = true)
    (ha : (s.hc.reads.getD head {}).active = true) (hn : (s.hc.reads.getD head {}).retryAt = none) :
    exec (.hmReadComplete head bs) s = .next (headComplete head bs s) := by
  refine (if_neg (not_not.mpr hlen)).trans (congrArg Host.Outcome.next (if_pos ?_))
  simp only [hck, hb, ha, hn, Option.isNone_none, Bool.and_self]

theorem exec_hmReadRetry_fails (hb : (s.hc.reads.getD head {}).busy = true)
    (ha : (s.hc.reads.getD head {}).active = true) (hn : (s.hc.reads.getD head {}).retryAt = none) :
    exec (.hmReadRetry head) s = .next (headAttemptFails head s) := by
  refine congrArg Host.Outcome.next ((if_pos ?_).trans ?_)
  · simp only [hck, hb, ha, Bool.and_self]
  · simp only [hn]

theorem exec_hmReadRetry_again {k : Nat} (hb : (s.hc.reads.getD head {}).busy = true)
    (ha : (s.hc.reads.getD head {}).active = true) (hn : (s.hc.reads.getD head {}).retryAt = some k) (hk : k ≤ s.tk) :
    exec (.hmReadRetry head) s = .next (setRead head (fun r => { r with retryAt := none }) s) := by
  refine congrArg Host.Outcome.next ((if_pos ?_).trans ?_)
  · simp only [hck, hb, ha, Bool.and_self]
  · simp only [hn, if_pos hk]

/-- A fault of a head bus fails the attempt of the head that holds the bus. -/
theorem exec_hmbBusFault {b : Fin 5} (hb4 : b.val < 4) (hbus : headBus s head = b.val)
    (hb : (s.hc.reads.getD head {}).busy = true) (ha : (s.hc.reads.getD head {}).active = true)
    (hn : (s.hc.reads.getD head {}).retryAt = none) (hfirst : ∀ k < head.val, (s.hc.reads.getD k {}).active = false) :
    exec (.hmbBusFault b) s = .next (headAttemptFails head
      (bump 0x5B (2 + b.val) { s with hc.busFault := s.hc.busFault ||| 2 ^ b.val })) := by
  have hfind : (List.range 32).find? (fun h => headBus s h == b.val && (s.hc.reads.getD h {}).busy
      && (s.hc.reads.getD h {}).active && (s.hc.reads.getD h {}).retryAt.isNone) = some head.val := by
    refine List.find?_range_eq_some.mpr ⟨?_, List.mem_range.mpr head.isLt, fun k hk => ?_⟩
    · simp only [hbus, hb, ha, hn, beq_self_eq_true, Option.isNone_none, Bool.and_self]
    · simp only [hfirst k hk, Bool.and_false, Bool.false_and, Bool.not_false]
  refine congrArg Host.Outcome.next ((if_pos hck).trans ((if_neg (by omega)).trans ?_))
  simp only [hfind]

end

end Sys2Proof.Machine
end


section
/-! Samples of the head temperatures (R232, R233). -/

namespace Sys2Proof.Machine

open Sys2Proof.Claims

variable {s t : State} {g : Nat}

/-! ### The TEMP sources -/

theorem tempUpdate_closed (hg : g < 32) (s : State) : grp (tempUpdate s).hc.tempClosed g = tempShut s g := by
  rw [(GateNews.tempUpdate s).hc]
  exact grp_grpMap _ hg

@[simp] theorem tempOf_tempUpdate (s : State) (g : Nat) : tempOf (tempUpdate s) g = tempOf s g := by
  rw [tempOf, (GateNews.tempUpdate s).hc]
  rfl

/-- A wake event touches the host port and the power ladder alone, and records no error (R360). -/
theorem wake_only (b : Nat) (s : State) :
    ∃ w p, wake b s = { s with host := w, pwr := p } ∧ w.errHist = s.host.errHist := by
  unfold wake
  split
  · dsimp only
    (repeat' split) <;> exact ⟨_, _, rfl, rfl⟩
  · exact ⟨_, _, rfl, rfl⟩

/-! ### One sample -/

/-- The temperature of a code (R232). -/
def tempOfCode (s : State) (g code : Nat) : Int :=
  tempW s g 1 + (calibratedCode (tempCal s g) code : Int) * tempW s g 2 / 4096

/-- What group `g` holds after a sample, its state as before. -/
def sampleTaken (s : State) (g code : Nat) : HeadTemp :=
  { tempRuns s g code (tempOfCode s g code) (tempOf s g) with
    scanAt := some (periodNow (tempOf s g).scanAt (tempPeriod s) s) }

/-- The state with the temperature of group `g` as `x`. -/
def tempTo (s : State) (g : Nat) (x : HeadTemp) : State := { s with hc.temps := modifyNth (fun _ => x) s.hc.temps g }

/-- A limit that is passed (R233): the state entered, its error with a lees record, and HEAD. -/
def tempEntered (s : State) (g code : Nat) (x : HeadTemp) : State :=
  wake 7 (raise irqHead (hcErrLees code [g] (if code = 6 then bump 0x55 (4 * g + 3) (tempTo s g x) else tempTo s g x)))

theorem tempSample_eq (s : State) (g code : Nat) : tempSample g code s =
    let x := sampleTaken s g code
    tempUpdate (if 8 ≤ x.overRun ∧ x.st ≠ .over then tempEntered s g 6 { x with st := .over }
      else if 8 ≤ x.underRun ∧ x.st ≠ .under then tempEntered s g 6 { x with st := .under }
      else if 8 ≤ x.faultRun ∧ x.st ≠ .fault then tempEntered s g 7 { x with st := .fault }
      else if x.st ≠ .normal ∧ 8 ≤ x.bandRun ∧ dwellTk s 3 ≤ s.tk - x.bandFrom then tempTo s g { x with st := .normal }
      else tempTo s g { x with st := x.st }) := rfl

theorem tempOf_tempTo (hg : g < s.hc.temps.length) (x : HeadTemp) : tempOf (tempTo s g x) g = x :=
  modifyNth_get_same (fun _ => x) {} s.hc.temps g hg

theorem sampleTaken_good {code : Nat} (hlo : 15 < code) (hhi : code < 4080) :
    let x := sampleTaken s g code
    let T := tempOfCode s g code
    x.st = (tempOf s g).st ∧ x.t = T ∧ x.valid = true ∧ x.at_ = s.tk ∧ x.faultRun = 0 ∧
    x.overRun = (if tempW s g 4 < T then (tempOf s g).overRun + 1 else 0) ∧
    x.underRun = (if T < tempW s g 3 then (tempOf s g).underRun + 1 else 0) ∧
    x.bandRun = (if tempW s g 3 + 8 ≤ T ∧ T ≤ tempW s g 4 - 8 then (tempOf s g).bandRun + 1 else 0) ∧
    ((tempOf s g).bandRun ≠ 0 → x.bandFrom = (tempOf s g).bandFrom) := by
  have hcode : ¬ (code ≤ 15 ∨ 4080 ≤ code) := by omega
  simp only [sampleTaken, tempRuns, if_neg hcode, Bool.and_eq_true, decide_eq_true_eq, true_and, beq_iff_eq]
  exact fun h0 => if_neg fun h => h0 h.2

section
variable {code : Nat} (hlo : 15 < code) (hhi : code < 4080)
include hlo hhi

/-- A sample within the limits leaves a normal group normal. -/
theorem tempSample_normal (hover : tempOfCode s g code ≤ tempW s g 4) (hunder : tempW s g 3 ≤ tempOfCode s g code)
    (hst : (tempOf s g).st = .normal) :
    tempSample g code s = tempUpdate (tempTo s g (sampleTaken s g code)) := by
  obtain ⟨hst', -, -, -, hfault, hoverRun, hunderRun, -, -⟩ := sampleTaken_good (s := s) (g := g) hlo hhi
  rw [if_neg (by omega)] at hoverRun hunderRun
  simp [tempSample_eq, hoverRun, hunderRun, hfault, hst', hst]

/-- The eighth sample in a row above the upper limit. -/
theorem tempSample_over (hover : tempW s g 4 < tempOfCode s g code) (hst : (tempOf s g).st ≠ .over)
    (hrun : (tempOf s g).overRun = 7) :
    tempSample g code s = tempUpdate (tempEntered s g 6 { sampleTaken s g code with st := .over }) := by
  obtain ⟨hst', -, -, -, -, hoverRun, -, -, -⟩ := sampleTaken_good (s := s) (g := g) hlo hhi
  rw [if_pos hover, hrun] at hoverRun
  simp [tempSample_eq, hoverRun, hst', hst]

/-- The eighth sample in a row in the band, the dwell over. -/
theorem tempSample_recovers (hin : tempW s g 3 + 8 ≤ tempOfCode s g code) (hin' : tempOfCode s g code ≤ tempW s g 4 - 8)
    (hst : (tempOf s g).st ≠ .normal) (hrun : (tempOf s g).bandRun = 7)
    (hdwell : dwellTk s 3 ≤ s.tk - (tempOf s g).bandFrom) :
    tempSample g code s = tempUpdate (tempTo s g { sampleTaken s g code with st := .normal }) := by
  obtain ⟨hst', -, -, -, hfault, hoverRun, hunderRun, hbandRun, hfrom⟩ := sampleTaken_good (s := s) (g := g) hlo hhi
  rw [if_neg (by omega)] at hoverRun hunderRun
  rw [if_pos ⟨hin, hin'⟩, hrun] at hbandRun
  simp [tempSample_eq, hoverRun, hunderRun, hfault, hst', hst, hbandRun, hfrom (by omega), hdwell]

end

/-- OVER: TEMP shuts the group, the event is counted and recorded with a lees record (R233, R246). -/
theorem tempEntered_over (hw : WfState s) (hr : coreRuns s = true) (hf : logsFree s = true) (hg : g < 32) {x : HeadTemp}
    (hst : x.st = .over) : let t := tempUpdate (tempEntered s g 6 x)
    (tempOf t g).st = .over ∧ countedOne s t 0x55 (4 * g + 3) ∧ newestError t s.tick 0x0806 ∧
    groupGateOpen t g = false ∧ t.nvm.leesQ = s.nvm.leesQ ++ [leesRec s 8 6 [g]] := by
  let counted := bump 0x55 (4 * g + 3) (tempTo s g x)
  have hfault := (hcErrLees_fault (s := counted) hr hf 6 [g]).news (GateNews.raise irqHead _)
  obtain ⟨w, p, hwake, herr⟩ := wake_only 7 (raise irqHead (hcErrLees 6 [g] counted))
  have hentered : tempEntered s g 6 x = { raise irqHead (hcErrLees 6 [g] counted) with host := w, pwr := p } := hwake
  have hnews := GateNews.tempUpdate (tempEntered s g 6 x)
  have hlt : g < s.hc.temps.length := by rw [hw.temps]; exact hg
  have htemp : tempOf (tempEntered s g 6 x) g = x := by
    rw [hentered, tempOf]
    show (raise irqHead (hcErrLees 6 [g] counted)).hc.temps.getD g {} = x
    rw [hfault.hc]
    exact tempOf_tempTo hlt x
  refine ⟨by rw [tempOf_tempUpdate, htemp, hst], ?_, hnews.newest ?_, ?_, ?_⟩
  · rw [countedOne, tget_congr (hnews.tbl.trans ((congrArg State.tbl hentered).trans hfault.tbl))]
    exact tget_bump (s := tempTo s g x) hw.tbl 0x55 (4 * g + 3)
  · rw [hentered, newestError]
    exact (congrArg List.head? herr).trans hfault.newest
  · have hshut : tempShut (tempEntered s g 6 x) g = true := by
      rw [tempShut, htemp, hst]
      exact Bool.or_true _
    rw [groupGateOpen_eq_false_iff, tempUpdate_closed hg]
    exact .inr (.inr (.inr (.inl hshut)))
  · rw [hnews.nvm, hentered]
    exact hfault.lees

theorem exec_headTempSample (hck : clocked s = true) {g : Fin 32}
    (hdue : ∀ k, (tempOf s g).scanAt = some k → k + tempPeriod s ≤ s.tk) (code : BitVec 12) :
    exec (.headTempSample g code) s = .next (tempSample g code.toNat s) := by
  obtain ⟨hup, hpwr⟩ := Bool.and_eq_true_iff.mp hck
  have hperiod : periodDue (tempOf s g).scanAt (tempPeriod s) s = true := by
    unfold periodDue
    split
    · exact decide_eq_true (hdue _ ‹_›)
    · rfl
  have hawake : s.pwr.state ≤ 4 := by have := of_decide_eq_true hpwr; omega
  exact congrArg Host.Outcome.next (if_pos (by simp [hup, hawake, hperiod]))

end Sys2Proof.Machine
end

section
/-! Head records and head temperatures (O49). -/

open Sys2Proof.Machine Sys2Proof.Claims

/-- Settles O49: the reads of a head from HM_READ to its record or its last attempt, and a temperature sample by what it
brings the group to. -/
theorem headRecordsAndTemperature : Obligations.HeadRecordsAndTemperature := by
  intro s h hw hck r
  have hr := coreRuns_of_clocked hck
  have hlt : h.val < s.hc.reads.length := by rw [hw.reads]; exact h.isLt
  have htemps : h.val < s.hc.temps.length := by rw [hw.temps]; exact h.isLt
  refine ⟨fun w hrest => ⟨fun hbad => ?refused, fun hidle hin hen => ?starts⟩, fun bs hlen hb ha hn => ?stored,
    fun hb ha hn htries => ?retries, fun hb ha hn htries => ?givesUp, fun k hb ha hn hk => ?again,
    fun b hb4 hbus hb ha hn htries hfirst => ?busFault, fun code k hlast hearly => ?early,
    fun code hlo hhi => ?sample⟩
  case refused =>
    have hop : hmReadOp w.toNat s = hcRefuse s := if_pos (by rcases hbad with hbad | hbad <;> simp [hbad])
    exact exec_hcReg hck hrest rfl hop
  case starts =>
    have hop : hmReadOp w.toNat s = startReads (hcTargets 32 w.toNat) s :=
      if_neg (by simp [hidle, List.ne_nil_of_mem hin])
    exact ⟨_, exec_hcReg hck hrest rfl hop, startReads_starts hin hlt hen⟩
  case stored => exact ⟨_, exec_hmReadComplete hck hlen hb ha hn, headComplete_stores hw h.isLt hlen⟩
  case retries =>
    exact (exec_hmReadRetry_fails hck hb ha hn).trans (congrArg _ (headAttemptFails_retries htries))
  case givesUp => exact ⟨_, exec_hmReadRetry_fails hck hb ha hn, headAttemptFails_gives_up hw hr h.isLt htries⟩
  case again => exact exec_hmReadRetry_again hck hb ha hn hk
  case busFault =>
    refine ⟨_, (exec_hmbBusFault hck hb4 hbus hb ha hn hfirst).trans (congrArg _ (headAttemptFails_retries htries)),
      tget_bump (s := { s with hc.busFault := s.hc.busFault ||| 2 ^ b.val }) hw.tbl 0x5B (2 + b), rfl, ?_⟩
    exact setRead_same hlt _
  case early =>
    refine congrArg Host.Outcome.next (if_neg ?_)
    simp [periodDue, hlast, hearly]
  case sample =>
    intro x T hdue
    have hexec := exec_headTempSample hck hdue code
    refine ⟨fun hover hunder hst => ?normal, fun hover hst hrun hfree => ?exceeds,
      fun hin hin' hst hrun hen hdwell => ?recovers⟩
    case normal =>
      obtain ⟨hst', ht, hvalid, hat, -, hoverRun, hunderRun, -, -⟩ := sampleTaken_good (s := s) (g := h) hlo hhi
      refine ⟨_, hexec.trans (congrArg _ (tempSample_normal hlo hhi hover hunder hst)), ?_⟩
      rw [tempOf_tempUpdate, tempOf_tempTo htemps]
      exact ⟨ht, hvalid, hat, hst'.trans hst, hoverRun.trans (if_neg (not_lt.mpr hover)),
        hunderRun.trans (if_neg (not_lt.mpr hunder)), (GateNews.tempUpdate _).tbl⟩
    case exceeds =>
      exact ⟨_, hexec.trans (congrArg _ (tempSample_over hlo hhi hover hst hrun)),
        tempEntered_over hw hr hfree h.isLt rfl⟩
    case recovers =>
      refine ⟨_, hexec.trans (congrArg _ (tempSample_recovers hlo hhi hin hin' hst hrun hdwell)), ?_, ?_⟩
      · rw [tempOf_tempUpdate, tempOf_tempTo htemps]
      · rw [tempUpdate_closed h.isLt, tempShut, tempOf_tempTo htemps]
        simp [show tempEn (tempTo s h _) h = true from hen]
end


section
/-! Consumables: authentication, write-backs and the CONS sources (R224-R231). -/

namespace Sys2Proof.Machine

open Sys2Proof.Claims

variable {s t u : State} {f g : Nat}

/-! ### Slots -/

theorem consOf_setConsSlot (hf : f < s.hc.cons.length) (k : Cons → Cons) : consOf (setConsSlot f k s) f = k (consOf s f) :=
  modifyNth_get_same k {} s.hc.cons f hf

theorem consOf_congr (h : t.hc = s.hc) (f : Nat) : consOf t f = consOf s f := by rw [consOf, h, consOf]

@[simp] theorem consOf_consUpdate (s : State) (f : Nat) : consOf (consUpdate s) f = consOf s f := by
  rw [consOf, (GateNews.consUpdate s).hc]
  rfl

theorem consLevels_slot (hf : f < s.hc.cons.length) : consOf (consLevels f s) f = { consOf s f with
    exhausted := (consOf s f).seen && decide ((consOf s f).remain * 1000 ≤ pendingPl (consOf s f))
    low := (consOf s f).seen && decide ((consOf s f).remain * 1000 ≤ pendingPl (consOf s f) + lowMark s f * 1000) } := by
  obtain ⟨x, hx, hhc, -⟩ := consLevels_eq f s
  rw [hx, consOf_consUpdate, consOf_congr hhc]
  exact consOf_setConsSlot hf _

/-! ### The CONS sources (R231) -/

/-- A slot that is not authenticated shuts the groups it feeds. -/
theorem consUpdate_shuts (hmap : ∀ a < 2 ^ 24, tget t 0x52 a = tget s 0x52 a) (hauth : (consOf t f).auth = false)
    (hg : g < 32) (hen : fluidEn s g = true) (hfluid : fluidOf s g = f) : groupGateOpen (consUpdate t) g = false := by
  have hword : tnat t 0x52 (256 + g) = tnat s 0x52 (256 + g) := congrArg BitVec.toNat (hmap _ (by omega))
  have hshut : consShut t g = true := by
    simp [consShut, show fluidEn t g = true from (congrArg (bit · 15) hword).trans hen,
      show fluidOf t g = f from (congrArg (bits · 2 0) hword).trans hfluid, hauth]
  have hclosed : grp (consUpdate t).hc.consClosed g = true := by
    rw [(GateNews.consUpdate t).hc]
    exact (grp_grpMap _ hg).trans hshut
  rw [groupGateOpen_eq_false_iff]
  simp [hclosed]

/-! ### Commands (R216, R226, R229) -/

theorem consAuthOp_starts (hf : f < 8) (hen : consEn s f = true) : consAuthOp f s = startAuth true f s := by
  simp [consAuthOp, hcTargets_one hf (by decide), hen]

theorem consAuthOp_refused (hf : f < 8) (hen : consEn s f = false) : consAuthOp f s = hcRefuse s := by
  simp [consAuthOp, hcTargets_one hf (by decide), hen]

theorem consSyncOp_asks (hf : f < 8) (hauth : (consOf s f).auth = true) :
    consSyncOp f s = setConsSlot f (fun c => { c with syncReq := true }) s := by
  simp [consSyncOp, hcTargets_one hf (by decide), hauth]

theorem consSyncOp_refused (hf : f < 8) (hauth : (consOf s f).auth = false) : consSyncOp f s = hcRefuse s := by
  simp [consSyncOp, hcTargets_one hf (by decide), hauth]

/-- An exchange starts with a fresh nonce (R225). -/
theorem withNonce_slot (hf : f < s.hc.cons.length) (dec : Option Nat) : consOf (withNonce dec f s) f = { consOf s f with
    nonce := Config.random s.free, pollFrom := s.tk, sent := consMessage s f (Config.random s.free) dec } :=
  consOf_setConsSlot (s := { s with free := s.free + 1 }) hf _

theorem startAuth_spec (hf : f < s.hc.cons.length) (hen : consEn s f = true) : let t := startAuth true f s
    t.free = s.free + 1 ∧ consOf t f = { consOf s f with
      authBusy := true, byCommand := true, nonce := Config.random s.free, pollFrom := s.tk
      sent := 0x01 :: bytesBE 16 (Config.random s.free).toNat } := by
  have hlen : f < (withNonce none f s).hc.cons.length := (modifyNth_length _ _ _).symm ▸ hf
  simp only [startAuth, hen, if_true]
  refine ⟨rfl, ?_⟩
  rw [consOf_setConsSlot hlen, withNonce_slot hf]
  rfl

/-! ### Replies to AUTH (R226) -/

/-- A verified slot with `p` pending. -/
def verified (r : CartReply) (p : Nat) (c : Cons) : Cons :=
  { c with auth := true, authBusy := false, cid := r.cid, seen := true, remain := r.remain.toNat, pending10 := p }

theorem lowMark_of_tables {L : List Nat} (hw : tblWf s = true) (h : TablesKept L s t) (hL : 0x52 ∉ L) (hf : f < 8) :
    lowMark t f = lowMark s f := by
  simp only [lowMark, tnat32, tnat, h.words hw 0x52 hL _ (show 8 * f + 2 < 2 ^ 24 by omega),
    h.words hw 0x52 hL _ (show 8 * f + 2 + 1 < 2 ^ 24 by omega)]

/-- A lees record leaves head care alone, and every table but the counters of lost records. -/
theorem leesIf_kept (b : Bool) (data : List Nat) (s : State) : let t := if b then lees 0x08 0x81 data s else s
    t.hc = s.hc ∧ TablesKept [0x7B, 0x89] s t := by
  cases b
  · exact ⟨rfl, .of_eq rfl⟩
  · exact ⟨lees_hc _ _ _ _, .lees (by decide) (by decide) _ _ _ _⟩

theorem authReply_verified (hw : WfState s) (hf : f < 8) {r : CartReply} (hmac : macOk s f 0x81 r = true) :
    let c := consOf s f
    let p := if c.byCommand = true ∧ c.seen = true ∧ c.cid ≠ r.cid then 0 else c.pending10
    consOf (authReply f r s) f = { c with
      auth := true, authBusy := false, cid := r.cid, seen := true, remain := r.remain.toNat, pending10 := p
      exhausted := decide (r.remain.toNat * 1000 ≤ p / 10)
      low := decide (r.remain.toNat * 1000 ≤ p / 10 + lowMark s f * 1000) } := by
  intro c p
  let swap := c.byCommand && c.seen && decide (c.cid ≠ r.cid)
  let taken := setConsSlot f (fun x => verified r (if swap then 0 else x.pending10) x) s
  have hlen : f < s.hc.cons.length := by rw [hw.cons]; exact hf
  obtain ⟨y, hy, hhc, htables⟩ : ∃ y, authReply f r s = consLevels f y ∧ y.hc = taken.hc ∧
      TablesKept [0x7B, 0x89] s y := by
    obtain ⟨hhc, htables⟩ := leesIf_kept swap [f, pendingPl c / 1000 / 65536 % 256, pendingPl c / 1000 / 256 % 256,
      pendingPl c / 1000 % 256] taken
    exact ⟨_, if_pos hmac, hhc, (TablesKept.of_eq (s := s) (t := taken) rfl).trans htables⟩
  have hp : (if swap then 0 else c.pending10) = p := by simp only [swap, p, Bool.and_eq_true, decide_eq_true_eq, and_assoc]
  have hslot : consOf y f = verified r p c :=
    (consOf_congr hhc f).trans ((consOf_setConsSlot hlen _).trans (congrArg (verified r · c) hp))
  rw [hy, consLevels_slot (by rw [hhc]; exact (modifyNth_length _ _ _).symm ▸ hlen), hslot,
    lowMark_of_tables hw.tbl htables (by decide) hf]
  rfl

/-- Authentication has failed: AUTH is 0, CONS shuts the groups of the slot, and the error is recorded (R226, R231). -/
structure AuthFailed (f : Nat) (s t : State) : Prop where
  auth : (consOf t f).auth = false
  authBusy : (consOf t f).authBusy = false
  gates : ∀ g < 32, fluidEn s g = true → fluidOf s g = f → groupGateOpen t g = false
  newest : newestError t s.tick 0x0803
  irq : t.host.irqPend.getLsbD 8 = true
  lees : t.nvm.leesQ = s.nvm.leesQ ++ [leesRec s 8 3 [f]]

theorem authFails_spec (hf : f < s.hc.cons.length) (hr : coreRuns s = true) (hfree : logsFree s = true) :
    AuthFailed f s (authFails f s) := by
  let failed := setConsSlot f (fun c => { c with authBusy := false, auth := false }) s
  let logged := raise irqHead (hcErrLees 3 [f] failed)
  have hlogged : HeadFault 3 [f] failed logged := (hcErrLees_fault (s := failed) hr hfree 3 [f]).news (GateNews.raise irqHead _)
  have hslot : consOf logged f = { consOf s f with authBusy := false, auth := false } :=
    (consOf_congr hlogged.hc f).trans (consOf_setConsSlot hf _)
  have hnews : GateNews _ (authFails f s) := GateNews.consUpdate logged
  refine ⟨?_, ?_, fun g hg hen hfluid => ?_, hnews.newest hlogged.newest, hnews.irq 8 ?_, ?_⟩
  · exact (congrArg Cons.auth (consOf_consUpdate logged f)).trans (congrArg Cons.auth hslot)
  · exact (congrArg Cons.authBusy (consOf_consUpdate logged f)).trans (congrArg Cons.authBusy hslot)
  · exact consUpdate_shuts (fun a _ => by rw [tget_congr hlogged.tbl]; rfl) (by rw [hslot]) hg hen hfluid
  · exact irqPend_raise_self (by decide) _
  · rw [hnews.nvm]; exact hlogged.lees

/-! ### Write-backs (R229, R230) -/

/-- A slot that has failed an attempt tries again 10 ms later. -/
def triedAgain (now : Nat) (c : Cons) : Cons := { c with wbTries := c.wbTries + 1, wbRetryAt := some (now + 2500000) }

/-- Up to three times a failed attempt is counted and repeated. -/
theorem writebackFails_retries (hentry : (consOf s f).atEntry = false) (htries : (consOf s f).wbTries < 3) :
    writebackFails f s = setConsSlot f (triedAgain s.tk) (bump 0x53 (16 * f + 10) s) := by
  rw [writebackFails, if_neg (by rw [hentry]; decide), if_pos htries]
  rfl

theorem triedAgain_counts (hw : tblWf s = true) (hf : f < s.hc.cons.length) :
    let t := setConsSlot f (triedAgain s.tk) (bump 0x53 (16 * f + 10) s)
    countedOne s t 0x53 (16 * f + 10) ∧ consOf t f = triedAgain s.tk (consOf s f) :=
  ⟨tget_bump hw _ _, consOf_setConsSlot (s := bump 0x53 (16 * f + 10) s) hf _⟩

/-- The last attempt that fails leaves the slot UNSYNCED, with its error. -/
theorem writebackFails_gives_up (hf : f < s.hc.cons.length) (hr : coreRuns s = true) (hfree : logsFree s = true)
    (hentry : (consOf s f).atEntry = false) (htries : 3 ≤ (consOf s f).wbTries) : let t := writebackFails f s
    consOf t f = { consOf s f with wbBusy := false, unsynced := true } ∧ newestError t s.tick 0x0804 ∧
    t.host.irqPend.getLsbD 8 = true := by
  let unsynced := setConsSlot f (fun c => { c with wbBusy := false, unsynced := true }) (bump 0x53 (16 * f + 10) s)
  have heq : writebackFails f s = raise irqHead (hcErrLees 4 [f] unsynced) := by
    rw [writebackFails, if_neg (by rw [hentry]; decide), if_neg (Nat.not_lt.mpr htries)]
  have hfault : HeadFault 4 [f] unsynced (writebackFails f s) :=
    heq ▸ (hcErrLees_fault (s := unsynced) hr hfree 4 [f]).news (GateNews.raise irqHead _)
  refine ⟨(consOf_congr hfault.hc f).trans (consOf_setConsSlot (s := bump 0x53 (16 * f + 10) s) hf _), hfault.newest, ?_⟩
  rw [heq]
  exact irqPend_raise_self (by decide) _

section
variable {r : CartReply}

theorem writebackReply_bad (hmac : macOk s f 0x82 r = false) (hcid : (consOf s f).cid = r.cid) :
    writebackReply f r s = writebackFails f s := by
  rw [writebackReply, if_neg (not_not.mpr hcid), if_pos (by rw [hmac]; rfl)]

theorem writebackReply_done (hmac : macOk s f 0x82 r = true) (hcid : (consOf s f).cid = r.cid)
    (hremain : r.remain.toNat = (consOf s f).remain - (consOf s f).wbDec) :
    writebackReply f r s = consLevels f (setConsSlot f (fun x => { x with
      wbBusy := false, atEntry := false, pending10 := x.pending10 - x.wbDec * 10000
      remain := r.remain.toNat, lastSync := s.tk, unsynced := false, unsyncedClosed := false }) s) := by
  rw [writebackReply, if_neg (not_not.mpr hcid), if_neg (by rw [hmac]; decide), if_pos hremain]

/-- A reply of another cartridge fails the attempt, ends AUTH and shuts the groups of the slot. -/
theorem writebackReply_swapped (hw : WfState s) (hf : f < 8) (hcid : (consOf s f).cid ≠ r.cid)
    (hentry : (consOf s f).atEntry = false) (htries : (consOf s f).wbTries < 3) : let t := writebackReply f r s
    countedOne s t 0x53 (16 * f + 10) ∧ consOf t f = triedAgain s.tk { consOf s f with auth := false } ∧
    ∀ g < 32, fluidEn s g = true → fluidOf s g = f → groupGateOpen t g = false := by
  have hlen : f < s.hc.cons.length := by rw [hw.cons]; exact hf
  let ended := setConsSlot f (fun c => { c with auth := false }) s
  have hslot : consOf ended f = { consOf s f with auth := false } := consOf_setConsSlot hlen _
  let tried := setConsSlot f (triedAgain s.tk) (bump 0x53 (16 * f + 10) ended)
  have heq : writebackReply f r s = consUpdate tried := by
    refine (if_pos hcid).trans (congrArg consUpdate (writebackFails_retries (s := ended) ?_ ?_))
    · rw [hslot]; exact hentry
    · rw [hslot]; exact htries
  have htried : consOf tried f = triedAgain s.tk { consOf s f with auth := false } := by
    rw [← hslot]
    exact (triedAgain_counts (s := ended) hw.tbl ((modifyNth_length _ _ _).symm ▸ hlen)).2
  have htables : TablesKept [0x53] s tried :=
    (TablesKept.bump (tb := 0x53) (a := 16 * f + 10) (by decide) (by omega) s).trans (.of_eq rfl)
  rw [heq]
  refine ⟨?_, by rw [consOf_consUpdate, htried], fun g hg hen hfluid => ?_⟩
  · rw [countedOne, tget_congr (GateNews.consUpdate tried).tbl]
    exact tget_bump (s := ended) hw.tbl _ _
  · exact consUpdate_shuts (htables.words hw.tbl 0x52 (by decide)) (by rw [htried]; rfl) hg hen hfluid

end

/-! ### The commands -/

section
variable {slot : Fin 8} (hck : clocked s = true)
include hck

theorem exec_consAuthReply (hbusy : (consOf s slot).authBusy = true) (r : CartReply) :
    exec (.consAuthReply slot r) s = .next (authReply slot r s) :=
  congrArg Host.Outcome.next (if_pos (by rw [hck, hbusy]; rfl))

theorem exec_consWritebackReply (hbusy : (consOf s slot).wbBusy = true) (hwait : (consOf s slot).wbRetryAt = none)
    (r : CartReply) : exec (.consWritebackReply slot r) s = .next (writebackReply slot r s) :=
  congrArg Host.Outcome.next (if_pos (by rw [hck, hbusy, hwait]; rfl))

theorem exec_consWritebackRetry {k : Nat} (hbusy : (consOf s slot).wbBusy = true)
    (hwait : (consOf s slot).wbRetryAt = some k) (hk : k ≤ s.tk) : exec (.consWritebackRetry slot) s =
      .next (withNonce (some (consOf s slot).wbDec) slot (setConsSlot slot (fun c => { c with wbRetryAt := none }) s)) := by
  refine congrArg Host.Outcome.next ((if_pos (by rw [hck, hbusy]; rfl)).trans ?_)
  simp only [hwait, if_pos hk]

theorem exec_cartridgePollTimeout (hbusy : (consOf s slot).authBusy = true)
    (hdue : (consOf s slot).pollFrom + 5000000 ≤ s.tk) :
    exec (.cartridgePollTimeout slot) s = .next (authFails slot s) := by
  have hacts : (clocked s && decide ((consOf s slot).pollFrom + msTk 20 ≤ s.tk)) = true := by
    rw [hck, Bool.true_and]
    exact decide_eq_true hdue
  exact congrArg Host.Outcome.next ((if_pos hacts).trans (if_pos hbusy))

end

theorem cartridgePollTimeout_early {slot : Fin 8} (hearly : s.tk < (consOf s slot).pollFrom + 5000000) :
    exec (.cartridgePollTimeout slot) s = .next s :=
  congrArg Host.Outcome.next (if_neg fun hdue =>
    absurd (of_decide_eq_true (Bool.and_eq_true_iff.mp hdue).2) (Nat.not_le.mpr hearly))

end Sys2Proof.Machine
end

section
/-! Consumables (O50). -/

open Sys2Proof.Machine Sys2Proof.Claims

/-- Settles O50: the commands, the replies to AUTH and to a write-back by what they verify, and what follows silence. -/
theorem consumables : Obligations.Consumables := by
  intro s f hw hck c w failed retried
  have hr := coreRuns_of_clocked hck
  have hlen : f.val < s.hc.cons.length := by rw [hw.cons]; exact f.isLt
  have hw6 : w.toNat = f.val := BitVec.toNat_ofNat _ _ |>.trans (Nat.mod_eq_of_lt (by omega))
  have hfails {i : Sys2Proof.Instr} (hi : exec i s = .next (authFails f s)) (hfree : logsFree s = true) :
      ∃ t, exec i s = .next t ∧ failed t := by
    obtain ⟨hauth, hbusy, hgates, hnewest, hirq, hlees⟩ := authFails_spec hlen hr hfree
    exact ⟨_, hi, hauth, hbusy, hgates, hnewest, hirq, hlees⟩
  refine ⟨fun hrest hen => ?auth, fun hrest hen => ?authRefused, fun hrest hauth => ?sync,
    fun hrest hauth => ?syncRefused, fun r hbusy => ⟨fun hmac => ?verified, fun hmac hfree => ?unverified⟩,
    fun hbusy hdue hfree => ?silent, fun hearly => cartridgePollTimeout_early hearly, fun r hbusy hwait => ?writeback,
    fun k hbusy hwait hk => ?again⟩
  case auth =>
    exact ⟨_, exec_hcReg hck hrest rfl ((congrArg (consAuthOp · s) hw6).trans (consAuthOp_starts f.isLt hen)),
      startAuth_spec hlen hen⟩
  case authRefused =>
    exact exec_hcReg hck hrest rfl ((congrArg (consAuthOp · s) hw6).trans (consAuthOp_refused f.isLt hen))
  case sync =>
    exact ⟨_, exec_hcReg hck hrest rfl ((congrArg (consSyncOp · s) hw6).trans (consSyncOp_asks f.isLt hauth)),
      consOf_setConsSlot hlen _, rfl⟩
  case syncRefused =>
    exact exec_hcReg hck hrest rfl ((congrArg (consSyncOp · s) hw6).trans (consSyncOp_refused f.isLt hauth))
  case verified => exact ⟨_, exec_consAuthReply hck hbusy r, authReply_verified hw f.isLt hmac⟩
  case unverified =>
    refine hfails ((exec_consAuthReply hck hbusy r).trans (congrArg _ (if_neg ?_))) hfree
    rw [hmac]
    decide
  case silent => exact hfails (exec_cartridgePollTimeout hck hbusy hdue) hfree
  case writeback =>
    have hexec := exec_consWritebackReply hck hbusy hwait r
    refine ⟨fun hmac hcid hremain => ?done, fun hmac hcid hentry htries => ?retries,
      fun hcid hentry htries => ⟨_, hexec, writebackReply_swapped hw f.isLt hcid hentry htries⟩,
      fun hmac hcid hentry htries hfree => ?givesUp⟩
    case done =>
      refine ⟨_, hexec.trans (congrArg _ (writebackReply_done hmac hcid hremain)), ?_⟩
      rw [consLevels_slot ((modifyNth_length _ _ _).symm ▸ hlen), consOf_setConsSlot hlen]
      exact ⟨rfl, rfl, rfl, rfl, rfl, rfl⟩
    case retries =>
      exact ⟨_, hexec.trans (congrArg _ ((writebackReply_bad hmac hcid).trans (writebackFails_retries hentry htries))),
        triedAgain_counts hw.tbl hlen⟩
    case givesUp =>
      exact ⟨_, hexec.trans (congrArg _ (writebackReply_bad hmac hcid)),
        writebackFails_gives_up hlen hr hfree hentry htries⟩
  case again =>
    refine ⟨_, exec_consWritebackRetry hck hbusy hwait hk, ?_⟩
    have hslot : consOf (setConsSlot f (fun c => { c with wbRetryAt := none }) s) f = { c with wbRetryAt := none } :=
      consOf_setConsSlot hlen _
    rw [withNonce_slot ((modifyNth_length _ _ _).symm ▸ hlen), hslot]
    simp only [consMessage, hslot]
    rfl
end


section
/-! Nozzle signatures: learned templates (R245), judged slots (R240, R241, R244) and the bursts they come from (R238,
R239). -/

namespace Sys2Proof.Machine

open Sys2Proof.Claims

variable {s t : State}

/-! ### Bytes of a table (R248) -/

theorem packWords_getD : ∀ (n : Nat) {bs : List Byte} {j : Nat}, bs.length = 2 * n → j < n →
    (packWords bs).getD j 0 = word ((bs.getD (2 * j) 0).toNat * 256 + (bs.getD (2 * j + 1) 0).toNat)
  | n + 1, b :: c :: bs, 0, _, _ => rfl
  | n + 1, _ :: _ :: bs, j + 1, h, hj =>
    packWords_getD n (bs := bs) (j := j) (by simpa [Nat.mul_succ] using h) (by omega)
  | n + 1, [], _, h, _ => by simp at h
  | n + 1, [_], _, h, _ => by simp at h; omega

/-- A run of packed bytes reads back byte by byte. -/
theorem tbyte_tsetRun_same (hw : tblWf s = true) (tb a : Nat) {n i : Nat} {bs : List Byte} (hlen : bs.length = 2 * n)
    (hi : i < 2 * n) : tbyte (tsetRun tb a (packWords bs) s) tb (2 * a + i) = (bs.getD i 0).toNat := by
  have hword : tnat (tsetRun tb a (packWords bs) s) tb ((2 * a + i) / 2) =
      (bs.getD (2 * (i / 2)) 0).toNat * 256 + (bs.getD (2 * (i / 2) + 1) 0).toNat := by
    rw [show (2 * a + i) / 2 = a + i / 2 by omega, tnat,
      tget_tsetRun_same hw tb a (by rw [packWords_length n hlen]; omega), packWords_getD n hlen (by omega), word,
      BitVec.toNat_ofNat]
    have := (bs.getD (2 * (i / 2)) 0).isLt
    have := (bs.getD (2 * (i / 2) + 1) 0).isLt
    omega
  have hlow := (bs.getD (2 * (i / 2) + 1) 0).isLt
  unfold tbyte
  rw [hword]
  rcases Nat.mod_two_eq_zero_or_one i with h | h
  · rw [if_pos (by omega), show 2 * (i / 2) = i by omega] at *
    omega
  · rw [if_neg (by omega), show 2 * (i / 2) + 1 = i by omega] at *
    omega

/-- A run of packed bytes leaves the bytes before and behind it in its table alone. -/
theorem tbyte_tsetRun_other (hw : tblWf s = true) (tb a : Nat) {n i : Nat} {bs : List Byte} (hlen : bs.length = 2 * n)
    (hi : i < 2 * a ∨ 2 * a + 2 * n ≤ i) : tbyte (tsetRun tb a (packWords bs) s) tb i = tbyte s tb i := by
  simp only [tbyte, tnat]
  rw [tget_tsetRun_other hw tb (by rw [packWords_length n hlen]; omega)]

theorem tbyte_lt (s : State) (tb i : Nat) : tbyte s tb i < 256 := by
  have := (tget s tb (i / 2)).isLt
  unfold tbyte tnat
  split <;> omega

/-! ### The end of learning (R245) -/

/-- The bytes of the template of code `x` that learning ends with. -/
def learned (s : State) (l : Learn) (x : Nat) : List Byte :=
  let sums := l.sums.getD (x - 1) []
  let old := (List.range 64).map (fun i => templateByte s l.wf x i)
  (sums.map (fun (n : Nat) => (roundDiv n (l.counts.getD (x - 1) 0)).toNat) ++ old.drop sums.length).map (BitVec.ofNat 8)

/-- The template of code `x` is replaced where a slot was taken for it. -/
def learnCode (s : State) (l : Learn) (st : State) (x : Nat) : State :=
  if l.counts.getD (x - 1) 0 = 0 then st else tsetRun 0x58 (32 * (3 * l.wf + x - 1)) (packWords (learned s l x)) st

theorem learnEnd_eq (l : Learn) (s : State) :
    learnEnd l s = [1, 2, 3].foldl (learnCode s l) { s with hc.learn := none } := rfl

section
variable {l : Learn} {x i : Nat}

theorem learned_length (hsum : (l.sums.getD (x - 1) []).length ≤ 64) : (learned s l x).length = 64 := by
  simp only [learned, List.length_map, List.length_append, List.length_drop, List.length_range]
  omega

theorem learned_getD (hi : i < 64) : ((learned s l x).getD i 0).toNat =
    if i < (l.sums.getD (x - 1) []).length then
      (roundDiv ((l.sums.getD (x - 1) []).getD i 0) (l.counts.getD (x - 1) 0)).toNat % 256
    else templateByte s l.wf x i := by
  generalize hsums : l.sums.getD (x - 1) [] = sums
  simp only [learned, hsums, List.getD_eq_getElem?_getD, List.getElem?_map, List.getElem?_append, List.length_map]
  split
  case isTrue hin => simp [hin]
  case isFalse hout =>
    have hpos : sums.length + (i - sums.length) = i := by omega
    simp only [List.getElem?_drop, hpos, List.getElem?_map, List.getElem?_range hi, Option.map_some, Option.getD_some,
      BitVec.toNat_ofNat]
    exact Nat.mod_eq_of_lt (tbyte_lt s 0x58 _)

/-- The bytes of the templates after those of code `x` have been replaced. -/
theorem templateByte_learnCode {st : State} {y : Nat} (hw : tblWf st = true)
    (hsum : (l.sums.getD (x - 1) []).length ≤ 64) (hx : 1 ≤ x) (hy : 1 ≤ y) (hi : i < 64) :
    templateByte (learnCode s l st x) l.wf y i =
      if l.counts.getD (x - 1) 0 ≠ 0 ∧ y = x then ((learned s l x).getD i 0).toNat else templateByte st l.wf y i := by
  have hlen : (learned s l x).length = 2 * 32 := learned_length hsum
  by_cases hk : l.counts.getD (x - 1) 0 = 0
  · rw [learnCode, if_pos hk, if_neg fun h => h.1 hk]
  · rw [learnCode, if_neg hk]
    by_cases hyx : y = x
    · subst hyx
      rw [if_pos ⟨hk, rfl⟩, templateByte, show 64 * (3 * l.wf + y - 1) = 2 * (32 * (3 * l.wf + y - 1)) by omega,
        tbyte_tsetRun_same hw 0x58 _ hlen (by omega)]
    · rw [if_neg (fun h => hyx h.2), templateByte, tbyte_tsetRun_other hw 0x58 _ hlen (by omega)]
      rfl

theorem learnCode_wf {st : State} (hw : tblWf st = true) : tblWf (learnCode s l st x) = true := by
  unfold learnCode
  split
  · exact hw
  · exact tsetRun_wf hw _ _ _

theorem learnCode_hc (s : State) (l : Learn) (st : State) (x : Nat) : (learnCode s l st x).hc = st.hc := by
  unfold learnCode
  split <;> rfl

end

/-- Learning ends: the templates of the codes that took slots become their rounded means, the others stay. -/
theorem learnEnd_spec {l : Learn} (hw : tblWf s = true) (hsums : ∀ x, (l.sums.getD x []).length ≤ 64) :
    (learnEnd l s).hc = { s.hc with learn := none } ∧ ∀ x, 1 ≤ x → x ≤ 3 → ∀ i < 64,
      templateByte (learnEnd l s) l.wf x i =
        if l.counts.getD (x - 1) 0 ≠ 0 ∧ i < (l.sums.getD (x - 1) []).length then
          (roundDiv ((l.sums.getD (x - 1) []).getD i 0) (l.counts.getD (x - 1) 0)).toNat % 256
        else templateByte s l.wf x i := by
  rw [learnEnd_eq]
  refine ⟨foldl_same (π := State.hc) (learnCode_hc s l) _ _, fun x hx h3 i hi => ?_⟩
  let ended : State := { s with hc.learn := none }
  have hw0 : tblWf ended = true := hw
  have hw1 := learnCode_wf (s := s) (l := l) (x := 1) hw0
  have hw2 := learnCode_wf (s := s) (l := l) (x := 2) hw1
  have hcode (x y : Nat) {st : State} (hst : tblWf st = true) (hx : 1 ≤ x) (hy : 1 ≤ y) :=
    templateByte_learnCode (s := s) (l := l) (x := x) (y := y) hst (hsums (x - 1)) hx hy hi
  have hlearned : templateByte ([1, 2, 3].foldl (learnCode s l) ended) l.wf x i =
      if l.counts.getD (x - 1) 0 ≠ 0 then ((learned s l x).getD i 0).toNat else templateByte s l.wf x i := by
    simp only [List.foldl_cons, List.foldl_nil]
    rw [hcode 3 x hw2 (by decide) hx, hcode 2 x hw1 (by decide) hx, hcode 1 x hw0 (by decide) hx]
    interval_cases x <;> simp [ended] <;> rfl
  rw [hlearned, learned_getD hi, ite_and]

/-! ### A judged slot (R240, R241, R244) -/

/-- The slot differs from its template by more than the threshold of its group. -/
def slotDiffers (s : State) (c : Nat) (row : Nat × Nat × Nat) (slot : List Byte) : Bool :=
  decide (tnat s 0x59 (8 * (c / 8) + 2) < slotSad s row.2.1 row.2.2 slot)

/-- The history of a nozzle with the verdict on its slot. -/
def historyWith (s : State) (c : Nat) (row : Nat × Nat × Nat) (slot : List Byte) : List Bool :=
  (slotDiffers s c row slot :: (nozzleOf s c row.1).history).take 8

/-- The nozzle is to be declared out: SIGLIM of its verdicts are bad, and it is not out yet. -/
def outBy (s : State) (c n : Nat) (hist : List Bool) : Bool :=
  decide (max 1 (bits (tnat s 0x59 (8 * (c / 8) + 3)) 3 0) ≤ (hist.filter id).length) && !outNow s c n

/-- The verdict has joined the history of the nozzle. -/
def slotJudged (s : State) (c : Nat) (row : Nat × Nat × Nat) (slot : List Byte) : State :=
  bump32 0x5B 10 (putNozzle { nozzleOf s c row.1 with history := historyWith s c row slot, fires := 0 } s)

theorem nozzleOf_names (s : State) (c n : Nat) : (nozzleOf s c n).channel = c ∧ (nozzleOf s c n).nozzle = n := by
  unfold nozzleOf
  cases hfind : s.hc.nozzles.find? (fun z => z.channel == c && z.nozzle == n) with
  | none => exact ⟨rfl, rfl⟩
  | some z => simpa using List.find?_some hfind

theorem nozzleOf_putNozzle (z : Nozzle) (s : State) : nozzleOf (putNozzle z s) z.channel z.nozzle = z := by
  simp [nozzleOf, putNozzle]

theorem nozzleOf_slotJudged (s : State) (c : Nat) (row : Nat × Nat × Nat) (slot : List Byte) :
    nozzleOf (slotJudged s c row slot) c row.1 =
      { nozzleOf s c row.1 with history := historyWith s c row slot, fires := 0 } := by
  obtain ⟨hchan, hnozzle⟩ := nozzleOf_names s c row.1
  have h := nozzleOf_putNozzle { nozzleOf s c row.1 with history := historyWith s c row slot, fires := 0 } s
  rwa [hchan, hnozzle] at h

section
variable {c : Nat} {row : Nat × Nat × Nat} {slot : List Byte}

/-- A slot with a saturated sample is only counted. -/
theorem judgeSlot_saturated (hsat : ∃ x ∈ slot, x = 0 ∨ x = 255) : judgeSlot c row slot s = bump 0x5B 8 s :=
  if_pos (by simpa using hsat)

theorem judgeSlot_judges (hclean : ∀ x ∈ slot, x ≠ 0 ∧ x ≠ 255) (hlearn : s.hc.learn = none) :
    judgeSlot c row slot s = if outBy s c row.1 (historyWith s c row slot) then declareOut c row.1 (slotJudged s c row slot)
      else slotJudged s c row slot := by
  have hsat : slot.any (fun b => b == 0 || b == 255) = false := by simpa using hclean
  rw [judgeSlot, hsat, hlearn]
  rfl

end

/-- A nozzle declared out has its entry prepared, and the error recorded (R241, R246). -/
theorem declareOut_eq (c n : Nat) (s : State) : ∃ e : Prepared, e.channel = c ∧ e.nozzle = n ∧
    declareOut c n s = hcErrLees 11 [c, n / 256, n % 256] { s with hc.prepared := s.hc.prepared ++ [e] } := by
  refine ⟨_, ?_, ?_, rfl⟩ <;> split <;> rfl

/-! ### A burst (R238-R240) -/

theorem burstStarts_same (h : ∀ b ∈ s.hc.bursts, b.sampler.isSome = true) : burstStarts s = s := by
  have hnone : s.hc.bursts.find? (fun b => b.sampler.isNone && decide (b.start ≤ s.tk)) = none := by
    refine List.find?_eq_none.mpr fun b hb => ?_
    rw [← Option.not_isSome, h b hb]
    exact Bool.false_ne_true
  have hstep : burstStart s = s := by simp only [burstStart, hnone]
  unfold burstStarts
  induction List.range 32 with
  | nil => rfl
  | cons _ l ih => rw [List.foldl_cons, hstep, ih]

/-- The only burst there is has its samples judged. -/
theorem exec_signatureBurst {g : Fin 32} {slots : List (List Byte)} {b : Burst} (hck : clocked s = true)
    (hlen : slots.length = 8) (hslots : ∀ l ∈ slots, l.length = sigLen s g) (hb : s.hc.bursts = [b]) (hg : b.group = g.val)
    (hs : b.sampler.isSome = true) (hstop : b.stop ≤ s.tk) :
    exec (.signatureBurst g slots) s = .next (judgeBurst b slots s) := by
  have hstarts : burstStarts s = s := burstStarts_same (by simpa [hb] using hs)
  have hburst : burstOf s g = some b := by simp [burstOf, hb, hg, hs, hstop]
  have hall : (clocked s && slots.all (fun l => l.length == sigLen s g.val)) = true := by simpa [hck] using hslots
  refine (if_neg (not_not.mpr hlen)).trans (congrArg Host.Outcome.next ((if_pos hall).trans ?_))
  simp only [hstarts, hburst]

/-- A burst of one row. -/
theorem judgeBurst_one {b : Burst} {row : Nat × Nat × Nat} (hb : s.hc.bursts = [b])
    (hrows : b.rows = some row :: List.replicate 7 none) (slots : List (List Byte)) : judgeBurst b slots s =
      judgeSlot (8 * b.group) row (samplerBytes s b (slots.getD 0 [])) { s with hc.bursts := [] } := by
  have herase : s.hc.bursts.erase b = [] := by simp [hb]
  rw [judgeBurst, herase, hrows]
  rfl

/-! ### Commands (R216, R242, R245) -/

theorem nzResetOp_resets {w : Nat} (hidle : swathActive s = false) (hne : hcTargets 32 w ≠ []) :
    nzResetOp w s = { s with hc.nozzles := s.hc.nozzles.map (fun z =>
      if z.channel / 8 ∈ hcTargets 32 w then { z with wait := 0, history := [] } else z) } := by
  simp [nzResetOp, hidle, hne]

theorem nzResetOp_refused {w : Nat} (hact : swathActive s = true) : nzResetOp w s = hcRefuse s := by
  simp [nzResetOp, hact]

theorem tplLearnOp_starts {w : Nat} (hidle : s.hc.learn = none) :
    tplLearnOp w s = { s with hc.learn := some { wf := w, until_ := s.tk + 250000000 } } := by
  simp [tplLearnOp, hidle]

theorem tplLearnOp_refused {w : Nat} (hbusy : s.hc.learn.isSome = true) : tplLearnOp w s = hcRefuse s := if_pos hbusy

theorem exec_tplLearnEnd {l : Learn} (hck : clocked s = true) (hl : s.hc.learn = some l) :
    exec .tplLearnEnd s = .next (if learnDone s l then learnEnd l s else s) := by
  refine congrArg Host.Outcome.next ?_
  simp only [hl, hck, Bool.true_and]

end Sys2Proof.Machine
end

section
/-! Nozzle signatures (O51). -/

open Sys2Proof.Machine Sys2Proof.Claims

/-- Settles O51: the commands, learning until its second has passed, and the slot of a burst from its samples to the
nozzle's history and its substitution. -/
theorem nozzleSignatures : Obligations.NozzleSignatures := by
  intro s hw hck
  have hr := coreRuns_of_clocked hck
  refine ⟨fun w hrest => ⟨fun hidle hne => exec_hcReg hck hrest rfl (nzResetOp_resets hidle hne),
      fun hact => exec_hcReg hck hrest rfl (nzResetOp_refused hact),
      fun hidle => exec_hcReg hck hrest rfl (tplLearnOp_starts hidle),
      fun hbusy => exec_hcReg hck hrest rfl (tplLearnOp_refused hbusy)⟩,
    fun l hl _ _ hsums => ⟨fun hdue => ?ends, fun hearly hmore => ?goesOn⟩,
    fun g slots b row hlen hslots hb hg hs hstop hrows hlearn => ?burst⟩
  case ends =>
    have hdone : learnDone s l = true := by simp [learnDone, hdue]
    refine ⟨_, (exec_tplLearnEnd hck hl).trans (congrArg _ (if_pos hdone)), learnEnd_spec hw.tbl fun x => ?_⟩
    rw [List.getD_eq_getElem?_getD]
    cases hx : l.sums[x]? with
    | none => exact Nat.zero_le _
    | some u => exact hsums u (List.mem_of_getElem? hx)
  case goesOn =>
    refine (exec_tplLearnEnd hck hl).trans (congrArg _ (if_neg ?_))
    simpa [learnDone, hearly] using hmore
  case burst =>
    intro slot z bad hist out
    let taken : State := { s with hc.bursts := [] }
    have hexec : exec (.signatureBurst g slots) s = .next (judgeSlot (8 * g) row slot taken) := by
      rw [exec_signatureBurst hck hlen hslots hb hg hs hstop, judgeBurst_one hb hrows, hg]
    have hgroup : 8 * g.val / 8 = g.val := by omega
    have hhist : historyWith taken (8 * g) row slot = hist := by
      rw [historyWith, slotDiffers, hgroup]
      rfl
    have hout : outBy taken (8 * g) row.1 hist = out := by
      rw [outBy, hgroup]
      rfl
    have hnozzle := nozzleOf_slotJudged taken (8 * g) row slot
    rw [hhist] at hnozzle
    refine ⟨fun hsat => ⟨_, hexec.trans (congrArg _ (judgeSlot_saturated hsat)), tget_bump hw.tbl 0x5B 8, rfl⟩,
      fun hclean => ?_⟩
    have hjudged := judgeSlot_judges (s := taken) (c := 8 * g) (row := row) hclean hlearn
    rw [hhist, hout] at hjudged
    refine ⟨_, hexec.trans (congrArg _ hjudged), ?_⟩
    cases hcase : out with
    | false => exact ⟨rfl, hnozzle, fun _ => rfl, fun h => absurd h Bool.false_ne_true⟩
    | true =>
      obtain ⟨e, hchan, hnoz, heq⟩ := declareOut_eq (8 * g) row.1 (slotJudged taken (8 * g) row slot)
      let prepared : State := { slotJudged taken (8 * g) row slot with hc.prepared := s.hc.prepared ++ [e] }
      have hhc : (declareOut (8 * g) row.1 (slotJudged taken (8 * g) row slot)).hc = prepared.hc :=
        (congrArg State.hc heq).trans (hcErrLees_hc _ _ _)
      simp only [if_true]
      refine ⟨congrArg HeadCare.bursts hhc, ?_, fun h => absurd h.symm Bool.false_ne_true,
        fun _ hfree => ⟨?_, e, ?_, hchan, hnoz⟩⟩
      · rw [nozzleOf, hhc]
        exact hnozzle
      · rw [heq]
        exact (hcErrLees_fault (s := prepared) hr hfree 11 _).newest
      · exact congrArg HeadCare.prepared hhc
end


section
/-! Events of a valve channel within its period (R276-R290): what each does to its channel, and that it leaves the other
channels and the duty limit alone. -/

namespace Sys2Proof.Machine

open Sys2Proof.Claims

variable {s t u : State} {n : Nat} {v w x : Valve}

/-! ### The channel and its words -/

@[simp] theorem valveTo_valveOf (s : State) (n : Nat) : valveTo s n (valveOf s n) = s :=
  congrArg (fun l => { s with vlv := l }) (modifyNth_self {} s.vlv n)

@[simp] theorem valveTo_length (s : State) (n : Nat) (v : Valve) : (valveTo s n v).vlv.length = s.vlv.length :=
  modifyNth_length _ s.vlv n

theorem valveOf_congr (h : t.vlv = s.vlv) : valveOf t = valveOf s := by
  funext m
  rw [valveOf, h, valveOf]

/-- A channel that keeps what a decant left it. -/
theorem kept_valveTo (hn : n < s.vlv.length) (hk : w.kept = (valveOf s n).kept) (m : Nat) :
    (valveOf (valveTo s n w) m).kept = (valveOf s m).kept := by
  by_cases hm : m = n
  · rw [hm, valveOf_valveTo_same hn, hk]
  · rw [valveOf_valveTo_other hm]

/-- It changes no word in force (R290). -/
theorem vlvW_valveTo (hn : n < s.vlv.length) (hk : w.kept = (valveOf s n).kept) (m o : Nat) :
    vlvW (valveTo s n w) m o = vlvW s m o :=
  vlvW_congr (s := s) (t := valveTo s n w) rfl (kept_valveTo hn hk m) o

theorem vlvPaired_valveTo (hn : n < s.vlv.length) (hk : w.kept = (valveOf s n).kept) :
    vlvPaired (valveTo s n w) n = vlvPaired s n :=
  congrArg (bit · 14) (vlvW_valveTo hn hk (n / 2 * 2) 0)

/-- A channel that no decant has left its words runs on the words in force (R290). -/
theorem vlvT_unkept (h : (valveOf s n).kept = none) : vlvT s n = s := by rw [vlvT, h]

theorem vlvDlim_congr (h : vlvW t n 6 = vlvW s n 6) : vlvDlim t n = vlvDlim s n :=
  congrArg (fun k : Nat => (12500 - 256 - 2 * (k % 256 : Nat) : Int)) h

theorem vlvDlim_nonneg (s : State) (n : Nat) : 0 ≤ vlvDlim s n := by unfold vlvDlim vlvDead; omega

/-! ### Errors of the block -/

@[simp] theorem vlvErr_vlv (n c : Nat) (s : State) : (vlvErr n c s).vlv = s.vlv := by
  unfold vlvErr
  split <;> simp [recErrLees]

/-- An error of the block changes no table word while the lees queue has room. -/
theorem vlvErr_tbl (hr : coreRuns s = true) (hf : logsFree s = true) (n c : Nat) : (vlvErr n c s).tbl = s.tbl := by
  unfold vlvErr
  split
  · rw [recErrLees_queued hr hf, raise_tbl]
    exact recErr_tbl s 0x0A c
  · rw [raise_tbl, recErr_tbl]

/-- Error `c` of the block has been recorded for channel `n` with its lees record, and VLV raised (R292). -/
structure ValveLogged (n c : Nat) (s t : State) : Prop where
  newest : newestError t s.tick (word (0x0A00 + c))
  lees : t.nvm.leesQ = s.nvm.leesQ ++ [leesRec s 0x0A c [n]]
  irq : t.host.irqPend.getLsbD 10 = true

theorem recErrLees_logged (hr : coreRuns s = true) (hf : logsFree s = true) (n c : Nat) :
    ValveLogged n c s (raise 10 (recErrLees 0x0A c [n] s)) := by
  rw [recErrLees_queued hr hf]
  exact ⟨newestError_recErr hr 0x0A c, rfl, irqPend_raise_self (by decide) _⟩

theorem vlvErr_logged {c : Nat} (hr : coreRuns s = true) (hf : logsFree s = true) (n : Nat) (hc : c ∈ [2, 4, 5, 6]) :
    ValveLogged n c s (vlvErr n c s) := by
  rw [vlvErr, if_pos (List.contains_iff_mem.mpr hc)]
  exact recErrLees_logged hr hf n c

/-! ### Branches of a profile -/

/-- What an event within a period leaves of its channel: the sample, the words it runs on (R290), STUCK, a movement check
that is over; a channel in switch-off has duty 0 (R284). -/
structure ChannelKept (v w : Valve) : Prop where
  sample : w.sample = v.sample := by rfl
  kept : w.kept = v.kept := by rfl
  stuck : w.stuck = v.stuck := by rfl
  check : v.checkEnd = none → w.checkEnd = none := by exact id
  duty : (v.offing = true → v.d = 0) → w.offing = true → w.d = 0 := by exact id

theorem ChannelKept.refl (v : Valve) : ChannelKept v v := {}

theorem ChannelKept.trans (h : ChannelKept v w) (h' : ChannelKept w x) : ChannelKept v x where
  sample := h'.sample.trans h.sample
  kept := h'.kept.trans h.kept
  stuck := h'.stuck.trans h.stuck
  check hv := h'.check (h.check hv)
  duty hv := h'.duty (h.duty hv)

/-- Nothing but channel `n` has changed, and that as an event within a period changes it. -/
def Branched (n : Nat) (s t : State) : Prop := ∃ w, t = valveTo s n w ∧ ChannelKept (valveOf s n) w

namespace Branched

theorem refl (n : Nat) (s : State) : Branched n s s := ⟨_, (valveTo_valveOf s n).symm, .refl _⟩

theorem set {f : Valve → Valve} (h : ChannelKept (valveOf s n) (f (valveOf s n))) : Branched n s (setValve n f s) :=
  ⟨_, setValve_eq n f s, h⟩

theorem trans (hn : n < s.vlv.length) (h : Branched n s t) (h' : Branched n t u) : Branched n s u := by
  obtain ⟨w, rfl, hw⟩ := h
  obtain ⟨x, rfl, hx⟩ := h'
  rw [valveOf_valveTo_same hn] at hx
  exact ⟨x, valveTo_valveTo s n w x, hw.trans hx⟩

theorem ite {c : Prop} [Decidable c] (h : Branched n s t) (h' : Branched n s u) : Branched n s (if c then t else u) := by
  split <;> assumption

theorem off (n k : Nat) (s : State) : Branched n s (vlvOff n k s) :=
  ite (set { duty := fun _ _ => rfl }) (refl n s)

theorem phase (n i k : Nat) (s : State) : Branched n s (vlvPhase n i k s) := set {}

variable (hn : n < s.vlv.length)
include hn

theorem release (k : Nat) : Branched n s (vlvRelease n k s) :=
  trans hn (set { check := fun _ => rfl }) (ite (off n k _) (phase n _ k _))

theorem fault (k : Nat) : Branched n s (vlvFault n k s) :=
  ite (off n k s) (trans hn (set { check := fun _ => rfl }) (ite (off n k _) (phase n _ k _)))

theorem closing (k : Nat) : Branched n s (vlvClosing n k s) := ite (release hn k) (set {})

omit hn in
theorem next (n k : Nat) (s : State) : Branched n s (vlvNext n k s) := ite (off n k s) (phase n _ k s)

end Branched

/-- Of the channels `n` alone has changed, as an event within a period changes it, and its duty limit stands. -/
structure Acted (n : Nat) (s t : State) : Prop where
  channels : ∃ w, t.vlv = (valveTo s n w).vlv ∧ ChannelKept (valveOf s n) w
  limit : vlvDlim t n = vlvDlim s n

namespace Acted

theorem refl (n : Nat) (s : State) : Acted n s s := ⟨⟨valveOf s n, by rw [valveTo_valveOf], .refl _⟩, rfl⟩

variable (hn : n < s.vlv.length)
include hn

theorem trans (h : Acted n s t) (h' : Acted n t u) : Acted n s u := by
  obtain ⟨⟨w, ht, hw⟩, hlim⟩ := h
  obtain ⟨⟨x, hu, hx⟩, hlim'⟩ := h'
  rw [valveOf_congr ht, valveOf_valveTo_same hn] at hx
  refine ⟨⟨x, ?_, hw.trans hx⟩, hlim'.trans hlim⟩
  rw [hu, ← valveTo_valveTo s n w x]
  exact congrArg (fun l => modifyNth _ l n) ht

theorem of_branched (h : Branched n s t) : Acted n s t := by
  obtain ⟨w, rfl, hw⟩ := h
  exact ⟨⟨w, rfl, hw⟩, vlvDlim_congr (vlvW_valveTo hn hw.kept n 6)⟩

omit hn in
/-- What changes neither the channels nor the word of VDEAD is such an event of every channel. -/
theorem of_words (hv : t.vlv = s.vlv) (hw : tget t 0x70 (8 * n + 6) = tget s 0x70 (8 * n + 6)) : Acted n s t := by
  refine ⟨⟨valveOf s n, by rw [valveTo_valveOf, hv], .refl _⟩, vlvDlim_congr ?_⟩
  unfold vlvW vlvT tnat
  rw [valveOf_congr hv]
  cases (valveOf s n).kept with
  | none => exact congrArg BitVec.toNat hw
  | some k => rfl

omit hn in
theorem err (hr : coreRuns s = true) (hf : logsFree s = true) (n c : Nat) : Acted n s (vlvErr n c s) :=
  of_words (vlvErr_vlv n c s) (by rw [tget_congr (vlvErr_tbl hr hf n c)])

omit hn in
theorem count (hw : tblWf s = true) (n a : Nat) (ha : a < 2 ^ 24) (h : n < 16) : Acted n s (bump 0x72 a s) :=
  of_words rfl (tget_bump_other hw (by unfold tkey; omega))

end Acted

/-! ### TK 256 of a period (R276, R283) -/

section
variable (hw : tblWf s = true) (hr : coreRuns s = true) (hf : logsFree s = true) (hlen : s.vlv.length = 16) (hn : n < 16)
include hw hr hf hlen hn

theorem vlvTimeout_acted : Acted n s (vlvTimeout n s) := by
  have hn' : n < s.vlv.length := hlen ▸ hn
  let s1 := setValve n (fun v => { v with tmo := true }) s
  have hset : Acted n s s1 := .of_branched hn' (.set {})
  have hcount : Acted n s1 (bump 0x72 (8 * n + 6) s1) := .count (s := s1) hw n _ (by omega) hn
  have herr : Acted n _ (vlvErr n 3 (bump 0x72 (8 * n + 6) s1)) := .err (s := bump 0x72 (8 * n + 6) s1) hr hf n 3
  have hn1 : n < (vlvErr n 3 (bump 0x72 (8 * n + 6) s1)).vlv.length := by simpa [s1, setValve_eq] using hn'
  exact ((hset.trans hn' hcount).trans hn' herr).trans hn' (.of_branched hn1 (.fault hn1 s.tk))

omit hw in
theorem shareFault_acted : Acted n s (vlvFault n s.tk (vlvErr n 5
    (setValve n (fun v => { v with share := true, shareRun := 0 }) s))) := by
  have hn' : n < s.vlv.length := hlen ▸ hn
  let s1 := setValve n (fun v => { v with share := true, shareRun := 0 }) s
  have hset : Acted n s s1 := .of_branched hn' (.set {})
  have herr : Acted n s1 (vlvErr n 5 s1) := .err (s := s1) hr hf n 5
  have hn1 : n < (vlvErr n 5 s1).vlv.length := by simpa [s1, setValve_eq] using hn'
  exact (hset.trans hn' herr).trans hn' (.of_branched hn1 (.fault hn1 s.tk))

theorem vlvEvents_acted (p : VlvSample) : Acted n s (vlvEvents n p s) := by
  have hn' : n < s.vlv.length := hlen ▸ hn
  unfold vlvEvents
  extract_lets v kind run s1
  have hs1 : Acted n s s1 := .of_branched hn' (.set {})
  have hlen1 : s1.vlv.length = 16 := by simpa [s1, setValve_eq] using hlen
  have hn1 : n < s1.vlv.length := hlen1 ▸ hn
  have goes {u : State} (h : Branched n s1 u) : Acted n s u := hs1.trans hn' (.of_branched hn1 h)
  split
  · exact hs1.trans hn' (shareFault_acted (s := s1) hr hf hlen1 hn)
  split
  · exact .refl n s
  split
  · exact hs1.trans hn' (vlvTimeout_acted (s := s1) hw hr hf hlen1 hn)
  split
  · exact goes (.closing hn1 s.tk)
  split
  · exact goes (.next n s.tk s1)
  · exact hs1

end

/-- A phase whose END is time gives way once DUR has elapsed, unless a share fault or a CLOSE comes first (R283). -/
theorem vlvEvents_timeEnd {p : VlvSample} (hoff : (valveOf s n).offing = false) (hshare : (valveOf s n).shareRun < 8)
    (hclose : (valveOf s n).closePend = false)
    (hend : phEnd (vlvT s n) (valveOf s n).profile (valveOf s n).phase = 0)
    (hdur : phDur (vlvT s n) (valveOf s n).profile (valveOf s n).phase * 25000 ≤ s.tk - (valveOf s n).phaseFrom) :
    vlvEvents n p s = vlvNext n s.tk (valveTo s n { valveOf s n with curRun := 0 }) := by
  have hmet : vlvMet s n 0 p = true := by simpa [vlvMet, hend] using hdur
  simp [vlvEvents, hend, hoff, hclose, hmet, Nat.not_le.mpr hshare, setValve_eq]

theorem vlvNext_last {k : Nat} (h : phLast (vlvT s n) (valveOf s n).profile (valveOf s n).phase = true ∨
    profPhases (vlvT s n) (valveOf s n).profile ≤ (valveOf s n).phase + 1) : vlvNext n k s = vlvOff n k s :=
  if_pos (by simpa using h)

theorem vlvNext_goes {k : Nat} (hlast : phLast (vlvT s n) (valveOf s n).profile (valveOf s n).phase = false)
    (hmore : (valveOf s n).phase + 1 < profPhases (vlvT s n) (valveOf s n).profile) :
    vlvNext n k s = vlvPhase n ((valveOf s n).phase + 1) k s :=
  if_neg (by simpa [hlast] using hmore)

/-- Channel `v` after it has entered switch-off at TK `k` (R284). -/
def offEntered (k : Nat) (v : Valve) : Valve := { v with
  offing := true, offFrom := k, gates := .off, d := 0, dPartner := 0, acc := 0, r := 0, closePend := false, idleRun := 0 }

theorem vlvOff_enters {k : Nat} (hrun : (valveOf s n).running = true) (hoff : (valveOf s n).offing = false) :
    vlvOff n k s = valveTo s n (offEntered k (valveOf s n)) := by
  simp [vlvOff, hrun, hoff, setValve_eq, offEntered]

theorem vlvOff_still {k : Nat} (hoff : (valveOf s n).offing = true) : vlvOff n k s = s := by simp [vlvOff, hoff]

/-! ### The duty (R277) -/

theorem vlvDuty_off {p : VlvSample} (h : (valveOf s n).offing = true) : vlvDuty n p s = s := if_pos h

/-- The duty of a period stays within DLIM, and the phase goes on. -/
theorem vlvDuty_within (p : VlvSample) (hduty : (valveOf s n).offing = true → (valveOf s n).d = 0) :
    ∃ w, (vlvDuty n p s).vlv = (valveTo s n w).vlv ∧ w.sample = (valveOf s n).sample ∧ (w.d : Int) ≤ vlvDlim s n ∧
      w.phase = (valveOf s n).phase ∧ w.phaseFrom = (valveOf s n).phaseFrom := by
  have hpos := vlvDlim_nonneg s n
  have hclamp (y : Int) : ((clampInt y 0 (vlvDlim s n)).toNat : Int) ≤ vlvDlim s n := by
    have := clampInt_bounds (x := y) hpos
    omega
  cases hoff : (valveOf s n).offing with
  | true =>
    rw [vlvDuty_off hoff]
    exact ⟨valveOf s n, by rw [valveTo_valveOf], rfl, by rw [hduty hoff]; exact hpos, rfl, rfl⟩
  | false =>
    unfold vlvDuty
    extract_lets v r dlim e kp acc d diff s1
    rw [if_neg (by simp [v, hoff])]
    have hd : (d.toNat : Int) ≤ dlim := by
      dsimp only [d]
      split
      · exact hpos
      · exact hclamp _
    have hs1 : (if d = dlim then bump 0x72 (8 * n + 7) s1 else s1).vlv = s1.vlv := by
      rw [apply_ite State.vlv, bump_vlv, ite_self]
    refine ⟨_, hs1.trans (congrArg State.vlv (setValve_eq n _ s)), rfl, ?_, rfl, rfl⟩
    dsimp only
    split
    · exact hclamp _
    · exact hd

/-- Channel `v` at TK 256 of the period of sample `p`, before the events of this TK: the sample is used up, the movement
check judged (R286). -/
def periodJudged (p : VlvSample) (v : Valve) : Valve := { v with
  sample := none, seenInactive := v.seenInactive || (p.known && !p.act)
  checkEnd := if v.seenInactive && p.known && p.act then none else v.checkEnd }

theorem vlvTick_decides {p : VlvSample} (hn : n < s.vlv.length) (hp : (valveOf s n).sample = some p)
    (hpair : vlvPaired s n = false) (htk : s.tk = p.at_ + 256) (hrun : (valveOf s n).running = true) :
    vlvTick n s = vlvDuty n p (vlvEvents n p (valveTo s n (periodJudged p (valveOf s n)))) := by
  have hdone : s.tk ≠ p.at_ + vlvDoneTk s n := by
    rw [vlvDoneTk, hpair, htk]
    simp
  have htick : vlvTick n s = vlvDecide n p (setValve n (fun v => { v with sample := none }) s) := by
    rw [vlvTick, hp]
    exact (if_neg hdone).trans (if_pos htk)
  simp [htick, vlvDecide, vlvMoved, setValve_eq, valveOf_valveTo_same hn, hrun, periodJudged]

/-- What TK 256 of a period does to a channel that runs outside switch-off (R276, R277). -/
theorem vlvTick_period {p : VlvSample} (hw : tblWf s = true) (hr : coreRuns s = true) (hf : logsFree s = true)
    (hlen : s.vlv.length = 16) (hn : n < 16) (hp : (valveOf s n).sample = some p) (hpair : vlvPaired s n = false)
    (htk : s.tk = p.at_ + 256) (hrun : (valveOf s n).running = true) (hoff : (valveOf s n).offing = false) :
    ∃ w, (vlvTick n s).vlv = (valveTo s n w).vlv ∧ w.sample = none ∧ (w.d : Int) ≤ vlvDlim s n := by
  have hn' : n < s.vlv.length := hlen ▸ hn
  let v0 := periodJudged p (valveOf s n)
  let s0 := valveTo s n v0
  have hv0 : valveOf s0 n = v0 := valveOf_valveTo_same hn' v0
  have hlim0 : vlvDlim s0 n = vlvDlim s n := vlvDlim_congr (vlvW_valveTo (w := v0) hn' rfl n 6)
  obtain ⟨⟨w, hevents, hkept⟩, hlim⟩ := vlvEvents_acted (s := s0) hw hr hf ((valveTo_length ..).trans hlen) hn p
  rw [hv0] at hkept
  have hw1 : valveOf (vlvEvents n p s0) n = w := by
    rw [valveOf_congr hevents, valveOf_valveTo_same ((valveTo_length ..).symm ▸ hn')]
  obtain ⟨x, hduty, hsample, hd, -, -⟩ := vlvDuty_within (s := vlvEvents n p s0) (n := n) p
    (by rw [hw1]; exact hkept.duty fun h => absurd h (by simp [v0, periodJudged, hoff]))
  refine ⟨x, ?_, ?_, ?_⟩
  · rw [vlvTick_decides hn' hp hpair htk hrun, hduty, ← valveTo_valveTo s n v0 x, ← valveTo_valveTo s0 n w x]
    exact congrArg (fun l => modifyNth _ l n) hevents
  · rw [hsample, hw1, hkept.sample]
    rfl
  · rwa [hlim, hlim0] at hd

/-- Channel `v` at TK 256 of a period in which its phase ends and counts no samples of END CUR. -/
def phaseOver (p : VlvSample) (v : Valve) : Valve := { periodJudged p v with curRun := 0 }

theorem vlvT_phaseOver {p : VlvSample} (hn : n < s.vlv.length) (hkept : (valveOf s n).kept = none) :
    vlvT (valveTo s n (phaseOver p (valveOf s n))) n = valveTo s n (phaseOver p (valveOf s n)) :=
  vlvT_unkept (by rw [valveOf_valveTo_same hn]; exact hkept)

section
variable {p : VlvSample} (hn : n < s.vlv.length) (hp : (valveOf s n).sample = some p) (hpair : vlvPaired s n = false)
  (htk : s.tk = p.at_ + 256) (hrun : (valveOf s n).running = true) (hoff : (valveOf s n).offing = false)
  (hkept : (valveOf s n).kept = none) (hshare : (valveOf s n).shareRun < 8) (hclose : (valveOf s n).closePend = false)
  (hend : phEnd s (valveOf s n).profile (valveOf s n).phase = 0)
  (hdur : phDur s (valveOf s n).profile (valveOf s n).phase * 25000 ≤ s.tk - (valveOf s n).phaseFrom)
include hn hp hpair htk hrun hoff hkept hshare hclose hend hdur

/-- A phase of END time that has lasted DUR ends at TK 256 (R283). -/
theorem vlvTick_timeEnd : vlvTick n s =
    vlvDuty n p (vlvNext n s.tk (valveTo s n (phaseOver p (valveOf s n)))) := by
  let v0 := periodJudged p (valveOf s n)
  have hv0 : valveOf (valveTo s n v0) n = v0 := valveOf_valveTo_same hn v0
  have hT : vlvT (valveTo s n v0) n = valveTo s n v0 := vlvT_unkept (by rw [hv0]; exact hkept)
  have hevents := vlvEvents_timeEnd (s := valveTo s n v0) (n := n) (p := p) (by rw [hv0]; exact hoff)
    (by rw [hv0]; exact hshare) (by rw [hv0]; exact hclose) (by rw [hT, hv0]; exact hend) (by rw [hT, hv0]; exact hdur)
  rw [hv0, valveTo_valveTo] at hevents
  rw [vlvTick_decides hn hp hpair htk hrun, hevents]
  rfl

theorem vlvTick_last (hlast : phLast s (valveOf s n).profile (valveOf s n).phase = true ∨
    profPhases s (valveOf s n).profile ≤ (valveOf s n).phase + 1) :
    let w := valveOf (vlvTick n s) n
    w.offing = true ∧ w.gates = .off ∧ w.offFrom = s.tk := by
  let v1 := phaseOver p (valveOf s n)
  have hv1 : valveOf (valveTo s n v1) n = v1 := valveOf_valveTo_same hn v1
  have hT : vlvT (valveTo s n v1) n = valveTo s n v1 := vlvT_phaseOver hn hkept
  have hoffed : valveOf (valveTo s n (offEntered s.tk v1)) n = offEntered s.tk v1 := valveOf_valveTo_same hn _
  rw [vlvTick_timeEnd hn hp hpair htk hrun hoff hkept hshare hclose hend hdur,
    vlvNext_last (by rw [hT, hv1]; exact hlast), vlvOff_enters (by rw [hv1]; exact hrun) (by rw [hv1]; exact hoff), hv1,
    valveTo_valveTo, vlvDuty_off (by rw [hoffed]; rfl), hoffed]
  exact ⟨rfl, rfl, rfl⟩

theorem vlvTick_goes (hlast : phLast s (valveOf s n).profile (valveOf s n).phase = false)
    (hmore : (valveOf s n).phase + 1 < profPhases s (valveOf s n).profile) :
    let w := valveOf (vlvTick n s) n
    w.phase = (valveOf s n).phase + 1 ∧ w.phaseFrom = s.tk := by
  let v1 := phaseOver p (valveOf s n)
  have hv1 : valveOf (valveTo s n v1) n = v1 := valveOf_valveTo_same hn v1
  have hT : vlvT (valveTo s n v1) n = valveTo s n v1 := vlvT_phaseOver hn hkept
  obtain ⟨x, hx, hphase, hfrom, hxoff⟩ : ∃ x, vlvPhase n (v1.phase + 1) s.tk (valveTo s n v1) = valveTo s n x ∧
      x.phase = v1.phase + 1 ∧ x.phaseFrom = s.tk ∧ x.offing = false := by
    rw [vlvPhase, setValve_eq, valveTo_valveTo, hv1]
    exact ⟨_, rfl, rfl, rfl, hoff⟩
  have hatx : valveOf (valveTo s n x) n = x := valveOf_valveTo_same hn x
  obtain ⟨w, hduty, -, -, hwphase, hwfrom⟩ := vlvDuty_within (s := valveTo s n x) (n := n) p
    (by rw [hatx]; exact fun h => absurd h (by simp [hxoff]))
  rw [vlvTick_timeEnd hn hp hpair htk hrun hoff hkept hshare hclose hend hdur,
    vlvNext_goes (by rw [hT, hv1]; exact hlast) (by rw [hT, hv1]; exact hmore), hv1, hx, valveOf_congr hduty,
    valveTo_valveTo, valveOf_valveTo_same hn]
  exact ⟨hwphase.trans ((congrArg Valve.phase hatx).trans hphase),
    hwfrom.trans ((congrArg Valve.phaseFrom hatx).trans hfrom)⟩

end

/-! ### The conversion result (R276, R284, R288) -/

/-- Channel `v` after the conversion of sample `p` where it is not one of a pair: current `i`, limit `lim`, calibrated code
`code`. -/
def converted (p : VlvSample) (i : Int) (lim code : Nat) (v : Valve) : Valve := { v with
  i := i
  ocRun := if (lim : Int) ≤ i then v.ocRun + 1 else 0
  shareRun := 0
  idleRun := if v.offing && decide (v.offFrom ≤ p.at_) && decide (code ≤ 4) then v.idleRun + 1 else 0 }

/-- Channel `v` switched off for overcurrent at TK `k` (R288). -/
def overcurFound (k : Nat) (v : Valve) : Valve := { offEntered k v with overcur := true }

section
variable {p : VlvSample} (hn : n < s.vlv.length) (hpair : vlvPaired s n = false)
include hn hpair

omit hn in
theorem vlvTick_converts (hp : (valveOf s n).sample = some p) (htk : s.tk = p.at_ + 100) :
    vlvTick n s = vlvConvert n p s := by
  rw [vlvTick, hp]
  exact if_pos (by rw [vlvDoneTk, hpair]; exact htk)

theorem vlvConvert_alone : ∃ v s1,
    v = converted p (vlvAmps s n p.code) (vlvLimit s n) (vlvCode s n p.code) (valveOf s n) ∧ s1 = valveTo s n v ∧
    vlvConvert n p s = if v.running && v.ocRun == 2 then vlvOvercur n s1
      else if v.offing && decide (2 ≤ v.idleRun) then vlvIdle n s1 else s1 := by
  refine ⟨_, _, rfl, rfl, ?_⟩
  simp only [vlvConvert, hpair, setValve_eq, valveOf_valveTo_same hn, Bool.false_and, Bool.not_false, Bool.true_or,
    Bool.and_true, Bool.false_eq_true, if_false, add_zero]
  rfl

/-- The second sample in a row at the limit (R288). -/
theorem vlvConvert_overcurrent (hrun : (valveOf s n).running = true) (hoff : (valveOf s n).offing = false)
    (hoc : (valveOf s n).ocRun = 1) (hlim : (vlvLimit s n : Int) ≤ vlvAmps s n p.code) :
    ∃ v, vlvConvert n p s = vlvErr n 4 (valveTo s n (overcurFound s.tk v)) := by
  obtain ⟨v, s1, hv, hs1, hconv⟩ := vlvConvert_alone (p := p) hn hpair
  have hrun' : v.running = true := by rw [hv]; exact hrun
  have hoff' : v.offing = false := by rw [hv]; exact hoff
  have hoc' : v.ocRun = 2 := by simp [hv, converted, hlim, hoc]
  have hat : valveOf s1 n = v := by rw [hs1, valveOf_valveTo_same hn]
  refine ⟨v, ?_⟩
  rw [hconv, if_pos (by simp [hrun', hoc']), vlvOvercur, vlvOff_enters (by rw [hat, hrun']) (by rw [hat, hoff']), hat, hs1]
  simp only [setValve_eq, valveTo_valveTo, valveOf_valveTo_same hn]
  rfl

end

/-- How a channel is driven. -/
def drive (v : Valve) : Bool × Bool × GateDrive := (v.running, v.offing, v.gates)

/-- Starting a sensor over touches its channel's sensor alone (R285). -/
theorem vlvResense_only (old : State) (n : Nat) (s : State) : ∃ w, vlvResense old n s = valveTo s n w ∧
    drive w = drive (valveOf s n) := by
  unfold vlvResense
  split
  · split
    · exact ⟨_, (valveTo_valveOf s n).symm, rfl⟩
    · exact ⟨_, setValve_eq n _ s, rfl⟩
  · exact ⟨_, setValve_eq n _ s, rfl⟩

/-- The end of a channel's old words leaves alone how it is driven (R290). -/
theorem vlvUnkeep_only (hn : n < s.vlv.length) : ∃ w, vlvUnkeep n s = valveTo s n w ∧
    drive w = drive (valveOf s n) := by
  unfold vlvUnkeep
  split
  · rw [setValve_eq]
    obtain ⟨w, hw, hdrive⟩ := vlvResense_only s n (valveTo s n { valveOf s n with kept := none })
    rw [valveOf_valveTo_same hn] at hdrive
    exact ⟨w, by rw [hw, valveTo_valveTo], hdrive⟩
  · exact ⟨_, (valveTo_valveOf s n).symm, rfl⟩

/-- Channel `v` with its profile over and its gates low (R284). -/
def idled (v : Valve) : Valve := { v with
  running := false, offing := false, faultBr := false, relBr := false, gates := .off, r := 0, d := 0, dPartner := 0
  acc := 0, checkEnd := none, closePend := false }

/-- A channel that is not one of a pair becomes idle (R284). -/
theorem vlvIdle_alone (hn : n < s.vlv.length) (hpair : vlvPaired s n = false) :
    ∃ w, vlvIdle n s = raise 10 (valveTo s n w) ∧ drive w = (false, false, .off) := by
  have hidle : vlvIdle n s = vlvUnkeep n (raise 10 (valveTo s n (idled (valveOf s n)))) :=
    (if_neg (by simp [hpair])).trans (congrArg (fun x => vlvUnkeep n (raise 10 x)) (setValve_eq n _ s))
  obtain ⟨w, hw, hdrive⟩ := vlvUnkeep_only (s := raise 10 (valveTo s n (idled (valveOf s n)))) (n := n)
    ((valveTo_length ..).symm ▸ hn)
  refine ⟨w, ?_, ?_⟩
  · rw [hidle, hw]
    exact congrArg (raise 10) (valveTo_valveTo s n _ w)
  · exact hdrive.trans (congrArg drive (valveOf_valveTo_same hn (idled (valveOf s n))))

/-- The second low sample in a row taken in switch-off ends it (R284). -/
theorem vlvConvert_low {p : VlvSample} (hn : n < s.vlv.length) (hpair : vlvPaired s n = false)
    (hoff : (valveOf s n).offing = true) (hidle : (valveOf s n).idleRun = 1) (hfrom : (valveOf s n).offFrom ≤ p.at_)
    (hcode : vlvCode s n p.code ≤ 4) (hlim : vlvAmps s n p.code < (vlvLimit s n : Int)) :
    ∃ w, vlvConvert n p s = raise 10 (valveTo s n w) ∧ drive w = (false, false, .off) := by
  obtain ⟨v, s1, hv, hs1, hconv⟩ := vlvConvert_alone (p := p) hn hpair
  have hoc : v.ocRun = 0 := by simp [hv, converted, hlim]
  have hoff' : v.offing = true := by rw [hv]; exact hoff
  have hrun : v.idleRun = 2 := by simp [hv, converted, hoff, hfrom, hcode, hidle]
  have hpair' : vlvPaired s1 n = false := by rw [hs1, vlvPaired_valveTo hn (by rw [hv]; rfl), hpair]
  obtain ⟨w, hw, hdrive⟩ := vlvIdle_alone (s := s1) (by rw [hs1, valveTo_length]; exact hn) hpair'
  refine ⟨w, ?_, hdrive⟩
  rw [hconv, if_neg (by simp [hoc]), if_pos (by simp [hoff', hrun]), hw, hs1, valveTo_valveTo]

/-! ### The movement check that ran out (R286) -/

/-- Channel `v` whose movement check ran out. -/
def stuckFound (v : Valve) : Valve := { v with stuck := true, checkEnd := none }

/-- The state in which a movement check that ran out has been counted and recorded. -/
def stuckNoted (n : Nat) (s : State) : State :=
  vlvErr n 2 (bump 0x72 (8 * n + 5) (valveTo s n (stuckFound (valveOf s n))))

theorem pullWindow_due {k : Nat} (hk : (valveOf s n).checkEnd = some k) (hdue : k ≤ s.tk) :
    pullWindow n s = vlvFault n s.tk (stuckNoted n s) := by
  rw [pullWindow, hk]
  exact (if_pos hdue).trans (by rw [setValve_eq]; rfl)

theorem pullWindow_early {k : Nat} (hk : (valveOf s n).checkEnd = some k) (hearly : s.tk < k) : pullWindow n s = s := by
  rw [pullWindow, hk]
  exact if_neg (Nat.not_le.mpr hearly)

/-- The fault branch of a channel that runs outside the branches and switch-off (R282). -/
theorem vlvFault_enters {k : Nat} (hn : n < s.vlv.length) (hrun : (valveOf s n).running = true)
    (hoff : (valveOf s n).offing = false) (hfault : (valveOf s n).faultBr = false) (hrel : (valveOf s n).relBr = false)
    (hkept : (valveOf s n).kept = none) :
    let f := profFault s (valveOf s n).profile
    let w := valveOf (vlvFault n k s) n
    w.faultBr = true ∧ (f = 0 → w.offing = true ∧ w.gates = .off) ∧ (f ≠ 0 → w.phase = f - 1 ∧ w.phaseFrom = k) := by
  intro f
  let v1 : Valve := { valveOf s n with faultBr := true, checkEnd := none, closePend := false }
  have hbranch : vlvFault n k s = if f = 0 then vlvOff n k (valveTo s n v1) else vlvPhase n (f - 1) k (valveTo s n v1) := by
    have hset := setValve_eq n (fun v => { v with faultBr := true, checkEnd := none, closePend := false }) s
    rw [vlvFault, if_neg (by simp [hfault, hrel, hoff]), vlvT_unkept hkept, hset]
  have hat : valveOf (valveTo s n v1) n = v1 := valveOf_valveTo_same hn v1
  by_cases hf : f = 0
  · rw [hbranch, if_pos hf, vlvOff_enters (by rw [hat]; exact hrun) (by rw [hat]; exact hoff), valveTo_valveTo,
      valveOf_valveTo_same hn, hat]
    exact ⟨rfl, fun _ => ⟨rfl, rfl⟩, fun h => absurd hf h⟩
  · rw [hbranch, if_neg hf, vlvPhase, setValve_eq, valveTo_valveTo, valveOf_valveTo_same hn, hat]
    exact ⟨rfl, fun h => absurd h hf, fun _ => ⟨rfl, rfl⟩⟩

theorem vlvFault_off {k : Nat} (hoff : (valveOf s n).offing = true) : vlvFault n k s = s := by
  rw [vlvFault, if_pos (by simp [hoff]), vlvOff_still hoff]

/-! ### What the state keeps of a movement check that ran out -/

theorem valveOf_stuckNoted (n : Nat) (s : State) :
    valveOf (stuckNoted n s) = valveOf (valveTo s n (stuckFound (valveOf s n))) :=
  valveOf_congr (vlvErr_vlv n 2 _)

theorem valveOf_stuckNoted_same (hn : n < s.vlv.length) : valveOf (stuckNoted n s) n = stuckFound (valveOf s n) :=
  (congrFun (valveOf_stuckNoted n s) n).trans (valveOf_valveTo_same hn _)

theorem stuckNoted_length (n : Nat) (s : State) : (stuckNoted n s).vlv.length = s.vlv.length := by
  rw [stuckNoted, vlvErr_vlv, bump_vlv, valveTo_length]

/-- A channel in switch-off stays there (R284, log entry 163). -/
theorem pullWindow_offing {k : Nat} (hn : n < s.vlv.length) (hk : (valveOf s n).checkEnd = some k) (hdue : k ≤ s.tk)
    (hoff : (valveOf s n).offing = true) :
    let w := valveOf (pullWindow n s) n
    w.offing = true ∧ w.offFrom = (valveOf s n).offFrom := by
  have hat := valveOf_stuckNoted_same hn
  rw [pullWindow_due hk hdue, vlvFault_off (by rw [hat]; exact hoff), hat]
  exact ⟨hoff, rfl⟩

section
variable (hr : coreRuns s = true) (hf : logsFree s = true)
include hr hf

theorem stuckNoted_tbl (n : Nat) : (stuckNoted n s).tbl = (bump 0x72 (8 * n + 5) s).tbl :=
  vlvErr_tbl (s := bump 0x72 (8 * n + 5) (valveTo s n (stuckFound (valveOf s n)))) hr hf n 2

theorem profFault_stuckNoted (hw : tblWf s = true) (n p : Nat) : profFault (stuckNoted n s) p = profFault s p := by
  unfold profFault tnat
  rw [tget_congr (stuckNoted_tbl hr hf n), tget_bump_other hw (by unfold tkey; omega)]

/-- A movement check that ran out is counted and recorded, and marks its channel alone (R286, R292). -/
theorem pullWindow_stuck {k : Nat} (hw : tblWf s = true) (hn : n < s.vlv.length) (hk : (valveOf s n).checkEnd = some k)
    (hdue : k ≤ s.tk) : let t := pullWindow n s
    (∀ m, m ≠ n → valveOf t m = valveOf s m) ∧ ValveLogged n 2 s t ∧ (valveOf t n).stuck = true ∧
      countedOne s t 0x72 (8 * n + 5) ∧ (valveOf t n).checkEnd = none := by
  have hat := valveOf_stuckNoted_same hn
  have hn' : n < (stuckNoted n s).vlv.length := stuckNoted_length n s ▸ hn
  obtain ⟨w, ht, hkept⟩ := Branched.fault hn' s.tk
  rw [hat] at hkept
  have hlog := vlvErr_logged (s := bump 0x72 (8 * n + 5) (valveTo s n (stuckFound (valveOf s n)))) (c := 2) hr hf n
    (by decide)
  rw [pullWindow_due hk hdue, ht]
  intro t
  have hw' : valveOf t n = w := valveOf_valveTo_same hn' w
  refine ⟨fun m hm => ?_, ⟨hlog.newest, hlog.lees, hlog.irq⟩, ?_, ?_, ?_⟩
  · rw [valveOf_valveTo_other hm, valveOf_stuckNoted, valveOf_valveTo_other hm]
  · rw [hw', hkept.stuck]
    rfl
  · have htbl : t.tbl = (bump 0x72 (8 * n + 5) s).tbl := stuckNoted_tbl hr hf n
    rw [countedOne, tget_congr htbl, tget_bump hw]
  · rw [hw']
    exact hkept.check rfl

/-- Its channel leaves the branch it is in for the fault branch (R282). -/
theorem pullWindow_branch {k : Nat} (hw : tblWf s = true) (hn : n < s.vlv.length) (hk : (valveOf s n).checkEnd = some k)
    (hdue : k ≤ s.tk) (hrun : (valveOf s n).running = true) (hkept : (valveOf s n).kept = none)
    (hoff : (valveOf s n).offing = false) (hfault : (valveOf s n).faultBr = false) (hrel : (valveOf s n).relBr = false) :
    let f := profFault s (valveOf s n).profile
    let w := valveOf (pullWindow n s) n
    w.faultBr = true ∧ (f = 0 → w.offing = true ∧ w.gates = .off) ∧ (f ≠ 0 → w.phase = f - 1 ∧ w.phaseFrom = s.tk) := by
  have hat := valveOf_stuckNoted_same hn
  have hbranch := vlvFault_enters (s := stuckNoted n s) (n := n) (k := s.tk) (stuckNoted_length n s ▸ hn)
    (by rw [hat]; exact hrun) (by rw [hat]; exact hoff) (by rw [hat]; exact hfault) (by rw [hat]; exact hrel)
    (by rw [hat]; exact hkept)
  rw [hat, profFault_stuckNoted hr hf hw] at hbranch
  rw [pullWindow_due hk hdue]
  exact hbranch

/-! ### The end of switch-off (R284) -/

/-- A switch-off longer than 50 ms ends with its error (R284, R292). -/
theorem switchoffTimeout_ends (hn : n < s.vlv.length) (hpair : vlvPaired s n = false)
    (hoff : (valveOf s n).offing = true) (hdue : (valveOf s n).offFrom + 12500000 ≤ s.tk) :
    let t := switchoffTimeout n s
    (∀ m, m ≠ n → valveOf t m = valveOf s m) ∧ ValveLogged n 6 s t ∧ drive (valveOf t n) = (false, false, .off) := by
  let x := recErrLees 0x0A 6 [n] s
  have hvlv : x.vlv = s.vlv := by simp [x, recErrLees]
  have htbl : x.tbl = s.tbl := by
    rw [show x = _ from recErrLees_queued hr hf 0x0A 6 [n]]
    exact recErr_tbl s 0x0A 6
  have hpair' : vlvPaired x n = false := by
    rw [← hpair]
    exact congrArg (bit · 14) (vlvW_congr htbl (by rw [valveOf_congr hvlv]) 0)
  have hn' : n < x.vlv.length := hvlv ▸ hn
  obtain ⟨w, hidle, hdrive⟩ := vlvIdle_alone hn' hpair'
  have ht : switchoffTimeout n s = raise 10 (valveTo x n w) := by
    refine (if_pos ?_).trans hidle
    rw [hoff, show msTk 50 = 12500000 by simp [msTk], decide_eq_true hdue, Bool.and_self]
  rw [ht]
  have hlog := recErrLees_logged hr hf n 6
  refine ⟨fun m hm => ?_, ⟨hlog.newest, hlog.lees, hlog.irq⟩, ?_⟩
  · exact (valveOf_valveTo_other hm w).trans (congrFun (valveOf_congr hvlv) m)
  · exact (congrArg drive (valveOf_valveTo_same hn' w)).trans hdrive

end

theorem switchoffTimeout_early (hearly : s.tk < (valveOf s n).offFrom + 12500000) : switchoffTimeout n s = s := by
  have hnot : ¬ (valveOf s n).offFrom + msTk 50 ≤ s.tk := by
    rw [show msTk 50 = 12500000 by simp [msTk]]
    exact Nat.not_le.mpr hearly
  simp [switchoffTimeout, hnot]

end Sys2Proof.Machine
end

section
/-! Position sensors of the valve channels (R285), and the theorem of O55. -/

namespace Sys2Proof.Machine

open Sys2Proof.Claims

variable {s t u : State} {n : Nat} {raw : Nat}

/-- A fold over distinct things in which the step of `n` alone touches the part `π`. -/
theorem foldl_once {σ γ : Type} {f : σ → Nat → σ} {π : σ → γ} {I : σ → Prop}
    (hπ : ∀ x m, m ≠ n → π (f x m) = π x) : ∀ (l : List Nat) (x : σ), (∀ y, ∀ m ∈ l, I y → I (f y m)) →
      l.Nodup → n ∈ l → I x → ∃ y, I y ∧ π y = π x ∧ π (l.foldl f x) = π (f y n)
  | m :: l, x, hI, hl, hn, hx => by
    obtain ⟨hm, hl⟩ := List.nodup_cons.mp hl
    by_cases h : m = n
    · subst h
      refine ⟨x, hx, rfl, ?_⟩
      exact List.foldlRecOn (motive := fun y => π y = π (f x m)) l f rfl fun y hy k hk =>
        (hπ y k fun e => hm (e ▸ hk)).trans hy
    · obtain ⟨y, hy, hyx, hfold⟩ := foldl_once hπ l (f x m) (fun y k hk => hI y k (.tail m hk)) hl
        ((List.mem_cons.mp hn).resolve_left (Ne.symm h)) (hI x m (.head l) hx)
      exact ⟨y, hy, hyx.trans (hπ x m h), hfold⟩

/-! ### One channel's valve-position input -/

/-- Channel `n` after a sample of the valve-position input that it has selected (R285). -/
def ainSensed (s : State) (n raw : Nat) : Valve :=
  let v := valveOf s n
  let hys := 8 * bits (vlvW s n 0) 3 0
  let thr := vlvW s n 5 % 4096
  let code := calibratedCode (senseCal s) raw
  if !periodDue v.posAt 24000 s then v
  else if raw ≤ 15 ∨ 4080 ≤ raw then
    { v with posknown := false, posact := false, posAt := some (periodNow v.posAt 24000 s) }
  else { v with
    posknown := true, posAt := some (periodNow v.posAt 24000 s)
    posact := if thr + hys < code then vlvPospol s n else if code + hys < thr then !vlvPospol s n else v.posact }

theorem vlvAin_eq (n raw : Nat) (s : State) : vlvAin n raw s = valveTo s n (ainSensed s n raw) := by
  unfold vlvAin ainSensed
  dsimp only
  split
  · exact (valveTo_valveOf s n).symm
  · split
    · exact setValve_eq n _ s
    · exact setValve_eq n _ s

theorem ainSensed_kept (s : State) (n raw : Nat) : (ainSensed s n raw).kept = (valveOf s n).kept := by
  unfold ainSensed
  dsimp only
  (repeat' split) <;> rfl

theorem ainSensed_early {k : Nat} (hk : (valveOf s n).posAt = some k) (h : s.tk < k + 24000) :
    ainSensed s n raw = valveOf s n := by
  refine if_pos ?_
  rw [hk, periodDue, decide_eq_false (Nat.not_le.mpr h)]
  rfl

section
variable (hdue : ∀ k, (valveOf s n).posAt = some k → k + 24000 ≤ s.tk)
include hdue

theorem ainSensed_due : periodDue (valveOf s n).posAt 24000 s = true := by
  unfold periodDue
  split
  case h_1 k hk => exact decide_eq_true (hdue k hk)
  case h_2 => rfl

/-- A code outside 16 to 4,079 leaves the sensor not known. -/
theorem ainSensed_fault (hraw : raw ≤ 15 ∨ 4080 ≤ raw) :
    (ainSensed s n raw).posknown = false ∧ (ainSensed s n raw).posact = false := by
  rw [ainSensed, if_neg (by simp [ainSensed_due hdue]), if_pos hraw]
  exact ⟨rfl, rfl⟩

/-- A code within 16 to 4,079 is judged against the threshold with its hysteresis. -/
theorem ainSensed_judged (hlow : 15 < raw) (hhigh : raw < 4080) :
    let thr := vlvW s n 5 % 4096
    let hys := 8 * bits (vlvW s n 0) 3 0
    let code := calibratedCode (senseCal s) raw
    (ainSensed s n raw).posknown = true ∧ (ainSensed s n raw).posact =
      if thr + hys < code then vlvPospol s n else if code + hys < thr then !vlvPospol s n else (valveOf s n).posact := by
  rw [ainSensed, if_neg (by simp [ainSensed_due hdue]), if_neg (by omega)]
  exact ⟨rfl, rfl⟩

end

/-! ### Every channel's -/

/-- Channels have taken samples of a valve-position input: they run on the words they ran on. -/
structure Sensed (s t : State) : Prop where
  only : t = { s with vlv := t.vlv }
  length : t.vlv.length = s.vlv.length
  kept : ∀ m, (valveOf t m).kept = (valveOf s m).kept

theorem Sensed.word (h : Sensed s t) (m o : Nat) : vlvW t m o = vlvW s m o :=
  vlvW_congr (by rw [h.only]) (h.kept m) o

theorem Sensed.ainSensed (h : Sensed s t) (hv : valveOf t n = valveOf s n) : ainSensed t n raw = ainSensed s n raw := by
  have hcal : senseCal t = senseCal s := by rw [h.only]; rfl
  have hdue : periodDue (valveOf s n).posAt 24000 t = periodDue (valveOf s n).posAt 24000 s := by rw [h.only]; rfl
  have hnow : periodNow (valveOf s n).posAt 24000 t = periodNow (valveOf s n).posAt 24000 s := by rw [h.only]; rfl
  simp only [Machine.ainSensed, vlvPospol, h.word, hv, hcal, hdue, hnow]

/-- Channel `n` takes its sample of valve-position input `i` if it has selected that input. -/
def ainTaken (i raw : Nat) (s : State) (n : Nat) : State :=
  if vlvPossrc s n == 2 && bits (vlvW s n 0) 11 9 == i then vlvAin n raw s else s

theorem ainTaken_only (i raw n : Nat) (s : State) : ∃ w, ainTaken i raw s n = valveTo s n w ∧
    w.kept = (valveOf s n).kept := by
  unfold ainTaken
  split
  · exact ⟨_, vlvAin_eq n raw s, ainSensed_kept s n raw⟩
  · exact ⟨_, (valveTo_valveOf s n).symm, rfl⟩

theorem Sensed.taken (h : Sensed s t) (i raw : Nat) (hn : n < s.vlv.length) : Sensed s (ainTaken i raw t n) := by
  obtain ⟨w, hw, hk⟩ := ainTaken_only i raw n t
  rw [hw]
  refine ⟨by rw [h.only]; rfl, (valveTo_length t n w).trans h.length, fun m => ?_⟩
  rw [kept_valveTo (h.length ▸ hn) hk, h.kept]

/-- What a sample of valve-position input `i` does to channel `n`, whatever the other channels take of it. -/
theorem vlvSense_ain (hlen : s.vlv.length = 16) (hn : n < 16) (i : Fin 8) (l : Bool) (raw : Nat) :
    let t := vlvSense (.ain i) l raw s
    t = { s with vlv := t.vlv } ∧ valveOf t n =
      if vlvPossrc s n = 2 ∧ bits (vlvW s n 0) 11 9 = i.val then ainSensed s n raw else valveOf s n := by
  have hround : ∀ x, ∀ m ∈ List.range 16, Sensed s x → Sensed s (ainTaken i raw x m) := fun x m hm hx =>
    hx.taken i raw (hlen ▸ List.mem_range.mp hm)
  have hstart : Sensed s s := ⟨rfl, rfl, fun _ => rfl⟩
  have hother : ∀ x m, m ≠ n → valveOf (ainTaken i raw x m) n = valveOf x n := fun x m hm => by
    obtain ⟨w, hw, -⟩ := ainTaken_only i raw m x
    rw [hw, valveOf_valveTo_other (Ne.symm hm)]
  obtain ⟨u, hu, hun, ht⟩ := foldl_once (π := fun x => valveOf x n) hother (List.range 16) s hround List.nodup_range
    (List.mem_range.mpr hn) hstart
  refine ⟨(List.foldlRecOn (motive := Sensed s) (List.range 16) _ hstart fun x hx m hm => hround x m hm hx).only,
    ht.trans ?_⟩
  have hsrc : vlvPossrc u n = vlvPossrc s n := congrArg (bits · 13 12) (hu.word n 0)
  simp only [ainTaken, hsrc, hu.word, Bool.and_eq_true, beq_iff_eq, apply_ite (valveOf · n), vlvAin_eq,
    hu.ainSensed hun, hun, valveOf_valveTo_same (hu.length.trans hlen ▸ hn : n < u.vlv.length)]

/-- A sample of a position pin (R121, R122, R285). -/
theorem vlvPin_eq (n : Nat) (l : Bool) (s : State) :
    let v := valveOf s n
    let x := smpPut l v.smpPos
    let pol := vlvPospol s n
    let lev := if v.posknown then smpLevel (vlvFilt s n) (some (v.posact == pol)) x else smpFirst (vlvFilt s n) x
    vlvPin n l s = valveTo s n (if vlvPossrc s n = 1 then
      { v with smpPos := x, posknown := lev.isSome, posact := lev == some pol } else { v with smpPos := x }) :=
  setValve_eq n _ s

/-! ### The commands -/

section
variable (hck : clocked s = true)

theorem exec_valvePeriod_early {n : Fin 16} (h : s.tick.toNat % 12500 ≠ 3125 * (n.val % 4)) (c d : BitVec 10) :
    exec (.valvePeriod n c d) s = .next s :=
  congrArg Host.Outcome.next (if_neg (by simp [vlvPeriodDue, h]))

include hck

theorem exec_valvePeriod_due {n : Fin 16} (hpair : vlvPaired s n = false)
    (hdue : s.tick.toNat % 12500 = 3125 * (n.val % 4)) (hsample : (valveOf s n).sample = none) (c d : BitVec 10) :
    exec (.valvePeriod n c d) s = .next (vlvPeriod n c.toNat d.toNat s) :=
  congrArg Host.Outcome.next (if_pos (by simp [hck, vlvPeriodDue, hdue, hsample, vlvMaster, hpair]))

theorem exec_pullWindowExpiry (n : Fin 16) : exec (.pullWindowExpiry n) s = .next (pullWindow n s) :=
  congrArg Host.Outcome.next (if_pos hck)

theorem exec_switchoffTimeout (n : Fin 16) : exec (.switchoffTimeout n) s = .next (switchoffTimeout n s) :=
  congrArg Host.Outcome.next (if_pos hck)

theorem exec_valvePositionSense (src : PosInput) (l : Bool) (c : BitVec 12) :
    exec (.valvePositionSense src l c) s = .next (vlvSense src l c.toNat s) :=
  congrArg Host.Outcome.next (if_pos hck)

end

end Sys2Proof.Machine

open Sys2Proof.Machine Sys2Proof.Claims

/-- Settles O55: the two times of a period by what they do to the one channel, the errors by `ValveLogged`, the
valve-position inputs by the fold over the channels that reaches each of them once. -/
theorem valveSupervision : Obligations.ValveSupervision := by
  intro s n hw hck hpair hf v others logged
  have hr := coreRuns_of_clocked hck
  have hn : n.val < s.vlv.length := by rw [hw.vlv]; exact n.isLt
  have hloggedOf {t : State} {c : Nat} (h : ValveLogged n c s t) : logged t c := ⟨h.newest, h.lees, h.irq⟩
  have hothers {t : State} (h : ∀ m, m ≠ n.val → valveOf t m = valveOf s m) : others t := fun m hm =>
    h m fun e => hm (Fin.ext e)
  refine ⟨fun c d => ⟨fun hearly => exec_valvePeriod_early hearly c d, fun hdue hnone => ?sampled⟩,
    fun p hp htk => ?convert, fun p hp htk hrun hoff => ?period,
    fun k hk => ⟨fun hearly => ?waits, fun hdue hrun => ?stuck⟩,
    fun hoff => ⟨fun hdue => ?ends, fun hearly => ?lasts⟩, fun l c => ?pin, fun i l c => ?ain⟩
  case sampled =>
    rw [exec_valvePeriod_due hck hpair hdue hnone, vlvPeriod, setValve_eq]
  case convert =>
    rw [vlvTick_converts hpair hp htk]
    refine ⟨fun hrun hoff hoc hlim => ?_, fun hoff hidle hfrom hcode hlim => ?_⟩
    · obtain ⟨w, hconv⟩ := vlvConvert_overcurrent hn hpair hrun hoff hoc hlim
      have hlog := vlvErr_logged (s := valveTo s n (overcurFound s.tk w)) (c := 4) hr hf n (by decide)
      have hat := valveOf_congr (vlvErr_vlv n 4 (valveTo s n (overcurFound s.tk w)))
      rw [hconv]
      refine ⟨hothers fun m hm => ?_, ⟨hlog.newest, hlog.lees, hlog.irq⟩, ?_⟩
      · rw [hat, valveOf_valveTo_other hm]
      · rw [hat, valveOf_valveTo_same hn]
        exact ⟨rfl, rfl, rfl, rfl, rfl⟩
    · obtain ⟨w, hconv, hdrive⟩ := vlvConvert_low hn hpair hoff hidle hfrom hcode hlim
      simp only [drive, Prod.mk.injEq] at hdrive
      have hat : valveOf (raise 10 (valveTo s n w)) n = w := valveOf_valveTo_same hn w
      rw [hconv]
      refine ⟨hothers fun m hm => valveOf_valveTo_other hm w, ?_⟩
      rw [hat]
      exact ⟨hdrive.1, hdrive.2.1, hdrive.2.2, rfl, irqPend_raise_self (by decide) _⟩
  case period =>
    obtain ⟨w, hvlv, hsample, hd⟩ := vlvTick_period hw.tbl hr hf hw.vlv n.isLt hp hpair htk hrun hoff
    have hat := congrFun (valveOf_congr hvlv) n
    rw [valveOf_valveTo_same hn] at hat
    refine ⟨hothers fun m hm => ?_, by rw [hat]; exact hsample, by rw [hat]; exact hd,
      fun hkept hshare hclose hend hdur => ⟨?_, ?_⟩⟩
    · rw [valveOf_congr hvlv, valveOf_valveTo_other hm]
    · exact vlvTick_goes hn hp hpair htk hrun hoff hkept hshare hclose hend hdur
    · exact vlvTick_last hn hp hpair htk hrun hoff hkept hshare hclose hend hdur
  case waits => rw [exec_pullWindowExpiry hck, pullWindow_early hk hearly]
  case stuck =>
    obtain ⟨hoth, hlog, hstuck, hcount, hcheck⟩ := pullWindow_stuck hr hf hw.tbl hn hk hdue
    refine ⟨_, exec_pullWindowExpiry hck n, hothers hoth, hloggedOf hlog, hstuck, hcount, hcheck, ?_, ?_⟩
    · exact pullWindow_offing hn hk hdue
    · exact pullWindow_branch hr hf hw.tbl hn hk hdue hrun
  case ends =>
    obtain ⟨hoth, hlog, hdrive⟩ := switchoffTimeout_ends hr hf hn hpair hoff hdue
    simp only [drive, Prod.mk.injEq] at hdrive
    exact ⟨_, exec_switchoffTimeout hck n, hothers hoth, hloggedOf hlog, hdrive⟩
  case lasts => rw [exec_switchoffTimeout hck, switchoffTimeout_early hearly]
  case pin => exact (exec_valvePositionSense hck _ l c).trans (congrArg _ (vlvPin_eq n l s))
  case ain =>
    intro pol thr hys code
    obtain ⟨honly, hat⟩ := vlvSense_ain hw.vlv n.isLt i l c.toNat
    refine ⟨_, exec_valvePositionSense hck _ l c, honly, fun hno => ?_, fun hsrc hin hdue => ?_⟩
    · rw [hat]
      split
      case isTrue hsel =>
        obtain ⟨k, hk, hearly⟩ := (hno.resolve_left (not_not.mpr hsel.1)).resolve_left (not_not.mpr hsel.2)
        exact ainSensed_early hk hearly
      case isFalse => rfl
    · rw [if_pos ⟨hsrc, hin⟩] at hat
      rw [hat]
      refine ⟨ainSensed_fault hdue, fun hlow hhigh => ?_⟩
      obtain ⟨hknown, hact⟩ := ainSensed_judged hdue hlow hhigh
      rw [hact]
      refine ⟨hknown, fun habove => if_pos habove, fun hle hbelow => ?_, fun hle hge => ?_⟩
      · exact (if_neg (Nat.not_lt.mpr hle)).trans (if_pos hbelow)
      · exact (if_neg (Nat.not_lt.mpr hle)).trans (if_neg (Nat.not_lt.mpr hge))
end
